-- ==== Sys2Proof/Word.lean ====
section
/-!
DEFINITION. The word types of the CQ9624: bytes, the 32-bit words of command packets, registers and DSP instructions,
and the 64-bit words of sample time and the wide registers.
-/

namespace Sys2Proof

/-- A byte of host memory, of BAR2 memory or of a DSP memory. -/
abbrev Byte := BitVec 8

/-- A 32-bit word: a register, a packet word, a DSP instruction. -/
abbrev Word := BitVec 32

/-- A 64-bit word: sample time, a host bus address, a wide register. -/
abbrev Dword := BitVec 64

end Sys2Proof
end

