-- ==== Sys2Proof/Config.lean ====
section
/-!
DEFINITION. What is fixed when the part is made (the variant and what it lacks, R1 to R10), and the free values: results
that the spec does not give, each an opaque constant with no body, so that nothing can be proved of its value.
-/

namespace Sys2Proof

/-- The variants of R2, all cut from one die. -/
inductive Variant where
  | cq9624a
  | cq4812a
  | cq9600d
  | cq9624n
  deriving DecidableEq, Repr

namespace Variant

/-- Output channels present (R2, R10). -/
def ochCount : Variant → Nat
  | .cq4812a => 48
  | _ => 96

/-- Receive channels present (R2, R10). -/
def rchCount : Variant → Nat
  | .cq9624a => 24
  | .cq4812a => 12
  | .cq9600d => 0
  | .cq9624n => 24

/-- DSP cores present (R2, R10). -/
def dspCount : Variant → Nat
  | .cq9624a => 32
  | .cq4812a => 16
  | .cq9600d => 8
  | .cq9624n => 32

/-- Ports present, bit p for port p (R5, R10). -/
def blpMask : Variant → Nat
  | .cq4812a => 3
  | _ => 15

/-- DRAM stacks present (R2, R10). -/
def dramStacks : Variant → Nat
  | .cq4812a => 1
  | .cq9624n => 0
  | _ => 2

/-- Capture units: one per receive channel, present with the acquisition engine (R8, R10). -/
def acq : Variant → Bool
  | .cq9600d => false
  | _ => true

/-- DRAM-streamed segments and the spill ring of the journal (R7, R10). -/
def dram : Variant → Bool
  | .cq9624n => false
  | _ => true

/-- Largest DRAM bandwidth reservable for streams, GB/s (R7, R10). -/
def streamBw : Variant → Nat
  | .cq9624a => 640
  | .cq4812a => 320
  | .cq9600d => 640
  | .cq9624n => 0

/-- `GLB.CAP0` to `GLB.CAP3` on silicon revision A0 (R10; DESIGN CHOICE: the part is of that revision). -/
def cap : Variant → Nat → Nat
  | .cq9624a, 0 => 0x2F201860
  | .cq4812a, 0 => 0x13100C30
  | .cq9600d, 0 => 0x2F080060
  | .cq9624n, 0 => 0x0F201860
  | .cq9624a, 1 => 0x0A020310
  | .cq4812a, 1 => 0x05020308
  | .cq9600d, 1 => 0x0A020310
  | .cq9624n, 1 => 0x00020000
  | .cq9624a, 2 => 0x00030001
  | .cq4812a, 2 => 0x00030002
  | .cq9600d, 2 => 0x00000003
  | .cq9624n, 2 => 0x00030004
  | _, 3 => 0xC2184100
  | _, _ => 0

end Variant

namespace Config

/-- Free values (R499): the unit's identity key pair: the coordinates of the public key, and the private key as six words of
the secure bank. -/
opaque identityX : BitVec 384
opaque identityY : BitVec 384
opaque identityKey : Nat → Dword

/-- Free value (R551): the manufacturer's identity in IDCODE. -/
opaque jedecId : BitVec 11

/-- Free value (R355): spare columns in use, fused per unit. -/
opaque repairUsed : Word

/-- Free value: the BANK code that the ECC logs report for DRAM, which the bank table (R330) does not list. -/
opaque dramBank : BitVec 4

/-- What the uncorrectable log shows for a journal packet's words, which are in no bank: BANK in [3:0], ADDR in [63:32], for
one reading (free: R336 reports the error and R355 names no place for them). -/
opaque jrnLog (draw : Nat) : BitVec 64

/-- Free values (R92): the interpolator's coefficients, whose values are not part of the defined behaviour. Tap k of the
half-band stage j (0: 39 taps, 1: 15, 2: 7) stands 2k + 1 output samples from the centre on both sides; stage 3 is the
equaliser, tap 0 on both sides of its centre. They are whole numbers in units of 2^−`interpBits`. The centre taps of the
half-band stages, their taps 0 and the equaliser's centre follow from the DC gain of exactly 1. -/
opaque interpTap : Nat → Nat → Int
opaque interpBits : Nat

/-- Free value (R97): the 18-bit polyphase coefficient h_k for a remainder of 1 to 15 sixteenths. -/
opaque fdelayTap : Nat → Nat → BitVec 18

/-- Free value (R154, R303): how many capture units DRAM serves in a cycle, by draw, within the bounds of R154. -/
opaque dramTakes : Nat → Nat

/-- Free value (R225): the decimator's coefficient h_k, k from 0 to 31; h_(63 − k) is the same. -/
opaque decimTap : Nat → BitVec 18

/-- Free value (R206): a sample after interleave correction with nonzero coefficients, from the sub-converter's
coefficient word, the channel trim and the uncorrected samples of the group. -/
opaque interleave : Word → Word → List (BitVec 12) → Nat → BitVec 12

/-- Free value (R429, R441): MARKER of the TRAIN blocks of a port in a cycle, which the spec does not state. -/
opaque trainMarker : Nat → Nat → Word

/-- Free value (R286): SHL, SHR and SAR by 32 or more, whose result the spec does not state, by FUNC, value and amount. -/
opaque shiftOver : Nat → Word → Word → Word

/-- Free value (R280): the ALU flags that an instruction leaves, which the spec does not state, by OP, FUNC and operands. -/
opaque aluFlags : Nat → Nat → Word → Word → BitVec 4

/-- Free value (R286): the 32 bits that NORM.A keeps of a shifted 40-bit accumulator. -/
opaque normA : BitVec 40 → Word

/-- Free value (R282): bit-reversed stepping with k outside 1 to 16, by pointer, increment and k. -/
opaque bitrevOver : Word → Word → Nat → Word

/-- Free value (R283): a load from a port word for which the spec states no content (the send words, EVTF), by address and
draw. -/
opaque portRead : Nat → Nat → Word

/-- Free value (R341, R401): words of a bank whose contents the spec leaves undefined, by draw and word. -/
opaque bankWord : Nat → Nat → BitVec 512

/-- Free value (R341): in which banks of a group a transparent test has found a fault, by draw; none named stands for all. -/
opaque failedBanks : Nat → Nat

/-- Free values (R501): the length and the bytes of the parts of the certificates that no rule states: part 0, 1 and 2 of the
device certificate stand before its serial number, between that and the public key, and after it; part 3 is the body of the
intermediate certificate. -/
opaque certLength : Nat → BitVec 12
opaque certByte : Nat → Nat → Byte

/-- Free value (R501): whether the hexadecimal serial number is in capital letters. -/
opaque hexCapital : Bool

/-- Free value (R502): an ECDSA P-384 signature, r and s, by private key, digest and draw. -/
opaque ecdsa : List Dword → List Byte → Nat → BitVec 384 × BitVec 384

/-- Free value (R512): a field of a patch image's header, whose places the spec does not give, by the image: 0 ROM_VER,
1 PATCH_VER, 2 SVN, 3 word count, 4 load address. -/
opaque patchField : Nat → List Byte → Nat

/-- Free value (R512): whether MAGIC, whose value the spec does not give, is right in an image's header. -/
opaque patchMagic : List Byte → Bool

/-- Free value (R512): the SHA-384 of the body in an image's header, whose place the spec does not give. -/
opaque patchHash : List Byte → List Byte

/-- Free value (R511): the control words of the ROM, by address. -/
opaque romWord : Nat → BitVec 144

/-- Free value (R467): SIZE of a record, whose payload's layout the spec does not give. -/
opaque recordSize : BitVec 12

/-- Free value (R467): the factory record's trims, by kind, unit and word. -/
opaque factoryTrim : Nat → Nat → Nat → Word

/-- Free values (R467): CAL_COUNT and CAL_LAST_TEMP of a unit in the factory record, by kind and unit. -/
opaque factoryCount : Nat → Nat → Word
opaque factoryTemp : Nat → Nat → BitVec 16

/-- Free value (R511): what the micro-engine does next, whose instruction set the spec does not give, by draw. -/
opaque microNext : Nat → BitVec 16

/-- How far a write of two copies to NVM has come when it is cut short, per draw: 0 not begun, 1 in copy A, 2 copy A whole,
3 in copy B, 4 and above both whole. R488 says what a page in progress does and not which page it is. -/
opaque nvmCut : Nat → BitVec 3

/-- Free value (R461): the sensor fused to a calibration unit, by kind and unit; and, where that sensor and its neighbour are
excluded, which of the others left in the region is the nearest, by the mask of excluded sensors. -/
opaque calSensor : Nat → Nat → Fin 24
opaque calSensorNext : Nat → Nat → Nat → Nat

/-- Free value (R492): whether a mean that is no whole number of 1/16 °C is taken as the next one above, by the sum and
the number of readings; the spec does not say how it is rounded. -/
opaque meanUp : Int → Nat → Bool

/-- Free value (R64): whether half of an odd delay is taken as the next whole number above; the spec does not say. -/
opaque halfUp : Int → Bool

end Config

end Sys2Proof
end

