-- ==== Sys2Proof/Syntax.lean ====
section
/-!
DEFINITION. The commands the block takes: one constructor of `Instr` per row of spec/opcode_table.json, with the row's
operands. A command of the host's queue pairs carries its 64-byte packet as the Command Engine fetched it (R390, R558)
and what the reads of host memory that it asks for return; an access row carries its address, size and value; an event
row names the unit the event happens at and what arrives there from outside (an edge's position, a reading, a message).
-/

namespace Sys2Proof

/-- The public keys that a payload may be signed for (R499, R505): Siltahel root, patch authority, the guard authority in
force, and the key that the payload itself carries. -/
inductive Signer where
  | root
  | patch
  | guard
  | offered
  deriving DecidableEq, Repr

/-- What the micro-engine does that may fault (R511): a call with its return address, a return, or the fetch of a control
word, whose check bits show an uncorrectable error or not. -/
inductive MicroOp where
  | call (back : BitVec 14)
  | ret
  | fetch (uncorrectable : Bool)
  deriving DecidableEq, Repr

/-- A port, and whether the replay entries that the port may have to send again hold an uncorrectable word (R436). -/
structure PortRead where
  port : Fin 4
  bad : Bool
  deriving DecidableEq, Repr

/-- What a lane's receiver has seen (R447): the transitions of the last 64 blocks, and how many idle and how many non-idle
blocks have come in a row. -/
structure BlockRuns where
  transitions : BitVec 13
  idle : BitVec 13
  nonIdle : BitVec 13
  deriving DecidableEq, Repr

/-- A command packet as fetched from slot CMD_HEAD of a queue pair (R390), and what its host reads return.
`words` are the packet's sixteen little-endian words. `buf` is the content of the host buffer the command reads (R395),
none when that buffer cannot be read. `signer` is the key under which the signature in a signed payload verifies, if any: the
verification itself is Scarab's and comes in as its answer. -/
structure HostCmd where
  qp : Fin 4
  words : List Word
  buf : Option (List Byte)
  signer : Option Signer
  deriving DecidableEq, Repr

/-- What the check bits say of the words a command reads (R335, R336): nothing, or an error in one word of a bank, named
by the row of the bank table (R330), the instance of the bank and the word address. -/
inductive Ecc where
  | clean
  | correctable (row inst addr : Nat)
  | uncorrectable (row inst addr : Nat)
  deriving DecidableEq, Repr


/-- How a read of host memory ends for the DMA engine (R374): with data, Unsupported Request, Completer Abort, or poisoned
data. -/
inductive HostReply where
  | data (bytes : List Byte)
  | unsupported
  | aborted
  | poisoned
  deriving DecidableEq, Repr

/-- What a host write unmasks (R367): one MSI-X vector, or the function. -/
inductive MsixTarget where
  | vector (v : Fin 64)
  | function
  deriving DecidableEq, Repr

/-- How a stage of Dawn ends (R483): stage 1, whether the PCI Express link has trained; stage 2, `TIME.STATUS.REF_FREQ` as
measured (3: invalid); stage 3, whether the root PLL has locked; stage 4, the power groups and always-on banks that failed
Weevil; stage 5, whether Scarab's self-test passed, and whether a stored patch image verified; stage 6, whether every DRAM
stack trained; stage 7; stage 8, once every unit has had its slice. -/
inductive DawnEnd where
  | link (up : Bool)
  | clock (freq : BitVec 2)
  | lock (ok : Bool)
  | memories (failed : List (Fin 165))
  | scarab (ok patch : Bool)
  | dram (ok : Bool)
  | sensors
  | calibration
  deriving DecidableEq, Repr

/-- The JTAG instructions (R551). -/
inductive JtagInstr where
  | bypass
  | samplePreload
  | extest
  | idcode
  | highz
  | clamp
  deriving DecidableEq, Repr

/-- What a host write addresses (R361, R365): an offset of BAR0, with the size of the access in bytes; an MSI-X table
entry's message address or data; an offset of BAR4, with the size; or one of the configuration space's fields: a base address
register (0, 2 or 4 of R361, as 0, 1, 2), MSI-X Enable, Function Mask, AER's uncorrectable error status (write 1 to clear), Max Payload Size and Max Read Request Size (the latter two as the log2 of bytes). -/
inductive RegTarget where
  | bar0 (offset : BitVec 24) (wide : Bool)
  | msixAddr (v : Fin 64)
  | msixData (v : Fin 64)
  | msixMask (v : Fin 64)
  | bar4 (offset : BitVec 20) (wide : Bool)
  | barBase (bar : Fin 3)
  | msixEnable
  | functionMask
  | aerStatus
  | maxPayload
  | maxRead
  deriving DecidableEq, Repr

/-- What a host read addresses (R361, R362, R365): an offset of BAR0 or BAR4, and whether it reads 8 bytes or 4. -/
inductive ReadTarget where
  | bar0 (offset : BitVec 24) (wide : Bool)
  | bar4 (offset : BitVec 20) (wide : Bool)
  deriving DecidableEq, Repr

/-- The commands of the block: one constructor per row of spec/opcode_table.json. -/
inductive Instr where
  /-- NOP (R404). Command that changes nothing and returns CE_UCODE_VER in RESULT. -/
  | nop (c : HostCmd)
  /-- ARM (R405). Loads the participation block, binds the start event channel to the shot controller, loads SHOT_NUM minus 1 and moves IDLE to ARMED. -/
  | arm (c : HostCmd)
  /-- DISARM (R397). Returns ARMED to IDLE and discards the armed program and its bindings. -/
  | disarm (c : HostCmd)
  /-- SHOT_SCHEDULE (R29). Schedules a shot start tick at a given ST, which must be a multiple of 32 at least 32 cycles ahead. -/
  | shotSchedule (c : HostCmd)
  /-- RUN_STOP (R398). Stops further starts; the device goes to IDLE at the end of the current shot, or at once when no shot runs. -/
  | runStop (c : HostCmd)
  /-- SHOT_ABORT (R35). Aborts the running or accepted shot, optionally with STOP to return to IDLE. -/
  | shotAbort (c : HostCmd)
  /-- DUSK (R493). Command that starts Dusk. -/
  | dusk (c : HostCmd)
  /-- SAFE_EXIT (R406). Returns SAFE to IDLE unless the cause of the Dusk still holds. -/
  | safeExit (c : HostCmd)
  /-- SYS_RESET (R484). Re-enters Dawn from stage 2 with no reply. -/
  | sysReset (c : HostCmd)
  /-- EVT_ROUTE (R417). Stages the consumer and producers of one event channel. -/
  | evtRoute (c : HostCmd)
  /-- EVT_COMMIT (R418). Checks and applies all staged event routes as one whole. -/
  | evtCommit (c : HostCmd)
  /-- SNAPSHOT (R422). Triggers a snapshot and returns its latch tick T. -/
  | snapshot (c : HostCmd)
  /-- THERM_CONFIG (R486). Lowers the WARN, THROTTLE and STOP thresholds. -/
  | thermConfig (c : HostCmd)
  /-- DSP_CTRL (R297). Resets, starts at ENTRY, or halts a DSP core. -/
  | dspCtrl (c : HostCmd)
  /-- DSP_LOAD (R297). Loads IMEM, DMEM or CLM from a host buffer. -/
  | dspLoad (c : HostCmd)
  /-- DSP_READ (R297). Copies DMEM or CLM to a host buffer. -/
  | dspRead (c : HostCmd)
  /-- DSP_FEED (R295). Sets a core's result-feed channels and watermark. -/
  | dspFeed (c : HostCmd)
  /-- CH_ROLE (R269). Sets a channel role, increments its role epoch, and for FLUX sets BASEBAND and direct mode. -/
  | chRole (c : HostCmd)
  /-- CH_OUTPUT (R169). Enables or disables an output channel and sets its MODE and FS_CODE. -/
  | chOutput (c : HostCmd)
  /-- CH_FDELAY (R98). Sets the user fractional delay of an output channel. -/
  | chFdelay (c : HostCmd)
  /-- SYN_CONFIG (R100). Sets direct mode and its sample format. -/
  | synConfig (c : HostCmd)
  /-- FRAME_WRITE (R83). Queues a masked write of a frame context, optionally at AT_ST. -/
  | frameWrite (c : HostCmd)
  /-- FRAME_VZ_ADD (R83). Queues an add to a frame's virtual-Z accumulator. -/
  | frameVzAdd (c : HostCmd)
  /-- FRAME_READ (R83). Returns the 128-bit frame context that applies to the granule being read. -/
  | frameRead (c : HostCmd)
  /-- TSET_WRITE (R139). Writes one timing set of an output channel. -/
  | tsetWrite (c : HostCmd)
  /-- TSET_READ (R139). Returns the three words of one timing set. -/
  | tsetRead (c : HostCmd)
  /-- MRK_CLAIM (R146). Sets the owner of a marker pin. -/
  | mrkClaim (c : HostCmd)
  /-- MRK_RELEASE (R146). Removes the owner of a marker pin, which goes inactive at once. -/
  | mrkRelease (c : HostCmd)
  /-- BDAC_CONFIG (R175). Sets a bias DAC's range, source, activity and sequencer binding, running a range change if needed. -/
  | bdacConfig (c : HostCmd)
  /-- BDAC_SLEW (R177). Sets a bias DAC's slew STEP and INTERVAL. -/
  | bdacSlew (c : HostCmd)
  /-- BDAC_LIST_WRITE (R178). Fills entries of a bias DAC's code list. -/
  | bdacListWrite (c : HostCmd)
  /-- FB_CONFIG (R272). Sets a channel's sync group, lanes and wait limit. -/
  | fbConfig (c : HostCmd)
  /-- SEQ_CONFIG (R134). Writes SEQ_CFG and the voice start registers. -/
  | seqConfig (c : HostCmd)
  /-- SEQ_WRITE (R131). Validates and writes segment entries from a host buffer, all or nothing. -/
  | seqWrite (c : HostCmd)
  /-- COND_WRITE (R131). Validates and writes condition entries from a host buffer, all or nothing. -/
  | condWrite (c : HostCmd)
  /-- STREAM_DESC_WRITE (R152). Writes one stream descriptor. -/
  | streamDescWrite (c : HostCmd)
  /-- STREAM_OPEN (R153). Opens a stream on a channel, reserves its bandwidth and starts priming. -/
  | streamOpen (c : HostCmd)
  /-- STREAM_CLOSE (R153). Closes a channel's stream and releases its reservation. -/
  | streamClose (c : HostCmd)
  /-- DEC_ASSIGN (R272). Assigns owner or source of decision slots, increments their epochs and clears VALID. -/
  | decAssign (c : HostCmd)
  /-- DEC_CLEAR (R272). Clears VALID over a slot range, counting uncounted decisions superseded. -/
  | decClear (c : HostCmd)
  /-- RX_CONFIG (R202). Sets EN, MODE and OVR_HOLD of a receive channel. -/
  | rxConfig (c : HostCmd)
  /-- TONE_WRITE (R238). Writes tone descriptors and with ASSIGN increments their epochs. -/
  | toneWrite (c : HostCmd)
  /-- KERNEL_WRITE (R238). Writes kernel taps of a receive channel. -/
  | kernelWrite (c : HostCmd)
  /-- TONE_READ (R238). Writes one tone descriptor into a host buffer. -/
  | toneRead (c : HostCmd)
  /-- ACQ_CONFIG (R324). Configures one stopped capture unit. -/
  | acqConfig (c : HostCmd)
  /-- ACQ_START (R324). Starts the named capture units in one cycle, resetting their pointers. -/
  | acqStart (c : HostCmd)
  /-- ACQ_STOP (R324). Stops the named capture units, truncating records or writing STOP marks. -/
  | acqStop (c : HostCmd)
  /-- TIME_STEP (R53). Accepts a single step of ST in ABS, REL or FROM_SYNC mode. -/
  | timeStep (c : HostCmd)
  /-- TIME_UNLOCK (R57). Clears MIDNIGHT_SET so that Midnight can be placed again. -/
  | timeUnlock (c : HostCmd)
  /-- TIME_SLEW (R58). Replaces the slew in progress with a new amount and rate. -/
  | timeSlew (c : HostCmd)
  /-- TIME_SYNC_CFG (R60). Sets network-time role, ports, intervals, servo, slew rate and path asymmetry. -/
  | timeSyncCfg (c : HostCmd)
  /-- TIME_SYNCIN_ARM (R67). Arms or cancels alignment of ST to the next SYNCIN edge. -/
  | timeSyncinArm (c : HostCmd)
  /-- TRIG_CONFIG (R70). Sets EN, EDGE and EVT_EN of a TRIGIN input. -/
  | trigConfig (c : HostCmd)
  /-- LINK_UP (R440). Starts bring-up of a Basord Link port, or rejoin of its lanes. -/
  | linkUp (c : HostCmd)
  /-- LINK_DOWN (R442). Puts a Basord Link port DOWN at once. -/
  | linkDown (c : HostCmd)
  /-- MIRROR_EXPORT (R263). Writes export-map entries from a host buffer. -/
  | mirrorExport (c : HostCmd)
  /-- MIRROR_ROUTE (R272). Sets the port route toward one device. -/
  | mirrorRoute (c : HostCmd)
  /-- CAL_RUN (R466). Marks every unit of the named kinds due and starts a long command. -/
  | calRun (c : HostCmd)
  /-- CAL_SAVE (R469). Starts a two-copy save of the calibration record to NVM. -/
  | calSave (c : HostCmd)
  /-- CAL_CONFIG (R462). Sets CAL_DT, AUTO_MASK, AUTOSAVE and CAL.STALE. -/
  | calConfig (c : HostCmd)
  /-- HK_CONFIG (R472). Sets the HKADC scan list, its length and REF_EN. -/
  | hkConfig (c : HostCmd)
  /-- GUARD_RAISE (R192). Hands a signed payload to Scarab to loosen locked guard limits. -/
  | guardRaise (c : HostCmd)
  /-- ATTEST (R502). Latches report fields and has Scarab sign an attestation report. -/
  | attest (c : HostCmd)
  /-- CERT_READ (R501). Writes the certificate chain into a host buffer. -/
  | certRead (c : HostCmd)
  /-- LIFECYCLE_SET (R506). Verifies a signed payload and starts a lifecycle transition. -/
  | lifecycleSet (c : HostCmd)
  /-- UCODE_PATCH (R512). Verifies a signed microcode patch, stores it, raises the counter and restarts the Command Engine. -/
  | ucodePatch (c : HostCmd)
  /-- MEM_POWER (R333). Starts a power-state transition of one memory group. -/
  | memPower (c : HostCmd)
  /-- MEM_TEST (R341). Starts a Weevil test on a group or an always-on bank. -/
  | memTest (c : HostCmd)
  /-- JRN_CONFIG (R352). Sets the journal host ring, watermark and spill ring. -/
  | jrnConfig (c : HostCmd)
  /-- CAL_RUN_COMPLETE (R466). CAL_RUN completes when its units are done or its time limit passes. -/
  | calRunComplete
  /-- CAL_SAVE_COMPLETE (R469). The NVM save finishes and its completion is sent. -/
  | calSaveComplete
  /-- LIFECYCLE_SET_COMPLETE (R506). Fuses are blown, the nonce advances, the secure bank is wiped and the completion is sent. -/
  | lifecycleSetComplete
  /-- UCODE_PATCH_COMPLETE (R512). The patch is active after restart and the completion is sent. -/
  | ucodePatchComplete
  /-- MEM_TEST_COMPLETE (R341). A Weevil test ends with PASS or FAIL. -/
  | memTestComplete (bank : Fin 165) (fail : Option Word)
  /-- LINK_UP_COMPLETE (R441). The port reaches ACTIVE, or LINK_TIMEOUT expires and it returns to DOWN. -/
  | linkUpComplete (port : Fin 4) (peerOk : BitVec 4)
  /-- GUARD_RAISE_COMPLETE (R192). Scarab finishes verifying and writes the records or refuses. -/
  | guardRaiseComplete
  /-- ATTEST_COMPLETE (R502). The signed report is written to the result buffer. -/
  | attestComplete
  /-- MEM_POWER_DONE (R333). A memory group's power transition completes. -/
  | memPowerDone (group : Fin 158)
  /-- COMPLETION_REPLY_WRITE (R400). A completion reply that waited for reply-ring room is written. -/
  | completionReplyWrite (qp : Fin 4)
  /-- COMMAND_FETCH_FAIL (R388). A command packet read fails and the queue pair stops without reply. -/
  | commandFetchFail (qp : Fin 4)
  /-- WATCHDOG_RESTART (R403). The watchdog expires and restarts the Command Engine. -/
  | watchdogRestart
  /-- UCODE_FAULT_RESTART (R511). A micro-stack fault or uncorrectable control word restarts the Command Engine. -/
  | ucodeFaultRestart
  /-- CE_RESTART_END (R403). The Command Engine comes back after a restart. -/
  | ceRestartEnd
  /-- INTERNAL_ANSWER (R403). During a restart the hardware responder answers a command INTERNAL without executing it. -/
  | internalAnswer (c : HostCmd)
  /-- CMD_TAIL_WRITE (R386). Doorbell write of a queue pair's command tail, checked against its span. -/
  | cmdTailWrite (qp : Fin 4) (value : Word)
  /-- RPL_HEAD_WRITE (R386). Host frees replies by writing RPL_HEAD, checked against its span. -/
  | rplHeadWrite (qp : Fin 4) (value : Word)
  /-- QP_ENABLE (R385). Setting EN checks the ring fields, zeroes pointers and writes held completions first. -/
  | qpEnable (qp : Fin 4)
  /-- QP_DISABLE (R389). Clearing EN stops serving the pair and holds its completions. -/
  | qpDisable (qp : Fin 4)
  /-- FETCH_ERR_CLEAR (R388). Clearing FETCH_ERR re-reads the failed command slot. -/
  | fetchErrClear (qp : Fin 4)
  /-- IRQ_PEND_CLEAR (R367). W1C clear of a vector's cause latch, which sets again if the cause still holds. -/
  | irqPendClear (word : Fin 2) (value : Word)
  /-- TBL_DATA_WRITE (R128). Stages a table word and on the last word writes the whole entry unless it is active. -/
  | tblDataWrite (och : Fin 96) (value : Word)
  /-- TBL_DATA_READ (R128). Reads a stored table word and with AUTOINC advances WORD and INDEX. -/
  | tblDataRead (och : Fin 96)
  /-- JUMP_REQ_WRITE (R114). Posts async jump requests for the voices in VMASK. -/
  | jumpReqWrite (och : Fin 96) (value : Word)
  /-- SHD_WRITE (R125). Host write to a shadow parameter copy. -/
  | shdWrite (och : Fin 96) (reg : Fin 11) (value : Word)
  /-- SHD_COMMIT (R123). Commits named shadow sets with a token, merging with earlier commits. -/
  | shdCommit (och : Fin 96) (value : Word)
  /-- GUARD_LIMIT_WRITE (R191). Host write of a guard limit, ignored whole when it loosens a locked limit. -/
  | guardLimitWrite (limit : Fin 6) (index : Fin 96) (value : Word)
  /-- GUARD_TRIP_RELEASE (R187). W1C request to release a channel's guard trip, re-evaluating RMS and DUTY. -/
  | guardTripRelease (word : Fin 3) (value : Word)
  /-- GUARD_FORCE (R184). W1S write that forces a guard trip of a channel. -/
  | guardForce (word : Fin 3) (value : Word)
  /-- BDAC_TRIP_RELEASE (R189). W1C request to release a bias DAC guard trip. -/
  | bdacTripRelease (word : Fin 2) (value : Word)
  /-- GUARD_LOCK (R191). Writing LOCKED locks the guard limits until the next Dawn. -/
  | guardLock (value : Word)
  /-- BDAC_TARGET_WRITE (R176). Host-mode TARGET write that unparks or redirects the slew, or is ignored. -/
  | bdacTargetWrite (bdac : Fin 48) (value : Word)
  /-- TRIG_TS_X_READ (R69). Reading TS_X returns the oldest stamp's flags and removes it. -/
  | trigTsXRead (trigin : Fin 16)
  /-- EVF_FIRE (R414). Software fires event channels by writing EVF.FIRE. -/
  | evfFire (word : Fin 8) (value : Word)
  /-- EVF_SUPP_RELEASE (R421). Writing 1 to a SUPP bit releases a suppressed channel. -/
  | evfSuppRelease (word : Fin 8) (value : Word)
  /-- EVF_DEBUG_ROUTE_WRITE (R420). With DBG.EN, writes to CH_ROUTE or PROD_MAP take effect at once without checks. -/
  | evfDebugRouteWrite (map : Bool) (value : Dword)
  /-- SNAP_HELD_RELEASE (R423). Writing 1 to HELD releases a held snapshot. -/
  | snapHeldRelease (value : Word)
  /-- TIMER_ENABLE (R411). Setting a timer's EN starts its firing series. -/
  | timerEnable (timer : Fin 8) (value : Word)
  /-- EVF_TIMER_FIRE (R411). An event timer reaches its next tick and fires. -/
  | evfTimerFire (timer : Fin 8)
  /-- MBOX_WRITE (R289). Host mailbox write sets MBOX_IN and pends the HOST line. -/
  | mboxWrite (core : Fin 32) (value : Word)
  /-- ACQ_SWTRIG (R311). Software trigger of the named capture units. -/
  | acqSwtrig (value : Word)
  /-- ACQ_RD_PTR_WRITE (R308). Host frees capture entries by writing RD_PTR, checked against its span. -/
  | acqRdPtrWrite (unit : Fin 24) (value : Word)
  /-- JRN_HOST_RD_WRITE (R348). Host frees journal ring blocks by writing HOST_RD, checked against its span. -/
  | jrnHostRdWrite (value : Word)
  /-- DMA_TAIL_WRITE (R368). Doorbell write of a DMA channel's TAIL. -/
  | dmaTailWrite (chan : Fin 32) (value : Word)
  /-- DMA_RUN_SET (R368). Setting RUN starts a DMA channel on its ring. -/
  | dmaRunSet (chan : Fin 32) (value : Word)
  /-- DMA_RUN_CLEAR (R379). Clearing RUN stops a channel, aborting its descriptor with a prefix. -/
  | dmaRunClear (chan : Fin 32) (value : Word)
  /-- HK_INJ_WRITE (R471). Requests an injected HKADC conversion, or is dropped. -/
  | hkInjWrite (value : Word)
  /-- BITSLIP (R441). Slides a lane's block alignment by one bit. -/
  | bitslip (lane : Fin 16)
  /-- TX_SLEEP_SET (R446). Puts a lane transmitter to sleep after a planned re-map. -/
  | txSleepSet (lane : Fin 16)
  /-- TX_SLEEP_CLEAR (R446). Wakes a lane transmitter, which rejoins by a planned re-map. -/
  | txSleepClear (lane : Fin 16)
  /-- RX_SLEEP_SET (R446). Puts a lane receiver to sleep once the peer's map excludes it. -/
  | rxSleepSet (lane : Fin 16)
  /-- RX_SLEEP_CLEAR (R446). Wakes a lane receiver with held coefficients. -/
  | rxSleepClear (lane : Fin 16)
  /-- LANE_WAKE (R446). A woken lane transmitter or receiver becomes live. -/
  | laneWake (lane : Fin 16) (rx : Bool)
  /-- EYE_SCAN_START (R448). Starts an offset-sampler eye scan on a lane. -/
  | eyeScanStart (lane : Fin 16) (value : Word)
  /-- EYE_SCAN_DONE (R448). An eye scan ends after its dwell with its error count. -/
  | eyeScanDone (lane : Fin 16) (errors : Dword)
  /-- REG64_LOW_READ (R520). A 32-bit low-word read loads the register's high-word latch. The table has no row for other host
reads of registers: those at an 8-byte-aligned offset, of 4 or of 8 bytes, in BAR0 or BAR4, come with this one. -/
  | reg64LowRead (target : ReadTarget)
  /-- REG64_HIGH_READ (R520). A 32-bit high-word read returns and empties the latch, or the current value. Any 4-byte read of
BAR0 at such an offset comes with this row. -/
  | reg64HighRead (offset : BitVec 24)
  /-- REG64_LOW_WRITE (R520). A 32-bit low-word write is held for the next high-word write. -/
  | reg64LowWrite (offset : BitVec 24) (value : Word)
  /-- REG64_HIGH_WRITE (R520). A 32-bit high-word write applies with any held low word. -/
  | reg64HighWrite (offset : BitVec 24) (value : Word)
  /-- BAR0_BAD_ACCESS (R362). An unsupported-size BAR0 access reads zero or is ignored and counted. -/
  | bar0BadAccess (write : Bool)
  /-- BAR2_WRITE (R364). Host write into BAR2 memory, refused for active, absent, unpowered or locked targets. -/
  | bar2Write (addr : BitVec 36) (data : List Byte)
  /-- BAR2_READ (R364). Host read of BAR2 memory, poisoned on an uncorrectable word. -/
  | bar2Read (addr : BitVec 36) (len : Nat) (ecc : Ecc)
  /-- REGISTER_WRITE (R20). Write to a register with no behaviour of its own, by its access code. -/
  | registerWrite (target : RegTarget) (value : Dword)
  /-- START_EVENT (R30). The shot controller samples a start event and accepts or ignores it. -/
  | startEvent
  /-- SCHEDULED_START_DECISION (R30). In the decision cycle 32 cycles before a scheduled tick, the start is made or cleared. -/
  | scheduledStartDecision
  /-- SHOT_START_FETCH (R119). At the render point of the start tick each enabled voice fetches its start entry. -/
  | shotStartFetch
  /-- SHOT_START_TICK (R31). The start tick increments SHOT_NUM, starts the journal packet and fires SHOT_START. -/
  | shotStartTick
  /-- SHOT_END (R28). The shot ends at its last END_SHOT sample or window close, fixing its outcome. -/
  | shotEnd (jrnBad : Bool)
  /-- ABORT_STOP_LIMIT (R121). 10 µs after a host or Dusk abort, a channel still playing stops at the next granule. -/
  | abortStopLimit (och : Fin 96)
  /-- SEGMENT_BOUNDARY (R110). At a sequencer boundary a voice chooses and fetches its successor entry. -/
  | segmentBoundary (och : Fin 96) (voice : Fin 8) (lane : Bool) (ecc : Ecc)
  /-- SPEC_SELECT (R251). At the multiplexer boundary the speculative rendering is selected or the decision is late. -/
  | specSelect (och : Fin 96) (voice : Fin 8) (ecc : Ecc)
  /-- WAIT_RESUME (R258). When the last waiting input is ready the group fetches again and resumes. -/
  | waitResume (key : Fin 128)
  /-- WAIT_TIMEOUT (R261). A waiting condition reaches its WAIT_MAX and is resolved as DEFAULT. -/
  | waitTimeout (och : Fin 96) (voice : Fin 8)
  /-- GRANULE_BOUNDARY (R84). A granule is rendered and passes the multiplexer, guard and stream counting. -/
  | granuleBoundary (och : Fin 96) (ecc : Ecc)
  /-- STREAM_FETCH_ARRIVAL (R155). A DRAM stream block arrives in the channel's buffer. -/
  | streamFetchArrival (och : Fin 96) (blk : Nat) (ecc : Ecc)
  /-- TONE_WINDOW_OPEN (R226). A participating tone's window opens at WIN_START. -/
  | toneWindowOpen (rch : Fin 24) (tone : Fin 16)
  /-- TONE_WINDOW_CLOSE (R226). A tone's window closes at its last sample or at an early crossing. -/
  | toneWindowClose (rch : Fin 24) (tone : Fin 16)
  /-- TONE_DECISION (R234). 20 cycles after E the decision becomes valid and the record goes to the journal. -/
  | toneDecision (rch : Fin 24) (tone : Fin 16) (jrnBad : Bool)
  /-- RX_OVERRANGE (R207). An input beyond full scale clips a group and marks OWN and OVR. -/
  | rxOverrange (rch : Fin 24) (clamp : Bool)
  /-- OVR_HOLD_EXPIRE (R209). The OVR extension after the last OWN or CLAMP group ends. -/
  | ovrHoldExpire (rch : Fin 24)
  /-- RX_SETTLE_DONE (R201). A receive channel leaves SETTLING for LIVE. -/
  | rxSettleDone (rch : Fin 24)
  /-- OUTPUT_ENABLE_DONE (R169). An ENABLING output channel becomes LIVE. -/
  | outputEnableDone (och : Fin 96)
  /-- RANGE_MUTE_DONE (R171). A channel in RANGE_MUTE returns to LIVE after 2 µs. -/
  | rangeMuteDone (och : Fin 96)
  /-- TILE_OVERTEMP (R182). A DAC tile comparator sets or clears TILE_OT. -/
  | tileOvertemp (tile : Fin 24) (hot : Bool)
  /-- BDAC_OVERTEMP (R183). A bias stage over-temperature parks the BDAC and trips the guard. -/
  | bdacOvertemp (bdac : Fin 48) (hot : Bool)
  /-- BDAC_SLEW_STEP (R177). The slew limiter moves the code one step toward TARGET. -/
  | bdacSlewStep (bdac : Fin 48)
  /-- BDAC_HOLD_RELEASE (R179). A held sequencer update is applied 500 ns after the previous one. -/
  | bdacHoldRelease (bdac : Fin 48)
  /-- DEGLITCH_END (R180). After 150 ns the deglitcher moves the output to the new code. -/
  | deglitchEnd (bdac : Fin 48)
  /-- BDAC_PARK_END (R175). The 50 µs park of a range change ends and the BDAC unparks. -/
  | bdacParkEnd (bdac : Fin 48)
  /-- MRK_PULSE_END (R147). A kind 2 marker pulse returns to inactive after WIDTH + 1 cycles. -/
  | mrkPulseEnd (mrk : Fin 48)
  /-- TRIGIN_EDGE (R68). A selected edge at a TRIGIN ball is stamped and fires its event. -/
  | triginEdge (trigin : Fin 16) (rising : Bool) (pos : Fin 512)
  /-- SYNCIN_EDGE (R67). An armed device aligns its dividers and ST to the SYNCIN edge. -/
  | syncinEdge
  /-- SNAPIN_EDGE (R422). A SNAPIN rising edge triggers a snapshot. -/
  | snapinEdge
  /-- SNAPSHOT_LATCH (R422). Every block latches its snapshot copies at T, 8 cycles after the trigger. -/
  | snapshotLatch
  /-- EVF_PARITY_ERROR (R416). A route parity error suppresses the channel and re-bases the invariant. -/
  | evfParityError (chan : Fin 256)
  /-- REFCLK_LOST (R49). Loss of reference puts the PLL in holdover. -/
  | refclkLost
  /-- REFCLK_RETURN (R49). A returned reference is locked again and HOLDOVER clears. -/
  | refclkReturn
  /-- PLL_LOCK_LOST (R50). Loss of PLL lock turns outputs OFF, aborts the shot and enters FAULT. -/
  | pllLockLost
  /-- TIME_STEP_APPLY (R54). The accepted step takes effect at a cycle boundary and sets MIDNIGHT_SET. -/
  | timeStepApply
  /-- SLEW_COMPLETE (R59). The slew remainder reaches zero and SLEWING clears. -/
  | slewComplete
  /-- SYNC_SEND_TIMER (R60). The master sends a SYNC message on its forward ports. -/
  | syncSendTimer
  /-- SYNC_MESSAGE_RX (R63). A SYNC message is accepted for offset and servo or discarded. -/
  | syncMessageRx (port : Fin 4) (stamp : BitVec 68) (replayed : Bool)
  /-- SYNC_TIMEOUT (R66). No SYNC for 4 intervals stops the servo. -/
  | syncTimeout
  /-- DELAY_REQ_TIMER (R64). A port sends DELAY_REQ on its interval. -/
  | delayReqTimer (port : Fin 4)
  /-- DELAY_REQ_RX (R64). A peer answers a DELAY_REQ with DELAY_RESP. -/
  | delayReqRx (port : Fin 4) (stamp : BitVec 68) (replayed : Bool)
  /-- DELAY_RESP_RX (R64). The requester stores the measured path delay. -/
  | delayRespRx (port : Fin 4) (stamp : BitVec 68) (replayed : Bool)
  /-- PDELAY_TIMEOUT (R64). A DELAY_RESP missing for 65,536 cycles is counted lost. -/
  | pdelayTimeout (port : Fin 4)
  /-- DECISION_BLOCK_RX (R267). A received DECISION block is written, forwarded or discarded stale. -/
  | decisionBlockRx (port : Fin 4)
  /-- MIRROR_EVENT (R438). A MIRROR EVENT message fires REVT n. -/
  | mirrorEvent (port : Fin 4)
  /-- MIRROR_ASYNC (R438). A MIRROR ASYNC message posts an async request. -/
  | mirrorAsync (port : Fin 4)
  /-- MIRROR_FRAME (R438). A MIRROR FRAME message queues a frame operation. -/
  | mirrorFrame (port : Fin 4)
  /-- MIRROR_SHADOW (R438). A MIRROR SHADOW message makes a shadow write or commit. -/
  | mirrorShadow (port : Fin 4)
  /-- CHECK_WINDOW (R432). A CHECK block confirms or fails its window of protected blocks. -/
  | checkWindow (port : Fin 4) (lane : Fin 4) (blocks : List (Fin 4 × Dword)) (badLane : Option (Fin 4)) (seq : BitVec 16) (crc : Option Word)
  /-- REPLAY_REQUEST_RX (R436). A confirmed REPLAY REQUEST makes the transmitter send START and retransmit. -/
  | replayRequestRx (port : Fin 4) (bad : Bool)
  /-- REPLAY_START_RX (R432). A confirmed REPLAY START re-aligns the receiver and its map. -/
  | replayStartRx (port : Fin 4)
  /-- REPLAY_TIMEOUT (R436). No ACK advance for 256 cycles replays, and 16 failures take the port DOWN. -/
  | replayTimeout (port : Fin 4) (bad : Bool)
  /-- CREDIT_RX (R434). A CREDIT block returns credits and acknowledges blocks. -/
  | creditRx (port : Fin 4)
  /-- LANE_STATUS_RX (R444). A LANE_STATUS block starts a transmit re-stripe or lets lanes join. -/
  | laneStatusRx (read : PortRead)
  /-- AUDIT_RX (R451). The peer's AUDIT is compared and invariants re-based on mismatch. -/
  | auditRx (port : Fin 4)
  /-- PORT_IDLE (R451). After 64 idle cycles the port sends one AUDIT and checks credits. -/
  | portIdle (port : Fin 4)
  /-- LANE_LOST (R443). 64 invalid headers declare a lane lost and start a re-stripe. -/
  | laneLost (lane : Fin 16)
  /-- LINK_TRAIN_STAGE (R441). A lane passes or fails a bring-up stage. -/
  | linkTrainStage (lane : Fin 16) (stage : Fin 8) (info : BitVec 8) (pass : Bool)
  /-- KEEPALIVE_INSERT (R447). Every 1,024th idle block is replaced by a KEEPALIVE. -/
  | keepaliveInsert (lane : Fin 16)
  /-- ADAPT_FREEZE (R447). Adaptation freezes on low transitions or long idle, and resumes later. -/
  | adaptFreeze (lane : Fin 16) (runs : BlockRuns)
  /-- ADD (R286). DSP ALU add. -/
  | dspAdd (core : Fin 32) (ecc : Ecc)
  /-- SUB (R286). DSP ALU subtract. -/
  | dspSub (core : Fin 32) (ecc : Ecc)
  /-- AND (R286). DSP ALU and. -/
  | dspAnd (core : Fin 32) (ecc : Ecc)
  /-- OR (R286). DSP ALU or. -/
  | dspOr (core : Fin 32) (ecc : Ecc)
  /-- XOR (R286). DSP ALU exclusive or. -/
  | dspXor (core : Fin 32) (ecc : Ecc)
  /-- SHL (R286). DSP shift left. -/
  | dspShl (core : Fin 32) (ecc : Ecc)
  /-- SHR (R286). DSP logical shift right. -/
  | dspShr (core : Fin 32) (ecc : Ecc)
  /-- SAR (R286). DSP arithmetic shift right. -/
  | dspSar (core : Fin 32) (ecc : Ecc)
  /-- MUL (R286). DSP multiply, low 32 bits. -/
  | dspMul (core : Fin 32) (ecc : Ecc)
  /-- ADDI (R286). DSP add of a sign-extended immediate. -/
  | dspAddi (core : Fin 32) (ecc : Ecc)
  /-- MOVI (R286). DSP load of a sign-extended immediate. -/
  | dspMovi (core : Fin 32) (ecc : Ecc)
  /-- MOVHI (R286). DSP load of the high 18 bits. -/
  | dspMovhi (core : Fin 32) (ecc : Ecc)
  /-- CADDS (R286). DSP complex add with shift and saturation. -/
  | dspCadds (core : Fin 32) (ecc : Ecc)
  /-- CSUBS (R286). DSP complex subtract with shift and saturation. -/
  | dspCsubs (core : Fin 32) (ecc : Ecc)
  /-- CROTQ (R286). DSP complex rotation by a power of j. -/
  | dspCrotq (core : Fin 32) (ecc : Ecc)
  /-- NORM (R286). DSP normalise a general register. -/
  | dspNorm (core : Fin 32) (ecc : Ecc)
  /-- EXP (R286). DSP redundant sign bits of a general register. -/
  | dspExp (core : Fin 32) (ecc : Ecc)
  /-- NORM_A (R286). DSP normalise an accumulator. -/
  | dspNormA (core : Fin 32) (ecc : Ecc)
  /-- EXP_A (R286). DSP redundant sign bits of an accumulator. -/
  | dspExpA (core : Fin 32) (ecc : Ecc)
  /-- BEXP_L (R286). DSP load and block-exponent minimum. -/
  | dspBexpL (core : Fin 32) (ecc : Ecc)
  /-- CMUL (R286). DSP complex multiply into an accumulator pair. -/
  | dspCmul (core : Fin 32) (ecc : Ecc)
  /-- CMAC (R286). DSP complex multiply-accumulate. -/
  | dspCmac (core : Fin 32) (ecc : Ecc)
  /-- CMUL2 (R286). DSP dual complex multiply. -/
  | dspCmul2 (core : Fin 32) (ecc : Ecc)
  /-- CMAC2 (R286). DSP dual complex multiply-accumulate. -/
  | dspCmac2 (core : Fin 32) (ecc : Ecc)
  /-- CRND (R286). DSP round and saturate an accumulator pair into a register. -/
  | dspCrnd (core : Fin 32) (ecc : Ecc)
  /-- MVA (R286). DSP move accumulator low bits. -/
  | dspMva (core : Fin 32) (ecc : Ecc)
  /-- MVAH (R286). DSP move accumulator high bits. -/
  | dspMvah (core : Fin 32) (ecc : Ecc)
  /-- LD_B (R284). DSP byte load. -/
  | dspLdB (core : Fin 32) (ecc : Ecc)
  /-- LD_H (R284). DSP half-word load. -/
  | dspLdH (core : Fin 32) (ecc : Ecc)
  /-- LD_W (R284). DSP word load, including port reads. -/
  | dspLdW (core : Fin 32) (ecc : Ecc)
  /-- LD_D (R284). DSP double-word load, including RFEED and TIMEP reads. -/
  | dspLdD (core : Fin 32) (second : Bool) (ecc : Ecc)
  /-- ST_B (R284). DSP byte store. -/
  | dspStB (core : Fin 32) (ecc : Ecc)
  /-- ST_H (R284). DSP half-word store. -/
  | dspStH (core : Fin 32) (ecc : Ecc)
  /-- ST_W (R284). DSP word store, including FRMW, SEQP and EVTF port stores. -/
  | dspStW (core : Fin 32) (ecc : Ecc)
  /-- ST_D (R284). DSP double-word store, including DECW and JRNW. -/
  | dspStD (core : Fin 32) (ecc : Ecc)
  /-- B (R286). DSP unconditional branch. -/
  | dspB (core : Fin 32) (ecc : Ecc)
  /-- BEQZ (R286). DSP branch if zero. -/
  | dspBeqz (core : Fin 32) (ecc : Ecc)
  /-- BNEZ (R286). DSP branch if nonzero. -/
  | dspBnez (core : Fin 32) (ecc : Ecc)
  /-- BLTZ (R286). DSP branch if negative. -/
  | dspBltz (core : Fin 32) (ecc : Ecc)
  /-- BGEZ (R286). DSP branch if not negative. -/
  | dspBgez (core : Fin 32) (ecc : Ecc)
  /-- DBNZ (R286). DSP decrement and branch if nonzero. -/
  | dspDbnz (core : Fin 32) (ecc : Ecc)
  /-- REPEAT (R288). DSP runs the next instruction IMM18 + 1 times uninterruptibly. -/
  | dspRepeat (core : Fin 32) (ecc : Ecc)
  /-- MVC (R287). DSP read of a control register. -/
  | dspMvc (core : Fin 32) (ecc : Ecc)
  /-- MVCT (R287). DSP write of a control register. -/
  | dspMvct (core : Fin 32) (ecc : Ecc)
  /-- RETI (R290). DSP return from handler to bank 0. -/
  | dspReti (core : Fin 32) (ecc : Ecc)
  /-- HALT (R298). DSP instruction that halts the core. -/
  | dspHalt (core : Fin 32) (ecc : Ecc)
  /-- WAITI (R286). DSP sleeps until an unmasked line is pending. -/
  | dspWaiti (core : Fin 32) (ecc : Ecc)
  /-- IEN (R286). DSP enables interrupts. -/
  | dspIen (core : Fin 32) (ecc : Ecc)
  /-- IDIS (R286). DSP disables interrupts. -/
  | dspIdis (core : Fin 32) (ecc : Ecc)
  /-- DSP_INTERRUPT_ENTRY (R290). A pending enabled line switches to bank 1 and issues its handler. -/
  | dspInterruptEntry (core : Fin 32) (second : Bool)
  /-- DSP_TIMER_MATCH (R289). ST reaches TCMP and sets the TIMER line. -/
  | dspTimerMatch (core : Fin 32)
  /-- ACQ_RECORD_COMMIT (R317). A window record becomes visible whole and the unit re-arms. -/
  | acqRecordCommit (unit : Fin 24)
  /-- ACQ_OVERFLOW (R321). A data entry cannot be written; an OVERFLOW mark is written and the unit stops. -/
  | acqOverflow (unit : Fin 24) (bandwidth : Bool)
  /-- ACQ_STREAM_LENGTH_DONE (R319). A stream reaches POST cycles, writes STOP and stops. -/
  | acqStreamLengthDone (unit : Fin 24)
  /-- JRN_SPILL_WRITE (R347). A committed packet moves from the head buffer to the spill ring. -/
  | jrnSpillWrite (bad : Bool)
  /-- JRN_TAIL_REFILL (R347). A packet moves into the tail buffer as a slot frees. -/
  | jrnTailRefill (bad : Bool)
  /-- JRN_DRAIN (R348). The oldest tail packet is written to the host ring with its write-pointer word. -/
  | jrnDrain (bad : Bool)
  /-- JRN_FLUSH_TIMEOUT (R353). FLUSH_MAX expires during Dusk and Dusk continues. -/
  | jrnFlushTimeout
  /-- DMA_DESCRIPTOR_START (R368). A channel starts the descriptor at HEAD. -/
  | dmaDescriptorStart (chan : Fin 32) (words : List Word)
  /-- DMA_REQUEST_ISSUE (R373). A data request is issued when its bucket holds the credit. -/
  | dmaRequestIssue (chan : Fin 32) (ecc : Ecc)
  /-- DMA_COMPLETION_RX (R375). A host completion arrives and is written in order or fails the channel. -/
  | dmaCompletionRx (chan : Fin 32) (off : Nat) (reply : HostReply) (ecc : Ecc)
  /-- DMA_RETIRE (R372). A descriptor retires with status write-back, HEAD advance and interrupt. -/
  | dmaRetire (chan : Fin 32)
  /-- DMA_PREFETCH_FAIL (R377). A descriptor fetch fails and halts the group. -/
  | dmaPrefetchFail (group : Fin 4) (kind : Fin 32)
  /-- PCIE_LINK_DOWN (R360). Link down or hot reset resets the function and stops every DMA channel. -/
  | pcieLinkDown
  /-- PCIE_D3HOT (R359). Entry to D3hot stops every DMA channel. -/
  | pcieD3hot
  /-- SCRUB_LINE (R337). The scrubber reads one line and corrects it. -/
  | scrubLine (ecc : Ecc)
  /-- VAUX_POWER_UP (R480). VAUX in range starts rail sequencing. -/
  | vauxPowerUp
  /-- RAIL_SEQUENCE_TIMEOUT (R480). A PGOOD that does not rise in 20 ms shuts the rails down. -/
  | railSequenceTimeout
  /-- PERST_ASSERT (R484). PERST# is asserted. -/
  | perstAssert
  /-- PERST_RELEASE (R481). PERST# release with rails good begins Dawn. -/
  | perstRelease
  /-- DAWN_STAGE_END (R483). A Dawn stage ends, starting the next, entering IDLE, or failing to FAULT. -/
  | dawnStageEnd (what : DawnEnd)
  /-- PGOOD_LOSS (R482). A PGOOD bad for over 10 µs acts as a TRIP. -/
  | pgoodLoss (group : Fin 4)
  /-- TRIP (R487). A sensor comparator at 115 °C turns outputs OFF, aborts and powers rails down. -/
  | trip (sensor : Fin 24) (temp : BitVec 16)
  /-- COOL_DOWN_END (R487). The 10 s cool-down ends and rails may be sequenced again. -/
  | coolDownEnd
  /-- CORE_RAILS_REMOVED (R397). Core rails fall and the device is OFF. -/
  | coreRailsRemoved
  /-- THERM_READING (R485). Sensors are read every 100 µs and levels are updated. -/
  | thermReading (temps : List (BitVec 16))
  /-- THROTTLE_EVALUATE (R489). Every 10 ms the throttle level moves one step or holds. -/
  | throttleEvaluate
  /-- DUSK_MAX_EXPIRE (R493). A shot still running when DUSK_MAX expires is aborted with CAUSE 3. -/
  | duskMaxExpire
  /-- DUSK_STEP_END (R493). A Dusk step completes and the next begins, ending in SAFE. -/
  | duskStepEnd
  /-- CAL_SLICE_START (R463). A due unit starts its slice when its gap condition holds. -/
  | calSliceStart (kind : Fin 6) (index : Fin 96)
  /-- CAL_SLICE_END (R459). A slice ends and its trims are applied, or fails. -/
  | calSliceEnd (kind : Fin 6) (index : Fin 96) (trims : List Word)
  /-- CAL_OVERDUE (R462). A unit due for CAL.STALE becomes overdue. -/
  | calOverdue (kind : Fin 6) (index : Fin 96)
  /-- CAL_AUTOSAVE (R469). 24 h after the last save with a changed trim, an automatic save starts. -/
  | calAutosave
  /-- HK_CONVERSION_END (R471). An HKADC slot conversion ends and its result is stored. -/
  | hkConversionEnd (code : BitVec 16)
  /-- TAMPER_EVENT (R509). A tamper cause sets TAMPER and wipes the secure bank. -/
  | tamperEvent (cause : Fin 4)
  /-- WIPE_DONE (R507). The secure-bank wipe completes. -/
  | wipeDone
  /-- RX_GROUP (R204). Each cycle a receive channel's ADC delivers one 16-sample group to its taps, where tones mix, decimate and integrate it, capture units store entries and receive-frame operations apply. -/
  | rxGroup (rch : Fin 24) (samples : List (BitVec 12)) (ecc : Ecc)
  /-- DMA_COMPLETION_TIMEOUT (R374). A DMA host read request sees no completion within the completion timeout and fails its descriptor with kind HOST_TIMEOUT. -/
  | dmaCompletionTimeout (chan : Fin 32) (off : Nat)
  /-- MSIX_UNMASK (R367). Unmasking a vector or the function sends the pending MSI-X message of a latched cause. -/
  | msixUnmask (target : MsixTarget)
  /-- VAUX_LOSS (R488). VAUX falls out of range, the supervisor drives PWREN low, and VAUX-domain state and any NVM page being programmed are lost. -/
  | vauxLoss
  /-- PGOOD_RISE (R480). A PGOOD input becomes good and, after its 1 ms hold, the supervisor enables the next rail group or lets the device leave OFF for DAWN. -/
  | pgoodRise (group : Fin 4)
  /-- PGOOD_GLITCH (R495). A PGOOD input that went bad returns good within 10 µs, and THERM.PGOOD_GLITCH increments with no other action. -/
  | pgoodGlitch (group : Fin 4)
  /-- JTAG_INSTRUCTION_UPDATE (R556). A JTAG instruction such as EXTEST, CLAMP or HIGHZ is loaded, so MRK balls take chain values and TRIGIN and SNAPIN edges are neither stamped nor fired. -/
  | jtagInstructionUpdate (instr : JtagInstr) (chain : BitVec 48)
  /-- PCIE_LINK_RETURN (R360). The PCI Express link trains again after link down or hot reset, and journal draining and host access resume. -/
  | pcieLinkReturn (rate : Nat) (width : Nat)
  /-- PCIE_D0_RETURN (R359). The function returns from D3hot to D0 with all configuration kept. -/
  | pcieD0Return
  deriving DecidableEq, Repr

end Sys2Proof
end

