-- ==== Sys2Proof/Decode.lean ====
section
/-!
DEFINITION. The command that a word spells. spec/opcode_table.json gives no row of the CQ9624 any bits: a command is a host
packet, a register access or an event with its operands, not an instruction word. So no word spells a command.
-/

namespace Sys2Proof

/-- The command that the low `nbits` bits `w` spell by the table's bits: none, since no row gives bits. -/
def decodeTableWord (nbits w : Nat) : Option Instr :=
  match nbits, w with
  | _, _ => none

end Sys2Proof
end

