-- ==== Sys2Proof/Machine/Bits.lean ====
section
/-!
DEFINITION. Helpers on numbers that the spec treats as bits: slicing a field out of a number and putting one back,
two's complement reading, byte order (little-endian throughout: R390, R284), saturating and wrapping counters (R22, R23),
and rounding as the arithmetic rules state it.
-/

namespace Sys2Proof.Machine

/-- Bits [lo + w − 1 : lo] of n. -/
def slice (n lo w : Nat) : Nat := (n >>> lo) % 2 ^ w

/-- n with bits [lo + w − 1 : lo] replaced by v. -/
def place (n lo w v : Nat) : Nat := n - (slice n lo w) <<< lo + (v % 2 ^ w) <<< lo

/-- Bit b of n. -/
def bit (n b : Nat) : Bool := (n >>> b) % 2 == 1

/-- n with bit b set or cleared. -/
def setBit (n b : Nat) (v : Bool) : Nat := place n b 1 (if v then 1 else 0)

/-- 1 for true, 0 for false. -/
def ofBool (b : Bool) : Nat := if b then 1 else 0

/-- The two's complement value of the low w bits of n. -/
def sgn (w n : Nat) : Int :=
  let m := n % 2 ^ w
  if 2 * m < 2 ^ w then (m : Int) else (m : Int) - (2 ^ w : Nat)

/-- The low w bits of an integer, two's complement. -/
def unsgn (w : Nat) (i : Int) : Nat := (i % ((2 ^ w : Nat) : Int)).toNat

/-- i clipped to [lo, hi]. -/
def clip (lo hi i : Int) : Int := if i < lo then lo else if hi < i then hi else i

/-- Saturation to the range of a w-bit two's complement number. -/
def satS (w : Nat) (i : Int) : Int := clip (-(2 ^ (w - 1) : Nat)) ((2 ^ (w - 1) : Nat) - 1) i

/-- Round half to even of a / 2^s. -/
def roundEven (a : Int) (s : Nat) : Int :=
  let d : Int := (2 ^ s : Nat)
  let q := a / d
  let r := a % d
  if 2 * r < d then q else if d < 2 * r then q + 1 else if q % 2 = 0 then q else q + 1

/-- Round to nearest of a / 2^s, ties upward. -/
def roundUp (a : Int) (s : Nat) : Int :=
  if s = 0 then a else (a + ((2 ^ (s - 1) : Nat) : Int)) / ((2 ^ s : Nat) : Int)

/-- A 32-bit counter that saturates at 0xFFFF_FFFF (R23). -/
def satAdd32 (a b : Nat) : Nat := min (a + b) 0xFFFFFFFF

/-- A 48-bit counter that wraps (R22). -/
def wrap48 (a : Nat) : Nat := a % 2 ^ 48

/-- One less, modulo 2^48. -/
def prev48 (a : Nat) : Nat := wrap48 (a + (2 ^ 48 - 1))

/-- The little-endian number that a list of bytes spells. -/
def leNat : List Byte → Nat
  | [] => 0
  | b :: bs => b.toNat + 256 * leNat bs

/-- The n low bytes of v, least significant first. -/
def leBytes : Nat → Nat → List Byte
  | 0, _ => []
  | n + 1, v => BitVec.ofNat 8 v :: leBytes n (v / 256)

/-- The little-endian number in bytes [k, k + n) of a buffer; a byte the buffer lacks reads 0. -/
def bufNat (b : List Byte) (k n : Nat) : Nat := leNat ((b.drop k).take n)

/-- The numbers k below n whose bit is set in m, rising. -/
def setBits (m n : Nat) : List Nat := (List.range n).filter (bit m)

/-- The first element of a list that satisfies p, with its index. -/
def firstIdx {α : Type} (p : α → Bool) : List α → Nat → Option Nat
  | [], _ => none
  | a :: as, i => if p a then some i else firstIdx p as (i + 1)

/-- f applied to each of a list in turn. -/
def forEach {α σ : Type} (l : List α) (f : α → σ → σ) (s : σ) : σ := l.foldl (fun t a => f a t) s

/-- s changed by f where the condition holds. -/
def when {σ : Type} (c : Bool) (f : σ → σ) (s : σ) : σ := if c then f s else s

end Sys2Proof.Machine
end

