-- ==== Sys2Proof/Machine/Sha.lean ====
section
/-!
DEFINITION. SHA-384, which Scarab uses for digests (spec/19, R500 to R503). PRESUMED (log entry 13): the spec gives the
function's name only, and the algorithm is that of FIPS 180-4. Its constants are computed from the primes they stand for.
-/

namespace Sys2Proof.Machine

namespace Sha

/-! ## Constants -/

/-- The primes up to 409: the first eighty. -/
def primes : List Nat := (List.range 410).filter fun n => decide (1 < n) && (List.range 21).all fun d => d < 2 || n ≤ d || n % d != 0

/-- The greatest x below 2 to the n, above `from_`, whose r-th power is at most m: its bits from the top one down. -/
def rootFrom (r m : Nat) : Nat → Nat → Nat
  | 0, x => x
  | n + 1, x => rootFrom r m n (if (x + 2 ^ n) ^ r ≤ m then x + 2 ^ n else x)

/-- The first 64 bits of the fractional part of the r-th root of p. -/
def fraction (r p : Nat) : Nat := rootFrom r (p * 2 ^ (64 * r)) 70 0 % 2 ^ 64

/-- Round constants: cube roots of the eighty primes. -/
def roundConsts : List Nat := primes.map (fraction 3)

/-- The initial hash: square roots of the ninth to the sixteenth prime. -/
def start : List Nat := ((primes.drop 8).take 8).map (fraction 2)

/-! ## Words as numbers modulo 2^64 -/

def turn (x n : Nat) : Nat := x / 2 ^ n + x % 2 ^ n * 2 ^ (64 - n)

/-- Exclusive or of x turned right by each of a list of amounts, and of x shifted right by s where s is not 0. -/
def spread (l : List Nat) (s x : Nat) : Nat := l.foldl (fun a n => a ^^^ turn x n) (if s = 0 then 0 else x / 2 ^ s)

/-- A sum of words. -/
def sum (l : List Nat) : Nat := l.foldl (· + ·) 0 % 2 ^ 64

/-- The words of a block's schedule, newest first, n of them added to those there. -/
def extend : Nat → List Nat → List Nat
  | 0, w => w
  | n + 1, w =>
    extend n (sum [spread [19, 61] 6 (w.getD 1 0), w.getD 6 0, spread [1, 8] 7 (w.getD 14 0), w.getD 15 0] :: w)

/-- One round: x holds the eight working words, k the round constant plus the schedule word. -/
def round (x : List Nat) (k : Nat) : List Nat :=
  let at_ := fun i => x.getD i 0
  let choose := (at_ 4 &&& at_ 5) ^^^ ((2 ^ 64 - 1 - at_ 4) &&& at_ 6)
  let most := (at_ 0 &&& at_ 1) ||| (at_ 2 &&& (at_ 0 ||| at_ 1))
  let t := sum [at_ 7, spread [14, 18, 41] 0 (at_ 4), choose, k]
  [sum [t, spread [28, 34, 39] 0 (at_ 0), most], at_ 0, at_ 1, at_ 2, sum [at_ 3, t], at_ 4, at_ 5, at_ 6]

/-- The hash h after a block of sixteen words. -/
def absorb (consts h m : List Nat) : List Nat :=
  let w := (extend 64 m.reverse).reverse
  let out := (List.range 80).foldl (fun x i => round x (consts.getD i 0 + w.getD i 0)) h
  (List.range 8).map fun i => sum [h.getD i 0, out.getD i 0]

/-- A byte string as one big-endian number. -/
def bigNat (b : List Byte) : Nat := leNat b.reverse

/-- n blocks of 128 bytes. -/
def absorbAll (consts : List Nat) : Nat → List Byte → List Nat → List Nat
  | 0, _, h => h
  | n + 1, b, h =>
    absorbAll consts n (b.drop 128) (absorb consts h ((List.range 16).map fun i => bigNat ((b.drop (8 * i)).take 8)))

/-- A message made whole blocks: a one bit, zeros, and its length in bits in the last 16 bytes. -/
def padded (m : List Byte) : List Byte :=
  let blocks := (m.length + 17 + 127) / 128
  let body := m ++ [0x80]
  body ++ List.replicate (128 * blocks - body.length - 16) 0 ++ (leBytes 16 (8 * m.length)).reverse

end Sha

/-- The 48 bytes of the SHA-384 digest of a message: the first six words of its hash. -/
def sha384 (m : List Byte) : List Byte :=
  let p := Sha.padded m
  ((Sha.absorbAll Sha.roundConsts (p.length / 128) p Sha.start).take 6).flatMap fun w => (leBytes 8 w).reverse

end Sys2Proof.Machine
end

