-- ==== Sys2Proof/Machine/Identity.lean ====
section
/-!
DEFINITION. The unit's identity (spec/19, R499 to R501): the identity key pair, UNIT_ID, and the certificate chain. Keys, and
what no rule states of the certificates, are free values of Config.
-/

namespace Sys2Proof.Machine

/-- n bytes of a number, the highest first. -/
def beBytes (n v : Nat) : List Byte := (leBytes n v).reverse

/-- The identity public key in uncompressed form, 97 bytes (R500). -/
def identityPublic : List Byte := 4 :: (beBytes 48 Config.identityX.toNat ++ beBytes 48 Config.identityY.toNat)

/-- The private key as the six words that Scarab keeps of it in the secure bank (R499). -/
def identityWords : List Dword := (List.range 6).map Config.identityKey

/-- UNIT_ID as 16 bytes, byte 0 first (R500). -/
def unitIdBytes : List Byte := (sha384 identityPublic).take 16

/-- A hexadecimal digit in ASCII. -/
def hexDigit (d : Nat) : Byte := BitVec.ofNat 8 (if d < 10 then 48 + d else (if Config.hexCapital then 55 else 87) + d)

/-- Bytes in hexadecimal. -/
def hexBytes (l : List Byte) : List Byte := l.flatMap fun b => [hexDigit (b.toNat / 16), hexDigit (b.toNat % 16)]

/-- A DER SEQUENCE, as a certificate is one (PRESUMED, X.690: tag 0x30, and the length in its shortest form; log entry 13). -/
def derSequence (body : List Byte) : List Byte :=
  let n := body.length
  0x30 :: ((if n < 128 then leBytes 1 n else if n < 256 then 0x81 :: leBytes 1 n else 0x82 :: beBytes 2 n) ++ body)

/-- A part of a certificate that no rule states. -/
def certPart (k : Nat) : List Byte := (List.range (Config.certLength k).toNat).map (Config.certByte k)

/-- The certificate chain in DER (R501): the device certificate, with UNIT_ID in hexadecimal as its subject serial number and
the identity key as its public key, then the Siltahel intermediate certificate. -/
def certChain : List Byte :=
  derSequence (certPart 0 ++ hexBytes unitIdBytes ++ certPart 1 ++ identityPublic ++ certPart 2) ++ derSequence (certPart 3)

end Sys2Proof.Machine
end

