-- ==== Sys2Proof/Machine/Map.lean ====
section
/-!
DEFINITION. A sparse table as plain data: a list of (key, value) pairs with strictly rising keys and no pair whose value
is the table's default, so that two equal tables are equal lists. `SMap.get` and `SMap.put` are the only readers and
writers; `SMap.wf` is the canonical form.
-/

namespace Sys2Proof.Machine

/-- A sparse table from natural keys; the default value is given at each access. -/
abbrev SMap (α : Type) := List (Nat × α)

/-- The value at key k; d where the table lists none. -/
def SMap.get {α : Type} (d : α) : SMap α → Nat → α
  | [], _ => d
  | (j, v) :: t, k => if k = j then v else if k < j then d else SMap.get d t k

/-- The table without its pairs whose key is at most k (used at the front of a tail). -/
def SMap.dropTo {α : Type} (k : Nat) : SMap α → SMap α
  | [] => []
  | (j, v) :: t => if j ≤ k then SMap.dropTo k t else (j, v) :: t

/-- The table with value v at key k; storing the default removes the pair. -/
def SMap.put {α : Type} [DecidableEq α] (d : α) : SMap α → Nat → α → SMap α
  | [], k, v => if v = d then [] else [(k, v)]
  | (j, w) :: t, k, v =>
    if k < j then (if v = d then (j, w) :: t else (k, v) :: (j, w) :: t)
    else if k = j then (if v = d then SMap.dropTo k t else (k, v) :: t)
    else (j, w) :: SMap.put d t k v

/-- Keys strictly rising and above a bound. -/
def SMap.rising {α : Type} : Nat → SMap α → Bool
  | _, [] => true
  | b, (j, _) :: t => decide (b ≤ j) && SMap.rising (j + 1) t

/-- The canonical form: keys strictly rising, no pair holding the default. -/
def SMap.wf {α : Type} [DecidableEq α] (d : α) (m : SMap α) : Bool :=
  SMap.rising 0 m && m.all (fun p => decide (p.2 ≠ d))

end Sys2Proof.Machine
end

