-- ==== Sys2Proof/Machine/Regs.lean ====
section
/-!
DEFINITION. The register map of BAR0 (spec/20_register_map.md, R518 to R535): every register of every page, with its
place, width, reset value and, from the field tables of the owning chapters, which bits the host may write (R20), and a
name for every field. A register is named by a constructor of `Reg` and an instance number: the channel n of an OCH or
RCH page (16·n + j for the j-th ILV word of channel n, and so for TONE_EPOCH and SHD_VAMP), the core 8c + k, the port,
the lane, the DMA channel, the unit, the queue pair.
-/

namespace Sys2Proof.Machine

/-- The registers of the BAR0 pages (R525 to R534), one constructor per named register. -/
inductive Reg where
  | glbCap0
  | glbCap1
  | glbCap2
  | glbCap3
  | glbDevState
  | glbStartIgnored
  | glbShotNum
  | glbStrmAdmit
  | glbDawnStatus
  | glbResetCause
  | glbPcieBadacc
  | glbIrqPend0
  | glbIrqPend1
  | glbDecProduced
  | glbDecConsumed
  | glbDecSuperseded
  | glbDecStale
  | glbDecProducedBase
  | glbDecConsumedBase
  | glbDecSupersededBase
  | glbDecStaleBase
  | glbDecRebase
  | glbDecFwdDrop
  | glbDecWinAddr
  | glbDecWinData
  | glbDecWinAux
  | glbSgWait
  | glbFbStatus
  | glbLatExcCnt
  | glbRoute
  | glbLinkOut
  | glbBankPwr
  | glbBankBusy
  | glbMemFail
  | glbMemPwrBlocked
  | glbEccCorr
  | glbEccUncorr
  | glbEccLogC
  | glbEccLogCAddr
  | glbEccLogU
  | glbEccLogUAddr
  | glbEccLogUSt
  | glbScrubCfg
  | glbScrubPass
  | glbRepairUsed
  | timeStatus
  | timeSyncCfg
  | timeSlewRemain
  | timeSlewRate
  | timeSyncRx
  | timeSyncDiscard
  | timePdelayLost
  | timePdelay
  | timePathAsym
  | timeSt
  | timeStepSt
  | timeOffset
  | timeSyncinValue
  | timeMrkLevel0
  | timeMrkLevel1
  | trigCfg
  | trigTsLo
  | trigTsHi
  | trigTsX
  | trigEdgeDrop
  | trigTsOvf
  | mrkCfg
  | mrkSwallow
  | mrkRetrig
  | thermStatus
  | thermCfg
  | thermDuskMax
  | thermDuskRampMax
  | thermMax
  | thermMaxIdx
  | thermSensorFail
  | thermPwrStatus
  | thermVauxLog
  | thermFailCnt
  | thermThrottleHold
  | thermStopCnt
  | thermPgoodGlitch
  | thermSensor
  | thermOffset
  | bdacCfg
  | bdacSeq
  | bdacTarget
  | bdacSlew
  | bdacStatus
  | bdacIgnored
  | bdacSeqMerged
  | hkCfg
  | hkInj
  | hkInjResult
  | hkInjStatus
  | hkStatus
  | hkInjDrop
  | hkScan
  | hkResult
  | calCfg
  | calStale
  | calStatus
  | calUnitSel
  | calUnitStatus
  | calCount
  | calLastTemp
  | calNvmStatus
  | calNvmSeq
  | calNvmWear
  | calOverdueCnt
  | calAbandon
  | calTrigLost
  | calLastSt
  | evfCfg
  | evfDbg
  | evfChSel
  | evfChRoute
  | evfChFired
  | evfProdSel
  | evfProdMap
  | evfStaged
  | evfSnapCfg
  | evfSnapStatus
  | evfSnapSeq
  | evfSnapMerged
  | evfSnapMissed
  | evfRebase
  | evfUnconsumed
  | evfStormCnt
  | evfSnapSt
  | evfFired
  | evfDelivered
  | evfCoalesced
  | evfSuppressed
  | evfFiredBase
  | evfDeliveredBase
  | evfCoalescedBase
  | evfSuppressedBase
  | evfFire
  | evfSupp
  | evfHostPend
  | timerStart
  | timerPeriod
  | timerCtrl
  | dmaCtrl
  | dmaRingLen
  | dmaTail
  | dmaHead
  | dmaStatus
  | dmaErrInfo
  | dmaRemain
  | dmaDmaRebase
  | dmaDescDone
  | dmaRingBase
  | dmaErrAddr
  | dmaBytesReq
  | dmaBytesXfer
  | dmaBytesFail
  | dmaBytesReqBase
  | dmaBytesXferBase
  | dmaBytesFailBase
  | grpPfStatus
  | jrnCfg
  | jrnWm
  | jrnHostLen
  | jrnSpillBase
  | jrnSpillLen
  | jrnHostWr
  | jrnHostRd
  | jrnStatus
  | jrnSeq
  | jrnRebase
  | jrnUncorr
  | jrnHostBase
  | jrnWpAddr
  | jrnStarted
  | jrnCommitted
  | jrnRewound
  | jrnDrained
  | jrnResident
  | jrnLost
  | jrnStartedBase
  | jrnCommittedBase
  | jrnRewoundBase
  | jrnDrainedBase
  | jrnResidentBase
  | jrnLostBase
  | blpCfg
  | blpStatus
  | blpBlRebase
  | blpCredRebase
  | blpBlRetx
  | blpRestripeCnt
  | blpAuditCnt
  | blpMirFwdDrop
  | blpMirDrop
  | blpTxDownDrop
  | blpBlSent
  | blpBlAcked
  | blpBlUnacked
  | blpBlRxCopies
  | blpBlDelivered
  | blpBlDiscarded
  | blpBlSentBase
  | blpBlAckedBase
  | blpBlUnackedBase
  | blpBlRxCopiesBase
  | blpBlDeliveredBase
  | blpBlDiscardedBase
  | blpCredGrantedDec
  | blpCredReturnedDec
  | blpCredOutstandingDec
  | blpCredGrantedBulk
  | blpCredReturnedBulk
  | blpCredOutstandingBulk
  | blpCredGrantedDecBase
  | blpCredReturnedDecBase
  | blpCredOutstandingDecBase
  | blpCredGrantedBulkBase
  | blpCredReturnedBulkBase
  | blpCredOutstandingBulkBase
  | bllStatus
  | bllBitslip
  | bllSleep
  | bllAdapt
  | bllEyeCtrl
  | bllEyeStatus
  | bllCheckFail
  | bllLostCnt
  | bllAdaptFreeze
  | bllKeepaliveTx
  | bllEyeErrors
  | dspCtrl
  | dspStatus
  | dspFault
  | dspFaultAddr
  | dspMbox
  | dspMboxOut
  | dspRfeedCfg
  | dspRfeedDrop
  | dspIntMax
  | dspPortErr
  | guardPeak
  | guardRms
  | guardDuty
  | guardCause
  | guardBmin
  | guardBmax
  | guardBrate
  | guardBcause
  | guardTrip
  | guardForce
  | guardBtrip
  | guardLock
  | guardNonce
  | guardTripCnt
  | guardClearRefused
  | guardRaiseRefused
  | ochSynCfg
  | ochFdelay
  | ochOutCfg
  | ochSeqCfg
  | ochVstart01
  | ochVstart23
  | ochVstart45
  | ochVstart67
  | ochRoleEpoch
  | ochFbCfg
  | ochStrmStatus
  | ochTblAddr
  | ochTblData
  | ochJumpReq
  | ochShdCommit
  | ochShdVamp
  | ochShdLoop01
  | ochShdLoop23
  | ochShdCh
  | ochSeqStatus
  | ochShdStatus
  | ochShdToken
  | ochFramePend
  | ochTsetStatus
  | ochStrmRemain
  | ochRefusedInfo
  | ochSatStage
  | ochSeqErr
  | ochOutStatus
  | ochFbStatus
  | ochSatCnt
  | ochFrameLate
  | ochFrameDrop
  | ochFrameCollide
  | ochWrRefusedCnt
  | ochReqMerged
  | ochReqDrop
  | ochShdMerged
  | ochUnderrun
  | ochStrmExhaust
  | ochStrmRebase
  | ochSpecTaken
  | ochSpecMiss
  | ochLateDefaultCnt
  | ochLateAbortCnt
  | ochWaitCnt
  | ochWaitGran
  | ochWaitTimeout
  | ochWaitXdev
  | ochStaleMsg
  | ochFrameApplySt
  | ochShdApplySt
  | ochStrmCursor
  | ochStrmSched
  | ochStrmPlayed
  | ochStrmZero
  | ochStrmSchedBase
  | ochStrmPlayedBase
  | ochStrmZeroBase
  | rchRxCfg
  | rchRxTrim
  | rchFbCfg
  | rchRoleEpoch
  | rchToneEpoch
  | rchIlv
  | rchToneStatus
  | rchFramePend
  | rchRxStatus
  | rchOvrGroups
  | rchFrameLate
  | rchFrameDrop
  | rchFrameCollide
  | rchClampCnt
  | rchPartnerMark
  | rchDecEarly
  | rchDecUnknown
  | rchDecForced
  | rchToneSat
  | rchWinAbort
  | rchWinDelayed
  | rchStaleMsg
  | rchFrameApplySt
  | rchOvrLastSt
  | acqCfg
  | acqPre
  | acqPost
  | acqDelay
  | acqHold
  | acqAvg
  | acqPartBase
  | acqPartLen
  | acqWrPtr
  | acqRdPtr
  | acqStatus
  | acqTrigAccept
  | acqHoldoffReject
  | acqNoroomReject
  | acqPreShortCnt
  | acqRecords
  | acqOverflowCnt
  | acqSwtrig
  | acqActive
  | scbStatus
  | scbTamperCause
  | scbWipeCnt
  | scbUnitId
  | scbLcNonce
  | qpCmdBase
  | qpRplBase
  | qpLen
  | qpCtrl
  | qpStatus
  | ceStatus
  | ceCmdCnt
  | ceRefusedCnt
  | ceWdogCnt
  | ceUfaultCnt
  | ceUcodeVer
  | ceWdog
  deriving DecidableEq, Repr

/-- Where a register lies, how wide it is, what it holds after reset and which bits a host write may act on. -/
structure RegInfo where
  /-- BAR0 page of instance 0 (R518). -/
  page : Nat
  /-- instances that share a page. -/
  inner : Nat
  /-- offset within the page of the first instance of the page. -/
  off : Nat
  /-- bytes between two instances of one page. -/
  stride : Nat
  /-- number of instances. -/
  count : Nat
  /-- 64 or 32 bits (R520). -/
  wide : Bool
  /-- reset value (R523). -/
  reset : Nat
  /-- bits with access code RW (R20). -/
  rw : Nat
  /-- bits with access code W1C (R20). -/
  w1c : Nat
  /-- bits with access code W1S (R20). -/
  w1s : Nat
  /-- whether a snapshot latches a copy of it (R424, R456). -/
  snap : Bool
  deriving DecidableEq, Repr

/-- The register map (R525 to R534) with the write masks of the owning chapters. -/
def Reg.info : Reg → RegInfo
  | .glbCap0 => ⟨0, 1, 0, 0, 1, false, 0, 0, 0, 0, false⟩
  | .glbCap1 => ⟨0, 1, 0x4, 0, 1, false, 0, 0, 0, 0, false⟩
  | .glbCap2 => ⟨0, 1, 0x8, 0, 1, false, 0, 0, 0, 0, false⟩
  | .glbCap3 => ⟨0, 1, 0xc, 0, 1, false, 0, 0, 0, 0, false⟩
  | .glbDevState => ⟨0, 1, 0x10, 0, 1, false, 0x1, 0, 0, 0, true⟩
  | .glbStartIgnored => ⟨0, 1, 0x14, 0, 1, false, 0, 0, 0, 0, true⟩
  | .glbShotNum => ⟨0, 1, 0x18, 0, 1, true, 0, 0, 0, 0, true⟩
  | .glbStrmAdmit => ⟨0, 1, 0x20, 0, 1, false, 0, 0, 0, 0, true⟩
  | .glbDawnStatus => ⟨0, 1, 0x24, 0, 1, false, 0x1, 0, 0, 0, false⟩
  | .glbResetCause => ⟨0, 1, 0x28, 0, 1, false, 0x1, 0, 0, 0, false⟩
  | .glbPcieBadacc => ⟨0, 1, 0x2c, 0, 1, false, 0, 0, 0, 0, false⟩
  | .glbIrqPend0 => ⟨0, 1, 0x30, 0, 1, false, 0, 0, 0xffffffff, 0, false⟩
  | .glbIrqPend1 => ⟨0, 1, 0x34, 0, 1, false, 0, 0, 0xffffffff, 0, false⟩
  | .glbDecProduced => ⟨0, 1, 0x40, 0, 1, true, 0, 0, 0, 0, true⟩
  | .glbDecConsumed => ⟨0, 1, 0x48, 0, 1, true, 0, 0, 0, 0, true⟩
  | .glbDecSuperseded => ⟨0, 1, 0x50, 0, 1, true, 0, 0, 0, 0, true⟩
  | .glbDecStale => ⟨0, 1, 0x58, 0, 1, true, 0, 0, 0, 0, true⟩
  | .glbDecProducedBase => ⟨0, 1, 0x60, 0, 1, true, 0, 0, 0, 0, false⟩
  | .glbDecConsumedBase => ⟨0, 1, 0x68, 0, 1, true, 0, 0, 0, 0, false⟩
  | .glbDecSupersededBase => ⟨0, 1, 0x70, 0, 1, true, 0, 0, 0, 0, false⟩
  | .glbDecStaleBase => ⟨0, 1, 0x78, 0, 1, true, 0, 0, 0, 0, false⟩
  | .glbDecRebase => ⟨0, 1, 0x80, 0, 1, false, 0, 0, 0, 0, true⟩
  | .glbDecFwdDrop => ⟨0, 1, 0x84, 0, 1, false, 0, 0, 0, 0, false⟩
  | .glbDecWinAddr => ⟨0, 1, 0x88, 0, 1, false, 0, 0xfff, 0, 0, false⟩
  | .glbDecWinData => ⟨0, 1, 0x8c, 0, 1, false, 0, 0, 0, 0, false⟩
  | .glbDecWinAux => ⟨0, 1, 0x90, 0, 1, false, 0, 0, 0, 0, false⟩
  | .glbSgWait => ⟨0, 1, 0x94, 0, 1, false, 0, 0, 0, 0, false⟩
  | .glbFbStatus => ⟨0, 1, 0x98, 0, 1, false, 0, 0, 0x3, 0, false⟩
  | .glbLatExcCnt => ⟨0, 1, 0x9c, 0, 1, false, 0, 0, 0, 0, false⟩
  | .glbRoute => ⟨0, 8, 0xa0, 0x4, 8, false, 0, 0, 0, 0, false⟩
  | .glbLinkOut => ⟨0, 16, 0xc0, 0x4, 16, false, 0, 0, 0, 0, false⟩
  | .glbBankPwr => ⟨0, 10, 0x100, 0x4, 10, false, 0, 0, 0, 0, false⟩
  | .glbBankBusy => ⟨0, 5, 0x140, 0x4, 5, false, 0, 0, 0, 0, false⟩
  | .glbMemFail => ⟨0, 5, 0x160, 0x4, 5, false, 0, 0, 0, 0, false⟩
  | .glbMemPwrBlocked => ⟨0, 1, 0x180, 0, 1, false, 0, 0, 0, 0, false⟩
  | .glbEccCorr => ⟨0, 1, 0x184, 0, 1, false, 0, 0, 0, 0, true⟩
  | .glbEccUncorr => ⟨0, 1, 0x188, 0, 1, false, 0, 0, 0, 0, true⟩
  | .glbEccLogC => ⟨0, 1, 0x18c, 0, 1, false, 0, 0, 0, 0, false⟩
  | .glbEccLogCAddr => ⟨0, 1, 0x190, 0, 1, false, 0, 0, 0, 0, false⟩
  | .glbEccLogU => ⟨0, 1, 0x194, 0, 1, false, 0, 0, 0x80000000, 0, false⟩
  | .glbEccLogUAddr => ⟨0, 1, 0x198, 0, 1, false, 0, 0, 0, 0, false⟩
  | .glbEccLogUSt => ⟨0, 1, 0x1a0, 0, 1, true, 0, 0, 0, 0, false⟩
  | .glbScrubCfg => ⟨0, 1, 0x1a8, 0, 1, false, 0x2, 0xf, 0, 0, false⟩
  | .glbScrubPass => ⟨0, 1, 0x1ac, 0, 1, false, 0, 0, 0, 0, false⟩
  | .glbRepairUsed => ⟨0, 1, 0x1b0, 0, 1, false, 0, 0, 0, 0, false⟩
  | .timeStatus => ⟨0x1, 1, 0, 0, 1, false, 0, 0, 0x70000, 0, true⟩
  | .timeSyncCfg => ⟨0x1, 1, 0x4, 0, 1, false, 0x29000, 0, 0, 0, false⟩
  | .timeSlewRemain => ⟨0x1, 1, 0x8, 0, 1, false, 0, 0, 0, 0, true⟩
  | .timeSlewRate => ⟨0x1, 1, 0xc, 0, 1, false, 0x3e8, 0, 0, 0, false⟩
  | .timeSyncRx => ⟨0x1, 1, 0x10, 0, 1, false, 0, 0, 0, 0, false⟩
  | .timeSyncDiscard => ⟨0x1, 1, 0x14, 0, 1, false, 0, 0, 0, 0, false⟩
  | .timePdelayLost => ⟨0x1, 1, 0x18, 0, 1, false, 0, 0, 0, 0, false⟩
  | .timePdelay => ⟨0x1, 4, 0x20, 0x4, 4, false, 0, 0, 0, 0, false⟩
  | .timePathAsym => ⟨0x1, 4, 0x30, 0x4, 4, false, 0, 0, 0, 0, false⟩
  | .timeSt => ⟨0x1, 1, 0x40, 0, 1, true, 0, 0, 0, 0, true⟩
  | .timeStepSt => ⟨0x1, 1, 0x48, 0, 1, true, 0, 0, 0, 0, false⟩
  | .timeOffset => ⟨0x1, 1, 0x50, 0, 1, true, 0, 0, 0, 0, true⟩
  | .timeSyncinValue => ⟨0x1, 1, 0x58, 0, 1, true, 0, 0, 0, 0, false⟩
  | .timeMrkLevel0 => ⟨0x1, 1, 0x60, 0, 1, false, 0, 0, 0, 0, false⟩
  | .timeMrkLevel1 => ⟨0x1, 1, 0x64, 0, 1, false, 0, 0, 0, 0, false⟩
  | .trigCfg => ⟨0x1, 16, 0x100, 0x20, 16, false, 0x2, 0, 0, 0, false⟩
  | .trigTsLo => ⟨0x1, 16, 0x104, 0x20, 16, false, 0, 0, 0, 0, false⟩
  | .trigTsHi => ⟨0x1, 16, 0x108, 0x20, 16, false, 0, 0, 0, 0, false⟩
  | .trigTsX => ⟨0x1, 16, 0x10c, 0x20, 16, false, 0, 0, 0, 0, false⟩
  | .trigEdgeDrop => ⟨0x1, 16, 0x110, 0x20, 16, false, 0, 0, 0, 0, false⟩
  | .trigTsOvf => ⟨0x1, 16, 0x114, 0x20, 16, false, 0, 0, 0, 0, false⟩
  | .mrkCfg => ⟨0x1, 48, 0x300, 0x10, 48, false, 0, 0, 0, 0, false⟩
  | .mrkSwallow => ⟨0x1, 48, 0x304, 0x10, 48, false, 0, 0, 0, 0, false⟩
  | .mrkRetrig => ⟨0x1, 48, 0x308, 0x10, 48, false, 0, 0, 0, 0, false⟩
  | .thermStatus => ⟨0x2, 1, 0, 0, 1, false, 0, 0, 0, 0, false⟩
  | .thermCfg => ⟨0x2, 1, 0x4, 0, 1, false, 0x7369615a, 0, 0, 0, false⟩
  | .thermDuskMax => ⟨0x2, 1, 0x8, 0, 1, false, 0x3e8, 0x1ffff, 0, 0, false⟩
  | .thermDuskRampMax => ⟨0x2, 1, 0xc, 0, 1, false, 0xa, 0xffff, 0, 0, false⟩
  | .thermMax => ⟨0x2, 1, 0x10, 0, 1, false, 0, 0, 0, 0, true⟩
  | .thermMaxIdx => ⟨0x2, 1, 0x14, 0, 1, false, 0, 0, 0, 0, true⟩
  | .thermSensorFail => ⟨0x2, 1, 0x18, 0, 1, false, 0, 0, 0, 0, false⟩
  | .thermPwrStatus => ⟨0x2, 1, 0x1c, 0, 1, false, 0, 0, 0, 0, false⟩
  | .thermVauxLog => ⟨0x2, 1, 0x20, 0, 1, false, 0, 0, 0, 0, false⟩
  | .thermFailCnt => ⟨0x2, 1, 0x24, 0, 1, false, 0, 0, 0, 0, false⟩
  | .thermThrottleHold => ⟨0x2, 1, 0x28, 0, 1, false, 0, 0, 0, 0, false⟩
  | .thermStopCnt => ⟨0x2, 1, 0x2c, 0, 1, false, 0, 0, 0, 0, false⟩
  | .thermPgoodGlitch => ⟨0x2, 1, 0x30, 0, 1, false, 0, 0, 0, 0, false⟩
  | .thermSensor => ⟨0x2, 24, 0x40, 0x4, 24, false, 0, 0, 0, 0, false⟩
  | .thermOffset => ⟨0x2, 24, 0xc0, 0x4, 24, false, 0, 0, 0, 0, false⟩
  | .bdacCfg => ⟨0x3, 48, 0, 0x20, 48, false, 0, 0, 0, 0, false⟩
  | .bdacSeq => ⟨0x3, 48, 0x4, 0x20, 48, false, 0, 0, 0, 0, false⟩
  | .bdacTarget => ⟨0x3, 48, 0x8, 0x20, 48, false, 0, 0xfffff, 0, 0, false⟩
  | .bdacSlew => ⟨0x3, 48, 0xc, 0x20, 48, false, 0x140040, 0, 0, 0, false⟩
  | .bdacStatus => ⟨0x3, 48, 0x10, 0x20, 48, false, 0x100000, 0, 0x2000000, 0, true⟩
  | .bdacIgnored => ⟨0x3, 48, 0x14, 0x20, 48, false, 0, 0, 0, 0, false⟩
  | .bdacSeqMerged => ⟨0x3, 48, 0x18, 0x20, 48, false, 0, 0, 0, 0, false⟩
  | .hkCfg => ⟨0x3, 1, 0x600, 0, 1, false, 0x3f01, 0, 0, 0, false⟩
  | .hkInj => ⟨0x3, 1, 0x604, 0, 1, false, 0, 0, 0, 0, false⟩
  | .hkInjResult => ⟨0x3, 1, 0x608, 0, 1, false, 0, 0, 0, 0, false⟩
  | .hkInjStatus => ⟨0x3, 1, 0x60c, 0, 1, false, 0, 0, 0, 0, false⟩
  | .hkStatus => ⟨0x3, 1, 0x610, 0, 1, false, 0, 0, 0, 0, false⟩
  | .hkInjDrop => ⟨0x3, 1, 0x614, 0, 1, false, 0, 0, 0, 0, false⟩
  | .hkScan => ⟨0x3, 16, 0x640, 0x4, 16, false, 0, 0, 0, 0, false⟩
  | .hkResult => ⟨0x3, 64, 0x680, 0x4, 64, false, 0, 0, 0, 0, false⟩
  | .calCfg => ⟨0x4, 1, 0, 0, 1, false, 0x7f28, 0, 0, 0, false⟩
  | .calStale => ⟨0x4, 1, 0x4, 0, 1, false, 0x64, 0, 0, 0, false⟩
  | .calStatus => ⟨0x4, 1, 0x8, 0, 1, false, 0, 0, 0x10000, 0, false⟩
  | .calUnitSel => ⟨0x4, 1, 0xc, 0, 1, false, 0, 0x77f, 0, 0, false⟩
  | .calUnitStatus => ⟨0x4, 1, 0x10, 0, 1, false, 0, 0, 0, 0, false⟩
  | .calCount => ⟨0x4, 1, 0x14, 0, 1, false, 0, 0, 0, 0, false⟩
  | .calLastTemp => ⟨0x4, 1, 0x18, 0, 1, false, 0, 0, 0, 0, false⟩
  | .calNvmStatus => ⟨0x4, 1, 0x1c, 0, 1, false, 0, 0, 0, 0, false⟩
  | .calNvmSeq => ⟨0x4, 1, 0x20, 0, 1, false, 0, 0, 0, 0, false⟩
  | .calNvmWear => ⟨0x4, 1, 0x24, 0, 1, false, 0, 0, 0, 0, false⟩
  | .calOverdueCnt => ⟨0x4, 1, 0x28, 0, 1, false, 0, 0, 0, 0, false⟩
  | .calAbandon => ⟨0x4, 1, 0x2c, 0, 1, false, 0, 0, 0, 0, false⟩
  | .calTrigLost => ⟨0x4, 1, 0x30, 0, 1, false, 0, 0, 0, 0, false⟩
  | .calLastSt => ⟨0x4, 1, 0x38, 0, 1, true, 0, 0, 0, 0, false⟩
  | .evfCfg => ⟨0x5, 1, 0, 0, 1, false, 0x3e80400, 0xffffffff, 0, 0, false⟩
  | .evfDbg => ⟨0x5, 1, 0x4, 0, 1, false, 0, 0x1, 0, 0, false⟩
  | .evfChSel => ⟨0x5, 1, 0x8, 0, 1, false, 0, 0xff, 0, 0, false⟩
  | .evfChRoute => ⟨0x5, 1, 0xc, 0, 1, false, 0x3ff, 0x3ff, 0, 0, false⟩
  | .evfChFired => ⟨0x5, 1, 0x10, 0, 1, false, 0, 0, 0, 0, false⟩
  | .evfProdSel => ⟨0x5, 1, 0x14, 0, 1, false, 0, 0x3ff, 0, 0, false⟩
  | .evfProdMap => ⟨0x5, 1, 0x18, 0, 1, true, 0, 0x1ff01ff01ff01ff, 0, 0, false⟩
  | .evfStaged => ⟨0x5, 1, 0x20, 0, 1, false, 0, 0, 0, 0, false⟩
  | .evfSnapCfg => ⟨0x5, 1, 0x24, 0, 1, false, 0, 0x3, 0, 0, false⟩
  | .evfSnapStatus => ⟨0x5, 1, 0x28, 0, 1, false, 0, 0, 0x1, 0, false⟩
  | .evfSnapSeq => ⟨0x5, 1, 0x2c, 0, 1, false, 0, 0, 0, 0, false⟩
  | .evfSnapMerged => ⟨0x5, 1, 0x30, 0, 1, false, 0, 0, 0, 0, false⟩
  | .evfSnapMissed => ⟨0x5, 1, 0x34, 0, 1, false, 0, 0, 0, 0, false⟩
  | .evfRebase => ⟨0x5, 1, 0x38, 0, 1, false, 0, 0, 0, 0, true⟩
  | .evfUnconsumed => ⟨0x5, 1, 0x3c, 0, 1, false, 0, 0, 0, 0, false⟩
  | .evfStormCnt => ⟨0x5, 1, 0x40, 0, 1, false, 0, 0, 0, 0, false⟩
  | .evfSnapSt => ⟨0x5, 1, 0x48, 0, 1, true, 0, 0, 0, 0, false⟩
  | .evfFired => ⟨0x5, 1, 0x50, 0, 1, true, 0, 0, 0, 0, true⟩
  | .evfDelivered => ⟨0x5, 1, 0x58, 0, 1, true, 0, 0, 0, 0, true⟩
  | .evfCoalesced => ⟨0x5, 1, 0x60, 0, 1, true, 0, 0, 0, 0, true⟩
  | .evfSuppressed => ⟨0x5, 1, 0x68, 0, 1, true, 0, 0, 0, 0, true⟩
  | .evfFiredBase => ⟨0x5, 1, 0x70, 0, 1, true, 0, 0, 0, 0, false⟩
  | .evfDeliveredBase => ⟨0x5, 1, 0x78, 0, 1, true, 0, 0, 0, 0, false⟩
  | .evfCoalescedBase => ⟨0x5, 1, 0x80, 0, 1, true, 0, 0, 0, 0, false⟩
  | .evfSuppressedBase => ⟨0x5, 1, 0x88, 0, 1, true, 0, 0, 0, 0, false⟩
  | .evfFire => ⟨0x5, 8, 0x100, 0x4, 8, false, 0, 0, 0, 0, false⟩
  | .evfSupp => ⟨0x5, 8, 0x120, 0x4, 8, false, 0, 0, 0xffffffff, 0, true⟩
  | .evfHostPend => ⟨0x5, 8, 0x140, 0x4, 8, false, 0, 0, 0xffffffff, 0, false⟩
  | .timerStart => ⟨0x6, 8, 0, 0x10, 8, true, 0, 0xffffffffffffffe0, 0, 0, false⟩
  | .timerPeriod => ⟨0x6, 8, 0x8, 0x10, 8, false, 0, 0xffffffff, 0, 0, false⟩
  | .timerCtrl => ⟨0x6, 8, 0xc, 0x10, 8, false, 0, 0xffffff01, 0, 0, false⟩
  | .dmaCtrl => ⟨0x8, 8, 0, 0x80, 32, false, 0x6ff00, 0x7ff01, 0, 0, false⟩
  | .dmaRingLen => ⟨0x8, 8, 0x4, 0x80, 32, false, 0, 0x1ffff, 0, 0, false⟩
  | .dmaTail => ⟨0x8, 8, 0x8, 0x80, 32, false, 0, 0xffff, 0, 0, false⟩
  | .dmaHead => ⟨0x8, 8, 0xc, 0x80, 32, false, 0, 0, 0, 0, true⟩
  | .dmaStatus => ⟨0x8, 8, 0x10, 0x80, 32, false, 0, 0, 0x700, 0, true⟩
  | .dmaErrInfo => ⟨0x8, 8, 0x14, 0x80, 32, false, 0, 0, 0, 0, false⟩
  | .dmaRemain => ⟨0x8, 8, 0x18, 0x80, 32, false, 0, 0, 0, 0, true⟩
  | .dmaDmaRebase => ⟨0x8, 8, 0x1c, 0x80, 32, false, 0, 0, 0, 0, true⟩
  | .dmaDescDone => ⟨0x8, 8, 0x20, 0x80, 32, false, 0, 0, 0, 0, false⟩
  | .dmaRingBase => ⟨0x8, 8, 0x28, 0x80, 32, true, 0, 0xfffffffffffff000, 0, 0, false⟩
  | .dmaErrAddr => ⟨0x8, 8, 0x30, 0x80, 32, true, 0, 0, 0, 0, false⟩
  | .dmaBytesReq => ⟨0x8, 8, 0x38, 0x80, 32, true, 0, 0, 0, 0, true⟩
  | .dmaBytesXfer => ⟨0x8, 8, 0x40, 0x80, 32, true, 0, 0, 0, 0, true⟩
  | .dmaBytesFail => ⟨0x8, 8, 0x48, 0x80, 32, true, 0, 0, 0, 0, true⟩
  | .dmaBytesReqBase => ⟨0x8, 8, 0x50, 0x80, 32, true, 0, 0, 0, 0, false⟩
  | .dmaBytesXferBase => ⟨0x8, 8, 0x58, 0x80, 32, true, 0, 0, 0, 0, false⟩
  | .dmaBytesFailBase => ⟨0x8, 8, 0x60, 0x80, 32, true, 0, 0, 0, 0, false⟩
  | .grpPfStatus => ⟨0x8, 1, 0x400, 0, 4, false, 0, 0, 0x1, 0, false⟩
  | .jrnCfg => ⟨0x10, 1, 0, 0, 1, false, 0xa00, 0, 0, 0, false⟩
  | .jrnWm => ⟨0x10, 1, 0x4, 0, 1, false, 0, 0, 0, 0, false⟩
  | .jrnHostLen => ⟨0x10, 1, 0x8, 0, 1, false, 0, 0, 0, 0, false⟩
  | .jrnSpillBase => ⟨0x10, 1, 0xc, 0, 1, false, 0, 0, 0, 0, false⟩
  | .jrnSpillLen => ⟨0x10, 1, 0x10, 0, 1, false, 0, 0, 0, 0, false⟩
  | .jrnHostWr => ⟨0x10, 1, 0x14, 0, 1, false, 0, 0, 0, 0, false⟩
  | .jrnHostRd => ⟨0x10, 1, 0x18, 0, 1, false, 0, 0xffffff, 0, 0, false⟩
  | .jrnStatus => ⟨0x10, 1, 0x1c, 0, 1, false, 0, 0, 0x10000, 0, true⟩
  | .jrnSeq => ⟨0x10, 1, 0x20, 0, 1, false, 0, 0, 0, 0, true⟩
  | .jrnRebase => ⟨0x10, 1, 0x24, 0, 1, false, 0, 0, 0, 0, true⟩
  | .jrnUncorr => ⟨0x10, 1, 0x28, 0, 1, false, 0, 0, 0, 0, false⟩
  | .jrnHostBase => ⟨0x10, 1, 0x30, 0, 1, true, 0, 0, 0, 0, false⟩
  | .jrnWpAddr => ⟨0x10, 1, 0x38, 0, 1, true, 0, 0, 0, 0, false⟩
  | .jrnStarted => ⟨0x10, 1, 0x40, 0, 1, true, 0, 0, 0, 0, true⟩
  | .jrnCommitted => ⟨0x10, 1, 0x48, 0, 1, true, 0, 0, 0, 0, true⟩
  | .jrnRewound => ⟨0x10, 1, 0x50, 0, 1, true, 0, 0, 0, 0, true⟩
  | .jrnDrained => ⟨0x10, 1, 0x58, 0, 1, true, 0, 0, 0, 0, true⟩
  | .jrnResident => ⟨0x10, 1, 0x60, 0, 1, true, 0, 0, 0, 0, true⟩
  | .jrnLost => ⟨0x10, 1, 0x68, 0, 1, true, 0, 0, 0, 0, true⟩
  | .jrnStartedBase => ⟨0x10, 1, 0x70, 0, 1, true, 0, 0, 0, 0, false⟩
  | .jrnCommittedBase => ⟨0x10, 1, 0x78, 0, 1, true, 0, 0, 0, 0, false⟩
  | .jrnRewoundBase => ⟨0x10, 1, 0x80, 0, 1, true, 0, 0, 0, 0, false⟩
  | .jrnDrainedBase => ⟨0x10, 1, 0x88, 0, 1, true, 0, 0, 0, 0, false⟩
  | .jrnResidentBase => ⟨0x10, 1, 0x90, 0, 1, true, 0, 0, 0, 0, false⟩
  | .jrnLostBase => ⟨0x10, 1, 0x98, 0, 1, true, 0, 0, 0, 0, false⟩
  | .blpCfg => ⟨0x20, 1, 0, 0, 4, false, 0, 0, 0, 0, false⟩
  | .blpStatus => ⟨0x20, 1, 0x4, 0, 4, false, 0, 0, 0xf000000, 0, true⟩
  | .blpBlRebase => ⟨0x20, 1, 0x8, 0, 4, false, 0, 0, 0, 0, true⟩
  | .blpCredRebase => ⟨0x20, 1, 0xc, 0, 4, false, 0, 0, 0, 0, true⟩
  | .blpBlRetx => ⟨0x20, 1, 0x10, 0, 4, false, 0, 0, 0, 0, false⟩
  | .blpRestripeCnt => ⟨0x20, 1, 0x14, 0, 4, false, 0, 0, 0, 0, false⟩
  | .blpAuditCnt => ⟨0x20, 1, 0x18, 0, 4, false, 0, 0, 0, 0, false⟩
  | .blpMirFwdDrop => ⟨0x20, 1, 0x1c, 0, 4, false, 0, 0, 0, 0, false⟩
  | .blpMirDrop => ⟨0x20, 1, 0x20, 0, 4, false, 0, 0, 0, 0, false⟩
  | .blpTxDownDrop => ⟨0x20, 1, 0x24, 0, 4, false, 0, 0, 0, 0, false⟩
  | .blpBlSent => ⟨0x20, 1, 0x40, 0, 4, true, 0, 0, 0, 0, true⟩
  | .blpBlAcked => ⟨0x20, 1, 0x48, 0, 4, true, 0, 0, 0, 0, true⟩
  | .blpBlUnacked => ⟨0x20, 1, 0x50, 0, 4, true, 0, 0, 0, 0, true⟩
  | .blpBlRxCopies => ⟨0x20, 1, 0x58, 0, 4, true, 0, 0, 0, 0, true⟩
  | .blpBlDelivered => ⟨0x20, 1, 0x60, 0, 4, true, 0, 0, 0, 0, true⟩
  | .blpBlDiscarded => ⟨0x20, 1, 0x68, 0, 4, true, 0, 0, 0, 0, true⟩
  | .blpBlSentBase => ⟨0x20, 1, 0x70, 0, 4, true, 0, 0, 0, 0, false⟩
  | .blpBlAckedBase => ⟨0x20, 1, 0x78, 0, 4, true, 0, 0, 0, 0, false⟩
  | .blpBlUnackedBase => ⟨0x20, 1, 0x80, 0, 4, true, 0, 0, 0, 0, false⟩
  | .blpBlRxCopiesBase => ⟨0x20, 1, 0x88, 0, 4, true, 0, 0, 0, 0, false⟩
  | .blpBlDeliveredBase => ⟨0x20, 1, 0x90, 0, 4, true, 0, 0, 0, 0, false⟩
  | .blpBlDiscardedBase => ⟨0x20, 1, 0x98, 0, 4, true, 0, 0, 0, 0, false⟩
  | .blpCredGrantedDec => ⟨0x20, 1, 0xa0, 0, 4, true, 0, 0, 0, 0, true⟩
  | .blpCredReturnedDec => ⟨0x20, 1, 0xa8, 0, 4, true, 0, 0, 0, 0, true⟩
  | .blpCredOutstandingDec => ⟨0x20, 1, 0xb0, 0, 4, true, 0, 0, 0, 0, true⟩
  | .blpCredGrantedBulk => ⟨0x20, 1, 0xb8, 0, 4, true, 0, 0, 0, 0, true⟩
  | .blpCredReturnedBulk => ⟨0x20, 1, 0xc0, 0, 4, true, 0, 0, 0, 0, true⟩
  | .blpCredOutstandingBulk => ⟨0x20, 1, 0xc8, 0, 4, true, 0, 0, 0, 0, true⟩
  | .blpCredGrantedDecBase => ⟨0x20, 1, 0xd0, 0, 4, true, 0, 0, 0, 0, false⟩
  | .blpCredReturnedDecBase => ⟨0x20, 1, 0xd8, 0, 4, true, 0, 0, 0, 0, false⟩
  | .blpCredOutstandingDecBase => ⟨0x20, 1, 0xe0, 0, 4, true, 0, 0, 0, 0, false⟩
  | .blpCredGrantedBulkBase => ⟨0x20, 1, 0xe8, 0, 4, true, 0, 0, 0, 0, false⟩
  | .blpCredReturnedBulkBase => ⟨0x20, 1, 0xf0, 0, 4, true, 0, 0, 0, 0, false⟩
  | .blpCredOutstandingBulkBase => ⟨0x20, 1, 0xf8, 0, 4, true, 0, 0, 0, 0, false⟩
  | .bllStatus => ⟨0x24, 1, 0, 0, 16, false, 0, 0, 0, 0, true⟩
  | .bllBitslip => ⟨0x24, 1, 0x4, 0, 16, false, 0, 0, 0, 0, false⟩
  | .bllSleep => ⟨0x24, 1, 0x8, 0, 16, false, 0, 0x3, 0, 0, false⟩
  | .bllAdapt => ⟨0x24, 1, 0xc, 0, 16, false, 0x14, 0x3f, 0, 0, false⟩
  | .bllEyeCtrl => ⟨0x24, 1, 0x10, 0, 16, false, 0x140000, 0x3fff3f, 0, 0, false⟩
  | .bllEyeStatus => ⟨0x24, 1, 0x14, 0, 16, false, 0, 0, 0, 0, false⟩
  | .bllCheckFail => ⟨0x24, 1, 0x18, 0, 16, false, 0, 0, 0, 0, false⟩
  | .bllLostCnt => ⟨0x24, 1, 0x1c, 0, 16, false, 0, 0, 0, 0, false⟩
  | .bllAdaptFreeze => ⟨0x24, 1, 0x20, 0, 16, false, 0, 0, 0, 0, false⟩
  | .bllKeepaliveTx => ⟨0x24, 1, 0x24, 0, 16, false, 0, 0, 0, 0, false⟩
  | .bllEyeErrors => ⟨0x24, 1, 0x28, 0, 16, true, 0, 0, 0, 0, false⟩
  | .dspCtrl => ⟨0x40, 8, 0, 0x40, 32, false, 0, 0, 0, 0, false⟩
  | .dspStatus => ⟨0x40, 8, 0x4, 0x40, 32, false, 0, 0, 0, 0, true⟩
  | .dspFault => ⟨0x40, 8, 0x8, 0x40, 32, false, 0, 0, 0, 0, false⟩
  | .dspFaultAddr => ⟨0x40, 8, 0xc, 0x40, 32, false, 0, 0, 0, 0, false⟩
  | .dspMbox => ⟨0x40, 8, 0x10, 0x40, 32, false, 0, 0, 0, 0, false⟩
  | .dspMboxOut => ⟨0x40, 8, 0x14, 0x40, 32, false, 0, 0, 0, 0, false⟩
  | .dspRfeedCfg => ⟨0x40, 8, 0x18, 0x40, 32, false, 0x1000000, 0, 0, 0, false⟩
  | .dspRfeedDrop => ⟨0x40, 8, 0x1c, 0x40, 32, false, 0, 0, 0, 0, false⟩
  | .dspIntMax => ⟨0x40, 8, 0x20, 0x40, 32, false, 0, 0, 0xffff, 0, false⟩
  | .dspPortErr => ⟨0x40, 8, 0x24, 0x40, 32, false, 0, 0, 0, 0, false⟩
  | .guardPeak => ⟨0xe0, 96, 0, 0x4, 96, false, 0x8000, 0xffff, 0, 0, false⟩
  | .guardRms => ⟨0xe0, 96, 0x180, 0x4, 96, false, 0x8000, 0xffff, 0, 0, false⟩
  | .guardDuty => ⟨0xe0, 96, 0x300, 0x4, 96, false, 0x400, 0xffff07ff, 0, 0, false⟩
  | .guardCause => ⟨0xe0, 96, 0x480, 0x4, 96, false, 0, 0, 0, 0, false⟩
  | .guardBmin => ⟨0xe0, 48, 0x600, 0x4, 48, false, 0x80000, 0xfffff, 0, 0, false⟩
  | .guardBmax => ⟨0xe0, 48, 0x6c0, 0x4, 48, false, 0x7ffff, 0xfffff, 0, 0, false⟩
  | .guardBrate => ⟨0xe0, 48, 0x780, 0x4, 48, false, 0xffffff, 0xffffff, 0, 0, false⟩
  | .guardBcause => ⟨0xe0, 48, 0x840, 0x4, 48, false, 0, 0, 0, 0, false⟩
  | .guardTrip => ⟨0xe0, 3, 0x900, 0x4, 3, false, 0, 0, 0xffffffff, 0, true⟩
  | .guardForce => ⟨0xe0, 3, 0x90c, 0x4, 3, false, 0, 0, 0, 0xffffffff, false⟩
  | .guardBtrip => ⟨0xe0, 2, 0x918, 0x4, 2, false, 0, 0, 0xffffffff, 0, true⟩
  | .guardLock => ⟨0xe0, 1, 0x920, 0, 1, false, 0, 0, 0, 0x1, false⟩
  | .guardNonce => ⟨0xe0, 1, 0x928, 0, 1, true, 0, 0, 0, 0, false⟩
  | .guardTripCnt => ⟨0xe0, 1, 0x930, 0, 1, false, 0, 0, 0, 0, false⟩
  | .guardClearRefused => ⟨0xe0, 1, 0x934, 0, 1, false, 0, 0, 0, 0, false⟩
  | .guardRaiseRefused => ⟨0xe0, 1, 0x938, 0, 1, false, 0, 0, 0, 0, false⟩
  | .ochSynCfg => ⟨0x100, 1, 0, 0, 96, false, 0, 0, 0, 0, false⟩
  | .ochFdelay => ⟨0x100, 1, 0x4, 0, 96, false, 0, 0, 0, 0, false⟩
  | .ochOutCfg => ⟨0x100, 1, 0x8, 0, 96, false, 0, 0, 0, 0, false⟩
  | .ochSeqCfg => ⟨0x100, 1, 0xc, 0, 96, false, 0, 0, 0, 0, false⟩
  | .ochVstart01 => ⟨0x100, 1, 0x10, 0, 96, false, 0, 0, 0, 0, false⟩
  | .ochVstart23 => ⟨0x100, 1, 0x14, 0, 96, false, 0, 0, 0, 0, false⟩
  | .ochVstart45 => ⟨0x100, 1, 0x18, 0, 96, false, 0, 0, 0, 0, false⟩
  | .ochVstart67 => ⟨0x100, 1, 0x1c, 0, 96, false, 0, 0, 0, 0, false⟩
  | .ochRoleEpoch => ⟨0x100, 1, 0x20, 0, 96, false, 0, 0, 0, 0, false⟩
  | .ochFbCfg => ⟨0x100, 1, 0x24, 0, 96, false, 0x400800, 0, 0, 0, false⟩
  | .ochStrmStatus => ⟨0x100, 1, 0x28, 0, 96, false, 0, 0, 0x2000, 0, false⟩
  | .ochTblAddr => ⟨0x100, 1, 0x2c, 0, 96, false, 0, 0x800f3fff, 0, 0, false⟩
  | .ochTblData => ⟨0x100, 1, 0x30, 0, 96, false, 0, 0xffffffff, 0, 0, false⟩
  | .ochJumpReq => ⟨0x100, 1, 0x34, 0, 96, false, 0, 0, 0, 0, false⟩
  | .ochShdCommit => ⟨0x100, 1, 0x38, 0, 96, false, 0, 0, 0, 0, false⟩
  | .ochShdVamp => ⟨0x100, 8, 0x40, 0x4, 768, false, 0x7fff, 0x1ffff, 0, 0, true⟩
  | .ochShdLoop01 => ⟨0x100, 1, 0x60, 0, 96, false, 0, 0xffffffff, 0, 0, true⟩
  | .ochShdLoop23 => ⟨0x100, 1, 0x64, 0, 96, false, 0, 0xffffffff, 0, 0, true⟩
  | .ochShdCh => ⟨0x100, 1, 0x68, 0, 96, false, 0xff0f, 0xff0f, 0, 0, true⟩
  | .ochSeqStatus => ⟨0x100, 1, 0x70, 0, 96, false, 0, 0, 0, 0, true⟩
  | .ochShdStatus => ⟨0x100, 1, 0x74, 0, 96, false, 0, 0, 0, 0, false⟩
  | .ochShdToken => ⟨0x100, 1, 0x78, 0, 96, false, 0, 0, 0, 0, true⟩
  | .ochFramePend => ⟨0x100, 1, 0x7c, 0, 96, false, 0, 0, 0, 0, false⟩
  | .ochTsetStatus => ⟨0x100, 1, 0x80, 0, 96, false, 0, 0, 0, 0, false⟩
  | .ochStrmRemain => ⟨0x100, 1, 0x84, 0, 96, false, 0, 0, 0, 0, true⟩
  | .ochRefusedInfo => ⟨0x100, 1, 0x88, 0, 96, false, 0, 0, 0, 0, false⟩
  | .ochSatStage => ⟨0x100, 1, 0x8c, 0, 96, false, 0, 0, 0x3f, 0, false⟩
  | .ochSeqErr => ⟨0x100, 1, 0x90, 0, 96, false, 0, 0, 0x3, 0, false⟩
  | .ochOutStatus => ⟨0x100, 1, 0x94, 0, 96, false, 0, 0, 0x10000, 0, true⟩
  | .ochFbStatus => ⟨0x100, 1, 0x98, 0, 96, false, 0, 0, 0x30000, 0, false⟩
  | .ochSatCnt => ⟨0x100, 1, 0xa0, 0, 96, false, 0, 0, 0, 0, true⟩
  | .ochFrameLate => ⟨0x100, 1, 0xa4, 0, 96, false, 0, 0, 0, 0, false⟩
  | .ochFrameDrop => ⟨0x100, 1, 0xa8, 0, 96, false, 0, 0, 0, 0, false⟩
  | .ochFrameCollide => ⟨0x100, 1, 0xac, 0, 96, false, 0, 0, 0, 0, false⟩
  | .ochWrRefusedCnt => ⟨0x100, 1, 0xb0, 0, 96, false, 0, 0, 0, 0, false⟩
  | .ochReqMerged => ⟨0x100, 1, 0xb4, 0, 96, false, 0, 0, 0, 0, false⟩
  | .ochReqDrop => ⟨0x100, 1, 0xb8, 0, 96, false, 0, 0, 0, 0, false⟩
  | .ochShdMerged => ⟨0x100, 1, 0xbc, 0, 96, false, 0, 0, 0, 0, false⟩
  | .ochUnderrun => ⟨0x100, 1, 0xc0, 0, 96, false, 0, 0, 0, 0, true⟩
  | .ochStrmExhaust => ⟨0x100, 1, 0xc4, 0, 96, false, 0, 0, 0, 0, false⟩
  | .ochStrmRebase => ⟨0x100, 1, 0xc8, 0, 96, false, 0, 0, 0, 0, true⟩
  | .ochSpecTaken => ⟨0x100, 1, 0xcc, 0, 96, false, 0, 0, 0, 0, true⟩
  | .ochSpecMiss => ⟨0x100, 1, 0xd0, 0, 96, false, 0, 0, 0, 0, true⟩
  | .ochLateDefaultCnt => ⟨0x100, 1, 0xd4, 0, 96, false, 0, 0, 0, 0, false⟩
  | .ochLateAbortCnt => ⟨0x100, 1, 0xd8, 0, 96, false, 0, 0, 0, 0, false⟩
  | .ochWaitCnt => ⟨0x100, 1, 0xdc, 0, 96, false, 0, 0, 0, 0, false⟩
  | .ochWaitGran => ⟨0x100, 1, 0xe0, 0, 96, false, 0, 0, 0, 0, true⟩
  | .ochWaitTimeout => ⟨0x100, 1, 0xe4, 0, 96, false, 0, 0, 0, 0, false⟩
  | .ochWaitXdev => ⟨0x100, 1, 0xe8, 0, 96, false, 0, 0, 0, 0, false⟩
  | .ochStaleMsg => ⟨0x100, 1, 0xec, 0, 96, false, 0, 0, 0, 0, true⟩
  | .ochFrameApplySt => ⟨0x100, 1, 0x100, 0, 96, true, 0, 0, 0, 0, false⟩
  | .ochShdApplySt => ⟨0x100, 1, 0x108, 0, 96, true, 0, 0, 0, 0, false⟩
  | .ochStrmCursor => ⟨0x100, 1, 0x110, 0, 96, true, 0, 0, 0, 0, false⟩
  | .ochStrmSched => ⟨0x100, 1, 0x118, 0, 96, true, 0, 0, 0, 0, true⟩
  | .ochStrmPlayed => ⟨0x100, 1, 0x120, 0, 96, true, 0, 0, 0, 0, true⟩
  | .ochStrmZero => ⟨0x100, 1, 0x128, 0, 96, true, 0, 0, 0, 0, true⟩
  | .ochStrmSchedBase => ⟨0x100, 1, 0x130, 0, 96, true, 0, 0, 0, 0, false⟩
  | .ochStrmPlayedBase => ⟨0x100, 1, 0x138, 0, 96, true, 0, 0, 0, 0, false⟩
  | .ochStrmZeroBase => ⟨0x100, 1, 0x140, 0, 96, true, 0, 0, 0, 0, false⟩
  | .rchRxCfg => ⟨0x180, 1, 0, 0, 24, false, 0x200, 0, 0, 0, false⟩
  | .rchRxTrim => ⟨0x180, 1, 0x4, 0, 24, false, 0, 0, 0, 0, false⟩
  | .rchFbCfg => ⟨0x180, 1, 0x8, 0, 24, false, 0, 0, 0, 0, false⟩
  | .rchRoleEpoch => ⟨0x180, 1, 0xc, 0, 24, false, 0, 0, 0, 0, false⟩
  | .rchToneEpoch => ⟨0x180, 4, 0x10, 0x4, 96, false, 0, 0, 0, 0, false⟩
  | .rchIlv => ⟨0x180, 16, 0x20, 0x4, 384, false, 0, 0, 0, 0, false⟩
  | .rchToneStatus => ⟨0x180, 1, 0x70, 0, 24, false, 0, 0, 0, 0, true⟩
  | .rchFramePend => ⟨0x180, 1, 0x7c, 0, 24, false, 0, 0, 0, 0, false⟩
  | .rchRxStatus => ⟨0x180, 1, 0x8c, 0, 24, false, 0, 0, 0x70000, 0, true⟩
  | .rchOvrGroups => ⟨0x180, 1, 0xa0, 0, 24, false, 0, 0, 0, 0, true⟩
  | .rchFrameLate => ⟨0x180, 1, 0xa4, 0, 24, false, 0, 0, 0, 0, false⟩
  | .rchFrameDrop => ⟨0x180, 1, 0xa8, 0, 24, false, 0, 0, 0, 0, false⟩
  | .rchFrameCollide => ⟨0x180, 1, 0xac, 0, 24, false, 0, 0, 0, 0, false⟩
  | .rchClampCnt => ⟨0x180, 1, 0xb0, 0, 24, false, 0, 0, 0, 0, false⟩
  | .rchPartnerMark => ⟨0x180, 1, 0xb4, 0, 24, false, 0, 0, 0, 0, false⟩
  | .rchDecEarly => ⟨0x180, 1, 0xb8, 0, 24, false, 0, 0, 0, 0, true⟩
  | .rchDecUnknown => ⟨0x180, 1, 0xbc, 0, 24, false, 0, 0, 0, 0, true⟩
  | .rchDecForced => ⟨0x180, 1, 0xc0, 0, 24, false, 0, 0, 0, 0, false⟩
  | .rchToneSat => ⟨0x180, 1, 0xc4, 0, 24, false, 0, 0, 0, 0, false⟩
  | .rchWinAbort => ⟨0x180, 1, 0xc8, 0, 24, false, 0, 0, 0, 0, false⟩
  | .rchWinDelayed => ⟨0x180, 1, 0xcc, 0, 24, false, 0, 0, 0, 0, false⟩
  | .rchStaleMsg => ⟨0x180, 1, 0xd0, 0, 24, false, 0, 0, 0, 0, true⟩
  | .rchFrameApplySt => ⟨0x180, 1, 0x100, 0, 24, true, 0, 0, 0, 0, false⟩
  | .rchOvrLastSt => ⟨0x180, 1, 0x108, 0, 24, true, 0, 0, 0, 0, false⟩
  | .acqCfg => ⟨0x1a0, 24, 0, 0x50, 24, false, 0, 0, 0, 0, false⟩
  | .acqPre => ⟨0x1a0, 24, 0x4, 0x50, 24, false, 0, 0, 0, 0, false⟩
  | .acqPost => ⟨0x1a0, 24, 0x8, 0x50, 24, false, 0, 0, 0, 0, false⟩
  | .acqDelay => ⟨0x1a0, 24, 0xc, 0x50, 24, false, 0, 0, 0, 0, false⟩
  | .acqHold => ⟨0x1a0, 24, 0x10, 0x50, 24, false, 0, 0, 0, 0, false⟩
  | .acqAvg => ⟨0x1a0, 24, 0x14, 0x50, 24, false, 0x1, 0, 0, 0, false⟩
  | .acqPartBase => ⟨0x1a0, 24, 0x18, 0x50, 24, false, 0, 0, 0, 0, false⟩
  | .acqPartLen => ⟨0x1a0, 24, 0x1c, 0x50, 24, false, 0, 0, 0, 0, false⟩
  | .acqWrPtr => ⟨0x1a0, 24, 0x20, 0x50, 24, false, 0, 0, 0, 0, true⟩
  | .acqRdPtr => ⟨0x1a0, 24, 0x24, 0x50, 24, false, 0, 0x1fffffff, 0, 0, false⟩
  | .acqStatus => ⟨0x1a0, 24, 0x28, 0x50, 24, false, 0, 0, 0x30000, 0, true⟩
  | .acqTrigAccept => ⟨0x1a0, 24, 0x2c, 0x50, 24, false, 0, 0, 0, 0, true⟩
  | .acqHoldoffReject => ⟨0x1a0, 24, 0x30, 0x50, 24, false, 0, 0, 0, 0, false⟩
  | .acqNoroomReject => ⟨0x1a0, 24, 0x34, 0x50, 24, false, 0, 0, 0, 0, false⟩
  | .acqPreShortCnt => ⟨0x1a0, 24, 0x38, 0x50, 24, false, 0, 0, 0, 0, false⟩
  | .acqRecords => ⟨0x1a0, 24, 0x3c, 0x50, 24, false, 0, 0, 0, 0, false⟩
  | .acqOverflowCnt => ⟨0x1a0, 24, 0x40, 0x50, 24, false, 0, 0, 0, 0, false⟩
  | .acqSwtrig => ⟨0x1a0, 1, 0x780, 0, 1, false, 0, 0, 0, 0, false⟩
  | .acqActive => ⟨0x1a0, 1, 0x784, 0, 1, false, 0, 0, 0, 0, false⟩
  | .scbStatus => ⟨0x1c0, 1, 0, 0, 1, false, 0, 0, 0, 0, false⟩
  | .scbTamperCause => ⟨0x1c0, 1, 0x4, 0, 1, false, 0, 0, 0xf, 0, false⟩
  | .scbWipeCnt => ⟨0x1c0, 1, 0x8, 0, 1, false, 0, 0, 0, 0, false⟩
  | .scbUnitId => ⟨0x1c0, 4, 0x10, 0x4, 4, false, 0, 0, 0, 0, false⟩
  | .scbLcNonce => ⟨0x1c0, 1, 0x20, 0, 1, true, 0, 0, 0, 0, false⟩
  | .qpCmdBase => ⟨0x1e0, 4, 0, 0x20, 4, true, 0, 0xfffffffffffff000, 0, 0, false⟩
  | .qpRplBase => ⟨0x1e0, 4, 0x8, 0x20, 4, true, 0, 0xfffffffffffff000, 0, 0, false⟩
  | .qpLen => ⟨0x1e0, 4, 0x10, 0x20, 4, false, 0, 0x1fff1fff, 0, 0, false⟩
  | .qpCtrl => ⟨0x1e0, 4, 0x14, 0x20, 4, false, 0, 0x1, 0, 0, false⟩
  | .qpStatus => ⟨0x1e0, 4, 0x18, 0x20, 4, false, 0, 0, 0x7, 0, false⟩
  | .ceStatus => ⟨0x1e0, 1, 0x80, 0, 1, false, 0, 0, 0, 0, true⟩
  | .ceCmdCnt => ⟨0x1e0, 1, 0x84, 0, 1, false, 0, 0, 0, 0, true⟩
  | .ceRefusedCnt => ⟨0x1e0, 1, 0x88, 0, 1, false, 0, 0, 0, 0, false⟩
  | .ceWdogCnt => ⟨0x1e0, 1, 0x8c, 0, 1, false, 0, 0, 0, 0, false⟩
  | .ceUfaultCnt => ⟨0x1e0, 1, 0x90, 0, 1, false, 0, 0, 0, 0, false⟩
  | .ceUcodeVer => ⟨0x1e0, 1, 0x94, 0, 1, false, 0x1, 0, 0, 0, false⟩
  | .ceWdog => ⟨0x1e0, 1, 0x98, 0, 1, false, 0x64, 0, 0, 0, false⟩

/-- The registers of the GLB page template (R525). -/
def Reg.glbPage : List Reg :=
  [.glbCap0, .glbCap1, .glbCap2, .glbCap3, .glbDevState, .glbStartIgnored, .glbShotNum, .glbStrmAdmit, .glbDawnStatus, .glbResetCause, .glbPcieBadacc, .glbIrqPend0, .glbIrqPend1, .glbDecProduced, .glbDecConsumed, .glbDecSuperseded, .glbDecStale, .glbDecProducedBase, .glbDecConsumedBase, .glbDecSupersededBase, .glbDecStaleBase, .glbDecRebase, .glbDecFwdDrop, .glbDecWinAddr, .glbDecWinData, .glbDecWinAux, .glbSgWait, .glbFbStatus, .glbLatExcCnt, .glbRoute, .glbLinkOut, .glbBankPwr, .glbBankBusy, .glbMemFail, .glbMemPwrBlocked, .glbEccCorr, .glbEccUncorr, .glbEccLogC, .glbEccLogCAddr, .glbEccLogU, .glbEccLogUAddr, .glbEccLogUSt, .glbScrubCfg, .glbScrubPass, .glbRepairUsed]

/-- The registers of the TIME page template (R526). -/
def Reg.timePage : List Reg :=
  [.timeStatus, .timeSyncCfg, .timeSlewRemain, .timeSlewRate, .timeSyncRx, .timeSyncDiscard, .timePdelayLost, .timePdelay, .timePathAsym, .timeSt, .timeStepSt, .timeOffset, .timeSyncinValue, .timeMrkLevel0, .timeMrkLevel1, .trigCfg, .trigTsLo, .trigTsHi, .trigTsX, .trigEdgeDrop, .trigTsOvf, .mrkCfg, .mrkSwallow, .mrkRetrig]

/-- The registers of the THERM page template (R527). -/
def Reg.thermPage : List Reg :=
  [.thermStatus, .thermCfg, .thermDuskMax, .thermDuskRampMax, .thermMax, .thermMaxIdx, .thermSensorFail, .thermPwrStatus, .thermVauxLog, .thermFailCnt, .thermThrottleHold, .thermStopCnt, .thermPgoodGlitch, .thermSensor, .thermOffset]

/-- The registers of the HK page template (R527). -/
def Reg.hkPage : List Reg :=
  [.bdacCfg, .bdacSeq, .bdacTarget, .bdacSlew, .bdacStatus, .bdacIgnored, .bdacSeqMerged, .hkCfg, .hkInj, .hkInjResult, .hkInjStatus, .hkStatus, .hkInjDrop, .hkScan, .hkResult]

/-- The registers of the CAL page template (R527). -/
def Reg.calPage : List Reg :=
  [.calCfg, .calStale, .calStatus, .calUnitSel, .calUnitStatus, .calCount, .calLastTemp, .calNvmStatus, .calNvmSeq, .calNvmWear, .calOverdueCnt, .calAbandon, .calTrigLost, .calLastSt]

/-- The registers of the EVF page template (R528). -/
def Reg.evfPage : List Reg :=
  [.evfCfg, .evfDbg, .evfChSel, .evfChRoute, .evfChFired, .evfProdSel, .evfProdMap, .evfStaged, .evfSnapCfg, .evfSnapStatus, .evfSnapSeq, .evfSnapMerged, .evfSnapMissed, .evfRebase, .evfUnconsumed, .evfStormCnt, .evfSnapSt, .evfFired, .evfDelivered, .evfCoalesced, .evfSuppressed, .evfFiredBase, .evfDeliveredBase, .evfCoalescedBase, .evfSuppressedBase, .evfFire, .evfSupp, .evfHostPend]

/-- The registers of the TIMER page template (R528). -/
def Reg.timerPage : List Reg :=
  [.timerStart, .timerPeriod, .timerCtrl]

/-- The registers of the DMA page template (R529). -/
def Reg.dmaPage : List Reg :=
  [.dmaCtrl, .dmaRingLen, .dmaTail, .dmaHead, .dmaStatus, .dmaErrInfo, .dmaRemain, .dmaDmaRebase, .dmaDescDone, .dmaRingBase, .dmaErrAddr, .dmaBytesReq, .dmaBytesXfer, .dmaBytesFail, .dmaBytesReqBase, .dmaBytesXferBase, .dmaBytesFailBase, .grpPfStatus]

/-- The registers of the JRN page template (R529). -/
def Reg.jrnPage : List Reg :=
  [.jrnCfg, .jrnWm, .jrnHostLen, .jrnSpillBase, .jrnSpillLen, .jrnHostWr, .jrnHostRd, .jrnStatus, .jrnSeq, .jrnRebase, .jrnUncorr, .jrnHostBase, .jrnWpAddr, .jrnStarted, .jrnCommitted, .jrnRewound, .jrnDrained, .jrnResident, .jrnLost, .jrnStartedBase, .jrnCommittedBase, .jrnRewoundBase, .jrnDrainedBase, .jrnResidentBase, .jrnLostBase]

/-- The registers of the BLP page template (R530). -/
def Reg.blpPage : List Reg :=
  [.blpCfg, .blpStatus, .blpBlRebase, .blpCredRebase, .blpBlRetx, .blpRestripeCnt, .blpAuditCnt, .blpMirFwdDrop, .blpMirDrop, .blpTxDownDrop, .blpBlSent, .blpBlAcked, .blpBlUnacked, .blpBlRxCopies, .blpBlDelivered, .blpBlDiscarded, .blpBlSentBase, .blpBlAckedBase, .blpBlUnackedBase, .blpBlRxCopiesBase, .blpBlDeliveredBase, .blpBlDiscardedBase, .blpCredGrantedDec, .blpCredReturnedDec, .blpCredOutstandingDec, .blpCredGrantedBulk, .blpCredReturnedBulk, .blpCredOutstandingBulk, .blpCredGrantedDecBase, .blpCredReturnedDecBase, .blpCredOutstandingDecBase, .blpCredGrantedBulkBase, .blpCredReturnedBulkBase, .blpCredOutstandingBulkBase]

/-- The registers of the BLL page template (R530). -/
def Reg.bllPage : List Reg :=
  [.bllStatus, .bllBitslip, .bllSleep, .bllAdapt, .bllEyeCtrl, .bllEyeStatus, .bllCheckFail, .bllLostCnt, .bllAdaptFreeze, .bllKeepaliveTx, .bllEyeErrors]

/-- The registers of the DSP page template (R530). -/
def Reg.dspPage : List Reg :=
  [.dspCtrl, .dspStatus, .dspFault, .dspFaultAddr, .dspMbox, .dspMboxOut, .dspRfeedCfg, .dspRfeedDrop, .dspIntMax, .dspPortErr]

/-- The registers of the GUARD page template (R531). -/
def Reg.guardPage : List Reg :=
  [.guardPeak, .guardRms, .guardDuty, .guardCause, .guardBmin, .guardBmax, .guardBrate, .guardBcause, .guardTrip, .guardForce, .guardBtrip, .guardLock, .guardNonce, .guardTripCnt, .guardClearRefused, .guardRaiseRefused]

/-- The registers of the OCH page template (R532). -/
def Reg.ochPage : List Reg :=
  [.ochSynCfg, .ochFdelay, .ochOutCfg, .ochSeqCfg, .ochVstart01, .ochVstart23, .ochVstart45, .ochVstart67, .ochRoleEpoch, .ochFbCfg, .ochStrmStatus, .ochTblAddr, .ochTblData, .ochJumpReq, .ochShdCommit, .ochShdVamp, .ochShdLoop01, .ochShdLoop23, .ochShdCh, .ochSeqStatus, .ochShdStatus, .ochShdToken, .ochFramePend, .ochTsetStatus, .ochStrmRemain, .ochRefusedInfo, .ochSatStage, .ochSeqErr, .ochOutStatus, .ochFbStatus, .ochSatCnt, .ochFrameLate, .ochFrameDrop, .ochFrameCollide, .ochWrRefusedCnt, .ochReqMerged, .ochReqDrop, .ochShdMerged, .ochUnderrun, .ochStrmExhaust, .ochStrmRebase, .ochSpecTaken, .ochSpecMiss, .ochLateDefaultCnt, .ochLateAbortCnt, .ochWaitCnt, .ochWaitGran, .ochWaitTimeout, .ochWaitXdev, .ochStaleMsg, .ochFrameApplySt, .ochShdApplySt, .ochStrmCursor, .ochStrmSched, .ochStrmPlayed, .ochStrmZero, .ochStrmSchedBase, .ochStrmPlayedBase, .ochStrmZeroBase]

/-- The registers of the RCH page template (R533). -/
def Reg.rchPage : List Reg :=
  [.rchRxCfg, .rchRxTrim, .rchFbCfg, .rchRoleEpoch, .rchToneEpoch, .rchIlv, .rchToneStatus, .rchFramePend, .rchRxStatus, .rchOvrGroups, .rchFrameLate, .rchFrameDrop, .rchFrameCollide, .rchClampCnt, .rchPartnerMark, .rchDecEarly, .rchDecUnknown, .rchDecForced, .rchToneSat, .rchWinAbort, .rchWinDelayed, .rchStaleMsg, .rchFrameApplySt, .rchOvrLastSt]

/-- The registers of the ACQ page template (R534). -/
def Reg.acqPage : List Reg :=
  [.acqCfg, .acqPre, .acqPost, .acqDelay, .acqHold, .acqAvg, .acqPartBase, .acqPartLen, .acqWrPtr, .acqRdPtr, .acqStatus, .acqTrigAccept, .acqHoldoffReject, .acqNoroomReject, .acqPreShortCnt, .acqRecords, .acqOverflowCnt, .acqSwtrig, .acqActive]

/-- The registers of the SCB page template (R534). -/
def Reg.scbPage : List Reg :=
  [.scbStatus, .scbTamperCause, .scbWipeCnt, .scbUnitId, .scbLcNonce]

/-- The registers of the CE page template (R534). -/
def Reg.cePage : List Reg :=
  [.qpCmdBase, .qpRplBase, .qpLen, .qpCtrl, .qpStatus, .ceStatus, .ceCmdCnt, .ceRefusedCnt, .ceWdogCnt, .ceUfaultCnt, .ceUcodeVer, .ceWdog]

/-- Every register, in the order of the register map. -/
def Reg.all : List Reg :=
  List.flatten [Reg.glbPage, Reg.timePage, Reg.thermPage, Reg.hkPage, Reg.calPage, Reg.evfPage, Reg.timerPage, Reg.dmaPage, Reg.jrnPage, Reg.blpPage, Reg.bllPage, Reg.dspPage, Reg.guardPage, Reg.ochPage, Reg.rchPage, Reg.acqPage, Reg.scbPage, Reg.cePage]


/-- A field of a register: bits [lo + width − 1 : lo]. -/
structure Fld where
  reg : Reg
  lo : Nat
  width : Nat
  deriving DecidableEq, Repr

abbrev Fld.glbCap0OchCount : Fld := ⟨.glbCap0, 0, 7⟩
abbrev Fld.glbCap0RchCount : Fld := ⟨.glbCap0, 8, 5⟩
abbrev Fld.glbCap0DspCount : Fld := ⟨.glbCap0, 16, 6⟩
abbrev Fld.glbCap0BlpMask : Fld := ⟨.glbCap0, 24, 4⟩
abbrev Fld.glbCap0DramStacks : Fld := ⟨.glbCap0, 28, 2⟩
abbrev Fld.glbCap1DramGib : Fld := ⟨.glbCap1, 0, 8⟩
abbrev Fld.glbCap1StreamSeg : Fld := ⟨.glbCap1, 8, 1⟩
abbrev Fld.glbCap1JrnSpill : Fld := ⟨.glbCap1, 9, 1⟩
abbrev Fld.glbCap1JrnOnchipPkts : Fld := ⟨.glbCap1, 10, 8⟩
abbrev Fld.glbCap1StreamBw : Fld := ⟨.glbCap1, 18, 10⟩
abbrev Fld.glbCap2Variant : Fld := ⟨.glbCap2, 0, 8⟩
abbrev Fld.glbCap2RevMinor : Fld := ⟨.glbCap2, 8, 4⟩
abbrev Fld.glbCap2RevMajor : Fld := ⟨.glbCap2, 12, 4⟩
abbrev Fld.glbCap2Acq : Fld := ⟨.glbCap2, 16, 1⟩
abbrev Fld.glbCap2Disc : Fld := ⟨.glbCap2, 17, 1⟩
abbrev Fld.glbCap3EvfCount : Fld := ⟨.glbCap3, 0, 9⟩
abbrev Fld.glbCap3DmaCount : Fld := ⟨.glbCap3, 9, 6⟩
abbrev Fld.glbCap3BdacCount : Fld := ⟨.glbCap3, 15, 6⟩
abbrev Fld.glbCap3TriginCount : Fld := ⟨.glbCap3, 21, 5⟩
abbrev Fld.glbCap3MrkCount : Fld := ⟨.glbCap3, 26, 6⟩
abbrev Fld.glbDevStateState : Fld := ⟨.glbDevState, 0, 3⟩
abbrev Fld.glbShotNumNum : Fld := ⟨.glbShotNum, 0, 48⟩
abbrev Fld.glbStrmAdmitReserved : Fld := ⟨.glbStrmAdmit, 0, 10⟩
abbrev Fld.glbStrmAdmitLimit : Fld := ⟨.glbStrmAdmit, 10, 10⟩
abbrev Fld.glbStrmAdmitHot : Fld := ⟨.glbStrmAdmit, 20, 1⟩
abbrev Fld.glbStrmAdmitOpen : Fld := ⟨.glbStrmAdmit, 21, 7⟩
abbrev Fld.glbDawnStatusStage : Fld := ⟨.glbDawnStatus, 0, 4⟩
abbrev Fld.glbDawnStatusFail : Fld := ⟨.glbDawnStatus, 4, 1⟩
abbrev Fld.glbDawnStatusReason : Fld := ⟨.glbDawnStatus, 8, 4⟩
abbrev Fld.glbResetCauseSource : Fld := ⟨.glbResetCause, 0, 3⟩
abbrev Fld.glbDecProducedCount : Fld := ⟨.glbDecProduced, 0, 48⟩
abbrev Fld.glbDecConsumedCount : Fld := ⟨.glbDecConsumed, 0, 48⟩
abbrev Fld.glbDecSupersededCount : Fld := ⟨.glbDecSuperseded, 0, 48⟩
abbrev Fld.glbDecStaleCount : Fld := ⟨.glbDecStale, 0, 48⟩
abbrev Fld.glbDecProducedBaseBase : Fld := ⟨.glbDecProducedBase, 0, 48⟩
abbrev Fld.glbDecConsumedBaseBase : Fld := ⟨.glbDecConsumedBase, 0, 48⟩
abbrev Fld.glbDecSupersededBaseBase : Fld := ⟨.glbDecSupersededBase, 0, 48⟩
abbrev Fld.glbDecStaleBaseBase : Fld := ⟨.glbDecStaleBase, 0, 48⟩
abbrev Fld.glbDecWinAddrSlot : Fld := ⟨.glbDecWinAddr, 0, 12⟩
abbrev Fld.glbDecWinDataWord : Fld := ⟨.glbDecWinData, 0, 4⟩
abbrev Fld.glbDecWinDataCounted : Fld := ⟨.glbDecWinData, 4, 1⟩
abbrev Fld.glbDecWinDataEpoch : Fld := ⟨.glbDecWinData, 8, 8⟩
abbrev Fld.glbDecWinDataShotTag : Fld := ⟨.glbDecWinData, 16, 16⟩
abbrev Fld.glbDecWinAuxStale : Fld := ⟨.glbDecWinAux, 0, 8⟩
abbrev Fld.glbDecWinAuxSource : Fld := ⟨.glbDecWinAux, 8, 6⟩
abbrev Fld.glbDecWinAuxAssigned : Fld := ⟨.glbDecWinAux, 16, 1⟩
abbrev Fld.glbFbStatusLatencyExcursion : Fld := ⟨.glbFbStatus, 0, 1⟩
abbrev Fld.glbFbStatusDecUncorr : Fld := ⟨.glbFbStatus, 1, 1⟩
abbrev Fld.glbLinkOutDestDev : Fld := ⟨.glbLinkOut, 0, 6⟩
abbrev Fld.glbBankPwrState0 : Fld := ⟨.glbBankPwr, 0, 2⟩
abbrev Fld.glbBankPwrState1 : Fld := ⟨.glbBankPwr, 2, 2⟩
abbrev Fld.glbBankPwrState2 : Fld := ⟨.glbBankPwr, 4, 2⟩
abbrev Fld.glbBankPwrState3 : Fld := ⟨.glbBankPwr, 6, 2⟩
abbrev Fld.glbBankPwrState4 : Fld := ⟨.glbBankPwr, 8, 2⟩
abbrev Fld.glbBankPwrState5 : Fld := ⟨.glbBankPwr, 10, 2⟩
abbrev Fld.glbBankPwrState6 : Fld := ⟨.glbBankPwr, 12, 2⟩
abbrev Fld.glbBankPwrState7 : Fld := ⟨.glbBankPwr, 14, 2⟩
abbrev Fld.glbBankPwrState8 : Fld := ⟨.glbBankPwr, 16, 2⟩
abbrev Fld.glbBankPwrState9 : Fld := ⟨.glbBankPwr, 18, 2⟩
abbrev Fld.glbBankPwrState10 : Fld := ⟨.glbBankPwr, 20, 2⟩
abbrev Fld.glbBankPwrState11 : Fld := ⟨.glbBankPwr, 22, 2⟩
abbrev Fld.glbBankPwrState12 : Fld := ⟨.glbBankPwr, 24, 2⟩
abbrev Fld.glbBankPwrState13 : Fld := ⟨.glbBankPwr, 26, 2⟩
abbrev Fld.glbBankPwrState14 : Fld := ⟨.glbBankPwr, 28, 2⟩
abbrev Fld.glbBankPwrState15 : Fld := ⟨.glbBankPwr, 30, 2⟩
abbrev Fld.glbEccLogCGroup : Fld := ⟨.glbEccLogC, 0, 8⟩
abbrev Fld.glbEccLogCBank : Fld := ⟨.glbEccLogC, 8, 4⟩
abbrev Fld.glbEccLogUGroup : Fld := ⟨.glbEccLogU, 0, 8⟩
abbrev Fld.glbEccLogUBank : Fld := ⟨.glbEccLogU, 8, 4⟩
abbrev Fld.glbEccLogUValid : Fld := ⟨.glbEccLogU, 31, 1⟩
abbrev Fld.glbScrubCfgRate : Fld := ⟨.glbScrubCfg, 0, 4⟩
abbrev Fld.glbRepairUsedEnv : Fld := ⟨.glbRepairUsed, 0, 16⟩
abbrev Fld.glbRepairUsedCap : Fld := ⟨.glbRepairUsed, 16, 16⟩
abbrev Fld.timeStatusPllLock : Fld := ⟨.timeStatus, 0, 1⟩
abbrev Fld.timeStatusRefPresent : Fld := ⟨.timeStatus, 1, 1⟩
abbrev Fld.timeStatusRefFreq : Fld := ⟨.timeStatus, 2, 2⟩
abbrev Fld.timeStatusHoldover : Fld := ⟨.timeStatus, 4, 1⟩
abbrev Fld.timeStatusMidnightSet : Fld := ⟨.timeStatus, 5, 1⟩
abbrev Fld.timeStatusSlewing : Fld := ⟨.timeStatus, 6, 1⟩
abbrev Fld.timeStatusSyncLocked : Fld := ⟨.timeStatus, 7, 1⟩
abbrev Fld.timeStatusSyncinArmed : Fld := ⟨.timeStatus, 8, 1⟩
abbrev Fld.timeStatusOffsetLarge : Fld := ⟨.timeStatus, 9, 1⟩
abbrev Fld.timeStatusRefLost : Fld := ⟨.timeStatus, 16, 1⟩
abbrev Fld.timeStatusLockLost : Fld := ⟨.timeStatus, 17, 1⟩
abbrev Fld.timeStatusSyncTimeout : Fld := ⟨.timeStatus, 18, 1⟩
abbrev Fld.timeSyncCfgRole : Fld := ⟨.timeSyncCfg, 0, 2⟩
abbrev Fld.timeSyncCfgUpPort : Fld := ⟨.timeSyncCfg, 2, 2⟩
abbrev Fld.timeSyncCfgFwdMask : Fld := ⟨.timeSyncCfg, 4, 4⟩
abbrev Fld.timeSyncCfgSyncInterval : Fld := ⟨.timeSyncCfg, 8, 5⟩
abbrev Fld.timeSyncCfgPdelayInterval : Fld := ⟨.timeSyncCfg, 13, 5⟩
abbrev Fld.timeSyncCfgServoEn : Fld := ⟨.timeSyncCfg, 18, 1⟩
abbrev Fld.timeSyncCfgDeviceId : Fld := ⟨.timeSyncCfg, 19, 6⟩
abbrev Fld.timeSlewRateRate : Fld := ⟨.timeSlewRate, 0, 10⟩
abbrev Fld.timePdelayDelay : Fld := ⟨.timePdelay, 0, 31⟩
abbrev Fld.timePdelayValid : Fld := ⟨.timePdelay, 31, 1⟩
abbrev Fld.timePathAsymAsym : Fld := ⟨.timePathAsym, 0, 16⟩
abbrev Fld.timeMrkLevel1Level : Fld := ⟨.timeMrkLevel1, 0, 16⟩
abbrev Fld.trigCfgEn : Fld := ⟨.trigCfg, 0, 1⟩
abbrev Fld.trigCfgEdge : Fld := ⟨.trigCfg, 1, 2⟩
abbrev Fld.trigCfgEvtEn : Fld := ⟨.trigCfg, 3, 1⟩
abbrev Fld.trigTsLoStLow : Fld := ⟨.trigTsLo, 4, 28⟩
abbrev Fld.trigTsLoFrac : Fld := ⟨.trigTsLo, 0, 4⟩
abbrev Fld.trigTsXStTop : Fld := ⟨.trigTsX, 0, 4⟩
abbrev Fld.trigTsXPreStep : Fld := ⟨.trigTsX, 4, 1⟩
abbrev Fld.trigTsXValid : Fld := ⟨.trigTsX, 5, 1⟩
abbrev Fld.trigTsXLevel : Fld := ⟨.trigTsX, 8, 5⟩
abbrev Fld.mrkCfgKind : Fld := ⟨.mrkCfg, 0, 2⟩
abbrev Fld.mrkCfgInvert : Fld := ⟨.mrkCfg, 2, 1⟩
abbrev Fld.mrkCfgIndex : Fld := ⟨.mrkCfg, 4, 8⟩
abbrev Fld.mrkCfgBit : Fld := ⟨.mrkCfg, 12, 2⟩
abbrev Fld.mrkCfgWidth : Fld := ⟨.mrkCfg, 16, 8⟩
abbrev Fld.mrkCfgRise : Fld := ⟨.mrkCfg, 24, 8⟩
abbrev Fld.thermStatusLevel : Fld := ⟨.thermStatus, 0, 2⟩
abbrev Fld.thermStatusThrLevel : Fld := ⟨.thermStatus, 2, 2⟩
abbrev Fld.thermStatusStopCause : Fld := ⟨.thermStatus, 4, 2⟩
abbrev Fld.thermCfgWarn : Fld := ⟨.thermCfg, 0, 8⟩
abbrev Fld.thermCfgThrottle : Fld := ⟨.thermCfg, 8, 8⟩
abbrev Fld.thermCfgStop : Fld := ⟨.thermCfg, 16, 8⟩
abbrev Fld.thermCfgTrip : Fld := ⟨.thermCfg, 24, 8⟩
abbrev Fld.thermDuskMaxUs : Fld := ⟨.thermDuskMax, 0, 17⟩
abbrev Fld.thermDuskRampMaxMs : Fld := ⟨.thermDuskRampMax, 0, 16⟩
abbrev Fld.thermMaxTemp : Fld := ⟨.thermMax, 0, 16⟩
abbrev Fld.thermMaxIdxSensor : Fld := ⟨.thermMaxIdx, 0, 5⟩
abbrev Fld.thermSensorFailFail : Fld := ⟨.thermSensorFail, 0, 24⟩
abbrev Fld.thermPwrStatusPwren : Fld := ⟨.thermPwrStatus, 0, 4⟩
abbrev Fld.thermPwrStatusPgood : Fld := ⟨.thermPwrStatus, 4, 4⟩
abbrev Fld.thermPwrStatusPwrfail : Fld := ⟨.thermPwrStatus, 8, 1⟩
abbrev Fld.thermVauxLogCause : Fld := ⟨.thermVauxLog, 0, 3⟩
abbrev Fld.thermVauxLogIndex : Fld := ⟨.thermVauxLog, 3, 5⟩
abbrev Fld.thermVauxLogCooling : Fld := ⟨.thermVauxLog, 8, 1⟩
abbrev Fld.thermVauxLogTemp : Fld := ⟨.thermVauxLog, 16, 16⟩
abbrev Fld.thermSensorTemp : Fld := ⟨.thermSensor, 0, 16⟩
abbrev Fld.thermSensorValid : Fld := ⟨.thermSensor, 16, 1⟩
abbrev Fld.thermOffsetOfs : Fld := ⟨.thermOffset, 0, 16⟩
abbrev Fld.bdacCfgRange : Fld := ⟨.bdacCfg, 0, 1⟩
abbrev Fld.bdacCfgSrc : Fld := ⟨.bdacCfg, 1, 1⟩
abbrev Fld.bdacCfgActive : Fld := ⟨.bdacCfg, 2, 1⟩
abbrev Fld.bdacSeqOch : Fld := ⟨.bdacSeq, 0, 7⟩
abbrev Fld.bdacSeqBit : Fld := ⟨.bdacSeq, 8, 2⟩
abbrev Fld.bdacSeqStart : Fld := ⟨.bdacSeq, 16, 8⟩
abbrev Fld.bdacSeqLenM1 : Fld := ⟨.bdacSeq, 24, 8⟩
abbrev Fld.bdacTargetCode : Fld := ⟨.bdacTarget, 0, 20⟩
abbrev Fld.bdacSlewStep : Fld := ⟨.bdacSlew, 0, 16⟩
abbrev Fld.bdacSlewInterval : Fld := ⟨.bdacSlew, 16, 15⟩
abbrev Fld.bdacStatusCode : Fld := ⟨.bdacStatus, 0, 20⟩
abbrev Fld.bdacStatusParked : Fld := ⟨.bdacStatus, 20, 1⟩
abbrev Fld.bdacStatusRamping : Fld := ⟨.bdacStatus, 21, 1⟩
abbrev Fld.bdacStatusRangeChange : Fld := ⟨.bdacStatus, 22, 1⟩
abbrev Fld.bdacStatusDeglitch : Fld := ⟨.bdacStatus, 23, 1⟩
abbrev Fld.bdacStatusOt : Fld := ⟨.bdacStatus, 24, 1⟩
abbrev Fld.bdacStatusOtSeen : Fld := ⟨.bdacStatus, 25, 1⟩
abbrev Fld.hkCfgRefEn : Fld := ⟨.hkCfg, 0, 1⟩
abbrev Fld.hkCfgScanLen : Fld := ⟨.hkCfg, 8, 6⟩
abbrev Fld.hkInjInput : Fld := ⟨.hkInj, 0, 6⟩
abbrev Fld.hkInjResultCode : Fld := ⟨.hkInjResult, 0, 16⟩
abbrev Fld.hkInjResultInput : Fld := ⟨.hkInjResult, 16, 6⟩
abbrev Fld.hkInjResultValid : Fld := ⟨.hkInjResult, 24, 1⟩
abbrev Fld.hkInjResultRefNotReady : Fld := ⟨.hkInjResult, 25, 1⟩
abbrev Fld.hkInjStatusPending : Fld := ⟨.hkInjStatus, 0, 1⟩
abbrev Fld.hkInjStatusLastDrop : Fld := ⟨.hkInjStatus, 1, 2⟩
abbrev Fld.hkStatusRefReady : Fld := ⟨.hkStatus, 0, 1⟩
abbrev Fld.hkStatusCalActive : Fld := ⟨.hkStatus, 1, 1⟩
abbrev Fld.hkStatusVrefBad : Fld := ⟨.hkStatus, 2, 1⟩
abbrev Fld.hkScanInput0 : Fld := ⟨.hkScan, 0, 6⟩
abbrev Fld.hkScanInput1 : Fld := ⟨.hkScan, 8, 6⟩
abbrev Fld.hkScanInput2 : Fld := ⟨.hkScan, 16, 6⟩
abbrev Fld.hkScanInput3 : Fld := ⟨.hkScan, 24, 6⟩
abbrev Fld.hkResultCode : Fld := ⟨.hkResult, 0, 16⟩
abbrev Fld.hkResultValid : Fld := ⟨.hkResult, 16, 1⟩
abbrev Fld.hkResultRefNotReady : Fld := ⟨.hkResult, 17, 1⟩
abbrev Fld.calCfgCalDt : Fld := ⟨.calCfg, 0, 8⟩
abbrev Fld.calCfgAutoMask : Fld := ⟨.calCfg, 8, 6⟩
abbrev Fld.calCfgAutosave : Fld := ⟨.calCfg, 14, 1⟩
abbrev Fld.calStaleStale : Fld := ⟨.calStale, 0, 16⟩
abbrev Fld.calStatusCalOverdue : Fld := ⟨.calStatus, 0, 6⟩
abbrev Fld.calStatusBusy : Fld := ⟨.calStatus, 6, 1⟩
abbrev Fld.calStatusDue : Fld := ⟨.calStatus, 8, 6⟩
abbrev Fld.calStatusOverdueSeen : Fld := ⟨.calStatus, 16, 1⟩
abbrev Fld.calUnitSelIndex : Fld := ⟨.calUnitSel, 0, 7⟩
abbrev Fld.calUnitSelKind : Fld := ⟨.calUnitSel, 8, 3⟩
abbrev Fld.calUnitStatusDue : Fld := ⟨.calUnitStatus, 0, 1⟩
abbrev Fld.calUnitStatusOverdue : Fld := ⟨.calUnitStatus, 1, 1⟩
abbrev Fld.calUnitStatusInSlice : Fld := ⟨.calUnitStatus, 2, 1⟩
abbrev Fld.calUnitStatusLastFail : Fld := ⟨.calUnitStatus, 3, 1⟩
abbrev Fld.calUnitStatusSensor : Fld := ⟨.calUnitStatus, 8, 5⟩
abbrev Fld.calLastTempTemp : Fld := ⟨.calLastTemp, 0, 16⟩
abbrev Fld.calNvmStatusSrc : Fld := ⟨.calNvmStatus, 0, 2⟩
abbrev Fld.calNvmStatusWorn : Fld := ⟨.calNvmStatus, 2, 1⟩
abbrev Fld.calNvmWearMax : Fld := ⟨.calNvmWear, 0, 14⟩
abbrev Fld.evfCfgStormN : Fld := ⟨.evfCfg, 0, 16⟩
abbrev Fld.evfCfgStormW : Fld := ⟨.evfCfg, 16, 16⟩
abbrev Fld.evfDbgEn : Fld := ⟨.evfDbg, 0, 1⟩
abbrev Fld.evfChSelCh : Fld := ⟨.evfChSel, 0, 8⟩
abbrev Fld.evfChRouteCons : Fld := ⟨.evfChRoute, 0, 10⟩
abbrev Fld.evfProdSelProd : Fld := ⟨.evfProdSel, 0, 10⟩
abbrev Fld.evfProdMapCh0 : Fld := ⟨.evfProdMap, 0, 8⟩
abbrev Fld.evfProdMapCh1 : Fld := ⟨.evfProdMap, 16, 8⟩
abbrev Fld.evfProdMapCh2 : Fld := ⟨.evfProdMap, 32, 8⟩
abbrev Fld.evfProdMapCh3 : Fld := ⟨.evfProdMap, 48, 8⟩
abbrev Fld.evfProdMapValid0 : Fld := ⟨.evfProdMap, 8, 1⟩
abbrev Fld.evfProdMapValid1 : Fld := ⟨.evfProdMap, 24, 1⟩
abbrev Fld.evfProdMapValid2 : Fld := ⟨.evfProdMap, 40, 1⟩
abbrev Fld.evfProdMapValid3 : Fld := ⟨.evfProdMap, 56, 1⟩
abbrev Fld.evfStagedPending : Fld := ⟨.evfStaged, 0, 1⟩
abbrev Fld.evfSnapCfgSnapinEn : Fld := ⟨.evfSnapCfg, 0, 1⟩
abbrev Fld.evfSnapCfgHold : Fld := ⟨.evfSnapCfg, 1, 1⟩
abbrev Fld.evfSnapStatusHeld : Fld := ⟨.evfSnapStatus, 0, 1⟩
abbrev Fld.evfSnapStatusSource : Fld := ⟨.evfSnapStatus, 1, 2⟩
abbrev Fld.evfFiredCount : Fld := ⟨.evfFired, 0, 48⟩
abbrev Fld.evfDeliveredCount : Fld := ⟨.evfDelivered, 0, 48⟩
abbrev Fld.evfCoalescedCount : Fld := ⟨.evfCoalesced, 0, 48⟩
abbrev Fld.evfSuppressedCount : Fld := ⟨.evfSuppressed, 0, 48⟩
abbrev Fld.evfFiredBaseBase : Fld := ⟨.evfFiredBase, 0, 48⟩
abbrev Fld.evfDeliveredBaseBase : Fld := ⟨.evfDeliveredBase, 0, 48⟩
abbrev Fld.evfCoalescedBaseBase : Fld := ⟨.evfCoalescedBase, 0, 48⟩
abbrev Fld.evfSuppressedBaseBase : Fld := ⟨.evfSuppressedBase, 0, 48⟩
abbrev Fld.timerStartSt : Fld := ⟨.timerStart, 5, 59⟩
abbrev Fld.timerCtrlEn : Fld := ⟨.timerCtrl, 0, 1⟩
abbrev Fld.timerCtrlCount : Fld := ⟨.timerCtrl, 8, 24⟩
abbrev Fld.dmaCtrlRun : Fld := ⟨.dmaCtrl, 0, 1⟩
abbrev Fld.dmaCtrlShare : Fld := ⟨.dmaCtrl, 8, 8⟩
abbrev Fld.dmaCtrlBurst : Fld := ⟨.dmaCtrl, 16, 3⟩
abbrev Fld.dmaRingLenLen : Fld := ⟨.dmaRingLen, 0, 17⟩
abbrev Fld.dmaTailIndex : Fld := ⟨.dmaTail, 0, 16⟩
abbrev Fld.dmaHeadIndex : Fld := ⟨.dmaHead, 0, 16⟩
abbrev Fld.dmaStatusState : Fld := ⟨.dmaStatus, 0, 2⟩
abbrev Fld.dmaStatusErr : Fld := ⟨.dmaStatus, 8, 1⟩
abbrev Fld.dmaStatusGroupHalt : Fld := ⟨.dmaStatus, 9, 1⟩
abbrev Fld.dmaStatusPtrErr : Fld := ⟨.dmaStatus, 10, 1⟩
abbrev Fld.dmaErrInfoKind : Fld := ⟨.dmaErrInfo, 0, 5⟩
abbrev Fld.dmaErrInfoDir : Fld := ⟨.dmaErrInfo, 5, 1⟩
abbrev Fld.dmaErrInfoSide : Fld := ⟨.dmaErrInfo, 6, 1⟩
abbrev Fld.dmaRingBaseAddr : Fld := ⟨.dmaRingBase, 12, 52⟩
abbrev Fld.dmaBytesReqCount : Fld := ⟨.dmaBytesReq, 0, 48⟩
abbrev Fld.dmaBytesXferCount : Fld := ⟨.dmaBytesXfer, 0, 48⟩
abbrev Fld.dmaBytesFailCount : Fld := ⟨.dmaBytesFail, 0, 48⟩
abbrev Fld.dmaBytesReqBaseBase : Fld := ⟨.dmaBytesReqBase, 0, 48⟩
abbrev Fld.dmaBytesXferBaseBase : Fld := ⟨.dmaBytesXferBase, 0, 48⟩
abbrev Fld.dmaBytesFailBaseBase : Fld := ⟨.dmaBytesFailBase, 0, 48⟩
abbrev Fld.grpPfStatusPfErr : Fld := ⟨.grpPfStatus, 0, 1⟩
abbrev Fld.grpPfStatusKind : Fld := ⟨.grpPfStatus, 1, 5⟩
abbrev Fld.jrnCfgSpillEn : Fld := ⟨.jrnCfg, 0, 1⟩
abbrev Fld.jrnCfgFlushMax : Fld := ⟨.jrnCfg, 8, 8⟩
abbrev Fld.jrnWmWmBlk : Fld := ⟨.jrnWm, 0, 24⟩
abbrev Fld.jrnHostLenLen4k : Fld := ⟨.jrnHostLen, 0, 19⟩
abbrev Fld.jrnSpillBaseBase1m : Fld := ⟨.jrnSpillBase, 0, 14⟩
abbrev Fld.jrnSpillLenLen16m : Fld := ⟨.jrnSpillLen, 0, 7⟩
abbrev Fld.jrnHostWrBlk : Fld := ⟨.jrnHostWr, 0, 24⟩
abbrev Fld.jrnHostRdBlk : Fld := ⟨.jrnHostRd, 0, 24⟩
abbrev Fld.jrnStatusOpen : Fld := ⟨.jrnStatus, 0, 1⟩
abbrev Fld.jrnStatusHead : Fld := ⟨.jrnStatus, 1, 7⟩
abbrev Fld.jrnStatusTail : Fld := ⟨.jrnStatus, 8, 7⟩
abbrev Fld.jrnStatusPtrErr : Fld := ⟨.jrnStatus, 16, 1⟩
abbrev Fld.jrnStartedCount : Fld := ⟨.jrnStarted, 0, 48⟩
abbrev Fld.jrnCommittedCount : Fld := ⟨.jrnCommitted, 0, 48⟩
abbrev Fld.jrnRewoundCount : Fld := ⟨.jrnRewound, 0, 48⟩
abbrev Fld.jrnDrainedCount : Fld := ⟨.jrnDrained, 0, 48⟩
abbrev Fld.jrnResidentCount : Fld := ⟨.jrnResident, 0, 48⟩
abbrev Fld.jrnLostCount : Fld := ⟨.jrnLost, 0, 48⟩
abbrev Fld.jrnStartedBaseBase : Fld := ⟨.jrnStartedBase, 0, 48⟩
abbrev Fld.jrnCommittedBaseBase : Fld := ⟨.jrnCommittedBase, 0, 48⟩
abbrev Fld.jrnRewoundBaseBase : Fld := ⟨.jrnRewoundBase, 0, 48⟩
abbrev Fld.jrnDrainedBaseBase : Fld := ⟨.jrnDrainedBase, 0, 48⟩
abbrev Fld.jrnResidentBaseBase : Fld := ⟨.jrnResidentBase, 0, 48⟩
abbrev Fld.jrnLostBaseBase : Fld := ⟨.jrnLostBase, 0, 48⟩
abbrev Fld.blpCfgLaneMask : Fld := ⟨.blpCfg, 0, 4⟩
abbrev Fld.blpCfgLockMode : Fld := ⟨.blpCfg, 4, 1⟩
abbrev Fld.blpCfgLinkTimeout : Fld := ⟨.blpCfg, 16, 16⟩
abbrev Fld.blpStatusState : Fld := ⟨.blpStatus, 0, 2⟩
abbrev Fld.blpStatusStage : Fld := ⟨.blpStatus, 2, 4⟩
abbrev Fld.blpStatusTxMap : Fld := ⟨.blpStatus, 8, 4⟩
abbrev Fld.blpStatusRxMap : Fld := ⟨.blpStatus, 12, 4⟩
abbrev Fld.blpStatusPeerDev : Fld := ⟨.blpStatus, 16, 6⟩
abbrev Fld.blpStatusReversed : Fld := ⟨.blpStatus, 22, 1⟩
abbrev Fld.blpStatusReplayFail : Fld := ⟨.blpStatus, 24, 1⟩
abbrev Fld.blpStatusAuditFail : Fld := ⟨.blpStatus, 25, 1⟩
abbrev Fld.blpStatusLaneOrderErr : Fld := ⟨.blpStatus, 26, 1⟩
abbrev Fld.blpStatusSleepErr : Fld := ⟨.blpStatus, 27, 1⟩
abbrev Fld.blpBlSentCount : Fld := ⟨.blpBlSent, 0, 48⟩
abbrev Fld.blpBlAckedCount : Fld := ⟨.blpBlAcked, 0, 48⟩
abbrev Fld.blpBlUnackedCount : Fld := ⟨.blpBlUnacked, 0, 48⟩
abbrev Fld.blpBlRxCopiesCount : Fld := ⟨.blpBlRxCopies, 0, 48⟩
abbrev Fld.blpBlDeliveredCount : Fld := ⟨.blpBlDelivered, 0, 48⟩
abbrev Fld.blpBlDiscardedCount : Fld := ⟨.blpBlDiscarded, 0, 48⟩
abbrev Fld.blpBlSentBaseBase : Fld := ⟨.blpBlSentBase, 0, 48⟩
abbrev Fld.blpBlAckedBaseBase : Fld := ⟨.blpBlAckedBase, 0, 48⟩
abbrev Fld.blpBlUnackedBaseBase : Fld := ⟨.blpBlUnackedBase, 0, 48⟩
abbrev Fld.blpBlRxCopiesBaseBase : Fld := ⟨.blpBlRxCopiesBase, 0, 48⟩
abbrev Fld.blpBlDeliveredBaseBase : Fld := ⟨.blpBlDeliveredBase, 0, 48⟩
abbrev Fld.blpBlDiscardedBaseBase : Fld := ⟨.blpBlDiscardedBase, 0, 48⟩
abbrev Fld.blpCredGrantedDecCount : Fld := ⟨.blpCredGrantedDec, 0, 48⟩
abbrev Fld.blpCredReturnedDecCount : Fld := ⟨.blpCredReturnedDec, 0, 48⟩
abbrev Fld.blpCredOutstandingDecCount : Fld := ⟨.blpCredOutstandingDec, 0, 48⟩
abbrev Fld.blpCredGrantedBulkCount : Fld := ⟨.blpCredGrantedBulk, 0, 48⟩
abbrev Fld.blpCredReturnedBulkCount : Fld := ⟨.blpCredReturnedBulk, 0, 48⟩
abbrev Fld.blpCredOutstandingBulkCount : Fld := ⟨.blpCredOutstandingBulk, 0, 48⟩
abbrev Fld.blpCredGrantedDecBaseBase : Fld := ⟨.blpCredGrantedDecBase, 0, 48⟩
abbrev Fld.blpCredReturnedDecBaseBase : Fld := ⟨.blpCredReturnedDecBase, 0, 48⟩
abbrev Fld.blpCredOutstandingDecBaseBase : Fld := ⟨.blpCredOutstandingDecBase, 0, 48⟩
abbrev Fld.blpCredGrantedBulkBaseBase : Fld := ⟨.blpCredGrantedBulkBase, 0, 48⟩
abbrev Fld.blpCredReturnedBulkBaseBase : Fld := ⟨.blpCredReturnedBulkBase, 0, 48⟩
abbrev Fld.blpCredOutstandingBulkBaseBase : Fld := ⟨.blpCredOutstandingBulkBase, 0, 48⟩
abbrev Fld.bllStatusState : Fld := ⟨.bllStatus, 0, 3⟩
abbrev Fld.bllStatusCdrLock : Fld := ⟨.bllStatus, 3, 1⟩
abbrev Fld.bllStatusHdrOk : Fld := ⟨.bllStatus, 4, 1⟩
abbrev Fld.bllStatusInverted : Fld := ⟨.bllStatus, 5, 1⟩
abbrev Fld.bllStatusLogical : Fld := ⟨.bllStatus, 6, 2⟩
abbrev Fld.bllStatusSkewUi : Fld := ⟨.bllStatus, 8, 7⟩
abbrev Fld.bllStatusAdaptFrozen : Fld := ⟨.bllStatus, 15, 1⟩
abbrev Fld.bllStatusRxSleepPend : Fld := ⟨.bllStatus, 16, 1⟩
abbrev Fld.bllBitslipSlip : Fld := ⟨.bllBitslip, 0, 1⟩
abbrev Fld.bllSleepTxSleep : Fld := ⟨.bllSleep, 0, 1⟩
abbrev Fld.bllSleepRxSleep : Fld := ⟨.bllSleep, 1, 1⟩
abbrev Fld.bllAdaptTdMin : Fld := ⟨.bllAdapt, 0, 6⟩
abbrev Fld.bllEyeCtrlPhase : Fld := ⟨.bllEyeCtrl, 0, 6⟩
abbrev Fld.bllEyeCtrlVolt : Fld := ⟨.bllEyeCtrl, 8, 8⟩
abbrev Fld.bllEyeCtrlDwell : Fld := ⟨.bllEyeCtrl, 16, 6⟩
abbrev Fld.bllEyeCtrlStart : Fld := ⟨.bllEyeCtrl, 31, 1⟩
abbrev Fld.bllEyeStatusDone : Fld := ⟨.bllEyeStatus, 0, 1⟩
abbrev Fld.bllEyeStatusValid : Fld := ⟨.bllEyeStatus, 1, 1⟩
abbrev Fld.dspCtrlEntry : Fld := ⟨.dspCtrl, 0, 14⟩
abbrev Fld.dspStatusState : Fld := ⟨.dspStatus, 0, 2⟩
abbrev Fld.dspStatusInHandler : Fld := ⟨.dspStatus, 2, 1⟩
abbrev Fld.dspStatusInRepeat : Fld := ⟨.dspStatus, 3, 1⟩
abbrev Fld.dspStatusSleep : Fld := ⟨.dspStatus, 4, 1⟩
abbrev Fld.dspStatusPc : Fld := ⟨.dspStatus, 16, 14⟩
abbrev Fld.dspFaultCause : Fld := ⟨.dspFault, 0, 4⟩
abbrev Fld.dspFaultFpc : Fld := ⟨.dspFault, 4, 14⟩
abbrev Fld.dspRfeedCfgRch : Fld := ⟨.dspRfeedCfg, 0, 24⟩
abbrev Fld.dspRfeedCfgWm : Fld := ⟨.dspRfeedCfg, 24, 7⟩
abbrev Fld.dspIntMaxCycles : Fld := ⟨.dspIntMax, 0, 16⟩
abbrev Fld.guardPeakPeakLim : Fld := ⟨.guardPeak, 0, 16⟩
abbrev Fld.guardRmsRmsLim : Fld := ⟨.guardRms, 0, 16⟩
abbrev Fld.guardDutyDutyLim : Fld := ⟨.guardDuty, 0, 11⟩
abbrev Fld.guardDutyDutyThr : Fld := ⟨.guardDuty, 16, 16⟩
abbrev Fld.guardCausePeak : Fld := ⟨.guardCause, 0, 1⟩
abbrev Fld.guardCauseRms : Fld := ⟨.guardCause, 1, 1⟩
abbrev Fld.guardCauseDuty : Fld := ⟨.guardCause, 2, 1⟩
abbrev Fld.guardCauseForced : Fld := ⟨.guardCause, 3, 1⟩
abbrev Fld.guardBminBmin : Fld := ⟨.guardBmin, 0, 20⟩
abbrev Fld.guardBmaxBmax : Fld := ⟨.guardBmax, 0, 20⟩
abbrev Fld.guardBrateBrate : Fld := ⟨.guardBrate, 0, 24⟩
abbrev Fld.guardBcauseRange : Fld := ⟨.guardBcause, 0, 1⟩
abbrev Fld.guardBcauseRate : Fld := ⟨.guardBcause, 1, 1⟩
abbrev Fld.guardBcauseOvertemp : Fld := ⟨.guardBcause, 2, 1⟩
abbrev Fld.guardLockLocked : Fld := ⟨.guardLock, 0, 1⟩
abbrev Fld.ochSynCfgDirect : Fld := ⟨.ochSynCfg, 0, 1⟩
abbrev Fld.ochSynCfgDirectFmt : Fld := ⟨.ochSynCfg, 1, 1⟩
abbrev Fld.ochFdelayUser : Fld := ⟨.ochFdelay, 0, 9⟩
abbrev Fld.ochFdelayCal : Fld := ⟨.ochFdelay, 16, 7⟩
abbrev Fld.ochOutCfgMode : Fld := ⟨.ochOutCfg, 0, 2⟩
abbrev Fld.ochOutCfgEn : Fld := ⟨.ochOutCfg, 2, 1⟩
abbrev Fld.ochOutCfgFsCode : Fld := ⟨.ochOutCfg, 8, 8⟩
abbrev Fld.ochSeqCfgAsyncVmask : Fld := ⟨.ochSeqCfg, 0, 8⟩
abbrev Fld.ochSeqCfgAsyncEin : Fld := ⟨.ochSeqCfg, 8, 2⟩
abbrev Fld.ochSeqCfgAsyncEinEn : Fld := ⟨.ochSeqCfg, 10, 1⟩
abbrev Fld.ochSeqCfgTsetIdle : Fld := ⟨.ochSeqCfg, 16, 3⟩
abbrev Fld.ochVstart01EntryE : Fld := ⟨.ochVstart01, 0, 12⟩
abbrev Fld.ochVstart01EnE : Fld := ⟨.ochVstart01, 15, 1⟩
abbrev Fld.ochVstart01EntryO : Fld := ⟨.ochVstart01, 16, 12⟩
abbrev Fld.ochVstart01EnO : Fld := ⟨.ochVstart01, 31, 1⟩
abbrev Fld.ochVstart23EntryE : Fld := ⟨.ochVstart23, 0, 12⟩
abbrev Fld.ochVstart23EnE : Fld := ⟨.ochVstart23, 15, 1⟩
abbrev Fld.ochVstart23EntryO : Fld := ⟨.ochVstart23, 16, 12⟩
abbrev Fld.ochVstart23EnO : Fld := ⟨.ochVstart23, 31, 1⟩
abbrev Fld.ochVstart45EntryE : Fld := ⟨.ochVstart45, 0, 12⟩
abbrev Fld.ochVstart45EnE : Fld := ⟨.ochVstart45, 15, 1⟩
abbrev Fld.ochVstart45EntryO : Fld := ⟨.ochVstart45, 16, 12⟩
abbrev Fld.ochVstart45EnO : Fld := ⟨.ochVstart45, 31, 1⟩
abbrev Fld.ochVstart67EntryE : Fld := ⟨.ochVstart67, 0, 12⟩
abbrev Fld.ochVstart67EnE : Fld := ⟨.ochVstart67, 15, 1⟩
abbrev Fld.ochVstart67EntryO : Fld := ⟨.ochVstart67, 16, 12⟩
abbrev Fld.ochVstart67EnO : Fld := ⟨.ochVstart67, 31, 1⟩
abbrev Fld.ochRoleEpochEpoch : Fld := ⟨.ochRoleEpoch, 0, 8⟩
abbrev Fld.ochRoleEpochRole : Fld := ⟨.ochRoleEpoch, 8, 3⟩
abbrev Fld.ochFbCfgSgrp : Fld := ⟨.ochFbCfg, 0, 5⟩
abbrev Fld.ochFbCfgSgEn : Fld := ⟨.ochFbCfg, 5, 1⟩
abbrev Fld.ochFbCfgLanes : Fld := ⟨.ochFbCfg, 8, 4⟩
abbrev Fld.ochFbCfgWaitMax : Fld := ⟨.ochFbCfg, 16, 13⟩
abbrev Fld.ochStrmStatusDesc : Fld := ⟨.ochStrmStatus, 0, 10⟩
abbrev Fld.ochStrmStatusOpen : Fld := ⟨.ochStrmStatus, 10, 1⟩
abbrev Fld.ochStrmStatusPrimed : Fld := ⟨.ochStrmStatus, 11, 1⟩
abbrev Fld.ochStrmStatusZeroing : Fld := ⟨.ochStrmStatus, 12, 1⟩
abbrev Fld.ochStrmStatusMismatch : Fld := ⟨.ochStrmStatus, 13, 1⟩
abbrev Fld.ochStrmStatusLevel : Fld := ⟨.ochStrmStatus, 16, 10⟩
abbrev Fld.ochTblAddrIndex : Fld := ⟨.ochTblAddr, 0, 12⟩
abbrev Fld.ochTblAddrTable : Fld := ⟨.ochTblAddr, 12, 2⟩
abbrev Fld.ochTblAddrWord : Fld := ⟨.ochTblAddr, 16, 4⟩
abbrev Fld.ochTblAddrAutoinc : Fld := ⟨.ochTblAddr, 31, 1⟩
abbrev Fld.ochJumpReqVmask : Fld := ⟨.ochJumpReq, 0, 8⟩
abbrev Fld.ochShdCommitToken : Fld := ⟨.ochShdCommit, 0, 16⟩
abbrev Fld.ochShdCommitVmask : Fld := ⟨.ochShdCommit, 16, 8⟩
abbrev Fld.ochShdCommitCh : Fld := ⟨.ochShdCommit, 24, 1⟩
abbrev Fld.ochShdVampAmpReg : Fld := ⟨.ochShdVamp, 0, 16⟩
abbrev Fld.ochShdVampAmpSrc : Fld := ⟨.ochShdVamp, 16, 1⟩
abbrev Fld.ochShdLoop01Load0 : Fld := ⟨.ochShdLoop01, 0, 16⟩
abbrev Fld.ochShdLoop01Load1 : Fld := ⟨.ochShdLoop01, 16, 16⟩
abbrev Fld.ochShdLoop23Load2 : Fld := ⟨.ochShdLoop23, 0, 16⟩
abbrev Fld.ochShdLoop23Load3 : Fld := ⟨.ochShdLoop23, 16, 16⟩
abbrev Fld.ochShdChMarkEn : Fld := ⟨.ochShdCh, 0, 4⟩
abbrev Fld.ochShdChVoiceEn : Fld := ⟨.ochShdCh, 8, 8⟩
abbrev Fld.ochSeqStatusRun : Fld := ⟨.ochSeqStatus, 0, 8⟩
abbrev Fld.ochSeqStatusDone : Fld := ⟨.ochSeqStatus, 8, 8⟩
abbrev Fld.ochSeqStatusAsyncPend : Fld := ⟨.ochSeqStatus, 16, 8⟩
abbrev Fld.ochSeqStatusShotActive : Fld := ⟨.ochSeqStatus, 24, 1⟩
abbrev Fld.ochShdStatusCommitted : Fld := ⟨.ochShdStatus, 0, 9⟩
abbrev Fld.ochShdStatusShadowPending : Fld := ⟨.ochShdStatus, 16, 9⟩
abbrev Fld.ochShdTokenLastToken : Fld := ⟨.ochShdToken, 0, 16⟩
abbrev Fld.ochFramePendLevel : Fld := ⟨.ochFramePend, 0, 5⟩
abbrev Fld.ochTsetStatusSet : Fld := ⟨.ochTsetStatus, 0, 3⟩
abbrev Fld.ochTsetStatusFineNow : Fld := ⟨.ochTsetStatus, 8, 8⟩
abbrev Fld.ochTsetStatusRamping : Fld := ⟨.ochTsetStatus, 16, 1⟩
abbrev Fld.ochRefusedInfoIndex : Fld := ⟨.ochRefusedInfo, 0, 14⟩
abbrev Fld.ochRefusedInfoTarget : Fld := ⟨.ochRefusedInfo, 14, 2⟩
abbrev Fld.ochRefusedInfoPath : Fld := ⟨.ochRefusedInfo, 16, 2⟩
abbrev Fld.ochSatStageDrag : Fld := ⟨.ochSatStage, 0, 1⟩
abbrev Fld.ochSatStageInterp : Fld := ⟨.ochSatStage, 1, 1⟩
abbrev Fld.ochSatStageScale : Fld := ⟨.ochSatStage, 2, 1⟩
abbrev Fld.ochSatStageSum : Fld := ⟨.ochSatStage, 3, 1⟩
abbrev Fld.ochSatStageFdelay : Fld := ⟨.ochSatStage, 4, 1⟩
abbrev Fld.ochSatStageDac : Fld := ⟨.ochSatStage, 5, 1⟩
abbrev Fld.ochSeqErrWriteRefused : Fld := ⟨.ochSeqErr, 0, 1⟩
abbrev Fld.ochSeqErrBadEntry : Fld := ⟨.ochSeqErr, 1, 1⟩
abbrev Fld.ochOutStatusState : Fld := ⟨.ochOutStatus, 0, 2⟩
abbrev Fld.ochOutStatusGuardMuted : Fld := ⟨.ochOutStatus, 2, 1⟩
abbrev Fld.ochOutStatusTileOt : Fld := ⟨.ochOutStatus, 3, 1⟩
abbrev Fld.ochOutStatusTileOtSeen : Fld := ⟨.ochOutStatus, 16, 1⟩
abbrev Fld.ochFbStatusLanesBusy : Fld := ⟨.ochFbStatus, 0, 4⟩
abbrev Fld.ochFbStatusWaiting : Fld := ⟨.ochFbStatus, 4, 1⟩
abbrev Fld.ochFbStatusMissNoLane : Fld := ⟨.ochFbStatus, 16, 1⟩
abbrev Fld.ochFbStatusMissNested : Fld := ⟨.ochFbStatus, 17, 1⟩
abbrev Fld.ochStrmCursorPlayBlk : Fld := ⟨.ochStrmCursor, 0, 28⟩
abbrev Fld.ochStrmCursorFetchBlk : Fld := ⟨.ochStrmCursor, 32, 28⟩
abbrev Fld.ochStrmSchedCount : Fld := ⟨.ochStrmSched, 0, 48⟩
abbrev Fld.ochStrmPlayedCount : Fld := ⟨.ochStrmPlayed, 0, 48⟩
abbrev Fld.ochStrmZeroCount : Fld := ⟨.ochStrmZero, 0, 48⟩
abbrev Fld.ochStrmSchedBaseBase : Fld := ⟨.ochStrmSchedBase, 0, 48⟩
abbrev Fld.ochStrmPlayedBaseBase : Fld := ⟨.ochStrmPlayedBase, 0, 48⟩
abbrev Fld.ochStrmZeroBaseBase : Fld := ⟨.ochStrmZeroBase, 0, 48⟩
abbrev Fld.rchRxCfgEn : Fld := ⟨.rchRxCfg, 0, 1⟩
abbrev Fld.rchRxCfgMode : Fld := ⟨.rchRxCfg, 1, 1⟩
abbrev Fld.rchRxCfgOvrHold : Fld := ⟨.rchRxCfg, 8, 6⟩
abbrev Fld.rchRxTrimChskew : Fld := ⟨.rchRxTrim, 0, 10⟩
abbrev Fld.rchFbCfgSgrp : Fld := ⟨.rchFbCfg, 0, 5⟩
abbrev Fld.rchFbCfgSgEn : Fld := ⟨.rchFbCfg, 5, 1⟩
abbrev Fld.rchRoleEpochEpoch : Fld := ⟨.rchRoleEpoch, 0, 8⟩
abbrev Fld.rchRoleEpochRole : Fld := ⟨.rchRoleEpoch, 8, 1⟩
abbrev Fld.rchToneEpochEpochA : Fld := ⟨.rchToneEpoch, 0, 8⟩
abbrev Fld.rchToneEpochEpochB : Fld := ⟨.rchToneEpoch, 8, 8⟩
abbrev Fld.rchToneEpochEpochC : Fld := ⟨.rchToneEpoch, 16, 8⟩
abbrev Fld.rchToneEpochEpochD : Fld := ⟨.rchToneEpoch, 24, 8⟩
abbrev Fld.rchIlvOfs : Fld := ⟨.rchIlv, 0, 8⟩
abbrev Fld.rchIlvGain : Fld := ⟨.rchIlv, 8, 12⟩
abbrev Fld.rchIlvSkew : Fld := ⟨.rchIlv, 20, 8⟩
abbrev Fld.rchToneStatusOpen : Fld := ⟨.rchToneStatus, 0, 16⟩
abbrev Fld.rchToneStatusPart : Fld := ⟨.rchToneStatus, 16, 16⟩
abbrev Fld.rchRxStatusState : Fld := ⟨.rchRxStatus, 0, 2⟩
abbrev Fld.rchRxStatusOvrNow : Fld := ⟨.rchRxStatus, 2, 1⟩
abbrev Fld.rchRxStatusClampNow : Fld := ⟨.rchRxStatus, 3, 1⟩
abbrev Fld.rchRxStatusOverload : Fld := ⟨.rchRxStatus, 16, 1⟩
abbrev Fld.rchRxStatusClampSeen : Fld := ⟨.rchRxStatus, 17, 1⟩
abbrev Fld.rchRxStatusPartnerSeen : Fld := ⟨.rchRxStatus, 18, 1⟩
abbrev Fld.acqCfgMode : Fld := ⟨.acqCfg, 0, 1⟩
abbrev Fld.acqCfgSource : Fld := ⟨.acqCfg, 1, 3⟩
abbrev Fld.acqCfgRch : Fld := ⟨.acqCfg, 4, 5⟩
abbrev Fld.acqCfgTone : Fld := ⟨.acqCfg, 9, 4⟩
abbrev Fld.acqCfgDest : Fld := ⟨.acqCfg, 13, 1⟩
abbrev Fld.acqCfgTsrc : Fld := ⟨.acqCfg, 14, 3⟩
abbrev Fld.acqCfgTindex : Fld := ⟨.acqCfg, 17, 5⟩
abbrev Fld.acqCfgHoldMode : Fld := ⟨.acqCfg, 22, 1⟩
abbrev Fld.acqCfgStreamGate : Fld := ⟨.acqCfg, 23, 1⟩
abbrev Fld.acqPrePre : Fld := ⟨.acqPre, 0, 12⟩
abbrev Fld.acqPostPost : Fld := ⟨.acqPost, 0, 24⟩
abbrev Fld.acqDelayDelay : Fld := ⟨.acqDelay, 0, 24⟩
abbrev Fld.acqAvgAvgN : Fld := ⟨.acqAvg, 0, 13⟩
abbrev Fld.acqAvgAvgShift : Fld := ⟨.acqAvg, 16, 4⟩
abbrev Fld.acqPartBaseBase4k : Fld := ⟨.acqPartBase, 0, 22⟩
abbrev Fld.acqPartLenLen4k : Fld := ⟨.acqPartLen, 0, 22⟩
abbrev Fld.acqWrPtrPtr : Fld := ⟨.acqWrPtr, 0, 29⟩
abbrev Fld.acqRdPtrPtr : Fld := ⟨.acqRdPtr, 0, 29⟩
abbrev Fld.acqStatusState : Fld := ⟨.acqStatus, 0, 2⟩
abbrev Fld.acqStatusHolding : Fld := ⟨.acqStatus, 2, 1⟩
abbrev Fld.acqStatusPreFull : Fld := ⟨.acqStatus, 3, 1⟩
abbrev Fld.acqStatusStopCause : Fld := ⟨.acqStatus, 4, 3⟩
abbrev Fld.acqStatusOvfSeen : Fld := ⟨.acqStatus, 16, 1⟩
abbrev Fld.acqStatusPtrErr : Fld := ⟨.acqStatus, 17, 1⟩
abbrev Fld.acqSwtrigUmask : Fld := ⟨.acqSwtrig, 0, 24⟩
abbrev Fld.acqActiveUmask : Fld := ⟨.acqActive, 0, 24⟩
abbrev Fld.scbStatusLcState : Fld := ⟨.scbStatus, 0, 3⟩
abbrev Fld.scbStatusTamper : Fld := ⟨.scbStatus, 3, 1⟩
abbrev Fld.scbStatusWiping : Fld := ⟨.scbStatus, 4, 1⟩
abbrev Fld.scbStatusGuardKey : Fld := ⟨.scbStatus, 5, 1⟩
abbrev Fld.scbStatusLcPairsLeft : Fld := ⟨.scbStatus, 6, 4⟩
abbrev Fld.scbTamperCauseCause : Fld := ⟨.scbTamperCause, 0, 4⟩
abbrev Fld.qpCmdBaseAddr : Fld := ⟨.qpCmdBase, 12, 52⟩
abbrev Fld.qpRplBaseAddr : Fld := ⟨.qpRplBase, 12, 52⟩
abbrev Fld.qpLenCmdLen : Fld := ⟨.qpLen, 0, 13⟩
abbrev Fld.qpLenRplLen : Fld := ⟨.qpLen, 16, 13⟩
abbrev Fld.qpCtrlEn : Fld := ⟨.qpCtrl, 0, 1⟩
abbrev Fld.qpStatusCfgErr : Fld := ⟨.qpStatus, 0, 1⟩
abbrev Fld.qpStatusPtrErr : Fld := ⟨.qpStatus, 1, 1⟩
abbrev Fld.qpStatusFetchErr : Fld := ⟨.qpStatus, 2, 1⟩
abbrev Fld.qpStatusCplHeld : Fld := ⟨.qpStatus, 3, 1⟩
abbrev Fld.ceStatusRestart : Fld := ⟨.ceStatus, 0, 1⟩
abbrev Fld.ceStatusLongOut : Fld := ⟨.ceStatus, 1, 5⟩
abbrev Fld.ceUcodeVerRomVer : Fld := ⟨.ceUcodeVer, 0, 8⟩
abbrev Fld.ceUcodeVerPatchVer : Fld := ⟨.ceUcodeVer, 8, 8⟩
abbrev Fld.ceUcodeVerSvn : Fld := ⟨.ceUcodeVer, 16, 7⟩
abbrev Fld.ceUcodeVerArb : Fld := ⟨.ceUcodeVer, 23, 7⟩
abbrev Fld.ceUcodeVerPatched : Fld := ⟨.ceUcodeVer, 30, 1⟩
abbrev Fld.ceWdogTimeout : Fld := ⟨.ceWdog, 0, 17⟩

end Sys2Proof.Machine
end

