-- ==== Sys2Proof/Machine/State.lean ====
section
/-!
DEFINITION. The state of the block as plain data: every register of the register map, the tables, FIFOs, buffers,
sequencers and engines of the chapters, and the queue of waiting commands. Sparse tables (`SMap`) list only entries that
differ from their reset value. Cycle numbers are counted by `cyc`, one per FCLK cycle since power-up of the model.
-/

namespace Sys2Proof.Machine

/-! ## Stops -/

/-- Why a step stops with a fault. No command of this block has an effect that ends in one: the spec gives every
command an effect, so the type has no constructor. -/
inductive Fault where
  deriving DecidableEq, Repr

/-- Why a step is refused. -/
inductive Refusal where
  /-- raised by an arm of `exec` whose command has no meaning yet (safe: the run stops). -/
  | notModelled (mnemonic : String)
  deriving DecidableEq, Repr

/-! ## What leaves the block -/

/-- What the block sends out: posted writes to host memory, read requests to host memory, interrupt messages. -/
inductive Egress where
  /-- a posted write (R378). -/
  | hostWrite (addr : Dword) (data : List Byte)
  /-- a memory read request of a DMA channel (R371): channel, bus address, bytes. -/
  | hostRead (chan : Nat) (addr : Dword) (n : Nat)
  /-- one MSI-X message (R367). -/
  | msix (vector : Nat) (addr : Dword) (data : Word)
  /-- one block on a lane of a Basord Link port: its 64 content bits, and as they go over the line, scrambled, bit 0 first,
  behind the sync header 10 (R427, R428). -/
  | block (port lane : Nat) (content line : Dword)
  deriving DecidableEq, Repr

/-! ## PCI Express (13) -/

/-- The endpoint: link and power state, MSI-X structures (R359, R360, R365, R367). -/
structure Pcie where
  /-- the link is up (R360). -/
  linkUp : Bool
  /-- the function is in D3hot (R359). -/
  d3hot : Bool
  /-- MSI-X Enable and Function Mask of configuration space. -/
  msixEn : Bool
  fmask : Bool
  /-- per-vector mask bits and pending bits (R365). -/
  vmask : Dword
  pba : Dword
  /-- MSI-X table: message addresses and data. -/
  msgAddr : SMap Dword
  msgData : SMap Word
  /-- Max Payload Size and Max Read Request Size in bytes (R358). -/
  maxPayload : Nat
  maxRead : Nat
  /-- r of R373, in 1/13,000 byte per cycle; 0 until the link has trained. -/
  rate : Nat
  /-- AER's uncorrectable error status (R358), bits as the standard places them. -/
  aer : Word
  /-- base addresses that the host has given the three BARs (R361). -/
  bars : SMap Dword
  /-- the DMA channel whose host request was issued last (R373). -/
  served : Nat
  deriving DecidableEq, Repr

/-! ## DMA engine (13) -/

/-- A descriptor as fetched (R369). -/
structure DmaDesc where
  op : Nat
  dir : Nat
  swap : Nat
  irq : Bool
  haltMism : Bool
  len : Nat
  src : Nat
  dst : Nat
  /-- a reserved value, LEN = 0 or a misaligned swap (R370). -/
  bad : Bool
  deriving DecidableEq, Repr

/-- An outstanding host read of a channel: offset and bytes in the descriptor, its data once arrived, and the error kind it
ended with (0 none). -/
structure DmaReq where
  off : Nat
  n : Nat
  data : Option (List Byte)
  kind : Nat
  deriving DecidableEq, Repr

/-- A DMA channel beyond its registers (R368 to R380). -/
structure DmaChan where
  desc : Option DmaDesc
  /-- bytes requested, and bytes of the prefix that is transferred. -/
  issued : Nat
  done : Nat
  pend : List DmaReq
  /-- the failing request: kind, DIR, SIDE, start address. -/
  err : Option (Nat × Bool × Bool × Nat)
  /-- RUN was cleared while the descriptor ran. -/
  aborting : Bool
  /-- offset of the first differing byte. -/
  mism : Option Nat
  /-- the rate limiter's credit in 1/3,328,000 byte, and the cycle it was counted at (R373). -/
  bucket : Nat
  bucketAt : Nat
  req : BitVec 48
  xfer : BitVec 48
  fail : BitVec 48
  reqBase : BitVec 48
  xferBase : BitVec 48
  failBase : BitVec 48
  /-- descriptors fetched ahead, in ring order, each as its words (R368). -/
  copies : List (List Word)
  /-- a descriptor fetch has failed: the channel halts once the present descriptor is complete (R377). -/
  haltDue : Bool
  deriving DecidableEq, Repr

def DmaChan.init : DmaChan := ⟨none, 0, 0, [], none, false, none, 0, 0, 0, 0, 0, 0, 0, 0, [], false⟩

/-! ## Command Engine (14) -/

/-- The pointers of a queue pair (R386), its phase (R393) and its waiting completion replies (R389, R400), each as the
eight reply words with PHASE clear. -/
structure Qp where
  head : Nat
  tail : Nat
  rplHead : Nat
  rplTail : Nat
  phase : Bool
  held : List (List Word)
  /-- the packet at CMD_HEAD, read already and held back by its FENCE (R391). -/
  fenced : Option (List Word)
  /-- a slot of the reply ring is reserved for the reply of the command that has started (R387). -/
  resv : Bool
  deriving DecidableEq, Repr

/-- A pair before it is first enabled. -/
def Qp.init : Qp := ⟨0, 0, 0, 0, true, [], none, false⟩

/-- The classes of long commands (R400). -/
inductive LongClass where
  | cal
  | nvm
  | test
  | link
  | scarab
  deriving DecidableEq, Repr

/-- A long command in progress (R400): who asked, what for, when it was accepted, and what its work needs. -/
structure LongCmd where
  qp : Nat
  opcode : Nat
  tag : Nat
  cls : LongClass
  /-- the unit it occupies: the port of LINK_UP, the group or bank of MEM_TEST. -/
  unit : Nat
  /-- a second parameter: CAL_RUN's block mask, MEM_TEST's TEST, LIFECYCLE_SET's target state. -/
  arg : Nat
  accSt : Dword
  /-- acceptance cycle. -/
  accCyc : Nat
  /-- a host address the completion writes to, and the payload read at acceptance. -/
  addr : Dword
  payload : List Byte
  deriving DecidableEq, Repr

/-- The Command Engine (R387, R400, R403). -/
structure Ce where
  qps : SMap Qp
  /-- the pair of QP1–3 served last (R387); 0 after Dawn. -/
  lastServed : Nat
  longs : List LongCmd
  /-- the micro-stack, newest first (8 entries); the patch RAM and the ROM address from which it overlays the ROM (R511). -/
  ustack : List (BitVec 14)
  patchRam : List (BitVec 144)
  patchBase : Nat
  /-- what the micro-engine does next (the model's own field: a free value after each operation). -/
  micro : MicroOp
  deriving DecidableEq, Repr

/-! ## Event fabric (15) -/

/-- The four 48-bit counters of R415 and their base registers. -/
structure EvCounters where
  fired : BitVec 48
  delivered : BitVec 48
  coalesced : BitVec 48
  suppressed : BitVec 48
  firedBase : BitVec 48
  deliveredBase : BitVec 48
  coalescedBase : BitVec 48
  suppressedBase : BitVec 48
  deriving DecidableEq, Repr

/-- Staged routing of one channel (R417): its consumer and its producers. -/
structure Staged where
  cons : Nat
  prods : List Nat
  deriving DecidableEq, Repr

/-- The event fabric (R410 to R425). -/
structure Evf where
  cnt : EvCounters
  /-- committed consumer of each channel; 0x3FF none (R412). -/
  route : SMap Nat
  /-- `EVF.PROD_MAP` of each producer (R413, R425). -/
  prodMap : SMap Dword
  /-- staged changes (R417). -/
  staged : SMap (Option Staged)
  /-- staged DEST_DEV of the LINK_OUT inputs (R417, R437). -/
  stagedDest : SMap Nat
  /-- firings per channel (`EVF.CH_FIRED`). -/
  chFired : SMap Nat
  /-- cycle after the channel's last delivery; 0 if none (R415: one event per cycle). -/
  lastDeliv : SMap Nat
  /-- firings of each channel by cycle, newest first, within the storm window (R420). -/
  hist : SMap (List (Nat × Nat))
  /-- timers: the ST of each running timer's next firing and the firings it has made (R411). -/
  timerNext : SMap (Option Nat)
  timerDone : SMap Nat
  /-- pending snapshot: trigger cycle, ST T at which blocks latch, source (R422). -/
  snap : Option (Nat × Nat × Nat)
  /-- what the snapshot copies take at T: the blocks at the end of the cycle before (R422). -/
  snapAt : SMap Dword
  /-- channels suppressed by a parity error whose route has not been rewritten since (R416, R421). -/
  parity : List Nat
  deriving DecidableEq, Repr

/-! ## Basord Link (16) -/

/-- A time message waiting for the lowest lane (R61): KIND, SEQ, SOURCE, HOPS, ORIGIN_ST (none: the ST at which block A
starts), and what makes CORRECTION when added to 16 times that ST (none: CORRECTION 0). -/
structure SyncOut where
  kind : Nat
  seq : Nat
  source : Nat
  hops : Nat
  origin : Option Nat
  fix : Option Int
  deriving DecidableEq, Repr

/-- The four counters of R449 that are counted and the three of each virtual channel (R450), with the base registers. -/
structure PortCounters where
  sent : BitVec 48
  acked : BitVec 48
  rxCopies : BitVec 48
  delivered : BitVec 48
  discarded : BitVec 48
  grantedDec : BitVec 48
  returnedDec : BitVec 48
  outDec : BitVec 48
  grantedBulk : BitVec 48
  returnedBulk : BitVec 48
  outBulk : BitVec 48
  sentBase : BitVec 48
  ackedBase : BitVec 48
  unackedBase : BitVec 48
  rxCopiesBase : BitVec 48
  deliveredBase : BitVec 48
  discardedBase : BitVec 48
  grantedDecBase : BitVec 48
  returnedDecBase : BitVec 48
  outDecBase : BitVec 48
  grantedBulkBase : BitVec 48
  returnedBulkBase : BitVec 48
  outBulkBase : BitVec 48
  deriving DecidableEq, Repr

/-- The shift registers of a lane's transmitter: the scrambler's last 58 bits, the newest in bit 0 (R427), and the 31 of its
PRBS31 sequence (R447). -/
structure LaneLine where
  scram : BitVec 58
  prbs : BitVec 31
  deriving DecidableEq, Repr

/-- DESIGN CHOICE (log entry 7): no rule gives either register a reset value; zero, and all ones where zero is no sequence. -/
def LaneLine.init : LaneLine := ⟨0, 0x7FFFFFFF⟩

/-- One Basord Link port beyond its registers (R427 to R451). -/
structure Port where
  cnt : PortCounters
  /-- protected blocks waiting on DECISION and BULK; time messages waiting, and the blocks left of the one in progress. -/
  decQ : List Dword
  bulkQ : List Dword
  syncQ : List SyncOut
  syncNow : List Dword
  /-- next sequence number; replay buffer and blocks still to be resent, oldest first. -/
  txSeq : Nat
  unacked : List (Nat × Dword)
  resend : List (Nat × Dword)
  /-- the cycles from that of the last CHECK on, four at most, oldest first: the number that their first protected block has
  or would have, and their blocks but IDLE and KEEPALIVE (R431). -/
  cover : List (Nat × List Dword)
  /-- control blocks due: a REQUEST; a START with its map and the SEQ it replays from (none for a planned re-map, R445);
  LANE_STATUS; CREDIT; AUDIT. -/
  reqDue : Bool
  startDue : Option (Option Nat × Nat)
  statusDue : Bool
  creditDue : Bool
  auditDue : Bool
  /-- cycles of the last REQUEST, LANE_STATUS and CREDIT. -/
  reqAt : Nat
  statusAt : Nat
  creditAt : Nat
  /-- receiver: next number not delivered; number of the next copy to arrive; discarding until a START; blocks delivered
  and not yet acted on; unprotected blocks confirmed and not yet acted on. -/
  rxNext : Nat
  rxSeq : Nat
  stall : Bool
  inbox : List Dword
  ctl : List Dword
  /-- cumulative credits that this receiver has returned, and that the peer has reported returned (R434). -/
  giveDec : Nat
  giveBulk : Nat
  gotDec : Nat
  gotBulk : Nat
  /-- cycle in which the oldest unacknowledged block was sent, replayed or advanced to; timer replays since (R436). -/
  ackAt : Nat
  tries : Nat
  /-- last cycle in which a protected block was sent, received or unacknowledged; the AUDIT of the idle period is sent
  (R451). -/
  busyAt : Nat
  audited : Bool
  /-- lanes on which this receiver, and the peer's, hold block lock and deskew; lanes whose transmitter is live. -/
  rxOk : Nat
  peerOk : Nat
  txLive : Nat
  /-- bring-up: last stage passed per lane (8: left out), lanes in training, credits initialised (R441). -/
  stage : SMap Nat
  train : Nat
  credInit : Bool
  /-- bits slid per lane (R441), and cycle plus 1 in which a lane's eye scan began (R448). -/
  slip : SMap Nat
  eye : SMap Nat
  /-- a DECISION block has crossed the port since it came up (R271). -/
  carried : Bool
  /-- a re-stripe is in progress at the receiver, and at the transmitter (R444). -/
  rxStripe : Bool
  txStripe : Bool
  /-- cycle of the last block on each lane that was not idle; lanes on which a KEEPALIVE is due in this cycle (R447). -/
  laneBusy : SMap Nat
  keep : Nat
  /-- shift registers of the lanes' transmitters. -/
  line : SMap LaneLine
  deriving DecidableEq, Repr

def PortCounters.init : PortCounters := ⟨0, 0, 0, 0, 0, 0, 0, 0, 0, 0, 0, 0, 0, 0, 0, 0, 0, 0, 0, 0, 0, 0, 0⟩

def Port.init : Port where
  cnt := PortCounters.init
  decQ := []
  bulkQ := []
  syncQ := []
  syncNow := []
  txSeq := 0
  unacked := []
  resend := []
  cover := []
  reqDue := false
  startDue := none
  statusDue := false
  creditDue := false
  auditDue := false
  reqAt := 0
  statusAt := 0
  creditAt := 0
  rxNext := 0
  rxSeq := 0
  stall := false
  inbox := []
  ctl := []
  giveDec := 0
  giveBulk := 0
  gotDec := 0
  gotBulk := 0
  ackAt := 0
  tries := 0
  busyAt := 0
  audited := false
  rxOk := 0
  peerOk := 0
  txLive := 0
  stage := []
  train := 0
  credInit := false
  slip := []
  eye := []
  carried := false
  rxStripe := false
  txStripe := false
  laneBusy := []
  keep := 0
  line := []

/-! ## Time (02) -/

/-- One TRIGIN stamp: ST in sixteenths of a tick (68 bits) and its PRE_STEP flag (R69). -/
structure Stamp where
  val : Nat
  pre : Bool
  deriving DecidableEq, Repr

/-- One TRIGIN input: its stamp FIFO and its last edges (R68, R69). -/
structure Trig where
  fifo : List Stamp
  /-- when its last stamped edge came, in sixteenths of a tick counted from the model's cycle 0: no step of ST moves it. -/
  last : Option Nat
  /-- cycle plus 1 of the last edge at the ball (R463). -/
  edgeAt : Nat
  deriving DecidableEq, Repr

def Trig.init : Trig := ⟨[], none, 0⟩

/-- An accepted TIME_STEP that has not yet taken effect (R53). -/
inductive Step where
  | abs (v : Nat)
  | rel (d : Int)
  deriving DecidableEq, Repr

/-- A DELAY_REQ whose answer has not come: its SEQ, t1 in sixteenths of a tick, the cycle it was sent in, and whether the
port's lowest lane has changed since (R64, R66). -/
structure DelayReq where
  seq : Nat
  t1 : Nat
  sent : Nat
  old : Bool
  deriving DecidableEq, Repr

/-- Sample time and its correction. -/
structure Time where
  /-- FCLK runs: the root PLL has locked since Dawn began (R47, R51). -/
  running : Bool
  step : Option (Step × Nat)
  /-- slew in progress: signed amount in 1/256 tick, rate in ppb, cycle at which it began (R58). -/
  slewAmt : Int
  slewRate : Nat
  slewFrom : Nat
  /-- `TIME.OFFSET` holds a measurement taken since the role was configured (R53). -/
  offsetValid : Bool
  /-- last accepted SYNC sequence number; none since the role was configured (R66). -/
  lastSeq : Option Nat
  /-- consecutive SYNCs within ±2 sub-tick steps (R63). -/
  inBound : Nat
  /-- cycle of the last accepted SYNC (R66). -/
  lastSync : Nat
  /-- master's next SYNC sequence number and the cycle it is due (R60). -/
  seqOut : Nat
  syncNext : Nat
  /-- per port: DELAY_REQs outstanding, oldest first (R64). -/
  req : SMap (List DelayReq)
  reqSeq : SMap Nat
  reqNext : SMap Nat
  /-- ports whose path delay is measured anew since a change of their lowest lane (R66), bit p for port p. -/
  anew : Nat
  trig : SMap Trig
  deriving DecidableEq, Repr

/-! ## The shot (01) -/

/-- The participation block of ARM (R405). -/
structure Part where
  och : BitVec 96
  tone : BitVec 384
  dsp : BitVec 32
  deriving DecidableEq, Repr

/-- The shot controller (R28 to R35, R397, R398). -/
structure Shot where
  part : Part
  /-- event channel bound to the start input. -/
  startEvt : Option Nat
  /-- pending scheduled start: its ST (R29). -/
  sched : Option Nat
  /-- an accepted start: cycle of its start tick, which has not come. -/
  accepted : Option Nat
  /-- a shot is running: its start tick has come and it has not ended. -/
  running : Bool
  /-- cycle and ST of the start tick of the running or last shot. -/
  startCyc : Nat
  startSt : Nat
  /-- the device's last start tick and last shot end, cleared by Dawn (R30). -/
  lastStart : Option Nat
  lastEnd : Option Nat
  /-- cycle before which the throttle's start hold admits no start (R490). -/
  hold : Nat
  /-- SHOT_COUNT of the run and shots started in it (R405, R398). -/
  count : Nat
  started : Nat
  /-- RUN_STOP accepted; SHOT_ABORT with STOP = 1 accepted (R398). -/
  stopping : Bool
  /-- cause of an abort that an accepted start met before its tick (R398); 0 none. -/
  abortAtTick : Nat
  /-- abort cause (R345) and the cycle in which it took effect (R35). -/
  abort : Option (Nat × Nat)
  taint : BitVec 8
  /-- FCLK cycles of the shot that ended last (R28, R342). -/
  length : Nat
  /-- participating channels that have finished: cycle at which the last sample left (R28). -/
  ended : SMap Nat
  /-- cycle at which the last of the closed windows closed; 0 where none has. -/
  winEnd : Nat
  deriving DecidableEq, Repr

/-! ## The decision file (09) -/

/-- One decision slot (R245, R274). -/
structure Slot where
  /-- decision word (R235): state in [1:0], VALID in bit 2, EARLY in bit 3. -/
  word : BitVec 4
  tag : BitVec 16
  /-- epoch of a slot from 384 upward (R269); a tone's slot has its tone's epoch. -/
  epoch : BitVec 8
  counted : Bool
  stale : BitVec 8
  /-- owner core or source device, set by DEC_ASSIGN. -/
  owner : Nat
  assigned : Bool
  /-- cycle from which the decision is valid (R246). -/
  from_ : Nat
  /-- the decisions it replaced in recent cycles, newest first: word, tag, valid-from. A deadline may ask what the slot
  held a few cycles ago (R251). -/
  past : List (BitVec 4 × BitVec 16 × Nat)
  deriving DecidableEq, Repr

def Slot.init : Slot := ⟨0, 0, 0, false, 0, 0, false, 0, []⟩

/-- The decision file with its four counters and their base registers (R249), and the export map (R263). -/
structure Dec where
  slots : SMap Slot
  produced : BitVec 48
  consumed : BitVec 48
  superseded : BitVec 48
  stale : BitVec 48
  producedBase : BitVec 48
  consumedBase : BitVec 48
  supersededBase : BitVec 48
  staleBase : BitVec 48
  export_ : SMap Dword
  deriving DecidableEq, Repr

/-! ## The segment sequencer, the voices and the wait (03, 04, 05, 09) -/

/-- A COND segment's lateness in a rendering (R255): policy (3 and 4: WAIT acting as DEFAULT, R257), multiplexer boundary,
condition index, and whether a suspended bound counts it (R271). -/
structure Late where
  pol : Nat
  bound : Nat
  cond : Nat
  exc : Bool
  deriving DecidableEq, Repr

/-- One chain of entries that a voice or a Mayfly lane follows (R113), at its present segment. -/
structure Chain where
  /-- entry number and its 128 bits as fetched. -/
  entry : Nat
  seg : BitVec 128
  /-- sequencer boundary (cycle) at which the present run of granules began, and the granule of the segment it began with
  (0, or more after a wait, R258). -/
  start : Nat
  pos : Nat
  /-- the sequencer boundary at which the segment, or the play of a WAIT_EVENT segment, ends. -/
  stop : Nat
  /-- WAIT_EVENT: plays made before the present one (R115). -/
  plays : Nat
  /-- AMP in force (R109). -/
  amp : Int
  loops : List Nat
  /-- cycle in which the latched async request arrived (R114). -/
  async : Option Nat
  /-- WAIT_EVENT: cycle of the first event since the segment's first boundary (R115). -/
  event : Option Nat
  /-- granule of the open stream that the granule at `start` reads (R156). -/
  spos : Nat
  /-- played as zero: an uncorrectable entry (R336), a reserved or mismatched source (R132, R157). -/
  zero : Bool
  /-- the entry was fetched with an uncorrectable error (R336). -/
  bad : Bool
  /-- boundary cycle of the fetch: names the segment instance, also after a wait has moved it; and of the last boundary, which
  may be the end of a play of a WAIT_EVENT segment (R107). -/
  run : Nat
  part : Nat
  /-- selections of COND boundaries that have been made, by multiplexer cycle of the boundary: a boundary that a wait froze
  takes its own when it comes again (R260). -/
  sels : List (Nat × Bool)
  /-- lateness recorded in a speculative rendering (R255), oldest first. -/
  lates : List Late
  /-- an END_SHOT segment has been fetched and its end reached: no more granules. -/
  ended : Bool
  deriving DecidableEq, Repr

/-- One rendered granule on its way to the multiplexer. -/
structure Gran where
  /-- cycle of its multiplexer point. -/
  mux : Nat
  entry : Nat
  /-- sequencer boundary of its segment run: names the segment instance; and that of the stretch between boundaries. -/
  run : Nat
  part : Nat
  /-- first granule after a sequencer boundary; first granule of a play; last granule of an END_SHOT segment. -/
  bnd : Bool
  playFirst : Bool
  last : Bool
  frame : BitVec 128
  amp : Int
  mark : Nat
  tset : Nat
  /-- voice 0 in direct mode, and its format (R99). -/
  direct : Bool
  fmt : Nat
  /-- envelope samples I and Q after the DRAG stage, or direct samples; for each whether the DRAG stage saturated. -/
  env : List (Int × Int)
  dragSat : List Bool
  /-- the same samples before the DRAG stage; whether the granule ends its play, after which no sample follows (R91). -/
  raw : List (Int × Int)
  playLast : Bool
  /-- streamed: samples of the granule; samples of its play; tape position after the segment's last play; missing (R158),
  exhausted (R159) or uncorrectable data. -/
  strm : Nat
  play : Nat
  strmEnd : Nat
  missing : Bool
  exhausted : Bool
  bad : Bool
  /-- taints MEM_UNCORR when it passes (R336). -/
  taint : Bool
  deriving DecidableEq, Repr

/-- A speculation in flight (R112, R253): the lane's chain and granules, the boundary B, and the outcome at the deadline:
none not yet looked at, some none late, some (some b) decided. -/
structure Spec where
  lane : Chain
  granules : List Gran
  hist : List Chain
  bound : Nat
  cond : Nat
  late : Nat
  result : Option (Option Bool)
  deriving DecidableEq, Repr

/-- One voice (R105 to R121). -/
structure Voice where
  chain : Option Chain
  granules : List Gran
  spec : Option Spec
  /-- chains at earlier boundaries whose granules have not all passed, newest first (R258). -/
  hist : List Chain
  /-- shot tag (R119). -/
  tag : BitVec 16
  /-- enabled at shot start; finished END_SHOT; stopped by an abort. -/
  enabled : Bool
  done : Bool
  stopped : Bool
  /-- an ABORT late policy that applies at this multiplexer cycle (R256). -/
  abortAt : Option Nat
  /-- the last envelope samples that passed to the interpolator, oldest first (R92). -/
  interp : List (Int × Int)
  /-- an async request latched while no segment plays, the shot still running (R114, R120). -/
  kept : Bool
  /-- multiplexer boundary and condition entry of a speculation that a wait has withdrawn before its deadline: the selection is
  still to be made (R129, R258). -/
  pend : Option (Nat × Nat)
  deriving DecidableEq, Repr

def Voice.init : Voice := ⟨none, [], none, [], 0, false, false, false, none, [], false, none⟩

/-- A frame operation in a pending queue (R83, R86): the frame, the fields it sets (mask as FRAME_WRITE's) with their
values, or a VZ delta, its scheduled pin ST, and the cycle it entered. -/
structure FrameOp where
  frame : Nat
  add : Bool
  mask : Nat
  val : BitVec 128
  delta : Nat
  atSt : Option Nat
  entered : Nat
  deriving DecidableEq, Repr

/-- Frame memory and pending queue of a channel (R76, R86). -/
structure Frames where
  mem : SMap (BitVec 128)
  queue : List FrameOp
  deriving DecidableEq, Repr

def Frames.init : Frames := ⟨[], []⟩

/-- A channel's stream (R153 to R161). -/
structure Strm where
  /-- granules of the stream consumed since its cursor was last at START_BLK. -/
  cursor : Nat
  /-- blocks of the tape (counted from START_BLK) fetched into the buffer: from the first up to, not including, the
  second; those behind the cursor have been dropped. -/
  from_ : Nat
  to_ : Nat
  /-- the blocks in the buffer that differ from zero, and those fetched with an uncorrectable error (R159). -/
  data : SMap (BitVec 512)
  bad : List Nat
  /-- the stretch between boundaries that plays zero to its end (R158), and the segment run already counted exhausted
  (R159). -/
  zeroRun : Option Nat
  exhRun : Option Nat
  sched : BitVec 48
  played : BitVec 48
  zero : BitVec 48
  remain : BitVec 48
  schedBase : BitVec 48
  playedBase : BitVec 48
  zeroBase : BitVec 48
  deriving DecidableEq, Repr

def Strm.init : Strm := ⟨0, 0, 0, [], [], none, none, 0, 0, 0, 0, 0, 0, 0⟩

/-- One output channel: its tables, voices, shadow sets, frames and output stage. -/
structure Och where
  segs : SMap (BitVec 128)
  conds : SMap (BitVec 512)
  fr : Frames
  tsets : SMap Word
  /-- the staging buffer of the table window (R128). -/
  stage : SMap Word
  voices : SMap Voice
  /-- active copies of the shadow sets (R122): voice sets as SHD_VAMP words, then the loop loads and the channel set. -/
  actVamp : SMap Word
  actLoop01 : Word
  actLoop23 : Word
  actCh : Word
  /-- per set (0–7 voices, 8 channel): token, and the token before the commits of the cycle of the latest; cycle of the first
  commit since the last hand-over; that of the latest, and of the last hand-over, plus 1 (R124, R126). -/
  token : SMap Nat
  tokenOld : SMap Nat
  commitAt : SMap Nat
  lastAt : SMap Nat
  handAt : SMap Nat
  /-- shadow writes of the present cycle (R125): per word (0–7 voices, 8 and 9 loop loads, 10 channel), the cycle plus 1 of
  the last write and what the word held before that cycle. -/
  shdAt : SMap Nat
  shdOld : SMap Word
  strm : Strm
  /-- cycle of the last GRANULE_BOUNDARY, plus 1. -/
  lastGran : Nat
  /-- voices must stop at their next multiplexer boundary (R121). -/
  stopping : Bool
  /-- marker bits of the last granule at the multiplexer. -/
  marks : Nat
  /-- sums S of the last three granules that left the multiplexer, oldest first, each with whether a stage before it
  saturated (R97); whether the last of them entered muted (R185); and the DAC codes on their way to the pin, newest first,
each granule's with the cycle in which it is at the pin. -/
  sums : List (Int × Bool)
  muted : Bool
  dac : List (Nat × List Int)
  /-- cycles in which lanes were freed: usable from the next (R253). -/
  freed : List Nat
  /-- the Guard's RMS window: (cycle, sum of squares) of granules with a nonzero sum, newest first; and its DUTY window:
  (first, last) cycles of runs of active granules, newest first (R184). -/
  rms : List (Nat × Nat)
  duty : List (Nat × Nat)
  /-- cycle by which ENABLING ends, or, once LIVE, in which the channel became so; cycle before which it does not end,
  after a change of MODE on a closed switch; cycle at which RANGE_MUTE ends; cycle plus 1 in which the pin carries zero code
  before the switch opens (R169 to R172). -/
  enabling : Nat
  enableFrom : Nat
  rangeMute : Nat
  lastZero : Nat
  /-- marker bits of the last granule that no wait inserted, which decide the edges of the bias DACs (R178, R259). -/
  biasMarks : Nat
  /-- cycle from which the output carries zero code again after its last nonzero sum (R463). -/
  zeroFrom : Nat
  /-- FINE of the sets in force at the multiplexer, newest first, each with the cycle of its first granule there: the delay
  line follows from that granule's pin time on (R140). -/
  fine : List (Nat × Nat)
  /-- targets in use (R129): kind (0 segment, 1 condition), index, and words of envelope SRAM that a granule reads. First as
  the present cycle began; then those that its boundaries have reached, with their cycle (R130). -/
  was : List (Nat × Nat × Nat)
  touched : List (Nat × Nat × Nat × Nat)
  deriving DecidableEq, Repr

def Och.init : Och where
  segs := []
  conds := []
  fr := Frames.init
  tsets := []
  stage := []
  voices := []
  actVamp := []
  actLoop01 := 0
  actLoop23 := 0
  actCh := 0xFF0F
  token := []
  tokenOld := []
  commitAt := []
  lastAt := []
  handAt := []
  shdAt := []
  shdOld := []
  strm := Strm.init
  lastGran := 0
  stopping := false
  marks := 0
  sums := []
  muted := false
  dac := []
  freed := []
  rms := []
  duty := []
  enabling := 0
  enableFrom := 0
  rangeMute := 0
  lastZero := 0
  biasMarks := 0
  zeroFrom := 0
  fine := []
  was := []
  touched := []

/-- A waiting condition (R258, R260): whose it is, its boundary, its condition entry, its shot tag, and how and when it was
resolved. -/
structure WCond where
  och : Nat
  voice : Nat
  bound : Nat
  cond : Nat
  result : Option (Bool × Nat)
  deriving DecidableEq, Repr

/-- A wait of a sync group (key 0–31) or of a channel alone (key 32 + n) (R258). -/
structure Wait where
  freeze : Nat
  entered : Nat
  conds : List WCond
  /-- R, once the members have fetched again. -/
  resume : Option Nat
  /-- F of the wait, and R of its last resumption, when a condition has joined it after its members had fetched again, before
  R: they are frozen anew from that R on (R260). -/
  prev : Option (Nat × Nat)
  deriving DecidableEq, Repr

/-- F of a wait (R258). -/
def Wait.origin (w : Wait) : Nat := match w.prev with | some (f, _) => f | none => w.freeze

/-! ## Receive channels (07, 08) -/

/-- A read-out tone in its shot (R226 to R234). -/
structure Tone where
  /-- `TONE_STATUS.PART` (R239). -/
  active : Bool
  /-- cycle in which its window opens, until it has opened. The decision of the shot before may still be to come. -/
  due : Option Nat
  /-- cycle c_o in which it opened, and `TONE_STATUS.OPEN`. -/
  opened : Option Nat
  isOpen : Bool
  /-- EARLY: the cycle of the abort that closed the window, while groups taken before it are in the ADC's pipe and may
  still show that it had closed by a crossing (R35). -/
  cut : Option Nat
  /-- samples integrated, projection and likelihood so far. -/
  taken : Nat
  zRe : Int
  zIm : Int
  lam : Int
  /-- FLAGS of the record gathered so far (R236). -/
  flags : BitVec 16
  /-- sample of the crossing, and the cycle that begins at E. -/
  crossing : Option Nat
  endCyc : Option Nat
  /-- mixed samples of the last three groups, oldest first, all-zero as the empty list (R225); whether an operation on the
  tone's frame applied to those groups, newest first (R236). -/
  hist : List (Int × Int)
  chg : List Bool
  /-- cycle plus 1 of its last decision (R239). -/
  doneAt : Nat
  /-- tag of the shot that its window belongs to (R31, R235). -/
  tag : BitVec 16
  /-- the last five DEMOD words, newest first, all-zero as the empty list: the oldest is at the DEMOD tap (R225). -/
  demod : List (BitVec 64)
  /-- the descriptor of the window that `cut` closed, which a TONE_WRITE since does not change (R228, R240). -/
  cutDesc : Option (BitVec 512)
  deriving DecidableEq, Repr

def Tone.init : Tone := ⟨false, none, none, false, none, 0, 0, 0, 0, 0, none, none, [], [], 0, 0, [], none⟩

/-- One receive channel. -/
structure Rch where
  fr : Frames
  /-- tone descriptors and kernel taps (R221, R222). -/
  descs : SMap (BitVec 512)
  kernel : SMap Word
  tones : SMap Tone
  /-- the group at the UNCORR tap in the present cycle, which reaches the RAW tap in the next: its uncorrected codes, none of
  them where no input is sampled (R205, R213, R214). -/
  next : Option (List (BitVec 12))
  /-- cycles in which the last OWN and the last CLAMP group reach the RAW tap (R207, R208), whether each of them follows a
  group without the mark (R211), and the cycle plus 1 of the last group during which the clamp was engaged, whatever the
  channel's state (R198). -/
  lastOwn : Option Nat
  lastClamp : Option Nat
  newOwn : Bool
  newClamp : Bool
  clampAt : Nat
  /-- flags of the last three groups, newest first. -/
  groups : List (BitVec 5)
  /-- cycle by which SETTLING ends (R201); once LIVE, the cycle in which it became so. -/
  settle : Nat
  deriving DecidableEq, Repr

def Rch.init : Rch := ⟨Frames.init, [], [], [], none, none, none, false, false, 0, [], 0⟩

/-! ## Marker pins (05) -/

/-- A marker pin: the level before its listed edges, and its last edges, newest first, each with its time in 1/256 cycle
counted from cycle 0, and the active level it leads to (R142, R143); the end of a kind 2 pulse (R147). -/
structure Pin where
  base : Bool
  edges : List (Nat × Bool)
  pulseEnd : Option Nat
  deriving DecidableEq, Repr

def Pin.init : Pin := ⟨false, [], none⟩

/-! ## Bias DACs (06) -/

/-- A bias DAC beyond its registers. Times are in units of 0.1 ns, sixteen to a cycle. -/
structure Bdac where
  /-- the 256-entry code list and its pointer (R178). -/
  list : SMap (BitVec 20)
  ptr : Nat
  /-- code that the slew limiter moves toward, and the time of its next step (R177). -/
  goal : Int
  nextStep : Option Nat
  /-- time of the last applied code (R188) and of the latest sequencer update that is not held, applied or under way to the
  output (R179). -/
  lastAt : Nat
  lastSeq : Option Nat
  /-- held sequencer updates, oldest first, each with the time it will be applied at (R179), and the deglitched code with
  the end of its hold (R180). -/
  held : List (Nat × Int)
  degl : Option (Int × Nat)
  /-- range change (R175): 0 none, 1 ramp down, 2 parked, 3 ramp up; code to ramp to, and end of the park. -/
  phase : Nat
  rampCode : Int
  parkEnd : Nat
  /-- park when the ramp to 0 ends (R174). -/
  parkAfter : Bool
  /-- step of a Dusk ramp that the configured slew would not finish in time (R493); 0 none. -/
  fastStep : Nat
  /-- cycle in which the output last parked (R463). -/
  parkedAt : Nat
  deriving DecidableEq, Repr

def Bdac.init : Bdac := ⟨[], 0, 0, none, 0, none, [], none, 0, 0, 0, false, 0, 0⟩

/-! ## Calibration (17) -/

/-- One calibration unit (R458 to R466, R475). -/
structure CalUnit where
  due : Bool
  overdue : Bool
  /-- cycle in which its slice began. -/
  slice : Option Nat
  lastFail : Bool
  count : Nat
  lastSt : Dword
  lastTemp : BitVec 16
  /-- cycle in which it became due, and cycle before which no new slice starts (R460). -/
  dueAt : Nat
  retryAt : Nat
  /-- its trims, as calibration wrote them (internal trims have no register). -/
  trim : List Word
  /-- the output channel was LIVE and returns to LIVE (R459). -/
  restore : Bool
  /-- the CAL_RUN in progress waits for a slice of this unit (R466). -/
  marked : Bool
  deriving DecidableEq, Repr

def CalUnit.init : CalUnit := ⟨false, false, none, false, 0, 0, 0, 0, 0, [], false, false⟩

/-- The HKADC beyond its registers (R470 to R473): cycle in which the present or next conversion slot begins, position in
the scan list, cycle in which REF_EN last rose, the input of the pending injected request, the input of the running scan
conversion where HK_CONFIG has come since it began, and whether the last reading of VREFIN that calibration may use was out of
tolerance. -/
structure Hk where
  slotAt : Nat
  pos : Nat
  refAt : Nat
  inj : Option Nat
  now : Option Nat
  vrefBad : Bool
  deriving DecidableEq, Repr

/-- One NVM copy of a microcode patch (R512): the image with two fields of its header, and whether it was written whole. -/
structure Patch where
  ver : Nat
  svn : Nat
  image : List Byte
  whole : Bool
  deriving DecidableEq, Repr

/-- A record in a field sector (R467): its header, what its payload says of every unit, and whether CHECK holds over its
bytes, which a torn write leaves wrong. -/
structure NvmCopy where
  magic : Nat
  format : Nat
  seq : Nat
  size : Nat
  copy : Nat
  units : SMap CalUnit
  whole : Bool
  deriving DecidableEq, Repr

/-- MAGIC, FORMAT and CHECK are correct (R468). -/
def NvmCopy.valid (c : NvmCopy) : Bool := c.magic == 0x4351 && c.format == 1 && c.whole

/-- The NVM in the VAUX domain (R467 to R469, R499, R501, R510, R512): the records in the 32 field sectors, cycles of each
sector, what the save in progress will store, whether that save is an automatic one, cycle of the last save, whether a trim
has changed since, the two nonces, the guard authority key in its two copies, of which the second is written last and is in
force, the patch image in its two copies, and the certificate chain. -/
structure Nvm where
  sectors : SMap (Option NvmCopy)
  wear : SMap Nat
  saving : Option (SMap CalUnit)
  auto : Bool
  lastSave : Nat
  changed : Bool
  guardNonce : Dword
  lcNonce : Dword
  guardKeyA : Option (List Byte)
  guardKey : Option (List Byte)
  patch : Option Patch
  patchB : Option Patch
  chain : List Byte
  deriving DecidableEq, Repr

/-- The valid copy with the highest SEQ (R468), if any. -/
def Nvm.best (n : Nvm) : Option NvmCopy :=
  (((List.range 32).filterMap (SMap.get none n.sectors)).filter NvmCopy.valid).foldl (fun b c =>
    match b with
    | some d => if d.seq < c.seq then some c else b
    | none => some c) none

/-- SEQ of the record in force: 0 is the factory's. -/
def Nvm.seq (n : Nvm) : Nat :=
  match n.best with
  | some c => c.seq
  | none => 0

/-- The patch image that loads: copy A, or copy B where copy A is none or torn (R512). -/
def Nvm.image (n : Nvm) : Option Patch :=
  match n.patch with
  | some p => if p.whole then some p else n.patchB
  | none => n.patchB

/-! ## Identity and lifecycle (19) -/

/-- Fuses (R505, R512): the states that pairs 0 to 14 record, in the order in which they were blown; pair 15, RETIRED; the
anti-rollback counter; and whether the fuses of the wrapped identity key are intact. -/
structure Fuse where
  pairs : List Nat
  retired : Bool
  arb : Nat
  identity : Bool
  deriving DecidableEq, Repr

/-- The lifecycle state (R505): 0 BLANK, 1 PROVISIONED, 2 FIELD, 3 RETURN, 4 RETIRED. -/
def Fuse.lc (f : Fuse) : Nat := if f.retired then 4 else f.pairs.getLastD 0

/-- Pairs 1 to 14 not yet blown. -/
def Fuse.pairsLeft (f : Fuse) : Nat := 14 - (f.pairs.length - 1)

/-- The next pair is blown for a change to state t; one that changes no state blows none. -/
def Fuse.blow (f : Fuse) (t : Nat) : Fuse :=
  if t = 4 then { f with retired := true }
  else if t = f.lc then f
  else { f with pairs := f.pairs ++ [t] }

/-- Scarab's secure bank (R499, R507): its words that are not zero, and whether Scarab reloads the identity key when the wipe
in progress ends. -/
structure Scarab where
  bank : SMap Dword
  reload : Bool
  deriving DecidableEq, Repr

/-! ## Power, reset and thermal management (18) -/

/-- What the supervisor knows (R480 to R488), and how far Dusk has come (R493). -/
structure Power where
  /-- VAUX is within range; PERST# is asserted. -/
  vaux : Bool
  perst : Bool
  /-- PWREN and PGOOD, bit k of group k; PWRFAIL. -/
  pwren : Nat
  pgood : Nat
  pwrfail : Bool
  /-- group whose PGOOD the sequence waits for, and the cycle in which its PWREN was asserted. -/
  seq : Option (Nat × Nat)
  /-- the rails are being taken down. -/
  down : Bool
  /-- cycle in which the cool-down may end. -/
  coolEnd : Option Nat
  /-- sequencing waits for a PERST# release. -/
  waits : Bool
  /-- source that the next Dawn out of OFF will record (R484). -/
  why : Nat
  /-- Dusk: step in progress (0 none), cycle in which Dusk began, cycle in which the step began. -/
  dusk : Nat
  duskAt : Nat
  stepAt : Nat
  /-- Dawn has enabled the timing I/O since the core rails rose: before, every MRK pin is high-impedance (R145, R483). -/
  io : Bool
  deriving DecidableEq, Repr

/-- A thermal sensor (R491, R492): its last raw code, the readings for which it has not changed, the range of its
neighbour's readings meanwhile, and the differences to its neighbour of the last 60 s, newest first. -/
structure Sensor where
  raw : Option (BitVec 16)
  same : Nat
  lo : Int
  hi : Int
  diffs : List Int
  deriving DecidableEq, Repr

def Sensor.init : Sensor := ⟨none, 0, 0, 0, []⟩

/-- Thermal management: sensors, whether WARN, THROTTLE and STOP are reached, and the cycles of the next reading and the
next throttle evaluation (R485, R486, R489). -/
structure Therm where
  sensors : SMap Sensor
  warn : Bool
  throttle : Bool
  stop : Bool
  next : Nat
  evalAt : Nat
  deriving DecidableEq, Repr

/-- The TAP (R551, R556): whether EXTEST, CLAMP or HIGHZ holds the timing I/O, and what the chain gives MRK0 to MRK47. -/
structure Jtag where
  hold : Bool
  chain : BitVec 48
  deriving DecidableEq, Repr

/-! ## Memories (12) -/

/-- The memories behind BAR2 (R363) as bytes at BAR2 offsets, and the words that ECC reports uncorrectable until they are
written: (row of the bank table R330, instance, word address) (R336). -/
structure Mem where
  bytes : List Host.Cell
  bad : List (Nat × Nat × Nat)
  /-- power groups in transition: the state each will have (R333). -/
  moving : SMap (Option Nat)
  /-- scrubber: next line of its pass (R337). -/
  scrubAt : Nat
  deriving DecidableEq, Repr

/-! ## DSP cores (10) -/

/-- One of a core's two register banks (R281). -/
structure Bank where
  g : SMap Word
  a : SMap (BitVec 40)
  p : SMap Word
  base : SMap Word
  inc : SMap Word
  len : SMap Word
  flags : Word
  deriving DecidableEq, Repr

def Bank.init : Bank := ⟨[], [], [], [], [], [], 0⟩

/-- One DSP core beyond its registers in BAR0 (R280 to R299). -/
structure Core where
  bank0 : Bank
  bank1 : Bank
  imem : SMap Word
  dmem : List Host.Cell
  /-- handler entries, mask, and the pending lines, each with the DSP cycle plus 1 from which it is pending; a delivery of the
  present cycle to a line that pends already, likewise (R289). -/
  ivec : SMap Word
  imask : BitVec 8
  ipend : SMap Nat
  inext : SMap Nat
  /-- interrupts enabled; return address; line taken. -/
  ien : Bool
  elr : Word
  line : BitVec 3
  tcmp : Dword
  mboxIn : Word
  /-- staging words of the FRMW and SEQP ports, and bytes 0 to 7 of a user record (R293 to R296). -/
  frmw : SMap Word
  seqp : SMap Word
  jrnw : Dword
  /-- result feed, oldest first (R295). -/
  feed : List (BitVec 128)
  /-- iterations of a REPEAT body still to run; a halt that waits for its end (R288, R297). -/
  rep : Option Nat
  haltReq : Bool
  /-- DSP cycle of the latest issue, and the first in which the core can issue again (R279, R286); cycle plus 1 of the last
  send on the FRMW and on the SEQP port (R294). -/
  issueAt : Nat
  free : Nat
  frmwAt : Nat
  seqpAt : Nat
  deriving DecidableEq, Repr

def Core.init : Core where
  bank0 := Bank.init
  bank1 := Bank.init
  imem := []
  dmem := []
  ivec := []
  imask := 0
  ipend := []
  inext := []
  ien := false
  elr := 0
  line := 0
  tcmp := 0
  mboxIn := 0
  frmw := []
  seqp := []
  jrnw := 0
  feed := []
  rep := none
  haltReq := false
  issueAt := 0
  free := 0
  frmwAt := 0
  seqpAt := 0

/-! ## Capture units (11) -/

/-- Values on their way into 256-bit entries (R305, R307): the values of the entry being filled, the index and cycle of its
first value, and the averaging interval in progress. -/
structure Pack where
  vals : List Nat
  seq : Nat
  first : Nat
  n : Nat
  accI : Int
  accQ : Int
  flags : Nat
  deriving DecidableEq, Repr

def Pack.init : Pack := ⟨[], 0, 0, 0, 0, 0, 0⟩

/-- A trigger as a unit takes it (R311): its cycle on the ST scale, its stamp in sixteenths of a tick, its source and the
source's index, and its TRIG_SEQ. -/
structure AcqTrig where
  tc : Nat
  stamp : Nat
  src : Nat
  index : Nat
  seq : Nat
  shotTag : Nat
  inShot : Bool
  deriving DecidableEq, Repr

/-- A WINDOW record in progress (R314 to R318): first and last cycle, PRE_VALID, ring position of its header, data
entries written, cycles captured, and OVR_ANY and INVALID_ANY so far. -/
structure Rec where
  trig : AcqTrig
  first : Nat
  last : Nat
  preValid : Nat
  hdr : Nat
  pack : Pack
  wrote : Nat
  got : Nat
  ovr : Bool
  inv : Bool
  /-- flags of the cycles in the entry being filled, which OVR_ANY and INVALID_ANY take once it is written (R317). -/
  part : Nat
  /-- every data entry is written; cut short. -/
  full : Bool
  deriving DecidableEq, Repr

/-- A capture unit beyond its registers. -/
structure Acq where
  configured : Bool
  /-- history (R314): source cycles from histFrom on, newest first. -/
  histFrom : Nat
  hist : List (Nat × BitVec 256)
  lastL : Option Nat
  /-- TRIG_ST of the last accepted trigger, triggers still to reject (R312), triggers accepted since ACQ_START. -/
  s0 : Option Nat
  holdLeft : Nat
  seq : Nat
  /-- the last trigger looked at: its cycle, what the checks answered, and whether the configured source gave it (R311). -/
  lastTc : Option (Nat × Nat × Bool)
  /-- ring position of the next entry, committed or not. -/
  wp : Nat
  recs : List Rec
  /-- STREAM: first captured cycle, once known; whether START is written; cycles and entries captured; marks to insert
  (R320); the first cycle that could not be written, and whether bandwidth was the reason (R321); POST reached. -/
  begin_ : Option Nat
  started : Bool
  pack : Pack
  got : Nat
  entries : Nat
  marks : List AcqTrig
  lost : Option (Nat × Bool)
  done : Bool
  /-- the write FIFO (R303): ring position and entry, oldest first. -/
  fifo : List (Nat × BitVec 256)
  deriving DecidableEq, Repr

def Acq.init : Acq where
  configured := false
  histFrom := 0
  hist := []
  lastL := none
  s0 := none
  holdLeft := 0
  seq := 0
  lastTc := none
  wp := 0
  recs := []
  begin_ := none
  started := false
  pack := Pack.init
  got := 0
  entries := 0
  marks := []
  lost := none
  done := false
  fifo := []

/-! ## The result journal (12) -/

/-- A journal packet (R342): its header fields and its records. `kind` is TYPE: 1 SHOT, 2 USER. -/
structure Packet where
  kind : Nat
  cont : Bool
  replaced : Bool
  gap : Bool
  seq : Nat
  shotNum : Nat
  part : Nat
  startSt : Nat
  outcome : Nat
  cause : Nat
  taint : Nat
  length : Nat
  recs : List (BitVec 128)
  deriving DecidableEq, Repr

/-- The six counters of R351 but the resident one, which counts the packets held, with their base registers. -/
structure JrnCounters where
  started : BitVec 48
  committed : BitVec 48
  rewound : BitVec 48
  drained : BitVec 48
  lost : BitVec 48
  startedBase : BitVec 48
  committedBase : BitVec 48
  rewoundBase : BitVec 48
  drainedBase : BitVec 48
  residentBase : BitVec 48
  lostBase : BitVec 48
  deriving DecidableEq, Repr

/-- What the final packet of an ended shot will carry (R344): abort cause, taint, length. -/
structure Closing where
  cause : Option Nat
  taint : BitVec 8
  length : Nat
  deriving DecidableEq, Repr

/-- The journal (R342 to R353). -/
structure Jrn where
  cnt : JrnCounters
  /-- the open packet of the shot; or, after a rewind, what its replacement will hold. -/
  opened : Option Packet
  rewound : Option Packet
  /-- committed packets: head buffer, spill ring, tail buffer, oldest first. -/
  head : List Packet
  spill : List Packet
  tail : List Packet
  /-- the next packet drained carries GAP (R350). -/
  gap : Bool
  /-- the shot has ended and its final packet waits for its last decision cycle (R344). -/
  closing : Option Closing
  /-- places in the order of R343 of the records that the open packet has taken in one cycle, and that cycle plus 1. -/
  ranks : List Nat
  ranksAt : Nat
  /-- HOST_RD before the host's writes of one cycle, and that cycle plus 1 (R354). -/
  rdOld : Nat
  rdAt : Nat
  deriving DecidableEq, Repr

/-! ## What the clock brings in a later cycle -/

/-- An effect that the spec places a fixed number of cycles after its cause and that no command of the table stands for:
the tick performs it in its cycle. -/
inductive Later where
  /-- a producer fires (R70, R312). -/
  | fire (producer : Nat)
  /-- a producer fires a number of cycles after its cause: at the end of its cycle, so that a shot that ends and routes that
  are committed in it go before (R30, R418). -/
  | fireLate (producer : Nat)
  /-- a fast output reaches OFF; EN clears too where the event does that (R169, R172). -/
  | outOff (och : Nat) (clearEn : Bool)
  /-- a committed shadow set is handed over outside a shot (R124). -/
  | handOver (och set : Nat)
  /-- a receive channel's group reaches the RAW tap (R205). -/
  | rxRaw (rch : Nat)
  /-- the abort of this cycle closes the windows still open at its end (R228). -/
  | closeWindows
  /-- a sequencer update reaches a bias DAC's output (R178). -/
  | bdacCode (bdac : Nat) (code : Int)
  /-- a channel is suppressed by the storm detector (R420). -/
  | suppress (channel : Nat)
  /-- the host's release of a suppressed channel takes effect (R421). -/
  | release (channel : Nat)
  /-- the trigger cycle of a SNAPIN edge (R422). -/
  | snapIn
  /-- the journal commits the ended shot's packet, the cycle after its last decision (R344). -/
  | jrnCommit
  /-- a core's decision write reaches the file: core, low and high word of the store (R292). -/
  | decWrite (core lo hi : Nat)
  /-- a DECISION block reaches the file by a port (R267). -/
  | decBlock (port : Nat) (b : Dword)
  /-- a message of a core's cluster (rank 1 to 4) or of a link port (5 to 8) reaches a channel: a frame operation with its
  role and frame epochs; an async request, a shadow write or a commit with its role epoch (R88, R114, R123). -/
  | frameMsg (rank : Nat) (rx : Bool) (ch role epoch : Nat) (op : FrameOp)
  | asyncMsg (rank ch role mask : Nat)
  | shadowMsg (rank ch role word value : Nat)
  | commitMsg (rank ch role token sets : Nat)
  /-- a waiting condition of a voice has come to its limit (R261). -/
  | waitLimit (och voice : Nat)
  /-- a group's PGOOD has been good for 1 ms: the next group is enabled (R480). -/
  | railNext (group : Nat)
  /-- a group's PWREN is deasserted (R480, R487). -/
  | railOff (group : Nat)
  /-- PWRFAIL is asserted, 50 µs after a TRIP (R487). -/
  | pwrFail
  /-- a step of Dusk begins, in the cycle after the one before it has completed (R493). -/
  | duskStep (step : Nat)
  deriving DecidableEq, Repr

/-! ## The whole block -/

/-- The units whose wrapping counters the host reads, as the present cycle found them: a read in the cycle of an increment
returns the value before it (R522). -/
structure Prior where
  dec : Dec
  evf : Evf
  dma : SMap DmaChan
  jrn : Jrn
  ports : SMap Port
  och : SMap Och
  deriving DecidableEq, Repr

/-- The state of the CQ9624. -/
structure State where
  /-- commands waiting, first in first out. -/
  pending : List Instr
  /-- the part's variant (R1). -/
  variant : Variant
  /-- FCLK cycles since the model's power-up: a count that no step of ST moves. -/
  cyc : Nat
  /-- `TIME.ST`: ST of the first tick of the present cycle (R51). -/
  st : Dword
  /-- the model's own count of free values drawn (not the spec's). -/
  fresh : Nat
  /-- registers that differ from their reset value, by register and instance. -/
  regs : SMap Dword
  /-- snapshot copies (R424). -/
  snaps : SMap Dword
  /-- read latches and write holds of the 64-bit registers (R520); 0 empty, w + 1 for a held word w. -/
  latch : SMap Nat
  hold : SMap Nat
  /-- W1C bits that the block has set in the present cycle, and the saturating counters it has increased in it, each with
  its value before, plus 1 (R522). -/
  raised : SMap Nat
  counted : SMap Nat
  /-- counts that a full counter did not take and that may be taken back (R23). -/
  excess : SMap Nat
  prior : Prior
  /-- data returned by the last host read, and whether it was poisoned (R362, R364). -/
  readData : Dword
  poisoned : Bool
  readBytes : List Byte
  /-- what the block has sent to the host, oldest first. -/
  egress : List Egress
  /-- effects of later cycles: (cycle, effect). -/
  later : List (Nat × Later)
  pcie : Pcie
  dma : SMap DmaChan
  ce : Ce
  evf : Evf
  time : Time
  shot : Shot
  dec : Dec
  mem : Mem
  och : SMap Och
  rch : SMap Rch
  /-- the stream descriptor table (R150). -/
  descs : SMap (BitVec 256)
  waits : SMap (Option Wait)
  mrk : SMap Pin
  bdac : SMap Bdac
  /-- cycle plus 1 in which each Guard trip latched: channel n, 96 + k for a bias DAC (R187). -/
  tripAt : SMap Nat
  /-- calibration units by 128 kind + index (R458). -/
  cal : SMap CalUnit
  /-- DSP cores, and the memories of their clusters (R283). -/
  dsp : SMap Core
  clm : SMap (List Host.Cell)
  acq : SMap Acq
  jrn : Jrn
  ports : SMap Port
  hk : Hk
  nvm : Nvm
  fuse : Fuse
  scarab : Scarab
  power : Power
  therm : Therm
  jtag : Jtag
  deriving DecidableEq, Repr

/-! ## Reset -/

/-- The endpoint before its link trains. DESIGN CHOICE: Max Payload 128 and Max Read Request 512 bytes, the standard's
defaults, and every vector masked; r is that of a link at 2.5 GT/s and one lane (PRESUMED). -/
def Pcie.reset : Pcie := ⟨false, false, false, false, BitVec.allOnes 64, 0, [], [], 128, 512, 0, 0, [], 31⟩

def Ce.reset : Ce := ⟨[], 0, [], [], [], 0, .fetch true⟩

def Evf.reset : Evf := ⟨⟨0, 0, 0, 0, 0, 0, 0, 0⟩, [], [], [], [], [], [], [], [], [], none, [], []⟩

def Time.reset : Time := ⟨false, none, 0, 0, 0, false, none, 0, 0, 0, 0, [], [], [], 0, []⟩

def Shot.reset : Shot :=
  ⟨⟨0, 0, 0⟩, none, none, none, false, 0, 0, none, none, 0, 0, 0, false, 0, none, 0, 0, [], 0⟩

def Dec.reset : Dec := ⟨[], 0, 0, 0, 0, 0, 0, 0, 0, []⟩

def Jrn.reset : Jrn := ⟨⟨0, 0, 0, 0, 0, 0, 0, 0, 0, 0, 0⟩, none, none, [], [], [], false, none, [], 0, 0, 0⟩

/-- The NVM as shipped (R467, R516): no field record, no patch, no guard authority key. DESIGN CHOICE: both nonces 0. -/
def Nvm.shipped : Nvm := ⟨[], [], none, false, 0, false, 0, 0, none, none, none, none, certChain⟩

/-- The fuses as shipped: PROVISIONED (R505), anti-rollback counter 0 (R516). -/
def Fuse.shipped : Fuse := ⟨[1], false, 0, true⟩

/-- Rails good, PERST# released, after VAUX power-up. -/
def Power.good : Power := ⟨true, false, 15, 15, false, none, false, none, false, 1, 0, 0, 0, false⟩

/-- The core domain right after reset: the first cycle of Dawn (R481, R523), memories listing nothing. -/
def State.resetOf (v : Variant) : State where
  pending := []
  variant := v
  cyc := 0
  st := 0
  fresh := 0
  regs := []
  snaps := []
  latch := []
  hold := []
  raised := []
  counted := []
  excess := []
  prior := ⟨Dec.reset, Evf.reset, [], Jrn.reset, [], []⟩
  readData := 0
  poisoned := false
  readBytes := []
  egress := []
  later := []
  pcie := Pcie.reset
  dma := []
  ce := Ce.reset
  evf := Evf.reset
  time := Time.reset
  shot := Shot.reset
  dec := Dec.reset
  mem := ⟨[], [], [], 0⟩
  och := []
  rch := []
  descs := []
  waits := []
  mrk := []
  bdac := []
  tripAt := []
  cal := []
  dsp := []
  clm := []
  acq := []
  jrn := Jrn.reset
  ports := []
  hk := ⟨0, 0, 0, none, none, false⟩
  nvm := Nvm.shipped
  fuse := Fuse.shipped
  scarab := ⟨[], false⟩
  power := Power.good
  therm := ⟨[], false, false, false, 0, 0⟩
  jtag := ⟨false, 0⟩

/-- The machine right after reset. DESIGN CHOICE: a CQ9624-A as shipped. -/
def State.reset : State := State.resetOf .cq9624a

end Sys2Proof.Machine
end

