-- ==== Sys2Proof/Machine/Ops.lean ====
section
/-!
DEFINITION. The operations every family shares: reading and writing registers and their fields, counters, interrupt
latches, the posted writes that leave the block, which units the variant has, and the device state.
-/

namespace Sys2Proof.Machine

/-! ## Registers -/

/-- The key of instance i of a register in the register store. -/
def Reg.key (r : Reg) (i : Nat) : Nat := r.ctorIdx + 512 * i

/-- The reset value of instance i (R525 to R534); the HKADC scan list resets to its own positions (R527). -/
def Reg.rst (r : Reg) (i : Nat) : Nat :=
  match r with
  | .hkScan => 4 * i + 256 * (4 * i + 1) + 65536 * (4 * i + 2) + 16777216 * (4 * i + 3)
  | r => r.info.reset

/-- Width of a register in bits (R520). -/
def Reg.bits (r : Reg) : Nat := if r.info.wide then 64 else 32

namespace State

/-- The value a register holds. -/
def rd (s : State) (r : Reg) (i : Nat := 0) : Nat :=
  (SMap.get (BitVec.ofNat 64 (r.rst i)) s.regs (r.key i)).toNat

/-- The state with a register set, cut to its width. -/
def wr (s : State) (r : Reg) (i v : Nat) : State :=
  { s with regs := SMap.put (BitVec.ofNat 64 (r.rst i)) s.regs (r.key i) (BitVec.ofNat 64 (v % 2 ^ r.bits)) }

/-- The value of a register field. -/
def fld (s : State) (f : Fld) (i : Nat := 0) : Nat := slice (s.rd f.reg i) f.lo f.width

/-- A one-bit field as a Bool. -/
def flag (s : State) (f : Fld) (i : Nat := 0) : Bool := s.fld f i != 0

/-- The W1C bits of register r that the block has set in the present cycle (R522). -/
def raisedBits (s : State) (r : Reg) (i : Nat) : Nat := SMap.get 0 s.raised (r.key i)

/-- The block has set the bits of m: a host write of the present cycle does not clear those with access code W1C (R522). -/
def raise (s : State) (r : Reg) (i m : Nat) : State :=
  { s with raised := SMap.put 0 s.raised (r.key i) (s.raisedBits r i ||| (m &&& r.info.w1c)) }

/-- The state with a register field set. -/
def setF (s : State) (f : Fld) (i v : Nat) : State :=
  (s.wr f.reg i (place (s.rd f.reg i) f.lo f.width v)).raise f.reg i (place 0 f.lo f.width v)

/-- The state with a flag set or cleared. -/
def setB (s : State) (f : Fld) (i : Nat) (b : Bool) : State := s.setF f i (ofBool b)

/-- A counter is about to increase: what the present cycle found in it is kept for a host read (R522). -/
def noteCount (s : State) (r : Reg) (i : Nat) : State :=
  { s with counted :=
      if SMap.get 0 s.counted (r.key i) = 0 then SMap.put 0 s.counted (r.key i) (s.rd r i + 1) else s.counted }

/-- A 32-bit counter increased by n, saturating (R23). -/
def bumpBy (s : State) (r : Reg) (i n : Nat) : State := (s.noteCount r i).wr r i (satAdd32 (s.rd r i) n)

/-- A 32-bit counter increased by one (R23). -/
def bump (s : State) (r : Reg) (i : Nat := 0) : State := s.bumpBy r i 1

/-- A count that may be taken back: one that finds its counter full is noted beside it (R23). -/
def bumpHeld (s : State) (r : Reg) (i : Nat) : State :=
  if s.rd r i = 0xFFFFFFFF then { s with excess := SMap.put 0 s.excess (r.key i) (SMap.get 0 s.excess (r.key i) + 1) }
  else s.bump r i

/-- Such a count is taken back; a counter that has had more stays full. -/
def unbump (s : State) (r : Reg) (i : Nat) : State :=
  let k := SMap.get 0 s.excess (r.key i)
  if k = 0 then s.wr r i (s.rd r i - 1) else { s with excess := SMap.put 0 s.excess (r.key i) (k - 1) }

/-- A register's copy in the snapshot bank (R424). -/
def snapRd (s : State) (r : Reg) (i : Nat) : Nat := (SMap.get 0 s.snaps (r.key i)).toNat

/-- Each listed counter copied into its base register (R43). -/
def copyBase (s : State) (i : Nat) (l : List (Reg × Reg)) : State :=
  forEach l (fun p t => t.wr p.2 i (t.rd p.1 i)) s

/-! ## Units present -/

/-- Output channel n is present (R5). -/
def hasOch (s : State) (n : Nat) : Bool := decide (n < s.variant.ochCount)

/-- Receive channel n is present (R5). -/
def hasRch (s : State) (n : Nat) : Bool := decide (n < s.variant.rchCount)

/-- DSP core q is present (R5). -/
def hasDsp (s : State) (q : Nat) : Bool := decide (q < s.variant.dspCount)

/-- Link port p is present (R5). -/
def hasPort (s : State) (p : Nat) : Bool := decide (p < 4) && bit s.variant.blpMask p

/-- Capture unit n is present: it taps receive channel n (R8). -/
def hasAcq (s : State) (n : Nat) : Bool := s.variant.acq && s.hasRch n

/-- DRAM stack d is present. -/
def hasStack (s : State) (d : Nat) : Bool := decide (d < s.variant.dramStacks)

/-- A unit of power group g failed a Weevil test (R340, R355). -/
def memFailed (s : State) (g : Nat) : Bool := bit (s.rd .glbMemFail (g / 32)) (g % 32)

/-! ## Interrupts and posted writes -/

/-- A posted write or message leaves the block. -/
def emit (s : State) (e : Egress) : State := { s with egress := s.egress ++ [e] }

/-- One MSI-X message of vector v, sent or left pending while masked (R367). -/
def msixSend (s : State) (v : Nat) : State :=
  if s.pcie.msixEn then
    if s.pcie.fmask || bit s.pcie.vmask.toNat v then
      { s with pcie := { s.pcie with pba := BitVec.ofNat 64 (setBit s.pcie.pba.toNat v true) } }
    else s.emit (.msix v (SMap.get 0 s.pcie.msgAddr v) (SMap.get 0 s.pcie.msgData v))
  else s

/-- The cause latch of vector v sets; a message follows when it rises (R366, R367). -/
def irq (s : State) (v : Nat) : State :=
  let r : Reg := if v < 32 then .glbIrqPend0 else .glbIrqPend1
  let s := s.raise r 0 (2 ^ (v % 32))
  if bit (s.rd r) (v % 32) then s
  else (s.wr r 0 (setBit (s.rd r) (v % 32) true)).msixSend v

/-! ## Device state -/

/-- `GLB.DEV_STATE` (R397): 0 OFF, 1 DAWN, 2 IDLE, 3 ARMED, 4 RUNNING, 5 DUSK, 6 SAFE, 7 FAULT. -/
def dev (s : State) : Nat := s.fld .glbDevStateState

/-- The device state changes; a change latches vector 2 (R366, R397). -/
def setDev (s : State) (d : Nat) : State :=
  if s.dev = d then s else (s.setF .glbDevStateState 0 d).irq 2

/-- A device state in which the Command Engine serves its rings (R388): any but OFF and DAWN. -/
def served (s : State) : Bool := decide (2 ≤ s.dev)

/-! ## Host access to BAR0 (R360, R519, R523) -/

/-- Only GLB, TIME, THERM and SCB respond: in DAWN, and in a FAULT that Dawn entered, before its last stage was complete
(R523). -/
def fewPages (s : State) : Bool := s.dev == 1 || (s.dev == 7 && s.fld .glbDawnStatusStage != 9)

/-- A host access to a page of BAR0 reaches its registers. -/
def hostPage (s : State) (page : Nat) : Bool :=
  s.pcie.linkUp && !s.pcie.d3hot && s.dev != 0 && (!s.fewPages || [0, 1, 2, 0x1C0].contains page)

/-- A host access to the page of output channel n, which is present. -/
def hostOch (s : State) (n : Nat) : Bool := s.hostPage (0x100 + n) && s.hasOch n

/-- What a host read returns. -/
def returns (s : State) (v : Nat) : State := { s with readData := BitVec.ofNat 64 v, poisoned := false }

/-! ## Cycles and sample time -/

/-- ST of the first tick of the cycle that lies `lat` cycles from now (R25). -/
def stIn (s : State) (lat : Nat) : Nat := (s.st.toNat + 32 * lat) % 2 ^ 64

/-- ST of the first tick of cycle c, modulo 2^64, on the scale that ST has now. -/
def stOf (s : State) (c : Nat) : Nat :=
  (((s.st.toNat : Int) + 32 * ((c : Int) - (s.cyc : Int))) % (2 ^ 64 : Int)).toNat

/-- The cycle whose first tick has ST t; none when it lies in the past. -/
def cycOfSt (s : State) (t : Nat) : Option Nat :=
  if s.st.toNat ≤ t then some (s.cyc + (t - s.st.toNat) / 32) else none

/-- The next free value's number, and the state that has drawn it. -/
def draw (s : State) : Nat × State := (s.fresh, { s with fresh := s.fresh + 1 })

/-- A meaning on the block's state: it leaves the waiting commands and the fused variant alone. -/
def act (f : State → State) (s : State) : State :=
  let t := f s
  { t with pending := s.pending, variant := s.variant }

end State

/-- The outcome of a command whose effect is f. -/
def run (f : State → State) (s : State) : Host.Outcome State Fault Refusal := .next (s.act f)

end Sys2Proof.Machine
end

