-- ==== Sys2Proof/Machine/Command.lean ====
section
/-!
DEFINITION. The command protocol (spec/14): when a command may start, its packet form, the order of its checks, its
reply, and the completion replies of long commands. Every host command's meaning is one `CmdSpec` run by `hostCmd`.
-/

namespace Sys2Proof.Machine

/-! ## The packet (R390, R558) -/

/-- Word k of the packet; a word the packet lacks reads 0. -/
def pktWord (c : HostCmd) (k : Nat) : Nat := (c.words.getD k 0).toNat

def opcodeOf (c : HostCmd) : Nat := slice (pktWord c 0) 0 16
def tagOf (c : HostCmd) : Nat := slice (pktWord c 0) 16 16
def lenOf (c : HostCmd) : Nat := slice (pktWord c 1) 0 6
def fenceOf (c : HostCmd) : Bool := bit (pktWord c 1) 9
def irqOf (c : HostCmd) : Bool := bit (pktWord c 1) 10
def epochChk (c : HostCmd) : Bool := bit (pktWord c 1) 8
def kindOf (c : HostCmd) : Nat := slice (pktWord c 2) 0 4
def indexOf (c : HostCmd) : Nat := slice (pktWord c 2) 4 12
def epochOf (c : HostCmd) : Nat := slice (pktWord c 2) 16 8

/-- Packet byte k as sent. -/
def rawByte (c : HostCmd) (k : Nat) : Nat := slice (pktWord c (k / 4)) (8 * (k % 4)) 8

/-- Packet byte k as the layout reads it: a byte beyond LEN is taken as zero (R558). -/
def pByte (c : HostCmd) (k : Nat) : Nat := if k < 16 + lenOf c then rawByte c k else 0

/-- The n bytes of the packet from byte k, little-endian (R558). -/
def pNum (c : HostCmd) (k : Nat) : Nat → Nat
  | 0 => 0
  | n + 1 => pByte c k + 256 * pNum c (k + 1) n

/-- Bits [b + w − 1 : b] of packet byte k. -/
def pBits (c : HostCmd) (k b w : Nat) : Nat := slice (pByte c k) b w

/-- The host buffer's bytes; empty when none was read. -/
def bufOf (c : HostCmd) : List Byte := c.buf.getD []

/-! ## Status codes (R394) and checks (R395) -/

/-- A refusal: status, INFO0, INFO1. -/
structure Reject where
  status : Nat
  info0 : Nat
  info1 : Nat
  deriving DecidableEq, Repr

/-- INFO0 when no entry of a list is at fault (R394). -/
def noEntry : Nat := 0xFFFFFFFF

def rejBusy : Option Reject := some ⟨2, 0, 0⟩
def rejState : Option Reject := some ⟨3, 0, 0⟩
/-- `RANGE` at packet byte k. -/
def rejRange (k : Nat) : Option Reject := some ⟨4, noEntry, k⟩
/-- `RANGE` in entry e of the target table, its field at packet byte k. -/
def rejRangeAt (e k : Nat) : Option Reject := some ⟨4, e, k⟩
/-- `ABSENT`, with the unit's kind and index as in packet word 2. -/
def rejAbsent (kind index : Nat) : Option Reject := some ⟨5, kind + 16 * index, 0⟩
def rejLocked : Option Reject := some ⟨6, noEntry, 0⟩
def rejLockedAt (e : Nat) : Option Reject := some ⟨6, e, 0⟩
def rejAuth : Option Reject := some ⟨7, 0, 0⟩
/-- `CONFLICT`, with the owner's kind and index as in packet word 2. -/
def rejConflict (kind index info1 : Nat) : Option Reject := some ⟨8, kind + 16 * index, info1⟩
def rejLoop (ch : Nat) : Option Reject := some ⟨9, ch, 0⟩

/-- A refusal where a condition holds. -/
def rejIf (c : Bool) (r : Option Reject) : Option Reject := if c then r else none

/-- The first refusal of a list. -/
def firstRej : List (Option Reject) → Option Reject
  | [] => none
  | some r :: _ => some r
  | none :: l => firstRej l

/-- The first refusal among the values of f at the elements of a list. -/
def firstRejOf {α : Type} (l : List α) (f : α → Option Reject) : Option Reject := firstRej (l.map f)

/-- What an applied command answers: INFO0, INFO1, RESULT; `ACCEPTED` for a long command. -/
structure Answer where
  info0 : Nat := 0
  info1 : Nat := 0
  result : Nat := 0
  long : Bool := false
  deriving DecidableEq, Repr

/-- A command of the opcode reference (R404): what it may target, in which states (bit s for state s), which packet bits
its layout names (R558), what each step of R395 refuses, and what it does when it applies. -/
structure CmdSpec where
  opcode : Nat
  kinds : List Nat
  states : Nat
  /-- named packet bits, as (byte, mask). -/
  layout : List (Nat × Nat) := []
  /-- the command reads a host buffer (R395). -/
  reads : State → HostCmd → Bool := fun _ _ => false
  auth : State → HostCmd → Option Reject := fun _ _ => none
  absent : State → HostCmd → Option Reject := fun _ _ => none
  range : State → HostCmd → Option Reject := fun _ _ => none
  locked : State → HostCmd → Option Reject := fun _ _ => none
  conflict : State → HostCmd → Option Reject := fun _ _ => none
  loop : State → HostCmd → Option Reject := fun _ _ => none
  busy : State → HostCmd → Option Reject := fun _ _ => none
  app : State → HostCmd → State × Answer
  /-- the trace that a `LOCKED` refusal leaves (R127, R135). -/
  onLocked : State → HostCmd → Reject → State := fun s _ _ => s
  /-- SYS_RESET writes no reply (R404). -/
  silent : Bool := false

/-- A command whose only effect is a change of state. -/
def justDo (f : State → HostCmd → State) (s : State) (c : HostCmd) : State × Answer := (f s c, {})

/-- The opcodes of R404. -/
def opcodes : List Nat :=
  List.flatten [(List.range 17).map (0x100 + ·), (List.range 15).map (0x200 + ·), (List.range 8).map (0x300 + ·),
    (List.range 4).map (0x400 + ·), (List.range 3).map (0x500 + ·), (List.range 10).map (0x600 + ·),
    (List.range 4).map (0x700 + ·), (List.range 5).map (0x800 + ·), (List.range 3).map (0x900 + ·)]

/-- The bytes of words 1 to 3 that hold a nonzero reserved bit (R390), rising. -/
def reservedBytes (c : HostCmd) : List Nat :=
  [4, 5, 6, 7, 11, 12, 13, 14, 15].filter fun k =>
    rawByte c k &&& (if k = 4 then 0xC0 else if k = 5 then 0xF8 else 0xFF) != 0

/-- R395 step 1: packet form. An opcode outside R404 is refused before its other fields are looked at. -/
def checkForm (sp : CmdSpec) (c : HostCmd) : Option Reject :=
  firstRej [
    rejIf (!opcodes.contains (opcodeOf c)) (rejRange 0),
    rejIf (decide (48 < lenOf c)) (rejRange 4),
    firstRejOf (reservedBytes c) rejRange,
    rejIf (!sp.kinds.contains (kindOf c)) (rejRange 8),
    rejIf (epochChk c && !([1, 2, 3, 10].contains (kindOf c))) (rejRange 5)]

/-- R558: packet bytes from 16 on whose unnamed bits must be zero. -/
def checkLayout (sp : CmdSpec) (c : HostCmd) : Option Reject :=
  firstRejOf ((List.range 48).map (16 + ·)) fun k =>
    let named := sp.layout.foldl (fun m p => if p.1 = k then m ||| p.2 else m) 0
    rejIf (rawByte c k &&& (0xFF - named) != 0) (rejRange k)

/-- The layout of n whole bytes from byte k. -/
def whole (k n : Nat) : List (Nat × Nat) := (List.range n).map (fun j => (k + j, 0xFF))

/-- A host buffer's address, in packet bytes from k, is 8-byte-aligned (R390). -/
def bufAligned (c : HostCmd) (k : Nat) : Option Reject := rejIf (pNum c k 8 % 8 != 0) (rejRange k)

namespace State

/-- Epoch of a tone 16r + t (R241): byte t mod 4 of TONE_EPOCH[t / 4]. -/
def toneEpoch (s : State) (slot : Nat) : Nat :=
  slice (s.rd .rchToneEpoch (4 * (slot / 16) + slot % 16 / 4)) (8 * (slot % 4)) 8

/-- The record of a decision slot. -/
def slot (s : State) (k : Nat) : Slot := SMap.get Slot.init s.dec.slots k

/-- Epoch of a decision slot (R269); a tone's slot has the epoch of its tone, 0 where that tone is absent (R13). -/
def slotEpoch (s : State) (k : Nat) : Nat :=
  if k < 384 then (if s.hasRch (k / 16) then s.toneEpoch k else 0) else (s.slot k).epoch.toNat

/-- A power group of this part, or an always-on bank (R357, R558). -/
def groupPresent (s : State) (g : Nat) : Bool :=
  if g < 96 then s.hasOch g else if g < 120 then s.hasRch (g - 96) else if g < 152 then s.hasDsp (g - 120)
  else if g < 156 then decide (8 * (g - 152) < s.variant.dspCount)
  else if g < 158 then s.hasStack (g - 156) else decide (160 ≤ g ∧ g ≤ 164)

/-- A unit named by KIND and INDEX is present and has not failed its Weevil test (R395 step 4, R340). -/
def unitPresent (s : State) (kind index : Nat) : Bool :=
  match kind with
  | 0 => index == 0
  | 1 => s.hasOch index && !s.memFailed index
  | 2 => s.hasRch index && !s.memFailed (96 + index)
  | 3 => s.hasRch (index / 16) && !s.memFailed (96 + index / 16)
  | 4 => decide (index < 48)
  | 5 => s.hasDsp index && !s.memFailed (120 + index)
  | 6 => s.hasAcq index
  | 7 => s.hasPort index
  | 8 => decide (index < 256)
  | 9 => true
  | 10 => decide (index < 4096)
  | 11 => s.variant.dram && decide (index < 1024)
  | 12 => s.groupPresent index && !(decide (index < 158) && s.memFailed index)
  | _ => false

/-- `ABSENT` for a unit that is not there. -/
def needUnit (s : State) (kind index : Nat) : Option Reject := rejIf (!s.unitPresent kind index) (rejAbsent kind index)

/-- The epoch EPOCH_CHK compares with (R392). -/
def targetEpoch (s : State) (kind index : Nat) : Nat :=
  match kind with
  | 1 => s.fld .ochRoleEpochEpoch index
  | 2 => s.fld .rchRoleEpochEpoch index
  | 3 => s.toneEpoch index
  | _ => s.slotEpoch index

/-- R395: every check of a command in its order; none when it applies. -/
def check (sp : CmdSpec) (s : State) (c : HostCmd) : Option Reject :=
  firstRej [
    checkForm sp c,
    rejIf (!bit sp.states s.dev) rejState,
    rejIf (sp.reads s c && c.buf.isNone) (some ⟨4, noEntry, 0xFE⟩),
    sp.auth s c,
    s.needUnit (kindOf c) (indexOf c),
    sp.absent s c,
    rejIf (epochChk c && (s.targetEpoch (kindOf c) (indexOf c) != epochOf c))
      (some ⟨0xA, s.targetEpoch (kindOf c) (indexOf c), 0⟩),
    checkLayout sp c,
    sp.range s c,
    sp.locked s c,
    sp.conflict s c,
    sp.loop s c,
    sp.busy s c]

/-! ## Queue pairs (R385 to R389) -/

/-- A queue pair. -/
def qp (s : State) (q : Nat) : Qp := SMap.get Qp.init s.ce.qps q

def setQp (s : State) (q : Nat) (p : Qp) : State :=
  { s with ce := { s.ce with qps := SMap.put Qp.init s.ce.qps q p } }

def cmdLen (s : State) (q : Nat) : Nat := s.fld .qpLenCmdLen q
def rplLen (s : State) (q : Nat) : Nat := s.fld .qpLenRplLen q
def qpEn (s : State) (q : Nat) : Bool := s.flag .qpCtrlEn q

/-- The reply ring has a free slot: RPL_TAIL + 1 ≠ RPL_HEAD modulo RPL_LEN (R386). -/
def rplRoom (s : State) (q : Nat) : Bool :=
  ((s.qp q).rplTail + 1) % s.rplLen q != (s.qp q).rplHead

/-- Free slots of the reply ring that are not reserved (R387). -/
def rplFree (s : State) (q : Nat) : Nat :=
  let p := s.qp q
  (p.rplHead + 2 * s.rplLen q - p.rplTail - 1) % max 1 (s.rplLen q) - ofBool p.resv

/-- The reply words of R393, PHASE clear. -/
def replyWords (s : State) (opcode tag status compl legal info0 info1 accSt result : Nat) : List Word :=
  let w1 := status + 512 * compl + 65536 * s.dev + 16777216 * legal
  [opcode + 65536 * tag, w1, info0, info1, slice accSt 0 32, slice accSt 32 32, slice result 0 32, slice result 32 32].map
    (BitVec.ofNat 32)

/-- The bytes of a list of words, little-endian. -/
def wordBytes (l : List Word) : List Byte := l.flatMap (fun w => leBytes 4 w.toNat)

/-- One reply of 32 bytes into the reply ring: a posted write with PHASE, then RPL_TAIL advances and PHASE inverts on a
wrap (R393); vector 0 latches where asked (R366). -/
def writeReply (s : State) (q : Nat) (ws : List Word) (vec : Bool) : State :=
  let p := s.qp q
  let ws := match ws with
    | a :: b :: t => a :: BitVec.ofNat 32 (setBit b.toNat 8 p.phase) :: t
    | l => l
  let tail := (p.rplTail + 1) % s.rplLen q
  let s := s.emit (.hostWrite (BitVec.ofNat 64 (s.rd .qpRplBase q + 32 * p.rplTail)) (wordBytes ws))
  let s := s.setQp q { p with rplTail := tail, phase := if tail = 0 then !p.phase else p.phase }
  when vec (fun s => s.irq 0) s

/-- A pair serves a command now: enabled, not stopped on a fetch error, holding a command, with reply room that no
waiting completion claims first (R385 to R389). -/
def canServe (s : State) (q : Nat) : Bool :=
  s.served && s.pcie.linkUp && s.qpEn q && !s.flag .qpStatusFetchErr q && ((s.qp q).head != (s.qp q).tail)
    && s.rplRoom q && (s.qp q).held.isEmpty

/-- A FENCE waits for the work of every long command that has started (R391). -/
def fenceOpen (s : State) (c : HostCmd) : Bool := !fenceOf c || s.ce.longs.isEmpty

/-- The pairs looked at before pair q (R387): QP0, then QP1 to QP3 from the one after the pair of them served last. -/
def qpsAhead (s : State) (q : Nat) : List Nat :=
  if q = 0 then [] else 0 :: ((List.range 3).map fun k => (s.ce.lastServed + k) % 3 + 1).takeWhile (· != q)

/-- The command that pair q holds is able to start (R387): the pair can be served, and a FENCE that has been read at its head
is open. -/
def ableQp (s : State) (q : Nat) : Bool := s.canServe q && ((s.qp q).fenced.isNone || s.ce.longs.isEmpty)

/-- It is pair q's turn (R387): no pair looked at before it holds a command able to start. -/
def qpTurn (s : State) (q : Nat) : Bool := (s.qpsAhead q).all fun p => !s.ableQp p

/-- The command is the one at the head of its pair: where a FENCE has been read there, that one (R391). -/
def atHead (s : State) (c : HostCmd) : Bool := (s.qp c.qp).fenced.all fun w => w == c.words

/-- The engine looks at the command now, and its FENCE does not let it start (R387, R391). -/
def fenceWaits (s : State) (c : HostCmd) : Bool :=
  s.canServe c.qp && s.qpTurn c.qp && s.atHead c && !s.fenceOpen c && !s.flag .ceStatusRestart

/-- The command starts now (R387): its pair is served and has its turn, its FENCE is open, and the engine is not
restarting. -/
def canStart (s : State) (c : HostCmd) : Bool :=
  s.canServe c.qp && s.qpTurn c.qp && s.atHead c && s.fenceOpen c && !s.flag .ceStatusRestart

/-- A command starts: CMD_HEAD passes its slot, a slot of the reply ring is reserved, and the pair becomes the one served
last (R387). -/
def passHead (s : State) (q : Nat) : State :=
  let p := s.qp q
  let s := s.setQp q { p with head := (p.head + 1) % s.cmdLen q, fenced := none, resv := true }
  if q = 0 then s else { s with ce := { s.ce with lastServed := q } }

/-- CMD_CNT, and REFUSED_CNT for a status other than `OK` and `ACCEPTED` (R408). -/
def countAnswer (s : State) (status : Nat) : State :=
  when (decide (2 ≤ status)) (fun s => s.bump .ceRefusedCnt) (s.bump .ceCmdCnt)

/-- The reservation of a pair's reply slot ends as the reply is written (R387). -/
def unreserve (s : State) (q : Nat) : State := s.setQp q { s.qp q with resv := false }

/-- The reply of a command accepted at ST `acc`, written and counted. -/
def answer (s : State) (c : HostCmd) (status legal info0 info1 acc result : Nat) : State :=
  let ws := s.replyWords (opcodeOf c) (tagOf c) status 0 legal info0 info1 acc result
  ((s.countAnswer status).unreserve c.qp).writeReply c.qp ws (irqOf c)

end State

/-- A host command whose turn has come: the checks of R395 in order, then either a refusal that changes nothing or the
whole effect, and one reply (R387, R393, R395, R396). A FENCE that does not let its command start keeps it at the head of its
pair; any other command that is not able to start, or whose packet carries another command's opcode, changes nothing. -/
def hostCmd (sp : CmdSpec) (c : HostCmd) (s : State) : State :=
  if opcodes.contains (opcodeOf c) && opcodeOf c != sp.opcode then s
  else if s.fenceWaits c then s.setQp c.qp { s.qp c.qp with fenced := some c.words }
  else if !s.canStart c then s
  else
    let s1 := s.passHead c.qp
    match s.check sp c with
    | some r =>
      let s1 := if r.status = 6 then sp.onLocked s1 c r else s1
      s1.answer c r.status (if r.status = 3 then sp.states else 0) r.info0 r.info1 s.st.toNat 0
    | none =>
      let (s2, a) := sp.app s1 c
      if sp.silent then s2
      else s2.answer c (if a.long then 1 else 0) 0 (if a.long then 0 else a.info0) (if a.long then 0 else a.info1)
        s.st.toNat a.result

/-- The outcome of a host command. -/
def command (sp : CmdSpec) (c : HostCmd) (s : State) : Host.Outcome State Fault Refusal := run (hostCmd sp c) s

/-! ## Long commands and their completions (R400 to R402) -/

namespace State

/-- LONG_OUT follows the long commands in progress (R408). -/
def setLongs (s : State) (l : List LongCmd) : State :=
  { s with ce := { s.ce with longs := l } }.setF .ceStatusLongOut 0 l.length

/-- A long command starts (R400). -/
def startLong (s : State) (c : HostCmd) (cls : LongClass) (unit arg : Nat) (addr : Nat) (payload : List Byte) : State :=
  s.setLongs (s.ce.longs ++ [⟨c.qp.val, opcodeOf c, tagOf c, cls, unit, arg, s.st, s.cyc, BitVec.ofNat 64 addr, payload⟩])

/-- `BUSY` for a long command beyond its class limit or the device's 16 (R400). -/
def longBusy (s : State) (cls : LongClass) (unit : Nat) : Option Reject :=
  rejIf (decide (16 ≤ s.ce.longs.length) || (cls == .nvm && s.nvm.auto) ||
    s.ce.longs.any (fun l => l.cls == cls && (l.unit == unit || cls == .cal || cls == .nvm || cls == .scarab))) rejBusy

/-- A completion reply is due: it waits in its pair's list until the ring has room (R389, R400), and CPL_HELD shows it
while the pair is disabled. -/
def holdReply (s : State) (q : Nat) (ws : List Word) : State :=
  let p := s.qp q
  when (!s.qpEn q) (fun s => s.setB .qpStatusCplHeld q true) (s.setQp q { p with held := p.held ++ [ws] })

/-- The oldest waiting completion of an enabled pair is written when there is room (R400); vector 0 latches (R366). -/
def drainReply (s : State) (q : Nat) : State :=
  match (s.qp q).held with
  | [] => s
  | ws :: rest =>
    if s.qpEn q && s.served && s.pcie.linkUp && decide (0 < s.rplFree q) then
      (s.setQp q { s.qp q with held := rest }).writeReply q ws true
    else s

/-- The states in which a long command is accepted (R404). -/
def longStates (l : LongCmd) : Nat :=
  match l.opcode with
  | 0x700 | 0x701 => 0b11100
  | 0x606 | 0x800 => 0b1100
  | 0x801 => 0b11011100
  | 0x901 => if l.arg = 1 then 0b11100 else 0b100
  | _ => 0b100

/-- A long command's work ends with a status and its completion reply (R400, R402). -/
def completeAs (s : State) (l : LongCmd) (status info0 info1 result : Nat) : State :=
  let s := s.setLongs (s.ce.longs.erase l)
  let acc := if status = 0xB then 0 else l.accSt.toNat
  let legal := if status = 3 then longStates l else 0
  (s.holdReply l.qp (s.replyWords l.opcode l.tag status 1 legal info0 info1 acc result)).drainReply l.qp

/-- The long commands in progress end at once with a status (R401, R403). -/
def endLongs (s : State) (status : Nat) : State :=
  forEach s.ce.longs (fun l s => s.completeAs l status 0 0 0) s

/-- Power state of a group (R332): 0 ON, 1 RET, 2 OFF; 3 for an absent unit's group (R357). -/
def groupState (s : State) (g : Nat) : Nat :=
  if s.groupPresent g then (if g < 158 then slice (s.rd .glbBankPwr (g / 16)) (2 * (g % 16)) 2 else 0) else 3

/-- A group in transition (R333) or, with an always-on bank, under a Weevil test (R341). -/
def groupBusy (s : State) (g : Nat) : Bool :=
  (decide (g < 158) && bit (s.rd .glbBankBusy (g / 32)) (g % 32)) || s.ce.longs.any (fun l => l.cls == .test && l.unit == g)

/-- A group whose banks answer accesses (R334). -/
def groupOn (s : State) (g : Nat) : Bool := s.groupState g == 0 && !s.groupBusy g

/-- R334: a command that needs a group in RET or OFF is refused with `LOCKED`, one in transition with `BUSY`. -/
def bankLocked (s : State) (g : Nat) : Option Reject := rejIf (!s.groupBusy g && s.groupState g != 0) rejLocked
def bankBusy (s : State) (g : Nat) : Option Reject := rejIf (s.groupBusy g) rejBusy

/-- The first long command with a given opcode and unit. -/
def findLong (s : State) (opcode : Nat) (unit : Option Nat := none) : Option LongCmd :=
  s.ce.longs.find? (fun l => l.opcode == opcode && (match unit with | none => true | some u => l.unit == u))

end State

end Sys2Proof.Machine
end

