-- ==== Sys2Proof/Machine/ShotOps.lean ====
section
/-!
DEFINITION. What the channels, tones and the decision file need of the shot (spec/01, R28 to R36): participation, taint,
and an abort taking effect. The shot controller itself stands in Shot.lean.
-/

namespace Sys2Proof.Machine.State

/-- An output channel's record. -/
def chan (s : State) (n : Nat) : Och := SMap.get Och.init s.och n

def setChan (s : State) (n : Nat) (o : Och) : State := { s with och := SMap.put Och.init s.och n o }

/-- An output channel's record changed. -/
def updChan (s : State) (n : Nat) (f : Och → Och) : State := s.setChan n (f (s.chan n))

/-- A receive channel's record. -/
def rchan (s : State) (n : Nat) : Rch := SMap.get Rch.init s.rch n

def setRchan (s : State) (n : Nat) (r : Rch) : State := { s with rch := SMap.put Rch.init s.rch n r }

def updRchan (s : State) (n : Nat) (f : Rch → Rch) : State := s.setRchan n (f (s.rchan n))

/-- A voice of a channel. -/
def voice (s : State) (n v : Nat) : Voice := SMap.get Voice.init (s.chan n).voices v

def setVoice (s : State) (n v : Nat) (x : Voice) : State :=
  s.updChan n fun o => { o with voices := SMap.put Voice.init o.voices v x }

def updVoice (s : State) (n v : Nat) (f : Voice → Voice) : State := s.setVoice n v (f (s.voice n v))

/-- The channel is named by the participation block (R28). -/
def ochPart (s : State) (n : Nat) : Bool := bit s.shot.part.och.toNat n

/-- A read-out tone is named by the participation block. -/
def tonePart (s : State) (slot : Nat) : Bool := bit s.shot.part.tone.toNat slot

/-- A DSP core is named by the participation block. -/
def dspPart (s : State) (q : Nat) : Bool := bit s.shot.part.dsp.toNat q

/-- The output channels of the present shot. -/
def shotChans (s : State) : List Nat := (List.range s.variant.ochCount).filter s.ochPart

/-- A shot runs, or its start has been accepted. -/
def shotOn (s : State) : Bool := s.shot.running || s.shot.accepted.isSome

/-- A shot runs, or the start fetch of an accepted one has come (R119). -/
def shotFetched (s : State) : Bool :=
  s.shot.running || (match s.shot.accepted with | some t => decide (t ≤ s.cyc + 31) | none => false)

/-- Tag of the running shot, or of the one whose start is accepted (R31). -/
def runTag (s : State) : Nat := (s.fld .glbShotNumNum + ofBool s.shot.accepted.isSome) % 65536

/-- Taint bit b of the shot (R34). -/
def taint (s : State) (b : Nat) : State :=
  if s.shotOn then { s with shot := { s.shot with taint := s.shot.taint ||| BitVec.ofNat 8 (2 ^ b) } } else s

def taintUnderrun : State → State := fun s => s.taint 0
def taintLateDefault : State → State := fun s => s.taint 1
def taintGuard : State → State := fun s => s.taint 2
def taintMem : State → State := fun s => s.taint 3

/-- An effect placed in a later cycle. -/
def after (s : State) (c : Nat) (e : Later) : State := { s with later := s.later ++ [(c, e)] }

/-- An abort takes effect in this cycle (R35): its cause is recorded, each participating channel stops at its next
multiplexer boundary (R121), and windows still open at the end of the cycle close (R228). A second cause changes
nothing. -/
def abortShot (s : State) (cause : Nat) : State :=
  if s.shot.running && s.shot.abort.isNone then
    let s := { s with shot := { s.shot with abort := some (cause, s.cyc) } }
    let s := forEach s.shotChans (fun n s => s.updChan n fun o => { o with stopping := true }) s
    s.after s.cyc .closeWindows
  else s

/-! ## Accepting a start (R29, R30, R398, R490) -/

/-- The throttle's start hold admits no start in the present cycle (R490). -/
def startHeld (s : State) : Bool := decide (s.cyc < s.shot.hold)

/-- The shot controller accepts a start in the present cycle. -/
def mayStart (s : State) : Bool :=
  (s.dev == 3 || s.dev == 4) && !s.shotOn && !s.startHeld
    && (match s.shot.lastStart with | some t => decide (t + 281 ≤ s.cyc) | none => true)
    && !s.shot.stopping && (s.shot.count == 0 || decide (s.shot.started < s.shot.count))

/-- A start is made with its tick 32 cycles from now: the device runs from this cycle (R397). -/
def startMade (s : State) : State :=
  let last := s.shot.count != 0 && s.shot.started + 1 == s.shot.count
  let s := { s with shot := { s.shot with
    accepted := some (s.cyc + 32), started := s.shot.started + 1, sched := if last then none else s.shot.sched } }
  s.setDev 4

/-- A start that is not made (R30, R490). -/
def startIgnored (s : State) : State :=
  when (s.startHeld && (s.dev == 3 || s.dev == 4)) (fun s => s.bump .thermThrottleHold) (s.bump .glbStartIgnored)

/-- A start event is sampled (R30, R398); none is before the end of Dawn. -/
def startEvent (s : State) : State := if s.mayStart then s.startMade else when s.served State.startIgnored s

end Sys2Proof.Machine.State
end

