-- ==== Sys2Proof/Machine/Decision.lean ====
section
/-!
DEFINITION. The decision file (spec/09, R244 to R250): slots and their four counters, the reading of a slot at a deadline,
condition entries and their evaluation (spec/04, R117, R118), and the commands that assign and clear slots.
-/

namespace Sys2Proof.Machine

namespace State

def setSlot (s : State) (k : Nat) (x : Slot) : State :=
  { s with dec := { s.dec with slots := SMap.put Slot.init s.dec.slots k x } }

/-- The slot's decision is VALID (R245). -/
def slotValid (x : Slot) : Bool := bit x.word.toNat 2

/-- A resident decision that no counter has counted yet (R249). -/
def slotUncounted (x : Slot) : Bool := slotValid x && !x.counted

/-- The slot's present record becomes past. -/
def slotPush (x : Slot) : List (BitVec 4 × BitVec 16 × Nat) := ((x.word, x.tag, x.from_) :: x.past).take 16

/-- Counters of the decision invariant (R249). -/
def decCount (s : State) (p c u t : Nat) : State :=
  { s with dec := { s.dec with
    produced := s.dec.produced + BitVec.ofNat 48 p, consumed := s.dec.consumed + BitVec.ofNat 48 c,
    superseded := s.dec.superseded + BitVec.ofNat 48 u, stale := s.dec.stale + BitVec.ofNat 48 t } }

/-- Re-base of the decision invariant (R43, R250). -/
def decRebase (s : State) : State :=
  let d := s.dec
  State.bump { s with dec := { d with
    producedBase := d.produced, consumedBase := d.consumed, supersededBase := d.superseded, staleBase := d.stale } }
    .glbDecRebase

/-- Words of a bank become correct because they are written (R336). -/
def cleanBank (s : State) (row inst lo hi : Nat) : State :=
  { s with mem := { s.mem with
      bad := s.mem.bad.filter (fun w => !(w.1 == row && w.2.1 == inst && decide (lo ≤ w.2.2) && decide (w.2.2 < hi))) } }

/-- A write that is accepted (R245, R249): word and tag replaced, VALID set, COUNTED clear, valid from cycle `at_`; an
uncounted decision that it replaces counts superseded. -/
def decAccept (s : State) (k word tag at_ : Nat) : State :=
  let x := s.slot k
  let s := (s.decCount 1 0 (ofBool (slotUncounted x)) 0).cleanBank 11 0 k (k + 1)
  s.setSlot k { x with
    word := BitVec.ofNat 4 (setBit word 2 true), tag := BitVec.ofNat 16 tag, counted := false, from_ := at_,
    past := slotPush x }

/-- A write that is discarded as stale (R249, R268, R270). -/
def decStale (s : State) (k : Nat) : State :=
  let x := s.slot k
  (s.decCount 1 0 0 1).setSlot k { x with stale := BitVec.ofNat 8 (min 255 (x.stale.toNat + 1)) }

/-- VALID cleared by DEC_CLEAR or DEC_ASSIGN (R247): an uncounted decision counts superseded. -/
def decRemove (s : State) (k : Nat) : State :=
  let x := s.slot k
  let s := s.decCount 0 0 (ofBool (slotUncounted x)) 0
  (s.cleanBank 11 0 k (k + 1)).setSlot k { x with word := BitVec.ofNat 4 (setBit x.word.toNat 2 false), from_ := s.cyc, past := slotPush x }

/-- An uncorrectable error is found in a slot's record (R248): VALID is cleared, which writes the record. -/
def decUncorr (s : State) (k : Nat) : State :=
  let x := s.slot k
  let s := (s.cleanBank 11 0 k (k + 1)).setSlot k { x with
    word := BitVec.ofNat 4 (setBit x.word.toNat 2 false), from_ := s.cyc, past := [] }
  ((s.setB .glbFbStatusDecUncorr 0 true).decRebase).taintMem

/-- The shot-end count: every uncounted resident decision counts superseded (R249, R250). -/
def decShotEnd (s : State) : State :=
  forEach (s.dec.slots.filter (fun p => slotUncounted p.2)) (fun p s =>
    (s.decCount 0 0 1 0).setSlot p.1 { p.2 with counted := true }) s

/-- Word and tag that slot k held in cycle d: its record valid from d or earlier (R246, R251). -/
def slotAt (s : State) (k d : Nat) : BitVec 4 × BitVec 16 :=
  let x := s.slot k
  if x.from_ ≤ d then (x.word, x.tag)
  else match x.past.find? (fun p => decide (p.2.2 ≤ d)) with
    | some (w, t, _) => (w, t)
    | none => (0, 0)

end State

/-! ## Condition entries (R117) -/

/-- NIN; more than 8 is taken as 8 (R132). -/
def condNin (e : BitVec 512) : Nat := min 8 (slice e.toNat 384 4)
def condSlot (e : BitVec 512) (k : Nat) : Nat := slice e.toNat (256 + 16 * k) 12
def condMask (e : BitVec 512) (k : Nat) : Nat := slice e.toNat (256 + 16 * k + 12) 4
def condTagCheck (e : BitVec 512) : Bool := bit e.toNat 388
def condTagSel (e : BitVec 512) : Bool := bit e.toNat 389

/-- The tag a decision must carry for a rendering of shot tag t (R117). -/
def condTag (e : BitVec 512) (t : BitVec 16) : BitVec 16 := if condTagSel e then t - 1 else t

/-- A decision word with its tag is ready for a condition (R118). -/
def condReady (e : BitVec 512) (t : BitVec 16) (p : BitVec 4 × BitVec 16) : Bool :=
  bit p.1.toNat 2 && (!condTagCheck e || p.2 == condTag e t)

namespace State

/-- A condition entry of a channel. -/
def cond (s : State) (n i : Nat) : BitVec 512 := SMap.get 0 (s.chan n).conds i

/-- A slot that a tone of an absent channel would write never becomes valid (R13, R278). -/
def slotAbsent (s : State) (k : Nat) : Bool := decide (k < 384) && !s.hasRch (k / 16)

/-- The inputs of a condition that are not ready in cycle d. -/
def condMissing (s : State) (e : BitVec 512) (t : BitVec 16) (d : Nat) : List Nat :=
  ((List.range (condNin e)).map (condSlot e)).filter fun k => s.slotAbsent k || !condReady e t (s.slotAt k d)

/-- The result of a condition whose inputs are ready in cycle d: TRUTH at the pattern of its input bits (R118). -/
def condResult (s : State) (e : BitVec 512) (d : Nat) : Bool :=
  let i := (List.range (condNin e)).foldl
    (fun a k => a + ofBool (bit (condMask e k) (slice (s.slotAt (condSlot e k) d).1.toNat 0 2)) * 2 ^ k) 0
  bit e.toNat i

/-- The cycle in which the last input became ready, among inputs that are ready now (R258). -/
def condReadyAt (s : State) (e : BitVec 512) : Nat :=
  (List.range (condNin e)).foldl (fun a k => max a (s.slot (condSlot e k)).from_) 0

/-- A completed evaluation reads its inputs (R249): a resident decision not yet counted counts consumed. -/
def condConsume (s : State) (e : BitVec 512) (d : Nat) : State :=
  forEach (List.range (condNin e)) (fun k s =>
    let x := s.slot (condSlot e k)
    if slotUncounted x && decide (x.from_ ≤ d) then
      (s.decCount 0 1 0 0).setSlot (condSlot e k) { x with counted := true }
    else s) s

/-- An uncorrectable word lies in [lo, hi) of a bank instance (R336). -/
def badIn (s : State) (row inst lo hi : Nat) : Bool :=
  s.mem.bad.any fun b => b.1 == row && b.2.1 == inst && decide (lo ≤ b.2.2) && decide (b.2.2 < hi)

/-- Decision records found uncorrectable by a condition's reads lose their decision (R248). -/
def condEcc (s : State) (e : BitVec 512) : State :=
  forEach ((List.range (condNin e)).map (condSlot e)) (fun k s =>
    if s.badIn 11 0 k (k + 1) then s.decUncorr k else s) s

/-- A port re-stripes while an input from a linked device is outstanding (R271). -/
def excursion (s : State) (missing : List Nat) : Bool :=
  missing.any (fun k => decide (1024 ≤ k)) && (List.range 4).any (fun p => s.fld .blpStatusState p == 3)

def latencyExcursion (s : State) (missing : List Nat) : State :=
  when (s.excursion missing) (fun s => s.bump .glbLatExcCnt) s

/-! ## Commands (R272) -/

/-- The slots [index, index + count) of DEC_ASSIGN or DEC_CLEAR. -/
def slotSpan (c : HostCmd) : List Nat := (List.range (pNum c 16 2)).map (indexOf c + ·)

end State

/-- DEC_ASSIGN (R269, R272). Writes to the slot in the same cycle reach the file at its end and meet the new epoch and owner
(R270). -/
def decAssignSpec : CmdSpec where
  opcode := 0x306
  kinds := [10]
  states := 0b1100
  layout := [(16, 255), (17, 255), (18, 255), (19, 1)]
  absent := fun s c => rejIf (!bit (pByte c 19) 0 && decide (pByte c 18 < 32) && !s.unitPresent 5 (pByte c 18)) (rejAbsent 5 (pByte c 18))
  range := fun _ c =>
    let k := indexOf c
    let n := pNum c 16 2
    firstRej [
      rejIf (decide (k < 384)) (rejRange 8),
      rejIf (decide (n = 0) || decide (4096 < k + n)) (rejRange 16),
      rejIf (if bit (pByte c 19) 0 then decide (63 < pByte c 18) else decide (31 < pByte c 18)) (rejRange 18),
      rejIf (if bit (pByte c 19) 0 then decide (k < 1024) else decide (1024 < k + n)) (rejRange 19)]
  busy := fun s _ => s.bankBusy 160
  app := justDo fun s c =>
    forEach (State.slotSpan c) (fun k s =>
      let s := s.decRemove k
      let x := s.slot k
      s.setSlot k { x with epoch := x.epoch + 1, owner := slice (pByte c 18) 0 6, assigned := true }) s

def execDecAssign (c : HostCmd) (s : State) : Host.Outcome State Fault Refusal := command decAssignSpec c s

/-- DEC_CLEAR (R272). -/
def decClearSpec : CmdSpec where
  opcode := 0x307
  kinds := [10]
  states := 0b1100
  layout := [(16, 255), (17, 255)]
  range := fun _ c => rejIf (decide (pNum c 16 2 = 0) || decide (4096 < indexOf c + pNum c 16 2)) (rejRange 16)
  busy := fun s _ => s.bankBusy 160
  app := justDo fun s c => forEach (State.slotSpan c) (fun k s => s.decRemove k) s

def execDecClear (c : HostCmd) (s : State) : Host.Outcome State Fault Refusal := command decClearSpec c s

/-- FB_CONFIG (R272): sync group, lanes and wait limit of an output channel; sync group of a receive channel. -/
def fbConfigSpec : CmdSpec where
  opcode := 0x20E
  kinds := [1, 2]
  states := 0b1100
  layout := [(16, 31), (17, 1), (18, 15), (20, 255), (21, 255)]
  range := fun _ c =>
    if kindOf c = 1 then firstRej [
      rejIf (decide (8 < pBits c 18 0 4)) (rejRange 18),
      rejIf (decide (pNum c 20 2 = 0) || decide (4096 < pNum c 20 2)) (rejRange 20)]
    else firstRejOf [18, 20, 21] (fun k => rejIf (pByte c k != 0) (rejRange k))
  app := justDo fun s c =>
    let n := indexOf c
    let low := pBits c 16 0 5 + 32 * pBits c 17 0 1
    if kindOf c = 1 then s.wr .ochFbCfg n (low + 256 * pBits c 18 0 4 + 65536 * slice (pNum c 20 2) 0 13)
    else s.wr .rchFbCfg n low

def execFbConfig (c : HostCmd) (s : State) : Host.Outcome State Fault Refusal := command fbConfigSpec c s

end Sys2Proof.Machine
end

