-- ==== Sys2Proof/Machine/Frames.lean ====
section
/-!
DEFINITION. Frame contexts and their pending queues (spec/03, R76 to R88; spec/08, R224), the channel settings of spec/03
and the timing sets of spec/05. A receive channel's frames and an output channel's follow the same rules.
-/

namespace Sys2Proof.Machine

/-! ## Fields of a frame context (R77) -/

def frF (x : BitVec 128) : Nat := slice x.toNat 0 48
def frOffset (x : BitVec 128) : Nat := slice x.toNat 48 32
def frVz (x : BitVec 128) : Nat := slice x.toNat 80 32
def frDrag (x : BitVec 128) : Int := sgn 12 (slice x.toNat 112 12)
def frEpoch (x : BitVec 128) : Nat := slice x.toNat 124 4

/-- Place and width of the five fields, in the order of FRAME_WRITE's mask (R558). -/
def frFields : List (Nat × Nat) := [(0, 48), (48, 32), (80, 32), (112, 12), (124, 4)]

/-- The context with the fields named by a mask taken from another context. -/
def frSet (x : BitVec 128) (mask : Nat) (v : BitVec 128) : BitVec 128 :=
  BitVec.ofNat 128 <| (List.range 5).foldl (fun a k =>
    if bit mask k then
      let p := frFields.getD k (0, 0)
      place a p.1 p.2 (slice v.toNat p.1 p.2)
    else a) x.toNat

/-- The context with a delta added to VZ, modulo 2^32. -/
def frAddVz (x : BitVec 128) (d : Nat) : BitVec 128 := BitVec.ofNat 128 (place x.toNat 80 32 (frVz x + d))

/-- The phase rule of R79 at tick t, in units of 2^−48 turn. -/
def framePhase (x : BitVec 128) (t : Nat) : Nat := (frF x * t + (frOffset x + frVz x) * 65536) % 2 ^ 48

namespace State

/-- Frames of an output channel, or of a receive channel. -/
def frames (s : State) (rx : Bool) (n : Nat) : Frames := if rx then (s.rchan n).fr else (s.chan n).fr

def setFrames (s : State) (rx : Bool) (n : Nat) (f : Frames) : State :=
  if rx then s.updRchan n (fun r => { r with fr := f }) else s.updChan n (fun o => { o with fr := f })

/-- A frame context. -/
def frame (s : State) (rx : Bool) (n k : Nat) : BitVec 128 := SMap.get 0 (s.frames rx n).mem k

def framePendR (rx : Bool) : Fld := if rx then ⟨.rchFramePend, 0, 5⟩ else .ochFramePendLevel
def frameLateR (rx : Bool) : Reg := if rx then .rchFrameLate else .ochFrameLate
def frameDropR (rx : Bool) : Reg := if rx then .rchFrameDrop else .ochFrameDrop
def frameCollideR (rx : Bool) : Reg := if rx then .rchFrameCollide else .ochFrameCollide
def frameApplyR (rx : Bool) : Reg := if rx then .rchFrameApplySt else .ochFrameApplySt
def staleMsgR (rx : Bool) : Reg := if rx then .rchStaleMsg else .ochStaleMsg

/-- The pending queue replaced; `FRAME_PEND` shows its level (R102). -/
def setFrameQueue (s : State) (rx : Bool) (n : Nat) (q : List FrameOp) : State :=
  (s.setFrames rx n { s.frames rx n with queue := q }).setF (framePendR rx) n q.length

/-- The pending queue holds 16 operations (R86). -/
def frameFull (s : State) (rx : Bool) (n : Nat) : Bool := decide (16 ≤ (s.frames rx n).queue.length)

/-- An operation enters the pending queue. The Command Engine's enter with their command, those of cores and linked devices
at the end of the cycle, in the order of R87. -/
def frameEnter (s : State) (rx : Bool) (n : Nat) (op : FrameOp) : State :=
  s.setFrameQueue rx n ((s.frames rx n).queue ++ [op])

/-- What the operations of one granule have done so far: the memory, the fields set and the adds made since the last SET
of VZ, per frame, and the collisions (R87). -/
structure FrameFold where
  mem : SMap (BitVec 128)
  sets : SMap Nat
  adds : SMap Nat
  collide : Nat

/-- One operation of a granule (R87). -/
def frameFold (f : FrameFold) (op : FrameOp) : FrameFold :=
  let x := SMap.get 0 f.mem op.frame
  let seen := SMap.get 0 f.sets op.frame
  let adds := SMap.get 0 f.adds op.frame
  if op.add then
    { f with mem := SMap.put 0 f.mem op.frame (frAddVz x op.delta), adds := SMap.put 0 f.adds op.frame (adds + 1) }
  else
    let again := (setBits (seen &&& op.mask) 5).length
    { mem := SMap.put 0 f.mem op.frame (frSet x op.mask op.val)
      sets := SMap.put 0 f.sets op.frame (seen ||| op.mask)
      adds := if bit op.mask 2 then SMap.put 0 f.adds op.frame 0 else f.adds
      collide := f.collide + again + (if bit op.mask 2 then adds else 0) }

/-- The operation applies to the granule or group whose first tick has ST `gst` (R84, R224). DESIGN CHOICE: an AT_ST that
is no multiple of 32, which a linked device's operation can carry although R84 says that it must be one, applies to the
first granule or group that starts at or after it. -/
def frameDue (s : State) (gst : Nat) (op : FrameOp) : Bool :=
  match op.atSt with
  | some t => decide (t ≤ gst)
  | none => decide (op.entered < s.cyc)

/-- The operations that apply to a granule or group apply whole, in the order they entered (R84, R87); the contexts that they
write become correct (R336). -/
def frameApply (s : State) (rx : Bool) (n gst : Nat) : State :=
  let fr := s.frames rx n
  let ready := fr.queue.filter (s.frameDue gst)
  if ready.isEmpty then s
  else
    let f := ready.foldl frameFold ⟨fr.mem, [], [], 0⟩
    let s := s.setFrames rx n { fr with mem := f.mem }
    let s := forEach ready (fun op s => s.cleanBank (if rx then 6 else 4) n (2 * op.frame) (2 * op.frame + 2)) s
    let s := s.setFrameQueue rx n (fr.queue.filter (fun op => !s.frameDue gst op))
    (s.bumpBy (frameCollideR rx) n f.collide).wr (frameApplyR rx) n gst

/-- The ST of the granule read, or of the group mixed, in the present cycle. -/
def frameNow (s : State) (rx : Bool) : Nat := if rx then s.stOf (s.cyc - 7) else s.stIn 31

/-- A frame operation from a DSP core or a linked device (R85, R86, R88): discarded when an epoch does not match, dropped
on a full queue, and made unscheduled when its granule has already been read. -/
def frameMsg (s : State) (rx : Bool) (n role epoch : Nat) (op : FrameOp) : State :=
  let roleNow := if rx then s.fld .rchRoleEpochEpoch n else s.fld .ochRoleEpochEpoch n
  if role != roleNow || epoch != frEpoch (s.frame rx n op.frame) then s.bump (staleMsgR rx) n
  else if s.frameFull rx n then s.bump (frameDropR rx) n
  else
    match op.atSt with
    | some t =>
      if t ≤ s.frameNow rx then (s.bump (frameLateR rx) n).frameEnter rx n { op with atSt := none }
      else s.frameEnter rx n op
    | none => s.frameEnter rx n op

end State

/-! ## Frame commands (R83 to R86) -/

/-- Power group of the target channel. -/
def chanGroup (c : HostCmd) : Nat := if kindOf c = 2 then 96 + indexOf c else indexOf c

/-- Byte positions shared by FRAME_WRITE and FRAME_VZ_ADD (R558). -/
def frameLayout : List (Nat × Nat) := List.flatten [[(16, 255), (17, 1), (19, 1)], whole 24 8, whole 32 4]

/-- AT_ST when AT_EN is set. -/
def frameAt (c : HostCmd) : Option Nat := if bit (pByte c 19) 0 then some (pNum c 24 8) else none

/-- AT_ST must be a multiple of 32 and lie at least 64 cycles after acceptance (R84, R85). -/
def frameAtRange (s : State) (c : HostCmd) : Option Reject :=
  match frameAt c with
  | some t => rejIf (t % 32 != 0 || decide (t < s.st.toNat + 64 * 32)) (rejRange 24)
  | none => none

/-- FRAME_WRITE (R83). -/
def frameWriteSpec : CmdSpec where
  opcode := 0x204
  kinds := [1, 2]
  states := 0b11100
  layout := List.flatten [frameLayout, [(18, 31)], whole 36 12]
  range := frameAtRange
  locked := fun s c => s.bankLocked (chanGroup c)
  busy := fun s c => firstRej [s.bankBusy (chanGroup c), rejIf (s.frameFull (kindOf c == 2) (indexOf c)) rejBusy]
  app := justDo fun s c => s.frameEnter (kindOf c == 2) (indexOf c)
    ⟨slice (pNum c 16 2) 0 9, false, pBits c 18 0 5, BitVec.ofNat 128 (pNum c 32 16), 0, frameAt c, s.cyc⟩

def execFrameWrite (c : HostCmd) (s : State) : Host.Outcome State Fault Refusal := command frameWriteSpec c s

/-- FRAME_VZ_ADD (R83). -/
def frameVzAddSpec : CmdSpec where
  opcode := 0x205
  kinds := [1, 2]
  states := 0b11100
  layout := frameLayout
  range := frameAtRange
  locked := fun s c => s.bankLocked (chanGroup c)
  busy := fun s c => firstRej [s.bankBusy (chanGroup c), rejIf (s.frameFull (kindOf c == 2) (indexOf c)) rejBusy]
  app := justDo fun s c => s.frameEnter (kindOf c == 2) (indexOf c)
    ⟨slice (pNum c 16 2) 0 9, true, 0, 0, pNum c 32 4, frameAt c, s.cyc⟩

def execFrameVzAdd (c : HostCmd) (s : State) : Host.Outcome State Fault Refusal := command frameVzAddSpec c s

/-- FRAME_READ (R83): the context in reply words 2, 3, 6 and 7 (R558). -/
def frameReadSpec : CmdSpec where
  opcode := 0x206
  kinds := [1, 2]
  states := 0b11100
  layout := [(16, 255), (17, 1)]
  locked := fun s c => s.bankLocked (chanGroup c)
  busy := fun s c => s.bankBusy (chanGroup c)
  app := fun s c =>
    let x := (s.frame (kindOf c == 2) (indexOf c) (slice (pNum c 16 2) 0 9)).toNat
    (s, { info0 := slice x 0 32, info1 := slice x 32 32, result := slice x 64 64 })

def execFrameRead (c : HostCmd) (s : State) : Host.Outcome State Fault Refusal := command frameReadSpec c s

/-! ## Timing sets (R138, R139) -/

/-- TSET_WRITE (R139): three words of one set. -/
def tsetWriteSpec : CmdSpec where
  opcode := 0x207
  kinds := [1]
  states := 0b1100
  layout := List.flatten [[(16, 7)], whole 20 12]
  range := fun _ c => firstRejOf [21, 22, 23] (fun k => rejIf (pByte c k != 0) (rejRange k))
  app := justDo fun s c =>
    forEach [0, 1, 2] (fun w s => s.updChan (indexOf c) fun o =>
      { o with tsets := SMap.put 0 o.tsets (3 * pBits c 16 0 3 + w) (BitVec.ofNat 32 (pNum c (20 + 4 * w) 4)) }) s

def execTsetWrite (c : HostCmd) (s : State) : Host.Outcome State Fault Refusal := command tsetWriteSpec c s

/-- TSET_READ (R139): the words in reply words 2, 3 and 6 (R558). -/
def tsetReadSpec : CmdSpec where
  opcode := 0x208
  kinds := [1]
  states := 0b1100
  layout := [(16, 7)]
  app := fun s c =>
    let w := fun k => (SMap.get 0 (s.chan (indexOf c)).tsets (3 * pBits c 16 0 3 + k)).toNat
    (s, { info0 := w 0, info1 := w 1, result := w 2 })

def execTsetRead (c : HostCmd) (s : State) : Host.Outcome State Fault Refusal := command tsetReadSpec c s

end Sys2Proof.Machine
end

