-- ==== Sys2Proof/Machine/Memory.lean ====
section
/-!
DEFINITION. The memories behind BAR2 (spec/13, R363): bytes by BAR2 offset, which bank and power group an offset belongs
to, and the access faults of R334. Dawn leaves the envelope SRAM and the capture RAM zero (R330); a byte that nothing has
written reads as zero.
-/

namespace Sys2Proof.Machine

/-- BAR2 offset of word w of the envelope SRAM of channel n. -/
def envAddr (n w : Nat) : Nat := n * 0x100000 + 4 * w

/-- BAR2 offset of byte b of the capture RAM of receive channel n. -/
def capAddr (n b : Nat) : Nat := 0x8000000 + n * 0x100000 + b

/-- BAR2 offset of DRAM byte d. -/
def dramAddr (d : Nat) : Nat := 0x400000000 + d

/-- What lies at a BAR2 offset: (row of the bank table, 16 for DRAM; instance; power group); none where reserved. -/
def bar2Bank (a : Nat) : Option (Nat × Nat × Nat) :=
  if a < 0x6000000 then some (0, a / 0x100000, a / 0x100000)
  else if 0x8000000 ≤ a ∧ a < 0x9800000 then some (1, (a - 0x8000000) / 0x100000, 96 + (a - 0x8000000) / 0x100000)
  else if 0x400000000 ≤ a ∧ a < 0x800000000 then
    some (16, (a - 0x400000000) / 0x200000000, 156 + (a - 0x400000000) / 0x200000000)
  else none

/-- Address of the 64-bit word that holds BAR2 offset a, within its bank. -/
def bar2Word (a : Nat) : Nat :=
  (if a < 0x6000000 then a % 0x100000
   else if a < 0x9800000 then (a - 0x8000000) % 0x100000
   else (a - 0x400000000) % 0x200000000) / 8

namespace Memory

/-- A byte of memory. -/
def read (m : List Host.Cell) (a : Nat) : Byte := SMap.get 0 m a

/-- The memory with one byte written. -/
def write (m : List Host.Cell) (a : Nat) (b : Byte) : List Host.Cell := SMap.put 0 m a b

/-- n bytes from address a. -/
def readBytes (m : List Host.Cell) (a n : Nat) : List Byte := (List.range n).map (fun k => read m (a + k))

/-- The memory with a list of bytes written from address a. -/
def writeBytes : List Host.Cell → Nat → List Byte → List Host.Cell
  | m, _, [] => m
  | m, a, b :: bs => writeBytes (write m a b) (a + 1) bs

/-- The memory without the bytes of [lo, hi). -/
def clear (m : List Host.Cell) (lo hi : Nat) : List Host.Cell := m.filter (fun c => c.1 < lo || hi ≤ c.1)

/-- The canonical form: addresses strictly rising, no byte equal to what an unlisted address reads as. -/
abbrev wf (m : List Host.Cell) : Bool := SMap.wf 0 m

end Memory

namespace State

/-- The memory at BAR2 offset a exists in this part (R15). -/
def bar2Present (s : State) (a : Nat) : Bool :=
  match bar2Bank a with
  | some (_, _, g) => s.groupPresent g
  | none => false

/-- The bank at BAR2 offset a is ON and not in transition (R334). -/
def bar2On (s : State) (a : Nat) : Bool :=
  match bar2Bank a with
  | some (_, _, g) => s.groupOn g
  | none => false

/-- A word of a memory whose check bits report an uncorrectable error lies in bytes [a, a + n). -/
def bar2Bad (s : State) (a n : Nat) : Bool :=
  match bar2Bank a with
  | some (row, inst, _) => s.badIn row inst (bar2Word a) (bar2Word (a + n - 1) + 1)
  | none => false

/-- Bytes stored at BAR2 offset a; the words written become correct (R336). -/
def bar2Store (s : State) (a : Nat) (b : List Byte) : State :=
  let keep := fun (w : Nat × Nat × Nat) => match bar2Bank a with
    | some (row, inst, _) =>
      !(w.1 == row && w.2.1 == inst && decide (bar2Word a ≤ w.2.2) && decide (w.2.2 ≤ bar2Word (a + b.length - 1)))
    | none => true
  { s with mem := { s.mem with bytes := Memory.writeBytes s.mem.bytes a b, bad := s.mem.bad.filter keep } }

/-- A word of envelope SRAM. -/
def envWord (s : State) (n w : Nat) : Nat := leNat (Memory.readBytes s.mem.bytes (envAddr n (w % 0x40000)) 4)

end State

end Sys2Proof.Machine
end

