-- ==== Sys2Proof/Machine/Shadow.lean ====
section
/-!
DEFINITION. The shadowed parameter sets of an output channel (spec/04, R122 to R126). Sets 0 to 7 are the voices', set 8
the channel's; words 0 to 7 are SHD_VAMP, 8 and 9 the loop loads, 10 the channel word.
-/

namespace Sys2Proof.Machine

/-- The words of a set. -/
def shdWords (set : Nat) : List Nat := if set = 8 then [8, 9, 10] else [set]

namespace State

/-- A shadow word. -/
def shdRd (s : State) (n w : Nat) : Nat :=
  if w < 8 then s.rd .ochShdVamp (8 * n + w) else if w = 8 then s.rd .ochShdLoop01 n
  else if w = 9 then s.rd .ochShdLoop23 n else s.rd .ochShdCh n

def shdWr (s : State) (n w v : Nat) : State :=
  if w < 8 then s.wr .ochShdVamp (8 * n + w) (v &&& 0x1FFFF) else if w = 8 then s.wr .ochShdLoop01 n v
  else if w = 9 then s.wr .ochShdLoop23 n v else s.wr .ochShdCh n (v &&& 0xFF0F)

/-- An active word. -/
def shdAct (s : State) (n w : Nat) : Nat :=
  let o := s.chan n
  if w < 8 then (SMap.get 0x7FFF o.actVamp w).toNat else if w = 8 then o.actLoop01.toNat
  else if w = 9 then o.actLoop23.toNat else o.actCh.toNat

def setAct (s : State) (n w v : Nat) : State :=
  s.updChan n fun o =>
    if w < 8 then { o with actVamp := SMap.put 0x7FFF o.actVamp w (BitVec.ofNat 32 v) }
    else if w = 8 then { o with actLoop01 := BitVec.ofNat 32 v }
    else if w = 9 then { o with actLoop23 := BitVec.ofNat 32 v }
    else { o with actCh := BitVec.ofNat 32 v }

/-- Active AMP_REG, AMP_SRC, loop load k, MARK_EN and VOICE_EN (R122). -/
def actAmp (s : State) (n v : Nat) : Int := sgn 16 (s.shdAct n v)
def actAmpSrc (s : State) (n v : Nat) : Bool := bit (s.shdAct n v) 16
def actLoad (s : State) (n k : Nat) : Nat := slice (s.shdAct n (8 + k / 2)) (16 * (k % 2)) 16
def actMarkEn (s : State) (n : Nat) : Nat := slice (s.shdAct n 10) 0 4
def actVoiceEn (s : State) (n v : Nat) : Bool := bit (s.shdAct n 10) (8 + v)

/-- The set is committed (R123). -/
def committed (s : State) (n set : Nat) : Bool := bit (s.fld .ochShdStatusCommitted n) set

def setCommitted (s : State) (n set : Nat) (b : Bool) : State :=
  s.setF .ochShdStatusCommitted n (setBit (s.fld .ochShdStatusCommitted n) set b)

def setShdPending (s : State) (n set : Nat) (b : Bool) : State :=
  s.setF .ochShdStatusShadowPending n (setBit (s.fld .ochShdStatusShadowPending n) set b)

/-- A word was written in the present cycle. -/
def shdFresh (s : State) (n w : Nat) : Bool := SMap.get 0 (s.chan n).shdAt w == s.cyc + 1

/-- A set that stays committed outside a shot is handed over in the next cycle (R124). -/
def handNext (s : State) (n set : Nat) (again : Bool) : State :=
  if again && !s.shotOn then s.after (s.cyc + 1) (.handOver n set) else s

/-- A commit of the set, or its hand-over, fell in the present cycle. -/
def committedNow (s : State) (n set : Nat) : Bool := SMap.get 0 (s.chan n).lastAt set == s.cyc + 1
def handedNow (s : State) (n set : Nat) : Bool := SMap.get 0 (s.chan n).handAt set == s.cyc + 1

/-- The hand-over of a committed set (R124, R125): the shadow copy as it stood before this cycle's writes becomes active. A
set that this cycle's writes also reached stays committed with its token; one that is committed anew in this cycle waits
for the next boundary with the new token, and has not merged with what is handed over now (R124, R133). -/
def handOver (s : State) (n set : Nat) : State :=
  if s.committed n set then
    let ws := shdWords set
    let fresh := ws.any (s.shdFresh n)
    let anew := s.committedNow n set
    let token := if anew then (s.chan n).tokenOld else (s.chan n).token
    let s := forEach ws (fun w s =>
      s.setAct n w (if s.shdFresh n w then (SMap.get 0 (s.chan n).shdOld w).toNat else s.shdRd n w)) s
    let s := (s.setCommitted n set (fresh || anew)).setShdPending n set fresh
    let s := when anew (fun s => s.unbump .ochShdMerged n) s
    let s := s.setF .ochShdTokenLastToken n (SMap.get 0 token set)
    let s := s.wr .ochShdApplySt n (s.stIn 31)
    let s := s.handNext n set (fresh || anew)
    s.updChan n fun o => { o with
      handAt := SMap.put 0 o.handAt set (s.cyc + 1)
      commitAt := if anew then SMap.put 0 o.commitAt set s.cyc else o.commitAt }
  else s

/-- A shadow write that reaches the channel (R125): a write in the cycle of its set's hand-over leaves the set committed,
to be handed over again. -/
def shadowWrite (s : State) (n w v : Nat) : State :=
  let set := if w < 8 then w else 8
  let old := s.shdRd n w
  let s := when (!s.shdFresh n w) (fun s => s.updChan n fun o =>
    { o with shdAt := SMap.put 0 o.shdAt w (s.cyc + 1), shdOld := SMap.put 0 o.shdOld w (BitVec.ofNat 32 old) }) s
  let s := s.shdWr n w v
  if s.handedNow n set then
    ((s.setCommitted n set true).setShdPending n set true).handNext n set (!s.committed n set)
  else s

/-- A commit of the named sets with a token (R123, R124, R126): it merges with one that waits, but for one that is handed
over in this cycle. Outside a shot, with no start fetch due, the hand-over comes in the next cycle. -/
def shadowCommit (s : State) (n token sets : Nat) : State :=
  forEach (setBits sets 9) (fun set s =>
    let again := s.committedNow n set
    let merged := s.committed n set && (!s.handedNow n set || again)
    let s := when merged (fun s => s.bumpHeld .ochShdMerged n) s
    let s := s.updChan n fun o => { o with
      token := SMap.put 0 o.token set token
      tokenOld := if again then o.tokenOld else SMap.put 0 o.tokenOld set (SMap.get 0 o.token set)
      commitAt := if merged then o.commitAt else SMap.put 0 o.commitAt set s.cyc
      lastAt := SMap.put 0 o.lastAt set (s.cyc + 1) }
    let s := s.setCommitted n set true
    if s.shotOn then s else s.after (s.cyc + 1) (.handOver n set)) s

/-- The hand-over at a boundary: only a commit of an earlier cycle counts, once (R124). -/
def handOverAt (s : State) (n set : Nat) : State :=
  if SMap.get 0 (s.chan n).commitAt set < s.cyc && !s.handedNow n set then s.handOver n set else s

/-- Sets still committed at the end of a shot are handed over in the next cycle (R124). -/
def handOverLater (s : State) (n : Nat) : State :=
  forEach ((List.range 9).filter (s.committed n)) (fun set s => s.after (s.cyc + 1) (.handOver n set)) s

end State

end Sys2Proof.Machine
end

