-- ==== Sys2Proof/Machine/Sequencer.lean ====
section
/-!
DEFINITION. The segment sequencer (spec/04, R104 to R121; spec/09, R251 to R262): entries, which targets are active, the
fetch of a successor, the choice at a sequencer boundary, speculation and its selection, late policies, and waits.
Times are cycles: a granule whose render point is cycle r reaches the multiplexer in r + 25 and the pin in r + 31 (R104).
-/

namespace Sys2Proof.Machine

/-! ## The segment entry (R106) -/

def segWaddr (x : BitVec 128) : Nat := slice x.toNat 0 18
def segLenRaw (x : BitVec 128) : Nat := slice x.toNat 18 20
def segRepeat (x : BitVec 128) : Nat := slice x.toNat 38 16
def segNext (x : BitVec 128) : Nat := slice x.toNat 54 12
def segAlt (x : BitVec 128) : Nat := slice x.toNat 66 12
def segModeRaw (x : BitVec 128) : Nat := slice x.toNat 78 3
def segSpec (x : BitVec 128) : Bool := bit x.toNat 81
def segFrame (x : BitVec 128) : Nat := slice x.toNat 82 9
def segTset (x : BitVec 128) : Nat := slice x.toNat 91 3
def segMark (x : BitVec 128) : Nat := slice x.toNat 94 4
def segAmp (x : BitVec 128) : Int := sgn 16 (slice x.toNat 98 16)
def segCond (x : BitVec 128) : Nat := slice x.toNat 114 8
def segLateRaw (x : BitVec 128) : Nat := slice x.toNat 122 2
def segSrcRaw (x : BitVec 128) : Nat := slice x.toNat 124 2
def segLctr (x : BitVec 128) : Nat := slice x.toNat 126 2

/-- Source, mode, late policy and length as played: a reserved or short value plays as R132 states. -/
def segSrc (x : BitVec 128) : Nat := if segSrcRaw x = 3 then 2 else segSrcRaw x
def segMode (x : BitVec 128) : Nat := if 6 ≤ segModeRaw x then 4 else segModeRaw x
def segLate (x : BitVec 128) : Nat := if segLateRaw x = 3 then 1 else segLateRaw x
def segMin (x : BitVec 128) : Nat := if segSrc x = 1 then 16 else 4
def segLen (x : BitVec 128) : Nat := max (segLenRaw x) (segMin x)

/-- The entry breaks a rule that R132 lists. -/
def segBad (x : BitVec 128) : Bool :=
  decide (6 ≤ segModeRaw x) || segLateRaw x == 3 || segSrcRaw x == 3 || decide (segLenRaw x < segMin x)

/-- Granules from a boundary to the next: all plays, or one play of a WAIT_EVENT segment (R107). -/
def segRun (x : BitVec 128) : Nat := if segMode x = 5 then segLen x else segLen x * (segRepeat x + 1)

/-- Words of envelope SRAM that one granule of voice v reads (R108). -/
def segWords (direct : Bool) (fmt v : Nat) : Nat := if v = 0 && direct then (if fmt = 0 then 16 else 2) else 4

/-- The chain plays stream data. -/
def Chain.streams (c : Chain) : Bool := segSrc c.seg == 1 && !c.zero

/-- Granules that the chain has rendered of its run when cycle r comes. -/
def Chain.granAt (c : Chain) (r : Nat) : Nat := c.pos + (r - c.start)

/-- Stream position of the granule with render point r (R156). -/
def Chain.sposAt (c : Chain) (r : Nat) : Nat := if c.streams then c.spos + (r - c.start) else c.spos

/-- The chain renders a granule in cycle r. -/
def Chain.renders (c : Chain) (r : Nat) : Bool := !c.ended && decide (c.start ≤ r) && decide (r < c.stop)

/-- A lateness that stops the rendering (R255): WAIT or ABORT. It holds the chain at the end of the segment that is late. -/
def Late.holds (l : Late) : Bool := l.pol == 0 || l.pol == 2
def Chain.held (c : Chain) : Bool := c.lates.any fun l => l.holds && l.bound == c.stop + 25

/-- The selection r of the boundary at multiplexer cycle b is remembered, those of boundaries before cycle now forgotten. -/
def Chain.note (c : Chain) (now b : Nat) (r : Bool) : Chain :=
  { c with sels := (b, r) :: c.sels.filter (fun p => decide (now ≤ p.1)) }

namespace State

def segEntry (s : State) (n e : Nat) : BitVec 128 := SMap.get 0 (s.chan n).segs e

/-! ## Waits (R258) -/

/-- Key of the sync group a channel waits with: its group, or itself (R258). -/
def waitKey (s : State) (n : Nat) : Nat := if s.flag .ochFbCfgSgEn n then s.fld .ochFbCfgSgrp n else 32 + n

def waitOf (s : State) (k : Nat) : Option Wait := SMap.get none s.waits k

def setWait (s : State) (k : Nat) (w : Option Wait) : State := { s with waits := SMap.put none s.waits k w }

/-- The wait that freezes a channel now: entered, and its members have not yet fetched again. -/
def frozenAt (s : State) (n : Nat) : Option Nat :=
  if s.ochPart n then
    match s.waitOf (s.waitKey n) with
    | some w => if w.resume.isNone then some w.freeze else none
    | none => none
  else none

/-- An abort has stopped every voice of the channel (R121, R262). -/
def abortDone (s : State) (n : Nat) : Bool :=
  s.shot.abort.isSome && (List.range 8).all (fun v => let x := s.voice n v; !x.enabled || x.done || x.stopped)

/-- Idle granules of a wait pass the channel's multiplexer in cycle c, until an abort stops the channel (R258, R262). -/
def waitIdle (s : State) (n c : Nat) : Bool :=
  s.ochPart n && !s.abortDone n && (match s.waitOf (s.waitKey n) with
    | some w =>
      (decide (w.freeze ≤ c) && (match w.resume with | none => true | some r => decide (c < r)))
        || (match w.prev with | some (f, r) => decide (f ≤ c) && decide (c < r) | none => false)
    | none => false)

/-- The participating members of a wait. -/
def waitMembers (s : State) (k : Nat) : List Nat := s.shotChans.filter (fun n => s.waitKey n == k)

/-- The group of a key waits in the present cycle: from its entry until R (R258), or until an abort has stopped its
members. -/
def waiting (s : State) (k : Nat) : Bool :=
  !(s.waitMembers k).all s.abortDone && (match s.waitOf k with
    | some w => (match w.resume with | none => true | some r => decide (s.cyc < r)) ||
        (match w.prev with | some (_, r) => decide (s.cyc < r) | none => false)
    | none => false)

/-! ## Active targets (R129, R130) -/

/-- Granules of a chain still to be rendered; those that a wait has discarded are (DESIGN CHOICE, log entry 3). -/
def chainLeft (s : State) (n : Nat) (c : Chain) : Nat :=
  if c.ended then 0 else c.stop - (match s.frozenAt n with | some f => f - 25 | none => s.cyc)

/-- A voice's chains: its own and its lane's. -/
def voiceChains (x : Voice) : List Chain := x.chain.toList ++ (x.spec.map (·.lane)).toList

/-- A voice's granules on their way to the multiplexer. -/
def voiceGrans (x : Voice) : List Gran := x.granules ++ (match x.spec with | some p => p.granules | none => [])

/-- The voices of a channel. -/
def voices (s : State) (n : Nat) : List Voice := (List.range 8).map (s.voice n)

/-- A boundary of the present cycle reaches a target: it is active throughout the cycle (R130). -/
def touch (s : State) (n kind idx words : Nat) : State :=
  s.updChan n fun o => { o with touched := (kind, idx, words, s.cyc) :: o.touched.filter (fun r => r.2.2.2 == s.cyc) }

/-- The shot's start fetch falls in the present cycle (R119). -/
def startFetchNow (s : State) : Bool :=
  match s.shot.accepted with
  | some t => s.cyc + 31 == t
  | none => false

/-- Start entry and enable of voice v (R134). -/
def vstart (s : State) (n v : Nat) : Nat × Bool :=
  let r : Reg := match v / 2 with | 0 => .ochVstart01 | 1 => .ochVstart23 | 2 => .ochVstart45 | _ => .ochVstart67
  let w := s.rd r n
  (slice w (16 * (v % 2)) 12, bit w (16 * (v % 2) + 15))

/-- Words of envelope SRAM of one granule of voice v. -/
def voiceWords (s : State) (n v : Nat) : Nat := segWords (s.flag .ochSynCfgDirect n) (s.fld .ochSynCfgDirectFmt n) v

/-- The targets that a channel uses (R129): entries of renderings that still have granules to render, or to pass the
multiplexer; conditions whose selection is still to be made. -/
def uses (s : State) (n : Nat) : List (Nat × Nat × Nat) :=
  ((List.range 8).flatMap fun v =>
    let x := s.voice n v
    let w := s.voiceWords n v
    ((voiceChains x).filter (fun c => decide (0 < s.chainLeft n c))).map (fun c => (0, c.entry, w)) ++
    (voiceGrans x).map (fun g => (0, g.entry, w)) ++
    (x.spec.map fun p => (1, p.cond, 0)).toList ++
    ((x.pend.filter fun p => (s.frozenAt n).isSome || decide (s.cyc + 25 ≤ p.1)).map fun p => (1, p.2, 0)).toList ++
    (voiceChains x).flatMap (fun c => (c.lates.filter Late.holds).map (fun l => (1, l.cond, 0))))
  ++ (match s.waitOf (s.waitKey n) with
      | some w => (w.conds.filter (fun q => q.och == n && q.result.isNone)).map (fun q => (1, q.cond, 0))
      | none => [])

/-- What the channels use as a cycle begins: active to its end (R130). -/
def noteUses (s : State) : State :=
  forEach (s.och.map (·.1)) (fun n s =>
    let u := s.uses n
    if u == (s.chan n).was then s else s.updChan n fun o => { o with was := u }) s

/-! ## The open stream as a rendering sees it (R157) -/

/-- Descriptor d (R150). -/
def desc (s : State) (d : Nat) : BitVec 256 := SMap.get 0 s.descs d

def descBase (x : BitVec 256) : Nat := slice x.toNat 0 28
def descLen (x : BitVec 256) : Nat := slice x.toNat 32 28
def descStart (x : BitVec 256) : Nat := slice x.toNat 64 28
def descOwner (x : BitVec 256) : Nat := slice x.toNat 96 7
def descVoice (x : BitVec 256) : Nat := slice x.toNat 104 3
def descFormat (x : BitVec 256) : Nat := slice x.toNat 108 2
def descWrap (x : BitVec 256) : Bool := bit x.toNat 110
def descContinue (x : BitVec 256) : Bool := bit x.toNat 111
def descValid (x : BitVec 256) : Bool := bit x.toNat 112

/-- A streamed entry fetched by voice v plays the channel's open stream (R157). -/
def streamOk (s : State) (n v : Nat) (x : BitVec 128) : Bool :=
  s.flag .ochStrmStatusOpen n && s.fld .ochStrmStatusDesc n == segWaddr x && descVoice (s.desc (segWaddr x)) == v

/-! ## Fetching an entry -/

/-- The chain after it fetches entry e at the present boundary (R109, R110): what the table holds now. -/
def fetched (s : State) (n v : Nat) (c : Chain) (e : Nat) : Chain :=
  let x := s.segEntry n e
  let bad := s.badIn 2 n (2 * e) (2 * e + 2)
  { c with
    entry := e, seg := x, start := s.cyc, pos := 0, stop := s.cyc + segRun x, plays := 0,
    amp := if s.actAmpSrc n v then s.actAmp n v else segAmp x,
    event := none, spos := c.sposAt c.stop,
    zero := bad || (segSrc x == 1 && !s.streamOk n v x), bad := bad, run := s.cyc, part := s.cyc }

/-- The flags a fetch sets: `BAD_ENTRY`, and `MISMATCH` in a part with streams (R132, R157, R167). -/
def fetchFlags (s : State) (n v e : Nat) : State :=
  let x := s.segEntry n e
  let mism := segSrc x == 1 && !s.streamOk n v x
  let s := when (segBad x || mism) (fun s => s.setB .ochSeqErrBadEntry n true) s
  when (mism && s.variant.dram) (fun s => s.setB .ochStrmStatusMismatch n true) s

/-- Voice v's own chain, or its lane's, replaced. -/
def setChain (s : State) (n v : Nat) (lane : Bool) (c : Chain) : State :=
  s.updVoice n v fun x =>
    if lane then { x with spec := x.spec.map (fun p => { p with lane := c }) } else { x with chain := some c }

/-- The chain's present position is remembered while granules of it may still be withdrawn (R258). -/
def pushHist (s : State) (n v : Nat) (lane : Bool) (c : Chain) : State :=
  s.updVoice n v fun x =>
    if lane then { x with spec := x.spec.map (fun p =>
      { p with hist := (c :: p.hist).filter (fun d => decide (s.cyc < d.stop + 25)) }) }
    else { x with hist := (c :: x.hist).filter (fun d => decide (s.cyc < d.stop + 25)) }

/-- A chain goes on to entry e at the present boundary. -/
def goTo (s : State) (n v : Nat) (lane : Bool) (c : Chain) (e : Nat) : State :=
  ((s.fetchFlags n v e).touch n 0 e (s.voiceWords n v)).setChain n v lane (s.fetched n v c e)

/-! ## Waits: entry, freeze and resume (R258 to R261) -/

/-- The chain as it stands when everything from multiplexer cycle f on is withdrawn: the latest of its positions that
began before the freeze. Selections that it has made stay, and what it recorded of them (R260). -/
def rollback (c : Chain) (hist : List Chain) (f : Nat) : Chain :=
  let d := ((c :: hist).find? (fun d => decide (d.start + 25 < f))).getD ((c :: hist).getLastD c)
  { d with
    ended := d.ended && decide (d.stop + 25 ≤ f)
    sels := c.sels
    lates := c.lates }

/-- The chain of a voice whose speculation is withdrawn whole: what the discarded rendering selected or recorded after the
speculation's boundary b goes with it; an ABORT that the speculation itself met at its deadline stays (R255, R260). -/
def withdrawn (p : Spec) (c : Chain) : Chain :=
  { c with
    sels := c.sels.filter (fun q => decide (q.1 ≤ p.bound))
    lates := if p.result == some none && p.late == 2 then [⟨2, p.bound, p.cond, false⟩] else [] }

/-- The selection of a speculation that a freeze withdraws after its deadline (R260); a late ABORT is none. -/
def specSel (p : Spec) : Option Bool :=
  match p.result with
  | some (some r) => some r
  | some none => if p.late = 0 || p.late = 2 then none else some false
  | none => none

/-- A voice frozen from multiplexer cycle f on: renderings for f and later are discarded; a speculation selected at f or
later is withdrawn whole (R258). -/
def freezeVoice (now f : Nat) (x : Voice) : Voice :=
  let keep := fun (l : List Gran) => l.filter (fun g => decide (g.mux < f))
  match x.chain with
  | none => x
  | some c =>
    let x := { x with chain := some (rollback c x.hist f), granules := keep x.granules }
    match x.spec with
    | some p =>
      if p.bound < f then
        { x with spec := some { p with lane := rollback p.lane p.hist f, granules := keep p.granules } }
      else { x with
        spec := none
        abortAt := if p.result == some none && p.late == 2 then some p.bound else x.abortAt
        pend := if p.result.isNone then some (p.bound, p.cond) else x.pend
        chain := x.chain.map fun c =>
          let c := withdrawn p c
          match specSel p with | some r => c.note now p.bound r | none => c }
    | none => x

/-- The trace of a late selection that takes NEXT (R256, R257). -/
def lateDefault (s : State) (n pol : Nat) : State :=
  let s := when (pol == 3) (fun s => s.bump .ochWaitXdev n) s
  (s.bump .ochLateDefaultCnt n).taintLateDefault

/-- Every participating member of a wait is frozen from f on; lanes withdrawn are free after f. A late DEFAULT whose
deadline has passed keeps its trace. -/
def freeze (s : State) (k f : Nat) : State :=
  forEach (s.waitMembers k) (fun n s =>
    let lost := (s.voices n).filterMap (fun x => x.spec.bind fun p => if f ≤ p.bound then some p else none)
    let s := forEach (List.range 8) (fun v s => s.updVoice n v (freezeVoice s.cyc f)) s
    let s := forEach (lost.filter fun p => p.result == some none && specSel p == some false) (fun p s => s.lateDefault n p.late) s
    s.updChan n fun o => { o with freed := lost.map (fun _ => max f s.cyc) ++ o.freed.filter (fun c => decide (s.cyc ≤ c)) }) s

/-- A condition of voice v goes late with policy WAIT at multiplexer boundary b (R258, R260): it starts its group's wait,
or joins it as long as the group waits. Where the members have fetched again already, what they have rendered from R on is
discarded, and F stays. -/
def enterWait (s : State) (n v b i : Nat) : State :=
  let k := s.waitKey n
  let q := fun (f : Nat) => WCond.mk n v (max b f) i none
  let s := s.bump .ochWaitCnt n
  let w : Wait := match s.waitOf k with
    | some w =>
      if s.waiting k then
        match w.resume with
        | none =>
          let f := if w.prev.isSome then w.freeze else min w.freeze b
          { w with
            freeze := f
            entered := s.cyc
            conds := w.conds ++ [q f] }
        | some r => ⟨r, s.cyc, [q r], none, some (w.origin, r)⟩
      else ⟨b, s.cyc, [q b], none, none⟩
    | none => ⟨b, s.cyc, [q b], none, none⟩
  (s.setWait k (some w)).freeze k w.freeze

/-- A chain fetches again at the present sequencer boundary with its remaining granules (R258); one that had not begun
its segment reads the table again. Its boundaries from f on come `delay` later, and with them the selections already made
for them, those of the conditions that waited among them, and the latenesses that they have met (R260). -/
def resumeChain (s : State) (n v f delay : Nat) (won : List (Nat × Bool)) (c : Chain) : Chain :=
  let move := fun (b : Nat) => if f ≤ b then b + delay else b
  let c := { c with
    sels := (won ++ c.sels).map fun p => (move p.1, p.2)
    lates := c.lates.map fun l => { l with bound := move l.bound } }
  if c.ended || (c.held && decide (c.stop + 25 < f)) then c
  else
    let done := f - 25 - c.start
    let left := c.stop + 25 - f
    if c.pos + done = 0 then { s.fetched n v c c.entry with
      spos := c.spos, plays := c.plays, run := c.run, part := c.part }
    else { c with start := s.cyc, pos := c.pos + done, stop := s.cyc + left, spos := c.sposAt (min (f - 25) c.stop) }

/-- The members' voices fetch again; windows of member receive channels that would open at F + 6 or later open W cycles
later (R258, R259). -/
def resumeWait (s : State) (k : Nat) (w : Wait) : State :=
  let r := s.cyc + 25
  let delay := r - w.freeze
  let won := fun n v => w.conds.filterMap fun q =>
    if q.och == n && q.voice == v then q.result.map (fun p => (q.bound, p.1)) else none
  let s := forEach (s.waitMembers k) (fun n s =>
    let s := forEach (List.range 8) (fun v s =>
      s.updVoice n v fun x => { x with
        chain := x.chain.map (s.resumeChain n v w.freeze delay (won n v))
        hist := []
        abortAt := x.abortAt.map fun b => if w.freeze ≤ b then b + delay else b
        pend := x.pend.map fun p => if w.freeze ≤ p.1 then (p.1 + delay, p.2) else p
        spec := x.spec.map (fun p => { p with lane := s.resumeChain n v w.freeze delay [] p.lane, hist := [] }) }) s
    s.updChan n fun o => { o with freed := o.freed.filter (fun c => c == s.cyc) }) s
  let member := fun n => s.flag .rchFbCfgSgEn n && s.fld .rchFbCfgSgrp n == k
  let s := forEach ((List.range s.variant.rchCount).filter member) (fun n s =>
    forEach (List.range 16) (fun t s =>
      let y := SMap.get Tone.init (s.rchan n).tones t
      match y.due with
      | some d =>
        if w.freeze + 6 ≤ d then
          when w.prev.isNone (fun s => s.bump .rchWinDelayed n)
            (s.updRchan n fun q => { q with tones := SMap.put Tone.init q.tones t { y with due := some (d + delay) } })
        else s
      | none => s) s) s
  s.setWait k (some { w with resume := some r })

/-- The windows of a receive channel that would open in cycle c are held: its group waits, and c is F + 6 or later (R259). -/
def windowHeld (s : State) (n c : Nat) : Bool :=
  s.flag .rchFbCfgSgEn n && (match s.waitOf (s.fld .rchFbCfgSgrp n) with
    | some w => w.resume.isNone && decide (w.freeze + 6 ≤ c)
    | none => false)

/-- v of R258: the cycle in which the last waiting condition was resolved; none while one is open. -/
def waitReady (w : Wait) : Option Nat :=
  w.conds.foldl (fun a q => match a, q.result with | some m, some (_, c) => some (max m c) | _, _ => none) (some 0)

/-- A waiting condition is resolved: its result, and the cycle that counts (R258, R261). -/
def resolve (s : State) (k : Nat) (q : WCond) (b : Bool) (c : Nat) : State :=
  match s.waitOf k with
  | some w => s.setWait k (some { w with
      conds := w.conds.map (fun p => if p == q then { p with result := some (b, c) } else p) })
  | none => s

/-- The cycle F + WAIT_MAX − 29 that bounds the waiting conditions of a channel (R261). -/
def waitBound (s : State) (n : Nat) : Nat :=
  match s.waitOf (s.waitKey n) with
  | some w => w.origin + s.fld .ochFbCfgWaitMax n - 29
  | none => 0

/-- The waiting conditions of a channel whose inputs were ready by their bound select from them (R260, R261); their readings
count (R249). -/
def resolveReady (s : State) (n : Nat) : State :=
  let k := s.waitKey n
  match s.waitOf k with
  | some w =>
    forEach (w.conds.filter (fun q => q.och == n && q.result.isNone)) (fun q s =>
      let e := s.cond n q.cond
      let t := (s.voice n q.voice).tag
      let s := s.condEcc e
      if (s.condMissing e t s.cyc).isEmpty && !s.badIn 3 n (8 * q.cond) (8 * q.cond + 8)
          && decide (s.condReadyAt e ≤ s.waitBound n) then
        (s.condConsume e s.cyc).resolve k q (s.condResult e s.cyc) (s.condReadyAt e)
      else s) s
  | none => s

/-- The wait of key k ends: four cycles after its last condition was resolved, its members fetch again (R258). DESIGN
CHOICE: where a nested lateness (R255) starts or joins a wait whose inputs became ready before that, so that cycle v + 4 has
passed, they fetch again in the next cycle. -/
def waitResume (s : State) (k : Nat) : State :=
  let s := forEach (s.waitMembers k) (fun n s => s.resolveReady n) s
  match s.waitOf k with
  | some w =>
    match waitReady w with
    | some v => if w.resume.isNone && max (v + 4) (w.entered + 1) == s.cyc then s.resumeWait k w else s
    | none => s
  | none => s

/-- A waiting condition of a voice has reached its limit (R261). -/
def atWaitLimit (s : State) (n v : Nat) : Option WCond :=
  match s.waitOf (s.waitKey n) with
  | some w => if s.waitBound n ≤ s.cyc then
      w.conds.find? (fun q => q.och == n && q.voice == v && q.result.isNone) else none
  | none => none

/-- At the end of the limit's cycle a condition whose inputs are ready selects from them; any other is resolved as DEFAULT
in that cycle, which lies before the wait's entry where WAIT_MAX is below 4 (R261). -/
def waitLimit (s : State) (n v : Nat) : State :=
  let s := s.resolveReady n
  match s.atWaitLimit n v with
  | some q => ((s.resolve (s.waitKey n) q false (min s.cyc (s.waitBound n))).lateDefault n 1).bump .ochWaitTimeout n
  | none => s

/-! ## Late policies (R256, R257) -/

/-- The policy that applies (R257): WAIT acts as DEFAULT, as 3 when an outstanding input is imported and as 4 when WAIT_MAX
is too small for deadline d of boundary b. -/
def latePolicy (s : State) (n : Nat) (x : BitVec 128) (missing : List Nat) (d b : Nat) : Nat :=
  if segLate x = 0 then
    if missing.any (fun k => decide (1024 ≤ k)) then 3
    else if s.fld .ochFbCfgWaitMax n < d + 30 - b then 4 else 0
  else segLate x

/-- A selected rendering's recorded latenesses act now, and are counted (R255). -/
def actLates (s : State) (n v : Nat) (l : List Late) : State :=
  forEach l (fun p s =>
    let s := when p.exc (fun s => s.bump .glbLatExcCnt) s
    if p.pol = 0 then s.enterWait n v p.bound p.cond
    else if p.pol = 2 then s.updVoice n v fun x => { x with abortAt := some p.bound }
    else s.lateDefault n p.pol) s

/-! ## The choice at a sequencer boundary (R110 to R116, R251 to R255) -/

/-- The condition of a COND segment can be evaluated at its sequencer boundary: its inputs are ready at B − 29 (R252). -/
def condInTime (s : State) (n v : Nat) (c : Chain) : Bool :=
  (s.condMissing (s.cond n (segCond c.seg)) (s.voice n v).tag (s.cyc - 4)).isEmpty && !c.bad
    && !s.badIn 3 n (8 * segCond c.seg) (8 * segCond c.seg + 8)

/-- The chain's selection for the boundary whose multiplexer cycle is b, when it has been made (R260). -/
def selAt (c : Chain) (b : Nat) : Option Bool := (c.sels.find? (fun p => p.1 == b)).map (·.2)

/-- The voice's own chain has a COND boundary in the present cycle that needs a lane (R252, R253). -/
def needsLane (s : State) (n v : Nat) : Bool :=
  match (s.voice n v).chain with
  | some c => c.stop == s.cyc && !c.ended && !c.held && (s.frozenAt n).isNone && (s.voice n v).spec.isNone
      && segMode c.seg == 1 && segSpec c.seg && (selAt c (s.cyc + 25)).isNone && !s.condInTime n v c
  | none => false

/-- Lanes of the channel that render, or were freed in this cycle or are still to be (R253, R258). -/
def lanesBusy (s : State) (n now : Nat) : Nat :=
  ((s.voices n).filter (fun x => x.spec.isSome)).length + ((s.chan n).freed.filter (fun c => decide (now ≤ c))).length

/-- Voice v finds a free lane: lower-numbered voices that need one in this cycle are served first (R253). -/
def lanesFree (s : State) (n v : Nat) : Bool :=
  decide (s.lanesBusy n s.cyc + ((List.range v).filter (s.needsLane n)).length < s.fld .ochFbCfgLanes n)

/-- A COND segment's condition is evaluated in time: NEXT or ALT (R118, R252). -/
def condTake (s : State) (n v : Nat) (lane : Bool) (c : Chain) (e : BitVec 512) (d : Nat) : State :=
  let r := s.condResult e d
  (s.condConsume e d).goTo n v lane (c.note s.cyc (s.cyc + 25) r) (if r then segAlt c.seg else segNext c.seg)

/-- A COND boundary (R252 to R257). -/
def condBoundary (s : State) (n v : Nat) (lane : Bool) (c : Chain) : State :=
  let x := c.seg
  let i := segCond x
  let b := s.cyc + 25
  let d := s.cyc - 4
  let e := s.cond n i
  let s := s.touch n 1 i 0
  match selAt c b with
  | some r => s.goTo n v lane c (if r then segAlt x else segNext x)
  | none =>
    let s := s.condEcc e
    let s := when (decide (8 < slice e.toNat 384 4)) (fun s => s.setB .ochSeqErrBadEntry n true) s
    if s.condInTime n v c then s.condTake n v lane c e d
    else
      let missing := s.condMissing e (s.voice n v).tag d
      let spec := (s.voice n v).spec.isSome
      if segSpec x && !spec && s.lanesFree n v then
        let s := s.bump .ochSpecTaken n
        let h := (c :: (s.voice n v).hist).filter (fun y => decide (s.cyc < y.stop + 25))
        let s := s.updVoice n v fun y => { y with spec := some ⟨s.fetched n v c (segAlt x), [], h, b, i, segLate x, none⟩ }
        ((s.fetchFlags n v (segAlt x)).touch n 0 (segAlt x) (s.voiceWords n v)).goTo n v false c (segNext x)
      else
        let s := when (segSpec x) (fun s =>
          (s.bump .ochSpecMiss n).setB (if spec then .ochFbStatusMissNested else .ochFbStatusMissNoLane) n true) s
        let bad := c.bad || s.badIn 3 n (8 * i) (8 * i + 8)
        let s := when bad State.taintMem s
        let exc := s.excursion missing
        let pol := s.latePolicy n x missing (b - 29) b
        if spec then
          let late := { c with lates := c.lates ++ [⟨pol, b, i, exc⟩] }
          if pol = 0 || pol = 2 then s.setChain n v lane late else s.goTo n v lane (late.note s.cyc b false) (segNext x)
        else
          let s := when exc (fun s => s.bump .glbLatExcCnt) s
          if pol = 0 then s.enterWait n v b i
          else if pol = 2 then s.updVoice n v fun y => { y with
            chain := some { c with lates := c.lates ++ [⟨2, b, i, false⟩] }
            abortAt := some b }
          else (s.lateDefault n pol).goTo n v lane (c.note s.cyc b false) (segNext x)

/-- A request or event of cycle a counts at the end boundary of the present cycle: it was sampled at or before the boundary
that begins the last granule (R114). -/
def sampled (s : State) (a : Option Nat) : Bool :=
  match a with
  | some c => decide (c + 2 ≤ s.cyc)
  | none => false

/-- The choice of a voice, or of its lane, at a sequencer boundary (R110). DESIGN CHOICE: an event that comes too late for a
WAIT_EVENT segment of a rendering counts in `REQ_DROP` when the rendering leaves the segment, also where the rendering is
discarded afterwards (R113, R115). -/
def boundary (s : State) (n v : Nat) (lane : Bool) (c : Chain) : State :=
  let x := c.seg
  match segMode x with
  | 0 => s.goTo n v lane c (segNext x)
  | 1 => s.condBoundary n v lane c
  | 2 =>
    if s.sampled c.async then s.goTo n v lane { c with async := none } (segAlt x)
    else s.goTo n v lane c (segNext x)
  | 3 =>
    let k := segLctr x
    let q := c.loops.getD k 0
    if q = 0 then s.goTo n v lane { c with loops := c.loops.set k (s.actLoad n k) } (segNext x)
    else s.goTo n v lane { c with loops := c.loops.set k (q - 1) } (segAlt x)
  | 5 =>
    if s.sampled c.event then s.goTo n v lane c (segNext x)
    else if c.plays < segRepeat x then
      s.setChain n v lane { c with
        start := s.cyc, pos := 0, stop := s.cyc + segLen x, plays := c.plays + 1, spos := c.sposAt c.stop, part := s.cyc }
    else (when c.event.isSome (fun s => s.bump .ochReqDrop n) s).goTo n v lane c (segAlt x)
  | _ => s.setChain n v lane { c with ended := true }

/-- The voice whose boundary hands over the channel set: voice 0, or the lowest walking one (R124). -/
def leadVoice (s : State) (n : Nat) : Nat :=
  (firstIdx (fun (x : Voice) => match x.chain with | some c => !c.ended | none => false) (s.voices n) 0).getD 0

/-- A sequencer boundary of voice v or of its lane in the present cycle: the end of an END_SHOT segment is none, since no
segment follows it (R124). DESIGN CHOICE (log entry 3): sets are handed over here also where a wait begins at this boundary. -/
def segmentBoundary (s : State) (n v : Nat) (lane : Bool) : State :=
  let c? := if lane then (s.voice n v).spec.map (·.lane) else (s.voice n v).chain
  match c? with
  | some c =>
    if c.stop == s.cyc && !c.ended && !c.held && (s.frozenAt n).isNone then
      let s := when (!lane && segMode c.seg != 4) (fun s =>
        let s := s.handOverAt n v
        if s.leadVoice n = v then s.handOverAt n 8 else s) s
      (s.pushHist n v lane c).boundary n v lane c
    else s
  | none => s

/-! ## Selection of a speculation (R251 to R256) -/

/-- The deadline of a speculation, B − 4: its condition is evaluated, or is late (R251, R256). A policy 0 left in a late one
is a wait still to be entered. -/
def specDeadline (s : State) (n v : Nat) : State :=
  match (s.voice n v).spec with
  | some p =>
    if p.bound == s.cyc + 4 && p.result.isNone && (s.frozenAt n).all (fun f => decide (p.bound < f)) then
      let e := s.cond n p.cond
      let s := s.condEcc e
      let missing := s.condMissing e (s.voice n v).tag s.cyc
      let bad := s.badIn 3 n (8 * p.cond) (8 * p.cond + 8)
      let put := fun (r : Option Bool) (pol : Nat) (s : State) =>
        s.updVoice n v fun x => { x with spec := some { p with result := some r, late := pol } }
      if missing.isEmpty && !bad then put (some (s.condResult e s.cyc)) p.late (s.condConsume e s.cyc)
      else
        let s := when bad State.taintMem (s.latencyExcursion missing)
        let pol := if p.late = 0 then
          (if missing.any (fun k => decide (1024 ≤ k)) then 3
           else if s.fld .ochFbCfgWaitMax n < 26 then 4 else 0) else p.late
        put none pol s
    else s
  | none => s

/-- The speculation of voice v whose condition went late in the present cycle with policy WAIT: its boundary and entry. -/
def specWait (s : State) (n v : Nat) : Option (Nat × Nat) :=
  match (s.voice n v).spec with
  | some p => if p.result == some none && p.late == 0 then some (p.bound, p.cond) else none
  | none => none

/-- The deadlines of the speculations in the shot at the end of a cycle, when every decision that became valid in it has
arrived (R246): all conditions are evaluated before a wait is entered, and all that are late enter it. -/
def deadlines (s : State) : State :=
  let all := s.shotChans.flatMap (fun n => (List.range 8).map (fun v => (n, v)))
  let s := forEach all (fun p s => s.specDeadline p.1 p.2) s
  let late := all.filterMap fun p => (s.specWait p.1 p.2).map fun q => (p, q)
  forEach late (fun e s => s.enterWait e.1.1 e.1.2 e.2.1 e.2.2) s

/-- The selection at multiplexer boundary B (R112, R253): the losing rendering's datapath is free from the next cycle, and
what the winner recorded acts. -/
def specSelect (s : State) (n v : Nat) : State :=
  match (s.voice n v).spec with
  | some p =>
    if p.bound == s.cyc && p.result.isSome then
      let x := s.voice n v
      let alt := p.result == some (some true)
      let win : Option Chain := if alt then some p.lane else x.chain
      let grans := if alt then x.granules.filter (fun g => decide (g.mux < s.cyc)) ++ p.granules else x.granules
      let lates := match win with | some c => c.lates | none => []
      let clear := fun (c : Chain) => { c with lates := c.lates.filter (fun l => l.pol == 2) }
      let s := s.setVoice n v { x with
        chain := win.map clear, granules := grans, hist := if alt then p.hist else x.hist, spec := none }
      let s := s.updChan n fun o => { o with freed := s.cyc :: o.freed.filter (fun c => decide (s.cyc ≤ c)) }
      let s := match p.result with
        | some none =>
          if p.late = 2 then (s.bump .ochLateAbortCnt n).abortShot 1 else s.lateDefault n p.late
        | _ => s
      s.actLates n v lates
    else s
  | none => s

/-! ## Async requests and events (R114, R115) -/

/-- A latched request in a chain. -/
def latchAsync (cyc : Nat) (c : Chain) : Chain := { c with async := some (c.async.getD cyc) }

/-- A shot is in progress for the sequencer of a channel: from the cycle after its start fetch to its end (R119, R120). -/
def walking (s : State) (n : Nat) : Bool :=
  s.ochPart n && (s.shot.running || (match s.shot.accepted with | some t => decide (t < s.cyc + 31) | none => false))

/-- An async request for voice v reaches the sequencer (R114). It latches also in a voice that plays no segment, for as long
as the shot lasts; with no shot in progress it is discarded (R120). DESIGN CHOICE: while the voice speculates, the latch of
its own chain decides whether a request merges (R113 gives each rendering its own copy). -/
def asyncOne (s : State) (n v : Nat) : State :=
  match (s.voice n v).chain with
  | none =>
    if s.walking n then
      let s := when (s.voice n v).kept (fun s => s.bump .ochReqMerged n) s
      s.updVoice n v fun x => { x with kept := true }
    else s.bump .ochReqDrop n
  | some c =>
    let s := when c.async.isSome (fun s => s.bump .ochReqMerged n) s
    s.updVoice n v fun x => { x with
      chain := x.chain.map (latchAsync s.cyc)
      spec := x.spec.map (fun p => { p with lane := latchAsync s.cyc p.lane, hist := p.hist.map (latchAsync s.cyc) })
      hist := x.hist.map (latchAsync s.cyc) }

/-- Async requests for the voices of a mask. -/
def asyncPost (s : State) (n mask : Nat) : State := forEach (setBits mask 8) (fun v s => s.asyncOne n v) s

/-- An event at input k latches in a WAIT_EVENT segment that uses it (R115). -/
def latchEvent (cyc k : Nat) (c : Chain) : Chain :=
  if segMode c.seg = 5 && segCond c.seg % 4 == k && c.event.isNone && !c.ended then { c with event := some cyc } else c

/-- An event delivered to EIN k of a channel (R114, R115). DESIGN CHOICE: an event delivered in the very cycle of a WAIT_EVENT
segment's first boundary counts when its row comes after the boundary's, and is cleared by the boundary when it comes
before. -/
def einEvent (s : State) (n k : Nat) : State :=
  let s := forEach (List.range 8) (fun v s => s.updVoice n v fun x => { x with
    chain := x.chain.map (latchEvent s.cyc k)
    spec := x.spec.map (fun p => { p with lane := latchEvent s.cyc k p.lane, hist := p.hist.map (latchEvent s.cyc k) })
    hist := x.hist.map (latchEvent s.cyc k) }) s
  if s.flag .ochSeqCfgAsyncEinEn n && s.fld .ochSeqCfgAsyncEin n == k then s.asyncPost n (s.fld .ochSeqCfgAsyncVmask n)
  else s

/-! ## Stopping (R116, R121) -/

/-- Streamed samples of the present play that will not pass count as zero-substituted (R161). -/
def strmCut (s : State) (n : Nat) : State :=
  s.updChan n fun o => { o with strm := { o.strm with zero := o.strm.zero + o.strm.remain, remain := 0 } }

/-- The voice's latched async request stays latched when its chain is gone (R120). -/
def keepAsync (x : Voice) : Bool := x.kept || (match x.chain with | some c => c.async.isSome | none => false)

/-- The shot is over for a voice: its latched async request is discarded and counted (R120). -/
def dropAsync (s : State) (n v : Nat) : State := when (keepAsync (s.voice n v)) (fun s => s.bump .ochReqDrop n) s

/-- A voice stops: its renderings are discarded and it contributes zero. -/
def stopVoice (s : State) (n v : Nat) : State :=
  let strm := match (s.voice n v).chain with
    | some _ => s.flag .ochStrmStatusOpen n && descVoice (s.desc (s.fld .ochStrmStatusDesc n)) == v
    | none => false
  let s := when strm (fun s => s.strmCut n) s
  s.updVoice n v fun x => { x with
    chain := none, granules := [], spec := none, hist := [], abortAt := none, stopped := true, kept := keepAsync x, pend := none }

/-- A channel has finished its shot in cycle c (R28). -/
def finishChan (s : State) (n c : Nat) : State :=
  if s.ochPart n && SMap.get 0 s.shot.ended n == 0 then
    { s with shot := { s.shot with ended := SMap.put 0 s.shot.ended n c } }
  else s

/-- Every voice enabled at shot start has finished or stopped. -/
def chanIdle (s : State) (n : Nat) : Bool := (s.voices n).all (fun x => !x.enabled || x.done || x.stopped)

/-- The whole channel stops at the multiplexer in the present cycle (R121). -/
def stopChan (s : State) (n : Nat) : State :=
  let s := forEach (List.range 8) (fun v s => s.stopVoice n v) s
  let s := s.updChan n fun o => { o with stopping := false }
  s.finishChan n (s.cyc + 6)

/-- A TRIP or a loss of PLL lock aborts the shot (R35, R161): every channel of the shot stops at once, and the cause is 4
whatever was recorded before. DESIGN CHOICE (log entry 3): a shot that is accepted and has not started is aborted at its start
tick. -/
def abortNow (s : State) : State :=
  if s.shot.running then
    let s := match s.shot.abort with
      | some (_, c) => { s with shot := { s.shot with abort := some (4, c) } }
      | none => s.abortShot 4
    forEach s.shotChans (fun n s => s.stopChan n) s
  else if s.shot.accepted.isSome then { s with shot := { s.shot with abortAtTick := 4 } }
  else s

/-! ## Shot start (R119) -/

/-- The start fetch of an enabled voice. -/
def startVoice (s : State) (n v : Nat) (tag : Nat) : State :=
  let (e, en) := s.vstart n v
  let old := s.voice n v
  if en then
    let c0 : Chain :=
      { entry := e, seg := 0, start := s.cyc, pos := 0, stop := s.cyc, plays := 0, amp := 0,
        loops := (List.range 4).map (s.actLoad n), async := none, event := none, spos := (s.chan n).strm.cursor,
        zero := true, bad := false, run := s.cyc, part := s.cyc, sels := [], lates := [], ended := false }
    let s := s.setVoice n v { old with
      chain := none, granules := [], spec := none, hist := [], tag := BitVec.ofNat 16 tag, enabled := true, done := false,
      stopped := false, abortAt := none, interp := [], kept := false, pend := none }
    s.goTo n v false c0 e
  else s.setVoice n v { old with
    chain := none, granules := [], spec := none, hist := [], tag := BitVec.ofNat 16 tag, enabled := false, done := false,
    stopped := false, abortAt := none, interp := [], kept := false, pend := none }

/-- Sets committed before the cycle of the start fetch are handed over before it (R124). -/
def handOverFirst (s : State) (n : Nat) : State := forEach (List.range 9) (fun set s => s.handOverAt n set) s

/-- The start fetch of a channel: every enabled voice fetches its start entry; one with no voice enabled finishes 4 cycles
after the start tick (R28). DESIGN CHOICE (log entry 3): DONE of a channel that takes no part stays. -/
def startChan (s : State) (n tick tag : Nat) : State :=
  let s := s.updChan n fun o => { o with stopping := false }
  let s := forEach (List.range 8) (fun v s => s.startVoice n v tag) s
  if s.chanIdle n then s.finishChan n (tick + 4) else s

/-! ## Active targets in the present cycle (R129, R130) -/

/-- The channel once the boundaries of the present cycle that are still to come have been taken: what they fetch is active in
this cycle (R130). -/
def foreseen (s : State) (n : Nat) : State :=
  let s := if s.startFetchNow && s.ochPart n then s.startChan n 0 0 else s
  let s := s.waitResume (s.waitKey n)
  forEach (List.range 8) (fun v s => (s.segmentBoundary n v false).segmentBoundary n v true) s

/-- The targets of a channel that are active in the present cycle (R129, R130). -/
def activeNow (s : State) (n : Nat) : List (Nat × Nat × Nat) :=
  s.uses n ++ (s.chan n).was ++
    (((s.foreseen n).chan n).touched.filter (fun r => r.2.2.2 == s.cyc)).map (fun r => (r.1, r.2.1, r.2.2.1))

/-- A segment entry (kind 0) or condition entry (kind 1) is active. -/
def targetActive (s : State) (n kind i : Nat) : Bool := (s.activeNow n).any fun a => a.1 == kind && a.2.1 == i

/-- The 64-byte envelope block b of a channel lies in the region that one play of an active entry reads (R129). -/
def blockActive (s : State) (n b : Nat) : Bool :=
  (s.activeNow n).any fun a =>
    let x := s.segEntry n a.2.1
    let lo := segWaddr x / 16
    let hi := (segWaddr x + a.2.2 * segLen x - 1) / 16
    a.1 == 0 && segSrc x == 0 && ((decide (lo ≤ b) && decide (b ≤ hi)) || (decide (16384 ≤ hi) && decide (b ≤ hi - 16384)))

end State

end Sys2Proof.Machine
end

