-- ==== Sys2Proof/Machine/Streams.lean ====
section
/-!
DEFINITION. Streamed segments (spec/05, R150 to R161): descriptors, the buffer of a channel's open stream, admission, and
the commands that open and close streams. The tape of a stream is counted in blocks and granules from START_BLK.
-/

namespace Sys2Proof.Machine

/-- Words per granule, granules per block, samples per granule and rate in GB/s of a format (R151). -/
def fmtWords (f : Nat) : Nat := if f = 1 then 16 else if f = 2 then 2 else 4
def fmtPerBlock (f : Nat) : Nat := if f = 1 then 1 else if f = 2 then 8 else 4
def fmtSamples (f : Nat) : Nat := if f = 1 then 32 else 4
def fmtRate (f : Nat) : Nat := if f = 1 then 40 else if f = 2 then 5 else 10

/-- Two byte ranges [a, b) and [c, d) overlap. -/
def overlaps (p q : Nat × Nat) : Bool := decide (p.1 < q.2) && decide (q.1 < p.2)

namespace State

/-- The descriptor of a channel's open stream. -/
def openDesc (s : State) (n : Nat) : BitVec 256 := s.desc (s.fld .ochStrmStatusDesc n)

def strmOpen (s : State) (n : Nat) : Bool := s.flag .ochStrmStatusOpen n

/-- The DRAM bytes of a descriptor's region. -/
def descRegion (x : BitVec 256) : Nat × Nat := (64 * descBase x, 64 * (descBase x + descLen x))

/-- The power groups of the stacks that a descriptor's region lies in, of 2^27 blocks each. -/
def descStacks (x : BitVec 256) : List Nat :=
  [156 + descBase x / 2 ^ 27, 156 + (descBase x + descLen x - 1) / 2 ^ 27].eraseDups

/-- The journal's spill ring in DRAM bytes (R352). -/
def spillRegion (s : State) : Option (Nat × Nat) :=
  if s.flag .jrnCfgSpillEn then
    some (s.fld .jrnSpillBaseBase1m * 0x100000, s.fld .jrnSpillBaseBase1m * 0x100000 + s.fld .jrnSpillLenLen16m * 0x1000000)
  else none

/-- A capture unit's partition when it lies in DRAM (R308). -/
def acqRegion (s : State) (n : Nat) : Option (Nat × Nat) :=
  if s.flag .acqCfgDest n && s.fld .acqPartLenLen4k n != 0 then
    some (4096 * s.fld .acqPartBaseBase4k n, 4096 * (s.fld .acqPartBaseBase4k n + s.fld .acqPartLenLen4k n))
  else none

/-- The region overlaps an optional other. -/
def hits (p : Nat × Nat) (q : Option (Nat × Nat)) : Bool := match q with | some r => overlaps p r | none => false

/-- The first channel with an open stream whose region overlaps p (R153). -/
def streamHit (s : State) (p : Nat × Nat) : Option Nat :=
  (List.range 96).find? (fun n => s.strmOpen n && overlaps p (descRegion (s.openDesc n)))

/-- Granules on the tape of a stream that does not wrap. -/
def tapeLen (x : BitVec 256) : Nat := (descLen x - descStart x) * fmtPerBlock (descFormat x)

/-- The tape has no granule g: WRAP = 0 and the region has ended (R159). -/
def tapeOver (x : BitVec 256) (g : Nat) : Bool := !descWrap x && decide (tapeLen x ≤ g)

/-- Block of the region that holds block k of the tape. -/
def tapeBlock (x : BitVec 256) (k : Nat) : Nat :=
  if descWrap x then (descStart x + k) % max 1 (descLen x) else descStart x + k

def setStrm (s : State) (n : Nat) (t : Strm) : State := s.updChan n fun o => { o with strm := t }

/-- First block still in the buffer: those behind the cursor have been dropped. -/
def bufFirst (s : State) (n : Nat) : Nat :=
  let t := (s.chan n).strm
  max t.from_ (t.cursor / fmtPerBlock (descFormat (s.openDesc n)))

/-- Blocks in the buffer (`STRM_STATUS.LEVEL`). -/
def bufLevel (s : State) (n : Nat) : Nat := (s.chan n).strm.to_ - s.bufFirst n

/-- The buffer holds granule g of the tape. -/
def bufHolds (s : State) (n g : Nat) : Bool :=
  let k := g / fmtPerBlock (descFormat (s.openDesc n))
  decide (s.bufFirst n ≤ k) && decide (k < (s.chan n).strm.to_)

/-- The words of granule g of the tape, from the buffer (R151). -/
def bufWords (s : State) (n g : Nat) : List Nat :=
  let f := descFormat (s.openDesc n)
  let blk := (SMap.get 0 (s.chan n).strm.data (g / fmtPerBlock f)).toNat
  (List.range (fmtWords f)).map fun w => slice blk (32 * (fmtWords f * (g % fmtPerBlock f) + w)) 32

/-- `STRM_STATUS.PRIMED` (R155): 128 granules ahead of the cursor, or all that remain. -/
def primed (s : State) (n : Nat) : Bool :=
  let x := s.openDesc n
  let t := (s.chan n).strm
  let ahead := t.to_ * fmtPerBlock (descFormat x)
  s.strmOpen n && s.bufFirst n == t.cursor / fmtPerBlock (descFormat x) &&
    (decide (t.cursor + 128 ≤ ahead) || (!descWrap x && decide (tapeLen x ≤ ahead)))

/-- The buffer discarded and the fetch aimed at granule g (R158). -/
def strmAim (s : State) (n g : Nat) : State :=
  let t := (s.chan n).strm
  let k := g / fmtPerBlock (descFormat (s.openDesc n))
  s.setStrm n { t with from_ := k, to_ := k, data := [], bad := [] }

/-- The cursor returns to START_BLK and the buffer is discarded (R155). -/
def strmRewind (s : State) (n : Nat) : State :=
  let t := (s.chan n).strm
  s.setStrm n { t with cursor := 0, from_ := 0, to_ := 0, data := [], bad := [], zeroRun := none, exhRun := none }

/-- The cursor moves past one granule; blocks behind it leave the buffer (R156). -/
def strmAdvance (s : State) (n : Nat) : State :=
  let t := (s.chan n).strm
  let k := (t.cursor + 1) / fmtPerBlock (descFormat (s.openDesc n))
  s.setStrm n { t with
    cursor := t.cursor + 1, data := t.data.filter (fun p => decide (k ≤ p.1)), bad := t.bad.filter (fun b => decide (k ≤ b)) }

/-- Block k of the tape arrives (R155): the block that the fetch awaits, with room for it, is buffered as DRAM holds it
now; any other lies behind the cursor or past the tape's end and is dropped. -/
def strmArrive (s : State) (n k : Nat) : State :=
  let x := s.openDesc n
  let t := (s.chan n).strm
  let a := dramAddr (64 * (descBase x + tapeBlock x k))
  if s.strmOpen n && k == t.to_ && decide (s.bufLevel n < 512) && !tapeOver x (k * fmtPerBlock (descFormat x))
      && s.bar2On a && s.groupOn n then
    State.cleanBank (row := 5) (inst := n) (lo := 8 * (k % 512)) (hi := 8 * (k % 512) + 8) <| s.setStrm n { t with
      to_ := k + 1
      data := SMap.put 0 t.data k (BitVec.ofNat 512 (leNat (Memory.readBytes s.mem.bytes a 64)))
      bad := if s.bar2Bad a 64 then k :: t.bad else t.bad }
  else s

/-- The streamed-sample invariant is re-based (R43, R161). -/
def strmRebase (s : State) (n : Nat) : State :=
  let t := (s.chan n).strm
  (s.setStrm n { t with schedBase := t.sched, playedBase := t.played, zeroBase := t.zero }).bump .ochStrmRebase n

/-- At a shot end the cursor of every open stream with CONTINUE = 0 returns to START_BLK (R155). -/
def strmShotEnd (s : State) : State :=
  forEach ((List.range s.variant.ochCount).filter fun n => s.strmOpen n && !descContinue (s.openDesc n))
    (fun n s => s.strmRewind n) s

end State

/-! ## Commands (R152, R153) -/

/-- The descriptor in a STREAM_DESC_WRITE packet. -/
def descOf (c : HostCmd) : BitVec 256 := BitVec.ofNat 256 (pNum c 16 32)

/-- STREAM_DESC_WRITE (R152). -/
def streamDescWriteSpec : CmdSpec where
  opcode := 0x303
  kinds := [11]
  states := 0b11100
  layout := whole 16 32
  absent := fun s c => rejIf (!s.unitPresent 1 (State.descOwner (descOf c))) (rejAbsent 1 (State.descOwner (descOf c)))
  range := fun s c =>
    let x := descOf c
    let z := fun k m => rejIf (pByte c k &&& m != 0) (rejRange k)
    firstRej [
      rejIf (decide (s.variant.dramStacks * 2 ^ 27 < State.descBase x + State.descLen x)) (rejRange 16),
      z 19 0xF0,
      rejIf (State.descLen x == 0) (rejRange 20),
      z 23 0xF0,
      rejIf (decide (State.descLen x ≤ State.descStart x)) (rejRange 24),
      z 27 0xF0, z 28 0x80,
      rejIf (State.descFormat x == 3 || (State.descFormat x != 0 && State.descVoice x != 0)) (rejRange 29),
      z 29 0x08, z 30 0xFE, z 31 0xFF,
      firstRejOf ((List.range 16).map (32 + ·)) (fun k => z k 0xFF)]
  locked := fun s c => rejIf ((List.range 96).any (fun n => s.strmOpen n && s.fld .ochStrmStatusDesc n == indexOf c)) rejLocked
  busy := fun s _ => s.bankBusy 161
  app := justDo fun s c => { s with descs := SMap.put 0 s.descs (indexOf c) (descOf c) }.cleanBank 12 0 (4 * indexOf c) (4 * indexOf c + 4)

def execStreamDescWrite (c : HostCmd) (s : State) : Host.Outcome State Fault Refusal := command streamDescWriteSpec c s

/-- STREAM_OPEN (R153 to R155). -/
def streamOpenSpec : CmdSpec where
  opcode := 0x304
  kinds := [1]
  states := 0b1100
  layout := [(16, 255), (17, 255)]
  absent := fun s c => rejIf (!s.variant.dram) (rejAbsent 1 (indexOf c))
  range := fun s c =>
    let n := indexOf c
    let x := s.desc (pNum c 16 2)
    let f := State.descFormat x
    let direct := s.flag .ochSynCfgDirect n
    rejIf (decide (1023 < pNum c 16 2) || !State.descValid x || State.descOwner x != n
      || (f == 0 && State.descVoice x == 0 && direct)
      || (f != 0 && !(direct && s.fld .ochSynCfgDirectFmt n + 1 == f))
      || decide (s.variant.streamBw < s.fld .glbStrmAdmitReserved + fmtRate f)) (rejRange 16)
  locked := fun s c => firstRej [s.bankLocked (indexOf c),
    firstRejOf (State.descStacks (s.desc (pNum c 16 2))) s.bankLocked]
  conflict := fun s c =>
    let n := indexOf c
    let p := State.descRegion (s.desc (pNum c 16 2))
    firstRej [
      rejIf (s.strmOpen n) (rejConflict 1 n 0),
      rejIf (State.hits p s.spillRegion) (rejConflict 0 0 0),
      firstRejOf (List.range 24) (fun u => rejIf (State.hits p (s.acqRegion u)) (rejConflict 6 u 0))]
  busy := fun s c => firstRej [s.bankBusy (indexOf c), s.bankBusy 161,
    firstRejOf (State.descStacks (s.desc (pNum c 16 2))) s.bankBusy]
  app := justDo fun s c =>
    let n := indexOf c
    let f := State.descFormat (s.desc (pNum c 16 2))
    let s := (s.setF .ochStrmStatusDesc n (pNum c 16 2)).setB .ochStrmStatusOpen n true
    let s := s.setF .glbStrmAdmitReserved 0 (s.fld .glbStrmAdmitReserved + fmtRate f)
    (s.setF .glbStrmAdmitOpen 0 (s.fld .glbStrmAdmitOpen + 1)).strmRewind n

def execStreamOpen (c : HostCmd) (s : State) : Host.Outcome State Fault Refusal := command streamOpenSpec c s

/-- STREAM_CLOSE (R153): a channel without an open stream is left as it is. -/
def streamCloseSpec : CmdSpec where
  opcode := 0x305
  kinds := [1]
  states := 0b1100
  absent := fun s c => rejIf (!s.variant.dram) (rejAbsent 1 (indexOf c))
  app := justDo fun s c =>
    let n := indexOf c
    if s.strmOpen n then
      let f := State.descFormat (s.openDesc n)
      let s := (s.strmRewind n).setB .ochStrmStatusOpen n false
      let s := s.setF .glbStrmAdmitReserved 0 (s.fld .glbStrmAdmitReserved - fmtRate f)
      s.setF .glbStrmAdmitOpen 0 (s.fld .glbStrmAdmitOpen - 1)
    else s

def execStreamClose (c : HostCmd) (s : State) : Host.Outcome State Fault Refusal := command streamCloseSpec c s

end Sys2Proof.Machine
end

