-- ==== Sys2Proof/Machine/Synthesis.lean ====
section
/-!
DEFINITION. The voice datapath as arithmetic (spec/03, R89 to R99): DRAG, interpolator, NCO and mixer, scaling, sum,
fractional delay and DAC code. Cosines are computed exactly enough to round correctly, from a Taylor sum on integers scaled
by 2^80.
-/

namespace Sys2Proof.Machine

/-! ## The NCO (R94) -/

/-- π scaled by 2^80. -/
def piScaled : Int := 3797952473636338580787993

/-- The first n terms of the cosine series from term k on: `t` is term k, `x2` the square of the angle, all scaled by
2^80. -/
def cosTerms (x2 : Int) : Nat → Nat → Int → Int
  | 0, _, _ => 0
  | n + 1, k, t => t + cosTerms x2 n (k + 1) (-(t * x2 / 2 ^ 80 / ((2 * k + 1) * (2 * k + 2) : Int)))

/-- The first n terms of the sine series. -/
def sinTerms (x2 : Int) : Nat → Nat → Int → Int
  | 0, _, _ => 0
  | n + 1, k, t => t + sinTerms x2 n (k + 1) (-(t * x2 / 2 ^ 80 / ((2 * k + 2) * (2 * k + 3) : Int)))

/-- cos(2πr / 2^20) scaled by 2^80, for r from 0 to 2^18. -/
def cosQuarter (r : Nat) : Int :=
  if r ≤ 2 ^ 17 then
    let x := piScaled * 2 * (r : Int) / 2 ^ 20
    cosTerms (x * x / 2 ^ 80) 14 0 (2 ^ 80)
  else
    let x := piScaled * 2 * ((2 ^ 18 - r : Nat) : Int) / 2 ^ 20
    sinTerms (x * x / 2 ^ 80) 14 0 x

/-- c of R94: min(round(131072 cos(2πθ / 2^20)), 131071). -/
def ncoCos (theta : Nat) : Int :=
  let t := theta % 2 ^ 20
  let q := t / 2 ^ 18
  let r := t % 2 ^ 18
  let v := if q = 0 then cosQuarter r else if q = 1 then -cosQuarter (2 ^ 18 - r)
    else if q = 2 then -cosQuarter r else cosQuarter (2 ^ 18 - r)
  min (roundUp v 63) 131071

/-- s of R94. -/
def ncoSin (theta : Nat) : Int := ncoCos (theta % 2 ^ 20 + 2 ^ 20 - 2 ^ 18)

/-- The 20-bit phase of R94. -/
def theta (p : Nat) : Nat := (roundUp (p : Int) 28).toNat % 2 ^ 20

/-! ## Stages -/

/-- A saturation, with whether it changed the value (R89). -/
def satFlag (w : Nat) (x : Int) : Int × Bool := (satS w x, satS w x != x)

/-- The DRAG stage on one sample (R91): its neighbours before and after, the sample, the coefficient. -/
def dragSample (drag : Int) (prev cur next : Int × Int) : (Int × Int) × Bool :=
  let i := satFlag 16 (cur.1 + roundUp (-drag * (next.2 - prev.2)) 11)
  let q := satFlag 16 (cur.2 + roundUp (drag * (next.1 - prev.1)) 11)
  ((i.1, q.1), i.2 || q.2)

/-- Tap k of a half-band stage with n free taps (R92): the taps on one side add up to half the gain, which fixes tap 0. -/
def halfBandTap (j n k : Nat) : Int :=
  if k = 0 then
    2 ^ Config.interpBits - (List.range (n - 1)).foldl (fun a i => a + Config.interpTap j (i + 1)) 0
  else Config.interpTap j k

/-- A half-band stage (×2) with n taps on each side beside its centre: each sample, followed by the one halfway to the
next; zeros outside the list. Rounded to the 20-bit width of the intermediate values. -/
def halfBand (j n : Nat) (l : List Int) : List Int :=
  (List.range l.length).flatMap fun i =>
    let before := fun k => if k ≤ i then l.getD (i - k) 0 else 0
    let between := (List.range n).foldl (fun a k => a + halfBandTap j n k * (before k + l.getD (i + 1 + k) 0)) 0
    [l.getD i 0, satS 20 (roundUp between (Config.interpBits + 1))]

/-- The droop equaliser at sample i: three taps whose sum is the gain of 1. -/
def equalise (l : List Int) (i : Nat) : Int :=
  let d := Config.interpTap 3 0
  satS 20 (roundUp ((2 ^ (Config.interpBits + 1) - 2 * d) * l.getD i 0 + d * (l.getD (i - 1) 0 + l.getD (i + 1) 0))
    (Config.interpBits + 1))

/-- The cascade of R92 on a list of envelope samples, with two fraction bits: 39, 15 and 7 taps (ten, four and two beside
the centre), then the equaliser. -/
def cascade (w : List Int) : List Int := halfBand 2 2 (halfBand 1 4 (halfBand 0 10 (w.map (4 * ·))))

/-- The interpolator's 32 outputs for a granule (R92), from 28 samples around it: twelve before it, its own four, twelve
after it, of which an output takes those within 12 samples (R93). A constant span gives that constant exactly, as the
cascade's sums do. DESIGN CHOICE: intermediate values are rounded as rnd does; the spec states the last rounding only. -/
def interpolate (w : List Int) : List (Int × Bool) :=
  (List.range 32).map fun i =>
    let span := (w.drop (i / 8)).take 25
    let a := span.headD 0
    if span.all (fun x => x == a) then (a, false)
    else satFlag 16 (roundUp (equalise (cascade span) (96 + i % 8)) 2)

/-- The mixer's real part for a sample with envelope (i, q) at phase p (R94). -/
def mix (i q : Int) (p : Nat) : Int := i * ncoCos (theta p) - q * ncoSin (theta p)

/-- The scaling stage (R95), and its form for direct samples (R99). -/
def scale (m amp : Int) : Int × Bool := satFlag 17 (roundUp (m * amp) 32)
def scaleDirect (x amp : Int) : Int × Bool := satFlag 17 (roundUp (x * amp) 15)

/-- One output sample of a voice: value, and whether DRAG, interpolator or scaling saturated. -/
structure Sample where
  val : Int
  drag : Bool
  interp : Bool
  scale : Bool
  deriving DecidableEq, Repr

/-- The 32 samples of a granule (R91 to R95, R99): its envelope's 28-sample windows of I and Q, and the ST of its first
sample at the pin. -/
def voiceSamples (g : Gran) (wi wq : List Int) (t0 : Nat) : List Sample :=
  if g.direct && g.fmt == 0 then
    g.env.map fun e => let a := scaleDirect e.1 g.amp; ⟨a.1, false, false, a.2⟩
  else
    let ii := interpolate wi
    if g.direct then ii.map fun x => let a := scaleDirect x.1 g.amp; ⟨a.1, false, x.2, a.2⟩
    else
      let qq := interpolate wq
      (List.range 32).map fun k =>
        let i := ii.getD k (0, false)
        let q := qq.getD k (0, false)
        let a := scale (mix i.1 q.1 (framePhase g.frame (t0 + k))) g.amp
        ⟨a.1, g.dragSat.getD (k / 8) false, i.2 || q.2, a.2⟩

/-- The fractional delay (R97) of the sample at index j of a list of sums, for FD sixteenths of a tick: whole ticks, then
the 8-tap sum of h_i S[n − i] for the remainder. -/
def fdelaySample (fd : Int) (sums : List Int) (j : Nat) : Int × Bool :=
  let n := ((j : Int) - fd / 16).toNat
  if fd % 16 = 0 then (sums.getD n 0, false)
  else satFlag 18 (roundUp ((List.range 8).foldl (fun a i =>
    a + (Config.fdelayTap (fd % 16).toNat i).toInt * (if i ≤ n then sums.getD (n - i) 0 else 0)) 0) 17)

/-- The DAC code (R97). -/
def dacCode (x : Int) : Int × Bool := satFlag 14 (roundUp x 2)

/-! ## Reading envelope samples (R90, R99, R151) -/

/-- Sample j of a play as a pair: I in the low half word and Q in the high one. -/
def wordPair (w : Nat) : Int × Int := (sgn 16 w, sgn 16 (w / 65536))

/-- The real samples that a list of words holds, the earlier in the low half (R99). -/
def directSamples (l : List Nat) : List (Int × Int) := l.flatMap fun w => [(sgn 16 w, 0), (sgn 16 (w / 65536), 0)]

namespace State

/-- The words of granule g of a chain's segment, for voice v: envelope SRAM from the play's WADDR (R108), or the stream
buffer (R156). -/
def granWords (s : State) (n v : Nat) (c : Chain) (g : Nat) : List Nat :=
  let k := s.voiceWords n v
  if c.zero || segSrc c.seg = 2 then List.replicate k 0
  else if segSrc c.seg = 0 then
    (List.range k).map fun w => s.envWord n (segWaddr c.seg + k * (g % segLen c.seg) + w)
  else s.bufWords n (c.sposAt (c.start + (g - c.pos)))

/-- The read of a granule passes the end of the envelope SRAM (R108). -/
def granWraps (s : State) (n v : Nat) (c : Chain) (g : Nat) : Bool :=
  let k := s.voiceWords n v
  !c.zero && segSrc c.seg == 0 && decide (0x40000 < segWaddr c.seg + k * (g % segLen c.seg) + k)

/-- Four envelope samples of a granule, or its direct samples. -/
def granSamples (s : State) (n v : Nat) (c : Chain) (g : Nat) : List (Int × Int) :=
  let l := s.granWords n v c g
  if v = 0 && s.flag .ochSynCfgDirect n then directSamples l else l.map wordPair

/-- An uncorrectable word lies in the envelope words of granule g of a chain's segment (R336). -/
def granBad (s : State) (n v : Nat) (c : Chain) (g : Nat) : Bool :=
  let k := s.voiceWords n v
  let w0 := segWaddr c.seg + k * (g % segLen c.seg)
  segSrc c.seg == 0 && !c.zero &&
    (List.range k).any (fun j => let w := (w0 + j) % 0x40000; s.badIn 0 n (w / 2) (w / 2 + 1))

/-- Granule p of the tape is past the region's end (R159); it is not in the buffer (R158); it was fetched with an
uncorrectable error (R159), or its words in the buffer are uncorrectable (R336). -/
def granOver (s : State) (n : Nat) (c : Chain) (p : Nat) : Bool := c.streams && tapeOver (s.openDesc n) p
def granMiss (s : State) (n : Nat) (c : Chain) (p : Nat) : Bool :=
  c.streams && !s.granOver n c p && !s.bufHolds n p
def granErr (s : State) (n : Nat) (c : Chain) (p : Nat) : Bool :=
  let k := p / fmtPerBlock (descFormat (s.openDesc n))
  c.streams && ((s.chan n).strm.bad.contains k || s.badIn 5 n (8 * (k % 512)) (8 * (k % 512) + 8))

/-- The envelope that granule g plays, at tape position p: zero where its data is missing, exhausted or uncorrectable. -/
def granEnv (s : State) (n v : Nat) (c : Chain) (g p : Nat) : List (Int × Int) :=
  let l := s.granSamples n v c g
  if s.granBad n v c g || s.granOver n c p || s.granMiss n c p || s.granErr n c p then l.map (fun _ => (0, 0)) else l

/-- The granule that a chain renders in the present cycle (R84, R90, R91, R156). -/
def render (s : State) (n v : Nat) (c : Chain) : Gran :=
  let x := c.seg
  let g := c.granAt s.cyc
  let len := segLen x
  let f := s.frame false n (segFrame x)
  let direct := v = 0 && s.flag .ochSynCfgDirect n
  let fmt := s.fld .ochSynCfgDirectFmt n
  let fbad := !direct && s.badIn 4 n (2 * segFrame x) (2 * segFrame x + 2)
  let spos := c.sposAt s.cyc
  let strm := c.streams
  let fmtD := descFormat (s.openDesc n)
  let env := s.granEnv n v c g spos
  let cur := if fbad then env.map (fun _ => (0, 0)) else env
  let prev := if fbad || g % len = 0 then (0, 0) else (s.granEnv n v c (g - 1) (spos - 1)).getLastD (0, 0)
  let next := if fbad || g % len + 1 = len then (0, 0) else (s.granEnv n v c (g + 1) (spos + 1)).headD (0, 0)
  let drag := frDrag f
  let full := [prev] ++ cur ++ [next]
  let dragged := (List.range 4).map fun j =>
    dragSample drag (full.getD j (0, 0)) (full.getD (j + 1) (0, 0)) (full.getD (j + 2) (0, 0))
  let plain := direct || drag == 0
  { mux := s.cyc + 25, entry := c.entry, run := c.run, part := c.part, bnd := s.cyc == c.start && c.pos == 0, playFirst := g % len == 0,
    last := segMode x == 4 && s.cyc + 1 == c.stop, frame := f, amp := c.amp, mark := segMark x, tset := segTset x,
    direct := direct, fmt := fmt, env := if plain then cur else dragged.map (·.1),
    dragSat := if plain then [] else dragged.map (·.2), raw := cur, playLast := g % len + 1 == len,
    strm := if strm then fmtSamples fmtD else 0, play := if strm then len * fmtSamples fmtD else 0,
    strmEnd := c.sposAt c.stop, missing := s.granMiss n c spos, exhausted := s.granOver n c spos,
    bad := s.granErr n c spos, taint := fbad || s.granBad n v c g || c.bad }

end State

end Sys2Proof.Machine
end

