-- ==== Sys2Proof/Machine/Output.lean ====
section
/-!
DEFINITION. The output stage, the bias DACs and the Output Guard (spec/06, R168 to R193), with the channel commands that
act on them. Bias DAC times are in units of 0.1 ns, sixteen to a cycle.
-/

namespace Sys2Proof.Machine

/-! ## Producers of the event fabric (R410) -/

def prodTrigin (n : Nat) : Nat := n
def prodTimer (k : Nat) : Nat := 0x10 + k
def prodRevt (n : Nat) : Nat := 0x18 + n
def prodShotStart : Nat := 0x28
def prodShotEnd : Nat := 0x29
def prodGuardTrip : Nat := 0x2A
def prodMemUncorr : Nat := 0x2B
def prodEout (q j : Nat) : Nat := 0x100 + 4 * q + j
def prodDspFault (q : Nat) : Nat := 0x180 + q
def prodOverload (n : Nat) : Nat := 0x1A0 + n
def prodDecided (slot : Nat) : Nat := 0x200 + slot
def prodAcqTrig (n : Nat) : Nat := 0x380 + n
def prodAcqDone (n : Nat) : Nat := 0x398 + n
def prodAcqOvf (n : Nat) : Nat := 0x3B0 + n

namespace State

/-- A producer fires in the present cycle. -/
def signal (s : State) (p : Nat) : State := s.after s.cyc (.fire p)

/-! ## Calibration units, as the commands see them (R465) -/

/-- A calibration unit: kind 0 DAC_GAIN, 1 OUT_SKEW, 2 ADC, 3 BDAC, 4 TRIGIN, 5 HK (R458). -/
def calUnit (s : State) (kind idx : Nat) : CalUnit := SMap.get CalUnit.init s.cal (128 * kind + idx)

def setCalUnit (s : State) (kind idx : Nat) (u : CalUnit) : State :=
  { s with cal := SMap.put CalUnit.init s.cal (128 * kind + idx) u }

/-- The unit is in its slice. -/
def inSlice (s : State) (kind idx : Nat) : Bool := (s.calUnit kind idx).slice.isSome

/-- A slice that cannot complete is abandoned: the unit keeps its trims, stays due, and is not started again for 1 s
(R460). -/
def sliceAbandon (s : State) (kind idx : Nat) : State :=
  let u := s.calUnit kind idx
  if u.slice.isSome then
    let s : State := when (kind == 3 || kind == 5) (fun s => { s with hk := { s.hk with slotAt := s.cyc, now := none } }) s
    (s.setCalUnit kind idx { u with slice := none, retryAt := s.cyc + 625000000 }).bump .calAbandon
  else s

/-- An output channel is out of use for calibration: in a slice, or on its way back to LIVE (R465). -/
def ochCal (s : State) (n : Nat) : Bool :=
  s.inSlice 0 n || s.inSlice 1 n || (s.calUnit 0 n).restore || (s.calUnit 1 n).restore

/-! ## Fast output states (R168 to R172) -/

def outState (s : State) (n : Nat) : Nat := s.fld .ochOutStatusState n

/-- The channel sends its samples: LIVE and not guard-muted. -/
def outLive (s : State) (n : Nat) : Bool := s.outState n == 2 && !s.flag .ochOutStatusGuardMuted n

/-- The DAC codes at the channel's pin in the present cycle: zero code in the cycle before the switch opens and while the
channel is not LIVE, when the switch is open or the DAC sends zero (R169, R171, R172). -/
def pinCodes (s : State) (n : Nat) : List Int :=
  let o := s.chan n
  match o.dac.find? (fun p => p.1 == s.cyc) with
  | some p => if s.outState n == 2 && o.lastZero != s.cyc + 1 then p.2 else p.2.map (fun _ => 0)
  | none => List.replicate 32 0

/-- The channel begins ENABLING: it is LIVE within 10 µs, and not before `hold` cycles have passed (R169, R170). -/
def outEnabling (s : State) (n hold : Nat) : State :=
  (s.setF .ochOutStatusState n 1).updChan n fun o =>
    { o with enabling := s.cyc + 6250, enableFrom := s.cyc + hold, rangeMute := 0 }

/-- The channel is OFF from the present cycle. -/
def outOff (s : State) (n : Nat) (clearEn : Bool) : State :=
  when clearEn (fun s => s.setB .ochOutCfgEn n false) (s.setF .ochOutStatusState n 0)

/-- The channel goes OFF: an ENABLING channel at once, a LIVE or RANGE_MUTE one with a last cycle of zero code, reading
OFF from the fifth cycle (R169, R172). A stop in progress goes on, and clears EN where the later one does. -/
def outStop (s : State) (n : Nat) (clearEn : Bool) : State :=
  match s.outState n with
  | 0 => when clearEn (fun s => s.setB .ochOutCfgEn n false) s
  | 1 => s.outOff n clearEn
  | _ =>
    let c := (s.chan n).lastZero
    if s.cyc < c then
      { s with later := s.later.map fun e => if clearEn && e == (c, Later.outOff n false) then (c, Later.outOff n true) else e }
    else (s.updChan n fun o => { o with lastZero := s.cyc + 5 }).after (s.cyc + 5) (.outOff n clearEn)

/-- The switch of a stopping channel has opened. DESIGN CHOICE: a channel that CH_OUTPUT has enabled again in the meantime
goes through ENABLING from here. -/
def outStopped (s : State) (n : Nat) (clearEn : Bool) : State :=
  let s := s.outOff n clearEn
  if s.flag .ochOutCfgEn n && !(s.inSlice 0 n || s.inSlice 1 n) then s.outEnabling n 0 else s

/-- TRIP and loss of PLL lock (R172): OFF at once. -/
def outTrip (s : State) : State :=
  forEach (List.range s.variant.ochCount) (fun n s => s.outOff n true) s

/-- Dusk's muting step and entry to FAULT (R172). -/
def outMuteAll (s : State) : State :=
  forEach (List.range s.variant.ochCount) (fun n s => s.outStop n true) s

/-- The output path follows a change of settings on an enabled channel (R169 to R171): from what it was. -/
def outChange (s : State) (n : Nat) (modeNew fsNew : Bool) : State :=
  match s.outState n with
  | 0 => s.outEnabling n 0
  | 1 => if modeNew then s.outEnabling n (if s.cyc < (s.chan n).enableFrom then 6250 else 0) else s
  | _ =>
    if modeNew then s.outEnabling n 6250
    else if fsNew then
      (s.setF .ochOutStatusState n 3).updChan n fun o => { o with rangeMute := s.cyc + 1250 }
    else s

/-- An ENABLING channel becomes LIVE within its bound (R169); a RANGE_MUTE one after its 2 µs (R171). -/
def outEnableDone (s : State) (n : Nat) : State :=
  if s.outState n == 1 && decide ((s.chan n).enableFrom ≤ s.cyc) && !(s.inSlice 0 n || s.inSlice 1 n) then
    let s := (s.setF .ochOutStatusState n 2).updChan n fun o => { o with enabling := s.cyc }
    let clear := fun k (s : State) => s.setCalUnit k n { s.calUnit k n with restore := false }
    clear 1 (clear 0 s)
  else s

def rangeMuteDone (s : State) (n : Nat) : State :=
  if s.outState n == 3 && decide ((s.chan n).rangeMute ≤ s.cyc) then
    (s.setF .ochOutStatusState n 2).updChan n fun o => { o with enabling := s.cyc }
  else s

/-! ## Bias DACs (R173 to R181) -/

def bd (s : State) (k : Nat) : Bdac := SMap.get Bdac.init s.bdac k

def setBd (s : State) (k : Nat) (b : Bdac) : State := { s with bdac := SMap.put Bdac.init s.bdac k b }

/-- Present time in units of 0.1 ns. -/
def now10 (s : State) : Nat := 16 * s.cyc

/-- The code applied, signed. -/
def bdCode (s : State) (k : Nat) : Int := sgn 20 (s.fld .bdacStatusCode k)

def bdTripped (s : State) (k : Nat) : Bool := bit (s.rd .guardBtrip (k / 32)) (k % 32)

/-- Interval of the slew limiter in units of 0.1 ns (R177). -/
def bdInterval (s : State) (k : Nat) : Nat := 500 * s.fld .bdacSlewInterval k

/-- A sequencer-mode bias DAC bound to a participating channel is held tripped (R189). -/
def bdTaint (s : State) (k : Nat) : State :=
  when (s.bdTripped k && s.fld .bdacCfgSrc k == 1 && s.ochPart (s.fld .bdacSeqOch k)) State.taintGuard s

/-- A bias trip latches with its causes (R189): bit 0 RANGE, 1 RATE, 2 OVERTEMP. -/
def bdTrip (s : State) (k causes : Nat) : State :=
  let s := s.wr .guardBcause k (s.rd .guardBcause k ||| causes)
  if s.bdTripped k then s
  else
    let s := s.wr .guardBtrip (k / 32) (setBit (s.rd .guardBtrip (k / 32)) (k % 32) true)
    let s := { s with tripAt := SMap.put 0 s.tripAt (96 + k) (s.cyc + 1) }
    (((s.bump .guardTripCnt).irq 3).signal prodGuardTrip).bdTaint k

/-- The Guard's causes for a code about to be applied at time t (R188): bit 0 RANGE, 1 RATE; 0 when it may be applied. -/
def bdBreach (s : State) (k : Nat) (code : Int) (t : Nat) : Nat :=
  let dt := min 10000000 (t - (s.bd k).lastAt)
  let range := decide (code < sgn 20 (s.rd .guardBmin k)) || decide (sgn 20 (s.rd .guardBmax k) < code)
  let rate := decide (s.rd .guardBrate k * dt < (code - s.bdCode k).natAbs * 10000)
  ofBool range + 2 * ofBool rate

/-- A code is at the output from time t. -/
def bdApply (s : State) (k : Nat) (code : Int) (t : Nat) : State :=
  (s.setF .bdacStatusCode k (unsgn 20 code)).setBd k { s.bd k with lastAt := t }

/-- A sequencer update reaches the Guard and then the deglitcher (R179, R180, R188). A bias DAC that has parked since, or
is on its way there, does not take it (R174). -/
def bdSeqApply (s : State) (k : Nat) (code : Int) (t : Nat) : State :=
  if s.bdTripped k then s.bump .bdacIgnored k
  else if s.flag .bdacStatusParked k || (s.bd k).parkAfter then s
  else
    let causes := s.bdBreach k code t
    if causes ≠ 0 then s.bdTrip k causes
    else
      let s := s.setBd k { s.bd k with lastSeq := some (max t ((s.bd k).lastSeq.getD 0)) }
      if slice (unsgn 20 code) 12 8 != slice (unsgn 20 (s.bdCode k)) 12 8 then
        (s.setBd k { s.bd k with degl := some (code, t + 1500) }).setB .bdacStatusDeglitch k true
      else s.bdApply k code t

/-- A sequencer update whose output time is t (R179). The update before it is the last that is held, or the last under way
or applied; t within its hold replaces its code, t less than 500 ns after it is held until then. -/
def bdUpdate (s : State) (k : Nat) (code : Int) (t : Nat) : State :=
  let x := s.bd k
  let last := match x.held.getLast?, x.lastSeq with
    | some h, some l => some (max h.1 l)
    | some h, none => some h.1
    | none, l => l
  match x.held.getLast?, last with
  | some h, some l =>
    if t < h.1 then (s.bump .bdacSeqMerged k).setBd k { x with held := x.held.dropLast ++ [(h.1, code)] }
    else if t < l + 5000 then s.setBd k { x with held := x.held ++ [(l + 5000, code)] }
    else (s.setBd k { x with lastSeq := some t }).after (t / 16) (.bdacCode k code)
  | none, some l =>
    if t < l + 5000 then s.setBd k { x with held := [(l + 5000, code)] }
    else (s.setBd k { x with lastSeq := some t }).after (t / 16) (.bdacCode k code)
  | _, none => (s.setBd k { x with lastSeq := some t }).after (t / 16) (.bdacCode k code)

/-- A rising edge of a marker bit at the multiplexer in the present cycle (R178, R179): every bias DAC bound to it takes the
code at its pointer, to begin at the output 31 cycles later; the pointer advances on every edge, also where the update is
ignored (R189). -/
def bdEdge (s : State) (n b : Nat) : State :=
  let bound := (List.range 48).filter fun k =>
    s.fld .bdacCfgSrc k == 1 && s.flag .bdacCfgActive k && s.fld .bdacSeqOch k == n && s.fld .bdacSeqBit k == b
  forEach bound (fun k s =>
    let x := s.bd k
    let code := sgn 20 (SMap.get 0 x.list x.ptr).toNat
    let start := s.fld .bdacSeqStart k
    let len := s.fld .bdacSeqLenM1 k + 1
    let next := (start + ((x.ptr + 256 - start) % 256 + 1) % len) % 256
    let s := s.setBd k { x with ptr := next }
    if s.bdTripped k then s.bump .bdacIgnored k
    else if s.flag .bdacStatusParked k || s.flag .bdacStatusRangeChange k then s
    else s.bdUpdate k code (s.now10 + 16 * 31)) s

/-- A held update is applied 500 ns after the previous one (R179). -/
def bdHoldRelease (s : State) (k : Nat) : State :=
  let x := s.bd k
  match x.held with
  | (t, code) :: rest =>
    if t ≤ s.now10 + 15 then (s.setBd k { x with held := rest }).bdSeqApply k code t else s
  | [] => s

/-- The bias DAC parks: 0 V through 1 kΩ (R174). -/
def bdPark (s : State) (k : Nat) : State :=
  let s := (s.setF .bdacStatusCode k 0).setB .bdacStatusParked k true
  let s := (s.setB .bdacStatusRamping k false).setB .bdacStatusDeglitch k false
  s.setBd k { s.bd k with
    nextStep := none, held := [], degl := none, parkAfter := false, goal := 0, fastStep := 0, parkedAt := s.cyc }

/-- The deglitcher's hold ends (R180); after the step of a TRIP the bias DAC parks (R174). -/
def bdDeglitchEnd (s : State) (k : Nat) : State :=
  match (s.bd k).degl with
  | some (code, t) =>
    if t ≤ s.now10 + 15 then
      let s := ((s.setBd k { s.bd k with degl := none }).setB .bdacStatusDeglitch k false).bdApply k code t
      if (s.bd k).parkAfter && code == 0 then s.bdPark k else s
    else s
  | none => s

/-- A range change in progress is given up. -/
def bdNoChange (s : State) (k : Nat) : State :=
  (s.setBd k { s.bd k with phase := 0 }).setB .bdacStatusRangeChange k false

/-- The slew limiter heads for a code, its first step at time t (R177). -/
def bdRamp (s : State) (k : Nat) (goal : Int) (t : Nat) : State :=
  let b := s.bd k
  let moving := goal != s.bdCode k
  (s.setBd k { b with goal := goal, nextStep := if moving then some (b.nextStep.getD t) else none }).setB
    .bdacStatusRamping k moving

/-- Ramp to code 0 through the slew limiter and then park (R174). -/
def bdRampPark (s : State) (k : Nat) : State :=
  if s.flag .bdacStatusParked k then s
  else if s.bdCode k = 0 then s.bdPark k
  else (s.setBd k { s.bd k with parkAfter := true, held := [] }).bdRamp k 0 (s.now10 + s.bdInterval k)

/-- Unparked at code 0 (R174). -/
def bdUnpark (s : State) (k : Nat) : State := s.setB .bdacStatusParked k false

/-- The ramp has ended at its code: what follows (R174, R175). -/
def bdLanded (s : State) (k : Nat) : State :=
  let s := (s.setB .bdacStatusRamping k false).setBd k { s.bd k with nextStep := none }
  let b := s.bd k
  if b.phase = 1 then (s.bdPark k).setBd k { (s.bdPark k).bd k with phase := 2, parkEnd := s.now10 + 500000 }
  else if b.phase = 3 then (s.setBd k { b with phase := 0 }).setB .bdacStatusRangeChange k false
  else if b.parkAfter then s.bdPark k
  else s

/-- One step of the slew limiter (R177, R188): a ramp to park is not checked, any other step is. -/
def bdStep (s : State) (k : Nat) : State :=
  let b := s.bd k
  match b.nextStep with
  | some t =>
    if t ≤ s.now10 + 15 then
      let step : Int := if b.fastStep = 0 then s.fld .bdacSlewStep k else b.fastStep
      let code := s.bdCode k
      let next := if code < b.goal then min b.goal (code + step) else max b.goal (code - step)
      let s := s.setBd k { b with nextStep := some (t + s.bdInterval k) }
      let free := b.parkAfter || b.phase == 1
      if s.bdTripped k && !free then s
      else
        let causes := if free then 0 else s.bdBreach k next t
        if causes ≠ 0 then s.bdTrip k causes
        else
          let s := s.bdApply k next t
          if next = b.goal then s.bdLanded k else s
    else s
  | none => s

/-- The 50 µs park of a range change ends: unpark at 0 and ramp to the given code after the park switch has moved (R175). -/
def bdParkEnd (s : State) (k : Nat) : State :=
  let b := s.bd k
  if b.phase = 2 && decide (b.parkEnd ≤ s.now10 + 15) then
    if s.flag .bdacCfgActive k then
      let s := ((s.setBd k { b with phase := 3 }).sliceAbandon 3 k).bdUnpark k
      let s := s.bdRamp k b.rampCode (s.now10 + 200000 + s.bdInterval k)
      if b.rampCode = 0 then s.bdLanded k else s
    else s.bdNoChange k
  else s

/-- TRIP (R174, R180): step to code 0 through the deglitcher, then park. -/
def bdTripPark (s : State) : State :=
  forEach (List.range 48) (fun k s =>
    let s := s.bdNoChange k
    if s.flag .bdacStatusParked k then s
    else if slice (unsgn 20 (s.bdCode k)) 12 8 = 0 then s.bdPark k
    else
      let s := (s.setB .bdacStatusRamping k false).setB .bdacStatusDeglitch k true
      s.setBd k { s.bd k with nextStep := none, held := [], goal := 0, degl := some (0, s.now10 + 1500), parkAfter := true }) s

/-- Dusk (R174, R493): every unparked bias DAC ramps to code 0 and parks; a ramp that would take longer than
DUSK_RAMP_MAX takes larger steps, so that it completes in that time. -/
def bdDusk (s : State) : State :=
  forEach (List.range 48) (fun k s =>
    let s := s.bdNoChange k
    let n := max 1 (10000000 * s.fld .thermDuskRampMaxMs / max 1 (s.bdInterval k))
    let d := (s.bdCode k).natAbs
    let s := when (decide (n * s.fld .bdacSlewStep k < d) && !s.flag .bdacStatusParked k)
      (fun s => s.setBd k { s.bd k with fastStep := (d + n - 1) / n }) s
    s.bdRampPark k) s

/-- A Guard trip that is still latched when a shot starts taints it: of a participating channel (R186), or of a
sequencer-mode bias DAC bound to one (R189). -/
def guardShotStart (s : State) : State :=
  let s := when (s.shotChans.any fun n => bit (s.rd .guardTrip (n / 32)) (n % 32)) State.taintGuard s
  forEach (List.range 48) (fun k s => s.bdTaint k) s

/-- At a shot's start tick the list pointer of every sequencer-mode bias DAC is set to START (R178). -/
def bdShotStart (s : State) : State :=
  forEach ((List.range 48).filter (fun k => s.fld .bdacCfgSrc k == 1))
    (fun k s => s.setBd k { s.bd k with ptr := s.fld .bdacSeqStart k }) s

/-- Over-temperature of a bias stage sets or clears (R183). -/
def bdOvertemp (s : State) (k : Nat) (set : Bool) : State :=
  let was := s.flag .bdacStatusOt k
  let s := s.setB .bdacStatusOt k set
  if set && !was then (((s.bdNoChange k).bdPark k).setB .bdacStatusOtSeen k true).bdTrip k 4 else s

/-- A host write to TARGET (R174, R176, R177): true when it is accepted. -/
def bdTargetOk (s : State) (k : Nat) : Bool :=
  decide (2 ≤ s.dev) && decide (s.dev ≤ 4) && s.fld .bdacCfgSrc k == 0 && !s.flag .bdacStatusRangeChange k
    && !s.bdTripped k

def bdTarget (s : State) (k code : Nat) : State :=
  if s.bdTargetOk k then
    let s := s.wr .bdacTarget k (code % 2 ^ 20)
    let s := s.sliceAbandon 3 k
    let parked := s.flag .bdacStatusParked k
    let s := (s.bdUnpark k).setBd k { s.bd k with parkAfter := false }
    s.bdRamp k (sgn 20 code) (s.now10 + (if parked then 200000 else 0) + s.bdInterval k)
  else s.bump .bdacIgnored k

/-! ## The Guard's checks (R184 to R187) -/

def guardTripped (s : State) (n : Nat) : Bool := bit (s.rd .guardTrip (n / 32)) (n % 32)

/-- Σ S² over the last 625 granules up to cycle c. -/
def rmsSum (s : State) (n c : Nat) : Nat :=
  (s.chan n).rms.foldl (fun a p => if c < p.1 + 625 then a + p.2 else a) 0

/-- Active granules among the last 625,000 up to cycle c. -/
def dutyCount (s : State) (n c : Nat) : Nat :=
  (s.chan n).duty.foldl (fun a p => a + (p.2 + 1 - max p.1 (c + 1 - 625000))) 0

def rmsBreach (s : State) (n : Nat) : Bool :=
  let l := s.fld .guardRmsRmsLim n
  decide (l ≤ 32768) && decide (20000 * (4 * l) ^ 2 < s.rmsSum n s.cyc)

def dutyBreach (s : State) (n : Nat) : Bool :=
  decide (625000 * s.fld .guardDutyDutyLim n < 1024 * s.dutyCount n s.cyc)

/-- A trip latches with its causes (R185, R186). -/
def guardTrip (s : State) (n causes : Nat) : State :=
  let s := s.wr .guardCause n (s.rd .guardCause n ||| causes)
  if s.guardTripped n then s
  else
    let s := s.wr .guardTrip (n / 32) (setBit (s.rd .guardTrip (n / 32)) (n % 32) true)
    let s := { s with tripAt := SMap.put 0 s.tripAt n (s.cyc + 1) }
    let s := ((s.setB .ochOutStatusGuardMuted n true).bump .guardTripCnt).irq 3
    when (s.ochPart n) State.taintGuard (s.signal prodGuardTrip)

/-- The granule's sum enters the windows and is checked, once per granule at its multiplexer point (R184). The windows take
zero while the channel is muted or not LIVE. -/
def guardCheck (s : State) (n : Nat) (sums : List Int) : State :=
  if s.outLive n then
    let peak := s.rd .guardPeak n
    let thr := s.fld .guardDutyDutyThr n
    let sq := sums.foldl (fun a x => a + x.natAbs ^ 2) 0
    let active := sums.any (fun x => decide (4 * thr < x.natAbs))
    let c := s.cyc
    let s := s.updChan n fun o => { o with
      rms := (if sq = 0 then [] else [(c, sq)]) ++ o.rms.filter (fun p => decide (c < p.1 + 625))
      zeroFrom := if sq = 0 then o.zeroFrom else c + 7
      duty :=
        if active then
          match o.duty with
          | (a, b) :: t => if b + 1 = c then (a, c) :: t else (c, c) :: (a, b) :: t
          | [] => [(c, c)]
        else o.duty.filter (fun p => decide (c < p.2 + 625000)) }
    let causes := ofBool (sums.any (fun x => decide (4 * peak < x.natAbs))) + 2 * ofBool (s.rmsBreach n)
      + 4 * ofBool (s.dutyBreach n)
    if causes = 0 then s else s.guardTrip n causes
  else if s.guardTripped n then s
  else
    let causes := 2 * ofBool (s.rmsBreach n) + 4 * ofBool (s.dutyBreach n)
    if causes = 0 then s else s.guardTrip n causes

/-- A release request for a channel's trip (R187). -/
def guardRelease (s : State) (n : Nat) : State :=
  if s.guardTripped n && SMap.get 0 s.tripAt n != s.cyc + 1 then
    if s.rmsBreach n || s.dutyBreach n then s.bump .guardClearRefused
    else
      let s := s.wr .guardTrip (n / 32) (setBit (s.rd .guardTrip (n / 32)) (n % 32) false)
      let s := s.wr .guardForce (n / 32) (setBit (s.rd .guardForce (n / 32)) (n % 32) false)
      (s.wr .guardCause n 0).setB .ochOutStatusGuardMuted n false
  else s

/-- A release request for a bias trip (R189). -/
def guardBrelease (s : State) (k : Nat) : State :=
  if s.bdTripped k && SMap.get 0 s.tripAt (96 + k) != s.cyc + 1 then
    if bit (s.rd .guardBcause k) 2 && s.flag .bdacStatusOt k then s.bump .guardClearRefused
    else
      (s.wr .guardBtrip (k / 32) (setBit (s.rd .guardBtrip (k / 32)) (k % 32) false)).wr .guardBcause k 0
  else s

end State

/-! ## Rows: output states and bias DACs -/

/-- OUTPUT_ENABLE_DONE (R169). -/
def execOutputEnableDone (och : Fin 96) (s : State) : Host.Outcome State Fault Refusal :=
  run (fun s => s.outEnableDone och) s

/-- RANGE_MUTE_DONE (R171). -/
def execRangeMuteDone (och : Fin 96) (s : State) : Host.Outcome State Fault Refusal :=
  run (fun s => s.rangeMuteDone och) s

/-- TILE_OVERTEMP (R182): the comparator of a tile sets or clears. -/
def execTileOvertemp (tile : Fin 24) (hot : Bool) (s : State) : Host.Outcome State Fault Refusal :=
  run (fun s => forEach ((List.range 4).map (4 * tile.val + ·)) (fun n s =>
    if s.hasOch n then
      when hot (fun s => s.setB .ochOutStatusTileOtSeen n true) (s.setB .ochOutStatusTileOt n hot)
    else s) s) s

/-! ## Commands -/

/-- CH_OUTPUT (R169 to R171). -/
def chOutputSpec : CmdSpec where
  opcode := 0x201
  kinds := [1]
  states := 0b1100
  layout := [(16, 7), (17, 255)]
  range := fun _ c => rejIf (pBits c 16 1 2 == 3) (rejRange 16)
  busy := fun s c => rejIf (s.ochCal (indexOf c)) rejBusy
  app := justDo fun s c =>
    let n := indexOf c
    let en := bit (pByte c 16) 0
    let mode := pBits c 16 1 2
    let fs := pByte c 17
    let modeNew := s.fld .ochOutCfgMode n != mode
    let fsNew := s.fld .ochOutCfgFsCode n != fs
    let s := s.wr .ochOutCfg n (mode + 4 * ofBool en + 256 * fs)
    if en then s.outChange n modeNew fsNew else s.outStop n false

def execChOutput (c : HostCmd) (s : State) : Host.Outcome State Fault Refusal := command chOutputSpec c s

/-- CH_FDELAY (R98): USER from −128 to +128 sixteenths of a tick. -/
def chFdelaySpec : CmdSpec where
  opcode := 0x202
  kinds := [1]
  states := 0b1100
  layout := [(16, 255), (17, 255)]
  range := fun _ c => rejIf (decide (sgn 16 (pNum c 16 2) < -128) || decide (128 < sgn 16 (pNum c 16 2))) (rejRange 16)
  busy := fun s c => rejIf (s.ochCal (indexOf c)) rejBusy
  app := justDo fun s c => s.setF .ochFdelayUser (indexOf c) (pNum c 16 2)

def execChFdelay (c : HostCmd) (s : State) : Host.Outcome State Fault Refusal := command chFdelaySpec c s

/-- The channel's open stream requires another setting of DIRECT and DIRECT_FMT (R153). -/
def formatConflict (s : State) (n : Nat) (direct : Bool) (fmt : Nat) : Option Reject :=
  let x := s.openDesc n
  let f := State.descFormat x
  rejIf (s.strmOpen n && (if f = 0 then direct && State.descVoice x == 0 else !(direct && fmt + 1 == f)))
    (rejConflict 11 (s.fld .ochStrmStatusDesc n) 0)

/-- SYN_CONFIG (R100). -/
def synConfigSpec : CmdSpec where
  opcode := 0x203
  kinds := [1]
  states := 0b1100
  layout := [(16, 3)]
  conflict := fun s c => formatConflict s (indexOf c) (bit (pByte c 16) 0) (pBits c 16 1 1)
  busy := fun s c => rejIf (s.ochCal (indexOf c)) rejBusy
  app := justDo fun s c => s.wr .ochSynCfg (indexOf c) (pBits c 16 0 2)

def execSynConfig (c : HostCmd) (s : State) : Host.Outcome State Fault Refusal := command synConfigSpec c s

/-- CH_ROLE (R100, R269): role and role epoch; FLUX also sets BASEBAND and direct mode. -/
def chRoleSpec : CmdSpec where
  opcode := 0x200
  kinds := [1, 2]
  states := 0b1100
  layout := [(16, 7)]
  range := fun _ c => rejIf (decide ((if kindOf c = 1 then 3 else 1) < pBits c 16 0 3)) (rejRange 16)
  conflict := fun s c =>
    if kindOf c = 1 && pBits c 16 0 3 == 3 then formatConflict s (indexOf c) true (s.fld .ochSynCfgDirectFmt (indexOf c))
    else none
  busy := fun s c => rejIf (kindOf c == 1 && pBits c 16 0 3 == 3 && s.ochCal (indexOf c)) rejBusy
  app := justDo fun s c =>
    let n := indexOf c
    let role := pBits c 16 0 3
    if kindOf c = 1 then
      let s := (s.setF .ochRoleEpochEpoch n (s.fld .ochRoleEpochEpoch n + 1)).setF .ochRoleEpochRole n role
      if role = 3 then
        let modeNew := s.fld .ochOutCfgMode n != 2
        let s := (s.setF .ochOutCfgMode n 2).setB .ochSynCfgDirect n true
        if s.outState n = 0 then s else s.outChange n modeNew false
      else s
    else (s.setF .rchRoleEpochEpoch n (s.fld .rchRoleEpochEpoch n + 1)).setF .rchRoleEpochRole n role

def execChRole (c : HostCmd) (s : State) : Host.Outcome State Fault Refusal := command chRoleSpec c s

/-- A range change begins (R175): ramp to 0, or the park at once where the output is at 0 or parked already. -/
def State.bdRangeChange (s : State) (k : Nat) (code : Int) : State :=
  let s := (s.wr .bdacTarget k (unsgn 20 code)).setB .bdacStatusRangeChange k true
  let s := s.setBd k { s.bd k with phase := 1, rampCode := code, held := [], parkAfter := false }
  if s.flag .bdacStatusParked k then s.setBd k { s.bd k with phase := 2, parkEnd := s.now10 + 500000 }
  else
    let s := s.bdRamp k 0 (s.now10 + s.bdInterval k)
    if s.bdCode k = 0 then s.bdLanded k else s

/-- BDAC_CONFIG (R174, R175, R178). A range change runs in full on a parked bias DAC too; ACTIVE = 0 ends one in progress.
DESIGN CHOICE: with ACTIVE = 0 a new RANGE is taken without a range change, since the output stays parked. -/
def bdacConfigSpec : CmdSpec where
  opcode := 0x20B
  kinds := [4]
  states := 0b1100
  layout := [(16, 7), (20, 255), (21, 255), (22, 15), (24, 127), (25, 3), (26, 255), (27, 255)]
  absent := fun s c => rejIf (!s.unitPresent 1 (pBits c 24 0 7)) (rejAbsent 1 (pBits c 24 0 7))
  busy := fun s c => rejIf (s.inSlice 3 (indexOf c)) rejBusy
  app := justDo fun s c =>
    let k := indexOf c
    let code := sgn 20 (pNum c 20 3)
    let change := s.fld .bdacCfgRange k != pBits c 16 0 1
    let active := bit (pByte c 16) 2
    let seq := bit (pByte c 16) 1
    let parked := s.flag .bdacStatusParked k
    let s := s.wr .bdacCfg k (pBits c 16 0 3)
    let s := s.wr .bdacSeq k (pBits c 24 0 7 + 256 * pBits c 25 0 2 + 65536 * pByte c 26 + 16777216 * pByte c 27)
    if change then s.bdRangeChange k code
    else if !active then
      (if s.flag .bdacStatusRangeChange k && (s.bd k).phase != 3 then s else (s.bdNoChange k).bdRampPark k)
    else if parked && seq && !s.flag .bdacStatusRangeChange k then s.bdUnpark k
    else s

def execBdacConfig (c : HostCmd) (s : State) : Host.Outcome State Fault Refusal := command bdacConfigSpec c s

/-- BDAC_SLEW (R177). -/
def bdacSlewSpec : CmdSpec where
  opcode := 0x20C
  kinds := [4]
  states := 0b1100
  layout := whole 16 4
  range := fun s c =>
    let step := pNum c 16 2
    let iv := pNum c 18 2
    firstRej [
      rejIf (step == 0) (rejRange 16),
      rejIf (iv == 0 || decide (20000 < iv)) (rejRange 18),
      rejIf (decide (s.rd .guardBrate (indexOf c) * (iv * 50) < step * 1000)) (rejRange 16)]
  busy := fun s c => rejIf (s.inSlice 3 (indexOf c)) rejBusy
  app := justDo fun s c => s.wr .bdacSlew (indexOf c) (pNum c 16 4)

def execBdacSlew (c : HostCmd) (s : State) : Host.Outcome State Fault Refusal := command bdacSlewSpec c s

/-- BDAC_LIST_WRITE (R178): codes from a host buffer. -/
def bdacListWriteSpec : CmdSpec where
  opcode := 0x20D
  kinds := [4]
  states := 0b1100
  layout := List.flatten [[(16, 255), (18, 255), (19, 255)], whole 24 8]
  reads := fun _ _ => true
  range := fun _ c =>
    let n := pNum c 18 2
    firstRej [rejIf (n == 0 || decide (256 < n) || decide (256 < pByte c 16 + n)) (rejRange 18), bufAligned c 24]
  busy := fun s c => firstRej [rejIf (s.inSlice 3 (indexOf c)) rejBusy, s.bankBusy 163]
  app := justDo fun s c =>
    let k := indexOf c
    let s := forEach (List.range (pNum c 18 2)) (fun i s =>
      s.setBd k { s.bd k with
        list := SMap.put 0 (s.bd k).list (pByte c 16 + i) (BitVec.ofNat 20 (bufNat (bufOf c) (4 * i) 4)) }) s
    s.cleanBank 13 k (pByte c 16) (pByte c 16 + pNum c 18 2)

def execBdacListWrite (c : HostCmd) (s : State) : Host.Outcome State Fault Refusal := command bdacListWriteSpec c s

end Sys2Proof.Machine
end

