-- ==== Sys2Proof/Machine/Markers.lean ====
section
/-!
DEFINITION. Marker pins (spec/05, R142 to R149): their edges in time, ownership, and the pulses of kind 2 and 3 pins. A time
at a pin is counted in steps of 6.25 ps, 256 to a cycle.
-/

namespace Sys2Proof.Machine

namespace State

def pin (s : State) (m : Nat) : Pin := SMap.get Pin.init s.mrk m

def setPin (s : State) (m : Nat) (p : Pin) : State := { s with mrk := SMap.put Pin.init s.mrk m p }

/-- The level, as active or not, that a pin drives at the start of the present cycle. -/
def pinActive (s : State) (m : Nat) : Bool :=
  match (s.pin m).edges.find? (fun e => decide (e.1 ≤ 256 * s.cyc)) with
  | some (_, b) => b
  | none => (s.pin m).base

/-- What the block drives on a pin: nothing before Dawn has enabled the timing I/O, then its level with INVERT (R145). -/
def pinDrive (s : State) (m : Nat) : Option Bool :=
  if s.power.io then some (s.pinActive m != s.flag .mrkCfgInvert m) else none

/-- `TIME.MRK_LEVEL` bit of a pin (R164): a pin that is not driven is low by its pull-down. -/
def pinLevel (s : State) (m : Nat) : Bool := (s.pinDrive m).getD false

/-- An edge at time t: with the pin's edge before it less than 400 ps away, both are removed (R143). Edges that have
passed become the base level. -/
def pinEdge (s : State) (m t : Nat) (active : Bool) : State :=
  let p := s.pin m
  let p := { p with base := s.pinActive m, edges := p.edges.filter (fun e => decide (256 * s.cyc < e.1)) }
  match p.edges with
  | (u, _) :: l =>
    if t < u + 64 then (s.bump .mrkSwallow m).setPin m { p with edges := l }
    else s.setPin m { p with edges := (t, active) :: p.edges }
  | [] => s.setPin m { p with edges := [(t, active)] }

/-- The pins that show marker bit b of channel n. -/
def pinsOf (s : State) (n b : Nat) : List Nat :=
  (List.range 48).filter fun m =>
    s.fld .mrkCfgKind m == 1 && s.fld .mrkCfgIndex m == n && s.fld .mrkCfgBit m == b

/-- A timing set's RISE or FALL offset of marker bit b (R138). -/
def tsetOffset (s : State) (n set b : Nat) (rise : Bool) : Nat :=
  slice (SMap.get 0 (s.chan n).tsets (3 * set + 1 + b / 2)).toNat (16 * (b % 2) + (if rise then 0 else 8)) 8

/-- The marker bits of the granule at the multiplexer, whose pin time begins six cycles later (R109, R142): edges at the
pins, and rising edges for the bias DACs (R178), for which idle granules of a wait leave a bit as it was (R259). -/
def passMarks (s : State) (n set now : Nat) (idle : Bool) : State :=
  let was := (s.chan n).marks
  let bias := (s.chan n).biasMarks
  let s := s.updChan n fun o => { o with marks := now, biasMarks := if idle then bias else now }
  forEach (List.range 4) (fun b s =>
    if bit now b == bit was b then s
    else
      let t := 256 * (s.cyc + 6) + s.tsetOffset n set b (bit now b)
      let s := forEach (s.pinsOf n b) (fun m s => s.pinEdge m t (bit now b)) s
      when (bit now b && !bit bias b) (fun s => s.bdEdge n b) s) s

/-- A pulse of `width` cycles at a pin from time t (R147): one that meets an active pulse extends it and counts in
RETRIG. -/
def pinPulse (s : State) (m t width : Nat) : State :=
  let stop := t + 256 * width
  match (s.pin m).pulseEnd with
  | some u =>
    if t < u then (s.bump .mrkRetrig m).setPin m { s.pin m with pulseEnd := some stop }
    else
      let s := (s.pinEdge m u false).pinEdge m t true
      s.setPin m { s.pin m with pulseEnd := some stop }
  | none =>
    let s := s.pinEdge m t true
    s.setPin m { s.pin m with pulseEnd := some stop }

/-- An event delivered to a pin of kind 2 (R147). -/
def pinEvent (s : State) (m : Nat) : State :=
  s.pinPulse m (256 * (s.cyc + 8) + s.fld .mrkCfgRise m) (s.fld .mrkCfgWidth m + 1)

/-- The pulse ends in the present cycle (R147). -/
def pinPulseEnd (s : State) (m : Nat) : State :=
  match (s.pin m).pulseEnd with
  | some u =>
    if u / 256 ≤ s.cyc then
      let s := s.pinEdge m u false
      s.setPin m { s.pin m with pulseEnd := none }
    else s
  | none => s

/-! ## Consumers of event channels (R412, R418) -/

/-- Committed consumer of an event channel. -/
def routeOf (s : State) (ch : Nat) : Nat := SMap.get 0x3FF s.evf.route ch

/-- Staged consumer of an event channel: the committed one where nothing is staged. -/
def stagedOf (s : State) (ch : Nat) : Nat :=
  match SMap.get none s.evf.staged ch with
  | some g => g.cons
  | none => s.routeOf ch

/-- The input that holds a channel, committed or staged; none when it has no consumer (R418). -/
def heldBy (s : State) (ch : Nat) : Option Nat :=
  if s.routeOf ch ≠ 0x3FF then some (s.routeOf ch) else if s.stagedOf ch ≠ 0x3FF then some (s.stagedOf ch) else none

/-- ARM and MRK_CLAIM write a binding, or its release, into the committed and the staged consumer alike (R418). -/
def bindChannel (s : State) (ch input : Nat) : State :=
  let staged := match SMap.get none s.evf.staged ch with
    | some g => SMap.put none s.evf.staged ch (some { g with cons := input })
    | none => s.evf.staged
  { s with evf := { s.evf with
    route := SMap.put 0x3FF s.evf.route ch input, staged := staged, parity := s.evf.parity.filter (· != ch) } }

/-- The channel that MRK_CLAIM or ARM has bound to an input. -/
def channelOf (s : State) (input : Nat) : Option Nat := (List.range 256).find? (fun ch => s.routeOf ch == input)

/-- The owner of a pin as a refusal reports it (R394). -/
def pinOwner (s : State) (m : Nat) : Option Reject :=
  let i := s.fld .mrkCfgIndex m
  match s.fld .mrkCfgKind m with
  | 0 => none
  | 1 => rejConflict 1 i 0
  | 2 => rejConflict 8 i (0x320 + m)
  | _ => rejConflict 6 i 0

/-- A pin without an owner: inactive at once (R145, R149). -/
def pinFree (s : State) (m : Nat) : State :=
  let s := if s.fld .mrkCfgKind m = 2 then s.bindChannel (s.fld .mrkCfgIndex m) 0x3FF else s
  (s.setF .mrkCfgKind m 0).setPin m Pin.init

end State

/-- MRK_CLAIM (R146). -/
def mrkClaimSpec : CmdSpec where
  opcode := 0x209
  kinds := [9]
  states := 0b1100
  layout := [(16, 3), (17, 1), (18, 255), (19, 255), (20, 3), (21, 255), (22, 255)]
  absent := fun s c => match pBits c 16 0 2 with
    | 1 => rejIf (!s.unitPresent 1 (pNum c 18 2)) (rejAbsent 1 (pNum c 18 2))
    | 2 => s.needUnit 8 (pNum c 18 2)
    | 3 => rejIf (!s.unitPresent 6 (pNum c 18 2)) (rejAbsent 6 (pNum c 18 2))
    | _ => none
  range := fun s c => firstRej [
    rejIf (decide (48 ≤ indexOf c)) (rejRange 8),
    rejIf (pBits c 16 0 2 == 0) (rejRange 16),
    rejIf (pBits c 16 0 2 == 1 && decide (4 ≤ (s.pinsOf (pNum c 18 2) (pBits c 20 0 2)).length)) (rejRange 18)]
  conflict := fun s c => firstRej [
    s.pinOwner (indexOf c),
    if pBits c 16 0 2 = 2 then (s.heldBy (pNum c 18 2)).bind (fun i => rejConflict 8 (pNum c 18 2) i) else none]
  app := justDo fun s c =>
    let m := indexOf c
    let k := pBits c 16 0 2
    let i := pNum c 18 2
    let s := s.wr .mrkCfg m (k + 4 * pBits c 17 0 1 + 16 * slice i 0 8 + 4096 * pBits c 20 0 2
      + 65536 * pByte c 21 + 16777216 * pByte c 22)
    let s := s.setPin m Pin.init
    if k = 2 then s.bindChannel i (0x320 + m) else s

def execMrkClaim (c : HostCmd) (s : State) : Host.Outcome State Fault Refusal := command mrkClaimSpec c s

/-- MRK_RELEASE (R146). -/
def mrkReleaseSpec : CmdSpec where
  opcode := 0x20A
  kinds := [9]
  states := 0b1100
  range := fun _ c => rejIf (decide (48 ≤ indexOf c)) (rejRange 8)
  app := justDo fun s c => if s.fld .mrkCfgKind (indexOf c) = 0 then s else s.pinFree (indexOf c)

def execMrkRelease (c : HostCmd) (s : State) : Host.Outcome State Fault Refusal := command mrkReleaseSpec c s

/-- MRK_PULSE_END (R147). -/
def execMrkPulseEnd (mrk : Fin 48) (s : State) : Host.Outcome State Fault Refusal :=
  run (fun s => s.pinPulseEnd mrk) s

end Sys2Proof.Machine
end

