-- ==== Sys2Proof/Machine/Granule.lean ====
section
/-!
DEFINITION. What one granule boundary does in an output channel (spec/03 R84 to R97, spec/04 R109 and R121, spec/05 R140
and R156 to R161, spec/06 R184): frame operations apply, each voice renders a granule, and the granules whose
multiplexer point this cycle is pass the multiplexer, the Output Guard and the stream counters.
-/

namespace Sys2Proof.Machine

/-- Granule g is rendered after h in one play: the last sample of a streamed h has g's first one as its successor, whose
data may have come in the meantime (R91, R158). -/
def Gran.followed (h g : Gran) : Gran :=
  if h.strm ≠ 0 && h.mux + 1 == g.mux && h.part == g.part && !h.playLast && !h.dragSat.isEmpty then
    let d := dragSample (frDrag h.frame) (h.raw.getD 2 (0, 0)) (h.raw.getD 3 (0, 0)) (g.raw.getD 0 (0, 0))
    { h with env := h.env.take 3 ++ [d.1], dragSat := h.dragSat.take 3 ++ [d.2] }
  else h

namespace State

/-! ## Rendering -/

/-- A granule joins those of its rendering. -/
def joinGran (l : List Gran) (g : Gran) : List Gran := l.map (fun h => h.followed g) ++ [g]

/-- The DRAG stage saturates in granule g or in the one before it: the last sample of a streamed granule is final only with
its successor. -/
def dragSats (l : List Gran) (g : Gran) : Bool :=
  (if g.strm = 0 || g.playLast then g.dragSat else g.dragSat.take 3).any id
    || l.any (fun h => h.mux + 1 == g.mux && (h.followed g).dragSat.getD 3 false)

/-- Voice v renders its granule of the present cycle, and its lane the lane's (R84, R156); a read that wraps sets `BAD_ENTRY`
(R108), and a saturation of the DRAG stage its bit, whichever rendering is selected later (R89). -/
def renderVoice (s : State) (n v : Nat) : State :=
  if (s.frozenAt n).isSome then s
  else
    let x := s.voice n v
    let one := fun (c : Chain) => if c.renders s.cyc then some (s.render n v c) else none
    let more := fun (l : List Gran) (g : Option Gran) => match g with | some g => joinGran l g | none => l
    let sats := fun (l : List Gran) (g : Option Gran) => match g with | some g => dragSats l g | none => false
    let g := x.chain.bind one
    let p := x.spec.map fun p => (p, one p.lane)
    let s := when ((voiceChains x).any (fun c => c.renders s.cyc && s.granWraps n v c (c.granAt s.cyc)))
      (fun s => s.setB .ochSeqErrBadEntry n true) s
    let s := when (sats x.granules g || (match p with | some q => sats q.1.granules q.2 | none => false))
      (fun s => s.setB .ochSatStageDrag n true) s
    s.setVoice n v { x with
      granules := more x.granules g
      spec := p.map (fun q => { q.1 with granules := more q.1.granules q.2 }) }

/-! ## The multiplexer -/

/-- The granule of a voice whose multiplexer point cycle c is. -/
def muxGran (x : Voice) (c : Nat) : Option Gran := x.granules.find? (fun g => g.mux == c)

/-- The envelope samples that a granule feeds to the datapath: zero for a segment that underran (R158). -/
def fedEnv (s : State) (n : Nat) (g : Gran) : List (Int × Int) :=
  if g.strm ≠ 0 && (s.chan n).strm.zeroRun == some g.part then g.env.map (fun _ => (0, 0)) else g.env

def fourZeros : List (Int × Int) := List.replicate 4 (0, 0)

/-- The twelve envelope samples that follow a granule in a rendering; from a granule on that loses the segment's data, the
segment plays zero (R158). -/
def aheadEnv (s : State) (n : Nat) (l : List Gran) (g : Gran) : List (Int × Int) :=
  let next := [1, 2, 3].map fun j => l.find? (fun h => h.mux == g.mux + j)
  let lost := next.filterMap fun h => h.bind fun h => if h.missing then some (h.part, h.mux) else none
  next.flatMap fun h => match h with
    | some h =>
      if lost.any (fun p => p.1 == h.part && decide (p.2 ≤ h.mux)) || (g.missing && g.part == h.part) then
        h.env.map (fun _ => (0, 0))
      else s.fedEnv n h
    | none => fourZeros

/-- The last twelve samples of a history; zeros where the voice has played fewer (R92). -/
def lastTwelve (l : List (Int × Int)) : List (Int × Int) := (List.replicate 12 (0, 0) ++ l).drop l.length

/-- The 32 samples of granule g of a rendering l, after a history of envelope samples. -/
def samplesOf (s : State) (n : Nat) (l : List Gran) (past : List (Int × Int)) (g : Gran) : List Sample :=
  let e := s.fedEnv n g
  let w := lastTwelve past ++ e ++ s.aheadEnv n l g
  voiceSamples { g with env := e } (w.map (·.1)) (w.map (·.2)) (s.stIn (g.mux + 6 - s.cyc))

/-- The 32 samples that voice v sends through the multiplexer in the present cycle: none when it has no granule or is
disabled by VOICE_EN (R96, R109, R122). -/
def voiceOut (s : State) (n v : Nat) : List Sample :=
  let x := s.voice n v
  match muxGran x s.cyc with
  | some g => if s.actVoiceEn n v then s.samplesOf n x.granules x.interp g else []
  | none => []

/-- Samples that pass the scaling stage in the present cycle, one cycle before the multiplexer, in each rendering of voice v:
also of a lane, of a rendering that will be discarded, and of a disabled voice (R89). -/
def scaleOuts (s : State) (n v : Nat) : List (List Sample) :=
  let x := s.voice n v
  let past := x.interp ++ (match muxGran x s.cyc with | some g => s.fedEnv n g | none => [])
  let one := fun (l : List Gran) => match l.find? (fun g => g.mux == s.cyc + 1) with
    | some g => [s.samplesOf n l past g]
    | none => []
  one x.granules ++ (match x.spec with | some p => one p.granules | none => [])

/-- The marker bits that voice v contributes (R109). -/
def voiceMark (s : State) (n v : Nat) : Nat :=
  match muxGran (s.voice n v) s.cyc with
  | some g => if s.actVoiceEn n v then g.mark else 0
  | none => 0

/-- Sample k of the sum S, with whether the sum saturated (R96). -/
def sumAt (outs : List (List Sample)) (k : Nat) : Int × Bool :=
  satFlag 18 (outs.foldl (fun a l => a + (match l[k]? with | some x => x.val | none => 0)) 0)

/-- Some voice's sample k saturated in a stage picked by f. -/
def stageAt (outs : List (List Sample)) (f : Sample → Bool) (k : Nat) : Bool :=
  outs.any (fun l => match l[k]? with | some x => f x | none => false)

/-- Saturation flags of `SAT_STAGE` latch (R89). -/
def latchSat (s : State) (n : Nat) (l : List (Fld × Bool)) : State :=
  forEach l (fun p s => when p.2 (fun s => s.setB p.1 n true) s) s

/-- The sums of the granule enter the output path: the fractional delay and the DAC code of the granule before it are
worked out, zero where that granule met a latched trip (R185), and each of its samples in which any stage saturated counts
once (R89, R97). DESIGN CHOICE (log entry 12): zero code from the first sample of the breaching granule. -/
def passSums (s : State) (n : Nat) (sums : List (Int × Bool)) : State :=
  let all := ((s.chan n).sums ++ sums)
  let all := (List.replicate (96 - all.length) (0, false) ++ all).drop (all.length - 96)
  let fd := sgn 9 (s.fld .ochFdelayUser n) + sgn 7 (s.fld .ochFdelayCal n)
  let vals := all.map (·.1)
  let delayed := (List.range 32).map fun i => fdelaySample fd vals (32 + i)
  let codes := delayed.map fun d => dacCode d.1
  let early := (List.range 32).map fun i => (all.getD ((32 + i : Int) - fd / 16).toNat (0, false)).2
  let hit := (List.range 32).filter fun i =>
    early.getD i false || (delayed.getD i (0, false)).2 || (codes.getD i (0, false)).2
  let s := s.latchSat n [(.ochSatStageFdelay, delayed.any (·.2)), (.ochSatStageDac, codes.any (·.2))]
  (s.bumpBy .ochSatCnt n hit.length).updChan n fun o =>
    { o with
      sums := all.drop 32
      dac := (s.cyc + 5, codes.map fun d => if o.muted then 0 else d.1) :: o.dac.take 5 }

/-! ## Streams at the multiplexer (R158, R159, R161) -/

/-- A granule with stream data passes: the counters of R161, the losses of R158 and R159. -/
def passStream (s : State) (n : Nat) (g : Gran) : State :=
  if g.strm = 0 then s
  else
    let t := (s.chan n).strm
    let add : BitVec 48 := if g.playFirst then BitVec.ofNat 48 g.play else 0
    let s := s.setStrm n { t with sched := t.sched + add, remain := t.remain + add }
    let zeroing := t.zeroRun == some g.part
    let s :=
      if g.exhausted then
        let s := when (t.exhRun != some g.run) (fun s => s.bump .ochStrmExhaust n) s
        (s.setStrm n { (s.chan n).strm with exhRun := some g.run }).taintUnderrun
      else if zeroing then s
      else if g.missing then
        let s := ((s.bump .ochUnderrun n).strmAim n g.strmEnd).taintUnderrun
        s.setStrm n { (s.chan n).strm with zeroRun := some g.part }
      else if g.bad then s.taintMem
      else s
    let lost := zeroing || g.exhausted || g.missing || g.bad
    let k := BitVec.ofNat 48 g.strm
    let t := (s.chan n).strm
    let s := s.setStrm n { t with
      played := if lost then t.played else t.played + k
      zero := if lost then t.zero + k else t.zero
      remain := t.remain - k }
    if g.exhausted then s else s.strmAdvance n

/-- `STRM_STATUS.ZEROING` after the granules of a cycle have passed: a segment at the multiplexer plays zero under R158 or
R159. While a wait inserts idle granules it stays. -/
def passZeroing (s : State) (n : Nat) (gs : List Gran) : State :=
  if s.waitIdle n s.cyc then s
  else
    let z := gs.any fun g => g.strm != 0 && (g.exhausted || (s.chan n).strm.zeroRun == some g.part)
    if s.flag .ochStrmStatusZeroing n == z then s else s.setB .ochStrmStatusZeroing n z

/-! ## Timing sets at the multiplexer (R109, R140) -/

/-- The set in force for the granule at the multiplexer; and the delay line's steps during this cycle, towards the FINE of
the granule that is at the pin, which passed the multiplexer six cycles ago. -/
def passTset (s : State) (n : Nat) : State :=
  let x := s.voice n 0
  let set := match muxGran x s.cyc with
    | some g => g.tset
    | none =>
      if s.shotFetched && s.ochPart n && x.enabled && (s.shot.running || x.done) then s.fld .ochTsetStatusSet n else s.fld .ochSeqCfgTsetIdle n
  let new := slice (SMap.get 0 (s.chan n).tsets (3 * set)).toNat 0 8
  let now := s.fld .ochTsetStatusFineNow n
  let fine := match (s.chan n).fine with
    | (c, g) :: l => if g = new then (c, g) :: l else (s.cyc, new) :: (c, g) :: l
    | [] => if new = now then [] else [(s.cyc, new)]
  let goal := match fine.find? (fun p => decide (p.1 + 6 ≤ s.cyc)) with
    | some (_, g) => g
    | none => now
  let s := s.updChan n fun o => { o with
    fine := fine.takeWhile (fun p => decide (s.cyc < p.1 + 6)) ++ (fine.dropWhile (fun p => decide (s.cyc < p.1 + 6))).take 1 }
  let next := if now ≤ goal then min goal (now + 32) else max goal (now - 32)
  s.wr .ochTsetStatus n (set + 256 * next + 65536 * ofBool (next != goal))

/-! ## Voices after their granule has passed -/

/-- The granule of voice v leaves the rendering: its samples become filter history, memory errors taint, and the last
granule of an END_SHOT segment ends the voice (R92, R116, R336). -/
def passVoice (s : State) (n v : Nat) : State :=
  let x := s.voice n v
  match muxGran x s.cyc with
  | some g =>
    let s := s.passStream n g
    let s := when g.taint State.taintMem s
    let hist := if g.direct && g.fmt == 0 then x.interp else x.interp ++ s.fedEnv n g
    s.updVoice n v fun y => { y with
      granules := y.granules.filter (fun h => decide (s.cyc < h.mux))
      interp := hist.drop (hist.length - 12)
      done := y.done || g.last
      kept := if g.last then keepAsync y else y.kept
      chain := if g.last then none else y.chain }
  | none =>
    if s.waitIdle n s.cyc && x.chain.isSome then
      s.setVoice n v { x with interp := (x.interp ++ fourZeros).drop ((x.interp ++ fourZeros).length - 12) }
    else s

/-- The voice stops now, when the channel is stopping (R121): a multiplexer boundary is here, or nothing more of it is to
come; while its group waits, from the wait's entry on, any granule boundary will do (R262). -/
def stopsHere (s : State) (n v : Nat) : Bool :=
  let x := s.voice n v
  match x.chain, muxGran x s.cyc with
  | none, _ => false
  | some _, some g => g.bnd || (s.ochPart n && s.waiting (s.waitKey n))
  | some c, none => s.waitIdle n s.cyc || (s.frozenAt n).isSome || c.held

/-- The abort stop of R121 at the multiplexer. -/
def stopHere (s : State) (n : Nat) : State :=
  if (s.chan n).stopping then
    let s := forEach ((List.range 8).filter (s.stopsHere n)) (fun v s => s.stopVoice n v) s
    if s.chanIdle n then (s.updChan n fun o => { o with stopping := false }).finishChan n (s.cyc + 6) else s
  else s

/-- The policy ABORT applies at this multiplexer boundary (R256), unless a wait has frozen it (R260). -/
def lateAbort (s : State) (n v : Nat) : State :=
  if (s.voice n v).abortAt == some s.cyc && (s.frozenAt n).all (fun f => decide (s.cyc < f)) then
    let s := (s.bump .ochLateAbortCnt n).abortShot 1
    s.stopVoice n v
  else s

/-! ## One granule boundary of one channel -/

/-- What passes the multiplexer in the present cycle. -/
def passMux (s : State) (n : Nat) : State :=
  let outs := (List.range 8).map (s.voiceOut n)
  let mark := (List.range 8).foldl (fun a v => a ||| s.voiceMark n v) 0 &&& s.actMarkEn n
  let sums := (List.range 32).map (sumAt outs)
  let stage := fun k => stageAt outs (fun x => x.drag || x.interp || x.scale) k || (sums.getD k (0, false)).2
  let scaled := (List.range 8).flatMap (s.scaleOuts n)
  let s := s.latchSat n [
    (.ochSatStageInterp, (List.range 32).any (stageAt scaled (·.interp))),
    (.ochSatStageScale, (List.range 32).any (stageAt scaled (·.scale))),
    (.ochSatStageSum, sums.any (·.2))]
  let s := s.passSums n ((List.range 32).map fun k => ((sums.getD k (0, false)).1, stage k))
  let s := s.guardCheck n (sums.map (·.1))
  let s := s.updChan n fun o => { o with muted := s.flag .ochOutStatusGuardMuted n }
  let s := s.passTset n
  let s := s.passMarks n (s.fld .ochTsetStatusSet n) mark (s.waitIdle n s.cyc)
  let s := when (s.waitIdle n s.cyc && s.shot.running) (fun s => s.bump .ochWaitGran n) s
  let gs := (s.voices n).filterMap (fun x => muxGran x s.cyc)
  let s := (forEach (List.range 8) (fun v s => s.passVoice n v) s).passZeroing n gs
  if s.ochPart n && s.shotFetched && s.chanIdle n && !(s.chan n).stopping then s.finishChan n (s.cyc + 7) else s

/-- A granule boundary of channel n, once per cycle. -/
def granuleBoundary (s : State) (n : Nat) : State :=
  if !s.hasOch n || (s.chan n).lastGran == s.cyc + 1 then s
  else
    let s := s.updChan n fun o => { o with lastGran := s.cyc + 1 }
    let s := s.frameApply false n (s.stIn 31)
    let s := s.resolveReady n
    let s := forEach (List.range 8) (fun v s => s.renderVoice n v) s
    let s := forEach (List.range 8) (fun v s => s.lateAbort n v) s
    (s.stopHere n).passMux n

end State

end Sys2Proof.Machine
end

