-- ==== Sys2Proof/Machine/Acq.lean ====
section
/-!
DEFINITION. Capture units (spec/11, R301 to R323): packing of received values into 256-bit entries, the ring, triggers,
WINDOW records and STREAM capture. Cycles here are numbered on the ST scale of R204: cycle c begins at ST 32c.
-/

namespace Sys2Proof.Machine

/-! ## Entries (R305 to R307) -/

/-- The five group flags, or the flags of a DEMOD word, at their place in a value. -/
def groupFlags (g : BitVec 256) : Nat := slice g.toNat 192 5

/-- Sample i of a group, signed (R214). -/
def groupSample (g : BitVec 256) (i : Nat) : Int := sgn 12 (slice g.toNat (12 * i) 12)

/-- The KIND 1 to 3 entry of a list of values (R305): their width is 32 bits for AVG_RAW and 64 otherwise. -/
def packEntry (source : Nat) (p : Pack) : BitVec 256 :=
  let kind := if source = 3 then 1 else if source = 2 then 2 else 3
  let w := if kind = 1 then 32 else 64
  let body := (List.range p.vals.length).foldl (fun a k => a + (p.vals.getD k 0) <<< (w * k)) 0
  let tail := if kind = 2 then p.first else p.seq
  BitVec.ofNat 256 (body + p.vals.length <<< 192 + kind <<< 220 + (tail % 2 ^ 32) <<< 224)

/-- Values that an entry of a source holds. -/
def packRoom (source : Nat) : Nat := if source = 3 then 6 else 3

/-- What cycle c brings is the first that goes into the entry being filled, where it holds nothing yet. -/
def Pack.begin_ (p : Pack) (c : Nat) : Pack := if p.vals.isEmpty && p.n == 0 then { p with first := c } else p

/-- A value of cycle c joins the entry being filled; a full entry comes out, with the first cycle that went into it. -/
def packValue (source c : Nat) (p : Pack) (v : Nat) : Pack × List (Nat × BitVec 256) :=
  let p := p.begin_ c
  let q := { p with vals := p.vals ++ [v] }
  if q.vals.length = packRoom source then
    ({ q with vals := [], seq := q.seq + q.vals.length }, [(q.first, packEntry source q)])
  else (q, [])

/-- One ADC sample joins the sum of an AVG_RAW interval of n samples (R307). -/
def packRaw (n c flags : Nat) (p : Pack) (x : Int) : Pack × List (Nat × BitVec 256) :=
  let p := p.begin_ c
  let q := { p with n := p.n + 1, accI := p.accI + x, flags := p.flags ||| flags }
  if q.n = n then
    packValue 3 q.first { q with n := 0, accI := 0, accQ := 0, flags := 0 } (unsgn 24 q.accI + q.flags <<< 24)
  else (q, [])

/-- The DEMOD word of R305. -/
def demodWord (i q : Int) (flags : Nat) (sat : Bool) : Nat :=
  unsgn 24 i + unsgn 24 q <<< 24 + flags <<< 48 + (ofBool sat) <<< 53

/-- One decimated sample joins an AVG_DEMOD interval of n samples (R307). -/
def packDemod (n shift c : Nat) (p : Pack) (word : Nat) : Pack × List (Nat × BitVec 256) :=
  let p := p.begin_ c
  let q := { p with n := p.n + 1, accI := p.accI + sgn 24 word, accQ := p.accQ + sgn 24 (word >>> 24),
                    flags := p.flags ||| slice word 48 6 }
  if q.n = n then
    let i := satFlag 24 (roundUp q.accI shift)
    let j := satFlag 24 (roundUp q.accQ shift)
    let w := demodWord i.1 j.1 (q.flags % 32) (bit q.flags 5 || i.2 || j.2)
    packValue 4 q.first { q with n := 0, accI := 0, accQ := 0, flags := 0 } w
  else (q, [])

/-- The value of source cycle c enters a packing: the entries it completes, each with its first cycle (R304, R305). -/
def packCycle (source n shift c : Nat) (v : BitVec 256) (p : Pack) : Pack × List (Nat × BitVec 256) :=
  match source with
  | 0 => (p, [(c, v)])
  | 1 => (p, [(c, v)])
  | 2 => packValue 2 c p (v.toNat % 2 ^ 64)
  | 3 => (List.range 16).foldl (fun a i =>
      let r := packRaw n c (groupFlags v) a.1 (groupSample v i)
      (r.1, a.2 ++ r.2)) (p, [])
  | _ => packDemod n shift c p (v.toNat % 2 ^ 64)

/-- The partly filled last entry; a partial interval is discarded (R307, R315). -/
def packFlush (source : Nat) (p : Pack) : List (BitVec 256) := if p.vals.isEmpty then [] else [packEntry source p]

/-- The flags of a source value. -/
def valueFlags (source : Nat) (v : BitVec 256) : Nat :=
  if source = 2 ∨ source = 4 then slice v.toNat 48 5 else groupFlags v

/-! ## Marks (R306) -/

/-- The common part of a TRIG mark or WINHDR. -/
def trigMark (kind : Nat) (t : AcqTrig) (cycle : Nat) : Nat :=
  (t.stamp / 16) % 2 ^ 64 + (t.stamp % 16) <<< 64 + t.src <<< 68 + t.index <<< 72 + (t.seq % 2 ^ 32) <<< 80
    + t.shotTag <<< 152 + (ofBool t.inShot) <<< 168 + kind <<< 220 + (cycle % 2 ^ 32) <<< 224

/-- The WINHDR of a record (R306, R317). -/
def winHdr (r : Rec) (pre : Nat) (trunc : Bool) : BitVec 256 :=
  BitVec.ofNat 256 (trigMark 10 r.trig r.first + r.preValid <<< 112 + (ofBool (decide (r.preValid < pre))) <<< 124
    + (ofBool trunc) <<< 125 + (ofBool r.ovr) <<< 126 + (ofBool r.inv) <<< 127 + (r.got - r.preValid) <<< 128)

/-- An OVERFLOW or STOP mark: first cycle not captured, data entries since START, cause. -/
def stopMark (kind cycle entries cause : Nat) : BitVec 256 :=
  BitVec.ofNat 256 ((32 * cycle) % 2 ^ 64 + (entries % 2 ^ 48) <<< 64 + cause <<< 112 + kind <<< 220
    + (cycle % 2 ^ 32) <<< 224)

namespace State

def acqOf (s : State) (u : Nat) : Acq := SMap.get Acq.init s.acq u

def setAcq (s : State) (u : Nat) (a : Acq) : State := { s with acq := SMap.put Acq.init s.acq u a }

def updAcq (s : State) (u : Nat) (f : Acq → Acq) : State := s.setAcq u (f (s.acqOf u))

/-- Cycle number on the ST scale. -/
def stCyc (s : State) : Nat := s.st.toNat / 32

/-- Model cycle of a cycle on the ST scale. -/
def cycOf (s : State) (c : Nat) : Nat := s.cyc + c - s.stCyc

def acqState (s : State) (u : Nat) : Nat := s.fld .acqStatusState u

/-- The unit is running (R302). -/
def acqOn (s : State) (u : Nat) : Bool := s.acqState u != 0

/-! ## The ring (R308, R310) -/

/-- Entries of the partition. -/
def acqLen (s : State) (u : Nat) : Nat := 128 * s.fld .acqPartLenLen4k u

/-- BAR2 offset of ring entry k. -/
def acqAddr (s : State) (u k : Nat) : Nat :=
  (if s.flag .acqCfgDest u then dramAddr (4096 * s.fld .acqPartBaseBase4k u)
   else capAddr u (4096 * s.fld .acqPartBaseBase4k u)) + 32 * k

/-- The partition as a byte range in BAR2. -/
def acqRange (s : State) (u : Nat) : Nat × Nat := (s.acqAddr u 0, s.acqAddr u (s.acqLen u))

/-- Free entries at a ring position. -/
def acqFree (s : State) (u : Nat) : Nat :=
  s.acqLen u - 1 - ((s.acqOf u).wp + s.acqLen u - s.fld .acqRdPtrPtr u) % max 1 (s.acqLen u)

/-- Entry k of the ring takes a value; a bank that does not answer takes none (R334). -/
def acqLand (s : State) (u k : Nat) (e : BitVec 256) : State :=
  when (s.bar2On (s.acqAddr u k)) (fun s => s.bar2Store (s.acqAddr u k) (leBytes 32 e.toNat)) s

/-- The write FIFO has no room for n entries more (R303). -/
def acqFull (s : State) (u n : Nat) : Bool := decide (256 < (s.acqOf u).fifo.length + n)

/-- Entry k of the ring is written, by way of the write FIFO (R303). -/
def acqStore (s : State) (u k : Nat) (e : BitVec 256) : State :=
  s.updAcq u fun a => { a with fifo := a.fifo ++ [(k, e)] }

/-- An entry is written at the ring position, which moves on. -/
def acqPut (s : State) (u : Nat) (e : BitVec 256) : State :=
  let a := s.acqOf u
  (s.acqStore u a.wp e).setAcq u { a with wp := (a.wp + 1) % max 1 (s.acqLen u) }

/-- What is written so far is committed: all that has left the write FIFO. -/
def acqVisible (s : State) (u : Nat) : State :=
  s.setF .acqWrPtrPtr u (match (s.acqOf u).fifo with | p :: _ => p.1 | [] => (s.acqOf u).wp)

/-- Everything in a unit's write FIFO reaches its place. -/
def acqFlush (s : State) (u : Nat) : State :=
  (forEach (s.acqOf u).fifo (fun p s => s.acqLand u p.1 p.2) s).updAcq u fun a => { a with fifo := [] }

/-- The memory takes the oldest entry of a unit's write FIFO: one entry of a unit in a cycle (R303). What has been written
of a stream is committed. -/
def acqDrain (s : State) (u : Nat) : State :=
  match (s.acqOf u).fifo with
  | [] => s
  | p :: rest =>
    let s := (s.acqLand u p.1 p.2).updAcq u fun a => { a with fifo := rest }
    if s.flag .acqCfgMode u || !s.acqOn u then s.acqVisible u else s

/-! ## Settings -/

def acqSource (s : State) (u : Nat) : Nat := s.fld .acqCfgSource u
def acqPre (s : State) (u : Nat) : Nat := s.fld .acqPrePre u
def acqPost (s : State) (u : Nat) : Nat := s.fld .acqPostPost u

/-- Data entries of a record of w cycles (R315); a partial interval at its end is discarded (R307). -/
def acqEntries (source n w : Nat) : Nat :=
  match source with
  | 2 => (w + 2) / 3
  | 3 => (16 * w / max 1 n + 5) / 6
  | 4 => (w / max 1 n + 2) / 3
  | _ => w

def acqD (s : State) (u : Nat) : Nat := acqEntries (s.acqSource u) (s.fld .acqAvgAvgN u) (s.acqPre u + s.acqPost u)

/-! ## Stopping (R318, R319, R321, R322) -/

/-- The unit stops with a cause. -/
def acqHalt (s : State) (u cause : Nat) : State :=
  ((s.setF .acqStatusState u 0).setF .acqStatusStopCause u cause).irq (40 + u)

/-- A record is committed whole (R317) or cut short (R318): its header is written, and WR_PTR passes it. -/
def acqCommit (s : State) (u : Nat) (r : Rec) (trunc : Bool) : State :=
  let l := max 1 (s.acqLen u)
  let s := s.acqLand u r.hdr (winHdr r (s.acqPre u) trunc)
  let s := s.setF .acqWrPtrPtr u ((r.hdr + 1 + r.wrote) % l)
  let s := (s.bump .acqRecords u).irq (40 + u)
  s.signal (prodAcqDone u)

/-- A record cut short: its partly filled entry is written out, and it is committed after the records before it. -/
def acqCut (s : State) (u : Nat) (r : Rec) : State :=
  let l := max 1 (s.acqLen u)
  let tail := packFlush (s.acqSource u) r.pack
  let r := { r with hdr := s.fld .acqWrPtrPtr u }
  let s := forEach tail (fun e s => s.acqLand u ((r.hdr + 1 + r.wrote) % l) e) s
  let r := { r with
    wrote := r.wrote + tail.length
    ovr := r.ovr || (bit r.part 0 && !tail.isEmpty)
    inv := r.inv || (bit r.part 4 && !tail.isEmpty) }
  (s.acqCommit u r (!r.full)).updAcq u fun a => { a with
    wp := (r.hdr + 1 + r.wrote) % l
    entries := a.entries + tail.length }

/-- Every record in progress is cut short. DESIGN CHOICE: what is in the write FIFO then reaches its place first. -/
def acqCutAll (s : State) (u : Nat) : State :=
  let s := s.acqFlush u
  let rs := (s.acqOf u).recs
  (forEach rs (fun r s => s.acqCut u r) s).updAcq u fun a => { a with recs := [] }

/-- TRIG marks of triggers up to cycle c that no entry has followed (R320). -/
def acqDue (s : State) (u c : Nat) : List AcqTrig := (s.acqOf u).marks.filter (fun t => decide (t.tc ≤ c))

/-- A data entry of a STREAM goes to the ring, after the TRIG marks due before it. -/
def acqWithMarks (s : State) (u c : Nat) (e : BitVec 256) : State :=
  let due := s.acqDue u c
  let s := s.updAcq u fun a => { a with marks := a.marks.filter (fun t => decide (c < t.tc)) }
  let s := forEach due (fun t s => s.acqPut u (BitVec.ofNat 256 (trigMark 9 t t.tc))) s
  ((s.acqPut u e).updAcq u fun a => { a with entries := a.entries + 1 }).acqVisible u

/-- A STREAM ends with a mark of the given kind and cause, which names the first cycle not captured. -/
def acqEndMark (s : State) (u kind cycle cause : Nat) : State :=
  (s.acqPut u (stopMark kind cycle (s.acqOf u).entries cause)).acqVisible u

/-- First cycle that a STREAM has not captured. -/
def acqNext (s : State) (u : Nat) : Nat :=
  match (s.acqOf u).begin_ with
  | some b => b + (s.acqOf u).got
  | none => s.stCyc

/-- An overflow, from the first lost cycle on (R318, R321): STOP_CAUSE 3 for the ring, 4 for bandwidth. The mark of a STREAM
has CAUSE 0 or 1, that of a truncated record CAUSE 4. -/
def acqOverflow (s : State) (u c : Nat) (bandwidth : Bool) : State :=
  let s := if s.flag .acqCfgMode u then s.acqEndMark u 11 c (ofBool bandwidth)
    else
      let s := s.acqCutAll u
      (s.acqPut u (stopMark 11 c (s.acqOf u).entries 4)).acqVisible u
  let s := ((s.acqHalt u (if bandwidth then 4 else 3)).bump .acqOverflowCnt u).setB .acqStatusOvfSeen u true
  s.signal (prodAcqOvf u)

/-- What a unit has lost: data that its ring or its write FIFO did not take already, or the partly filled entry of a STREAM,
written with the TRIG marks of its cycles before it, where it finds no room at the end (R310, R321). -/
def acqTailLost (s : State) (u : Nat) : Option (Nat × Bool) :=
  let a := s.acqOf u
  let n := (s.acqDue u (s.acqNext u - 1)).length
  if a.lost.isSome then a.lost
  else if a.pack.vals.isEmpty || !s.flag .acqCfgMode u then none
  else if s.acqFree u < n + 2 then some (a.pack.first, false)
  else if s.acqFull u (n + 1) then some (a.pack.first, true)
  else none

/-- A running unit stops with a cause (R318, R319, R322): its partly filled entry is written out, and a STOP mark in STREAM
mode. Where an entry finds no room, that is the overflow of R321. -/
def acqFinish (s : State) (u cause : Nat) : State :=
  match s.acqTailLost u with
  | some (c, bandwidth) => s.acqOverflow u c bandwidth
  | none =>
    let c := s.acqNext u
    let s := if s.flag .acqCfgMode u then
        (forEach (packFlush (s.acqSource u) (s.acqOf u).pack) (fun e s => s.acqWithMarks u (c - 1) e) s).acqEndMark u 12 c cause
      else s.acqCutAll u
    s.acqHalt u cause

/-- ACQ_STOP or a device state stops the unit (R318, R322). -/
def acqStop (s : State) (u cause : Nat) : State := if s.acqOn u then s.acqFinish u cause else s

/-- Entry to DUSK, SAFE or FAULT stops every unit (R318, R322). -/
def acqStopAll (s : State) : State := forEach (List.range 24) (fun u s => s.acqStop u 5) s

/-! ## Data (R304, R314, R319, R320) -/

/-- An entry of a STREAM, filled by cycles c0 to c, is written with the TRIG marks due before it; the first that finds no
room in the ring (R310) or in the write FIFO is the overflow of R321, and later data are dropped. -/
def acqEmit (s : State) (u c c0 : Nat) (e : BitVec 256) : State :=
  let a := s.acqOf u
  if a.lost.isSome then s
  else if s.acqFree u < (s.acqDue u c).length + 2 then s.setAcq u { a with lost := some (c0, false) }
  else if s.acqFull u ((s.acqDue u c).length + 1) then s.setAcq u { a with lost := some (c0, true) }
  else s.acqWithMarks u c e

/-- The START mark of a STREAM whose first captured cycle is c. -/
def acqStartMark (s : State) (u c : Nat) : BitVec 256 :=
  BitVec.ofNat 256 ((32 * c) % 2 ^ 64 + s.acqSource u <<< 64 + s.fld .acqCfgRch u <<< 67 + s.fld .acqCfgTone u <<< 72
    + s.fld .acqAvgAvgN u <<< 76 + s.fld .acqAvgAvgShift u <<< 89 + 8 <<< 220 + (c % 2 ^ 32) <<< 224)

/-- A STREAM takes the value of cycle c. -/
def acqStreamCycle (s : State) (u c : Nat) (v : BitVec 256) : State :=
  let a := s.acqOf u
  match a.begin_ with
  | some b =>
    if c < b || a.done || a.lost.isSome then s
    else
      let s := if a.started then s
        else
          -- the START mark of a gated stream is followed by the TRIG mark of the trigger that started it (R319)
          let first := if s.flag .acqCfgStreamGate u then a.marks.take 1 else []
          let s := s.acqPut u (s.acqStartMark u c)
          let s := forEach first (fun t s => s.acqPut u (BitVec.ofNat 256 (trigMark 9 t t.tc))) s
          (s.acqVisible u).updAcq u fun a => { a with started := true, marks := a.marks.drop first.length }
      let a := s.acqOf u
      let r := packCycle (s.acqSource u) (s.fld .acqAvgAvgN u) (s.fld .acqAvgAvgShift u) c v a.pack
      let s := s.setAcq u { a with pack := r.1 }
      let s := forEach r.2 (fun e s => s.acqEmit u c e.1 e.2) s
      let a := s.acqOf u
      if a.lost.isSome then s
      else s.setAcq u { a with got := a.got + 1, done := s.acqPost u != 0 && decide (s.acqPost u ≤ a.got + 1) }
  | none => s

/-- An entry of a record that begins with cycle e.1 is written: one of the history (`past`) lies in memory already, any other
goes through the write FIFO. The first that finds it full is the overflow of R318: the record ends before that cycle. -/
def acqRecEntry (s : State) (u : Nat) (past : Bool) (r : Rec) (e : Nat × BitVec 256) : Rec × State :=
  if (s.acqOf u).lost.isSome then (r, s)
  else if !past && s.acqFull u 1 then
    ({ r with pack := Pack.init, got := e.1 - r.first, full := false },
      s.updAcq u fun a => { a with lost := some (e.1, true) })
  else
    let k := (r.hdr + 1 + r.wrote) % max 1 (s.acqLen u)
    let s := if past then s.acqLand u k e.2 else s.acqStore u k e.2
    ({ r with wrote := r.wrote + 1, ovr := r.ovr || bit r.part 0, inv := r.inv || bit r.part 4 },
      s.updAcq u fun a => { a with entries := a.entries + 1 })

/-- A record takes the value of cycle c. Its flags count for the entries that the value enters (R317). -/
def acqRecCycle (s : State) (u : Nat) (r : Rec) (c : Nat) (v : BitVec 256) (past : Bool) : Rec × State :=
  if c < r.first || r.last < c || r.full || (s.acqOf u).lost.isSome then (r, s)
  else
    let src := s.acqSource u
    let f := valueFlags src v
    let p := packCycle src (s.fld .acqAvgAvgN u) (s.fld .acqAvgAvgShift u) c v r.pack
    let fin := c == r.last
    let out := p.2 ++ (if fin then (packFlush src p.1).map (fun e => (p.1.first, e)) else [])
    let r := { r with pack := if fin then Pack.init else p.1, got := r.got + 1, part := r.part ||| f, full := fin }
    let q := out.foldl (fun (q : Rec × State) e => q.2.acqRecEntry u past q.1 e) (r, s)
    (if out.isEmpty then q.1 else { q.1 with part := if p.1.vals.isEmpty && p.1.n == 0 then 0 else f }, q.2)

/-- The value of source cycle c reaches the unit's tap. -/
def acqCycle (s : State) (u c : Nat) (v : BitVec 256) : State :=
  if !s.acqOn u then s
  else if s.flag .acqCfgMode u then
    let a := s.acqOf u
    let s := if a.begin_.isNone && !s.flag .acqCfgStreamGate u then s.setAcq u { a with begin_ := some c } else s
    s.acqStreamCycle u c v
  else
    let a := s.acqOf u
    let s := s.setAcq u { a with hist := ((c, v) :: a.hist).take 2064 }
    let step := (s.acqOf u).recs.foldl (fun (p : List Rec × State) r =>
      let q := p.2.acqRecCycle u r c v false
      (p.1 ++ [q.1], q.2)) ([], s)
    step.2.updAcq u fun a => { a with recs := step.1 }

/-! ## Triggers (R311 to R316) -/

/-- A record opens for an accepted trigger (R314): the cycles it wants that are already in the history are stored at
once, and the ring position moves past the entries that it will have. -/
def acqOpen (s : State) (u : Nat) (t : AcqTrig) : State :=
  let a := s.acqOf u
  let want := (t.tc + s.fld .acqDelayDelay u : Int) - s.acqPre u
  let missing := min (s.acqPre u) ((a.histFrom : Int) - want).toNat
  let pre := s.acqPre u - missing
  let first := t.tc + s.fld .acqDelayDelay u - pre
  let last := t.tc + s.fld .acqDelayDelay u + s.acqPost u - 1
  let r : Rec := ⟨t, first, last, pre, a.wp, Pack.init, 0, 0, false, false, 0, false⟩
  let past := (a.hist.filter (fun h => decide (first ≤ h.1))).reverse
  let p := past.foldl (fun (q : Rec × State) h => q.2.acqRecCycle u q.1 h.1 h.2 true) (r, s)
  let s := when (decide (pre < s.acqPre u)) (fun s => s.bump .acqPreShortCnt u) p.2
  (s.setF .acqStatusState u 2).updAcq u fun a => { a with
    recs := a.recs ++ [p.1], lastL := some last, histFrom := last + 1,
    wp := (a.wp + 1 + acqEntries (s.acqSource u) (s.fld .acqAvgAvgN u) (pre + s.acqPost u)) % max 1 (s.acqLen u) }

/-- What an accepted trigger starts: a record, a TRIG mark, or the stream itself. -/
def acqTake (s : State) (u : Nat) (t : AcqTrig) : State :=
  if s.flag .acqCfgMode u then
    let s := if s.acqState u == 1 then
        (s.setF .acqStatusState u 2).updAcq u fun a => { a with begin_ := some (t.tc + s.fld .acqDelayDelay u) }
      else s
    s.updAcq u fun a => { a with marks := a.marks ++ [t] }
  else s.acqOpen u t

/-- The checks of R312 in order: 0 accepted, 1 re-arm or hold-off, 2 room. -/
def acqCheck (s : State) (u tc stamp : Nat) : Nat :=
  let a := s.acqOf u
  let win := !s.flag .acqCfgMode u
  let late := win && (match a.lastL with | some l => decide (tc ≤ l) | none => false)
  let held := if s.flag .acqCfgHoldMode u then decide (0 < a.holdLeft)
    else (match a.s0 with | some z => decide (stamp / 16 < z + s.rd .acqHold u) | none => false)
  if late || held then 1 else if win && decide (s.acqFree u < s.acqD u + 2) then 2 else 0

/-- A trigger of the present cycle carries the shot that runs in it (R306). -/
def acqTagged (s : State) (t : AcqTrig) : AcqTrig :=
  let run := s.shot.running
  { t with shotTag := if run then s.fld .glbShotNumNum % 65536 else 0, inShot := run }

/-- A trigger that the checks accept takes effect. -/
def acqAccept (s : State) (u : Nat) (t : AcqTrig) : State :=
  let a := s.acqOf u
  let s := s.setAcq u { a with
    s0 := some (t.stamp / 16), seq := a.seq + 1,
    holdLeft := if s.flag .acqCfgHoldMode u then s.rd .acqHold u else 0 }
  let s := s.bump .acqTrigAccept u
  let at_ := s.cycOf (t.tc + 12)
  let s := s.after at_ (.fireLate (prodAcqTrig u))
  let pins := (List.range 48).filter fun m => s.fld .mrkCfgKind m == 3 && s.fld .mrkCfgIndex m == u
  let s := forEach pins (fun m s => s.pinPulse m (256 * at_ + s.fld .mrkCfgRise m) (s.fld .mrkCfgWidth m + 1)) s
  s.acqTake u { s.acqTagged t with seq := a.seq + 1 }

/-- A trigger is checked (R312), and is accepted or counted; `hold` triggers remain to be rejected in events hold-off. -/
def acqDecide (s : State) (u : Nat) (t : AcqTrig) (hold : Nat) : State :=
  let s := s.updAcq u fun a => { a with holdLeft := hold }
  let r := s.acqCheck u t.tc t.stamp
  let s := s.updAcq u fun a => { a with lastTc := some (t.tc, r, t.src != 0), holdLeft := hold - 1 }
  if r = 1 then s.bumpHeld .acqHoldoffReject u else if r = 2 then s.bumpHeld .acqNoroomReject u else s.acqAccept u t

/-- The accepted triggers whose mark or header is still to be written change. -/
def acqRemark (s : State) (u : Nat) (f : AcqTrig → AcqTrig) : State :=
  s.updAcq u fun a => { a with marks := a.marks.map f, recs := a.recs.map (fun r => { r with trig := f r.trig }) }

/-- What an accepted software trigger has written or started carries the configured source's stamp instead (R311). -/
def acqRestamp (s : State) (u : Nat) (t : AcqTrig) : State :=
  (s.acqRemark u fun x => if x.tc = t.tc then { x with stamp := t.stamp, src := t.src, index := t.index } else x).updAcq u
    fun a => { a with s0 := some (t.stamp / 16) }

/-- A trigger at a unit itself (R311, R312): whether one of its cycle stands accepted that a follower has to take, or to take
anew. Triggers of one cycle are one, with the configured source's stamp, whatever the order in which they come: the checks
that a software trigger failed are made again with that stamp. -/
def acqTrig1 (s : State) (u : Nat) (t : AcqTrig) : State × Bool :=
  let a := s.acqOf u
  let fresh := fun (s : State) =>
    let s := s.acqDecide u t a.holdLeft
    (s, (match (s.acqOf u).lastTc with | some (_, r, _) => r == 0 | none => false))
  if !s.acqOn u then (s, false)
  else match a.lastTc with
    | some (c, r, _) =>
      if c ≠ t.tc then fresh s
      else if t.src = 0 then (s, false)
      else if r = 0 then ((s.acqRestamp u t).updAcq u fun a => { a with lastTc := some (c, 0, true) }, true)
      else
        let back : Reg := if r = 1 then .acqHoldoffReject else .acqNoroomReject
        let s := (s.unbump back u).acqDecide u t (a.holdLeft + ofBool (s.flag .acqCfgHoldMode u && r == 1))
        (s, (match (s.acqOf u).lastTc with | some (_, r, _) => r == 0 | none => false))
    | none => fresh s

/-- A trigger at a unit and, when it is accepted, at the units that follow it (R311). -/
def acqTrigger (s : State) (u tc stamp src index : Nat) : State :=
  let p := s.acqTrig1 u ⟨tc, stamp, src, index, 0, 0, false⟩
  if p.2 then
    forEach ((List.range 24).filter (fun w => s.hasAcq w && s.fld .acqCfgTsrc w == 4 && s.fld .acqCfgTindex w == u))
      (fun w s => (s.acqTrig1 w ⟨tc, stamp, 4, u, 0, 0, false⟩).1) p.1
  else p.1

/-- A trigger of source `src` in the present cycle: its stamp is the cycle's first tick. -/
def acqTrigNow (s : State) (u src : Nat) : State := s.acqTrigger u s.stCyc (512 * s.stCyc) src 0

/-- An event delivered to a unit's input (R311). -/
def acqEvent (s : State) (u : Nat) : State := if s.fld .acqCfgTsrc u = 1 then s.acqTrigNow u 1 else s

/-- The shot start tick triggers every unit with TSRC 3 (R311); a trigger accepted earlier in its cycle is one of that shot
(R306). -/
def acqShotStart (s : State) : State :=
  let s := forEach ((List.range 24).filter fun u => s.acqOn u)
    (fun u s => s.acqRemark u fun t => if t.tc = s.stCyc then s.acqTagged t else t) s
  forEach ((List.range 24).filter (fun u => s.fld .acqCfgTsrc u == 3)) (fun u s => s.acqTrigNow u 3) s

/-- A stamped TRIGIN edge triggers every unit that takes it directly (R311). -/
def acqTrigin (s : State) (input stamp : Nat) : State :=
  forEach ((List.range 24).filter (fun u => s.fld .acqCfgTsrc u == 2 && s.fld .acqCfgTindex u == input))
    (fun u s => s.acqTrigger u (stamp / 512) stamp 2 input) s

/-- Group c of receive channel r reaches every unit that takes it: the UNCORR tap's, in cycle c + 6 (R304). -/
def acqUncorr (s : State) (r c : Nat) (group : BitVec 256) : State :=
  forEach ((List.range 24).filter (fun u => s.acqOn u && s.fld .acqCfgRch u == r && s.acqSource u == 1))
    (fun u s => s.acqCycle u c group) s

/-- The RAW tap's, in cycle c + 7. -/
def acqRaw (s : State) (r c : Nat) (group : BitVec 256) : State :=
  forEach ((List.range 24).filter (fun u => s.acqOn u && s.fld .acqCfgRch u == r
    && (s.acqSource u == 0 || s.acqSource u == 3))) (fun u s => s.acqCycle u c group) s

/-- The decimated sample of cycle c of tone t, at the DEMOD tap in cycle c + 11. -/
def acqDemod (s : State) (r t c : Nat) (word : Nat) : State :=
  forEach ((List.range 24).filter (fun u => s.acqOn u && s.fld .acqCfgRch u == r && s.fld .acqCfgTone u == t
    && (s.acqSource u == 2 || s.acqSource u == 4))) (fun u s => s.acqCycle u c (BitVec.ofNat 256 word)) s

end State

end Sys2Proof.Machine
end

