-- ==== Sys2Proof/Machine/LinkOps.lean ====
section
/-!
DEFINITION. Basord Link as the rest of the block uses it (spec/16, spec/09 R263 to R265): ports, routes, blocks waiting to
be sent, exported decisions, remote events, and a port going DOWN. A block's 64 content bits carry TYPE in [63:60], VC in
[59] and CONT in [56] (R428).
-/

namespace Sys2Proof.Machine

/-- A block from its type byte and payload (R428). -/
def mkBlock (typ payload : Nat) : Dword := BitVec.ofNat 64 ((typ % 256) <<< 56 + payload % 2 ^ 56)

def blkType (b : Dword) : Nat := slice b.toNat 60 4
/-- The block travels on the BULK virtual channel. -/
def blkBulk (b : Dword) : Bool := bit b.toNat 59
def blkCont (b : Dword) : Bool := bit b.toNat 56
def blkField (b : Dword) (lo w : Nat) : Nat := slice b.toNat lo w

/-- Protected types (R428). -/
def blkProtected (b : Dword) : Bool := [1, 2, 3].contains (blkType b)

/-- A DECISION block (R264). -/
def decisionBlock (dest source slot epoch tag word hops : Nat) : Dword :=
  mkBlock 0x10 (dest <<< 50 + source <<< 44 + slot <<< 32 + epoch <<< 24 + tag <<< 8 + word <<< 4 + hops)

/-- The first block of a MIRROR message (R438). -/
def mirrorHead (bulk : Bool) (dest source kind ncont hops fields : Nat) : Dword :=
  mkBlock (0x30 + 8 * ofBool bulk) (dest <<< 50 + source <<< 44 + kind <<< 40 + ncont <<< 37 + hops <<< 33 + fields)

/-- The continuation blocks of a message body (R438). -/
def mirrorBody (n body : Nat) : List Dword := (List.range n).map fun i => mkBlock 0x39 (slice body (56 * i) 56)

namespace State

def port (s : State) (p : Nat) : Port := SMap.get Port.init s.ports p

def setPort (s : State) (p : Nat) (x : Port) : State := { s with ports := SMap.put Port.init s.ports p x }

def updPort (s : State) (p : Nat) (f : Port → Port) : State := s.setPort p (f (s.port p))

/-- State of a port: 0 DOWN, 1 TRAINING, 2 ACTIVE, 3 RESTRIPE (R453). -/
def portState (s : State) (p : Nat) : Nat := s.fld .blpStatusState p

/-- The port carries traffic. -/
def portUp (s : State) (p : Nat) : Bool := s.hasPort p && decide (2 ≤ s.portState p)

def txMap (s : State) (p : Nat) : Nat := s.fld .blpStatusTxMap p
def rxMap (s : State) (p : Nat) : Nat := s.fld .blpStatusRxMap p

/-- This device's DEVICE_ID (R72). -/
def deviceId (s : State) : Nat := s.fld .timeSyncCfgDeviceId

/-- The port toward a device, when the route is in use (R275). -/
def routeTo (s : State) (dev : Nat) : Option Nat :=
  let w := slice (s.rd .glbRoute (dev / 8)) (4 * (dev % 8)) 3
  if bit w 2 then some (w % 4) else none

/-- Blocks of one message wait on a port; a port that is not up takes none (R442). -/
def sendBlocks (s : State) (p : Nat) (bulk : Bool) (bs : List Dword) : State :=
  if s.portUp p then
    s.updPort p fun x => if bulk then { x with bulkQ := x.bulkQ ++ bs } else { x with decQ := x.decQ ++ bs }
  else s.bumpBy .blpTxDownDrop p bs.length

/-- Blocks of one message are sent to a device; without a route they are discarded and counted. -/
def sendTo (s : State) (dev : Nat) (bulk : Bool) (bs : List Dword) : State :=
  match s.routeTo dev with
  | some p => s.sendBlocks p bulk bs
  | none => s.bump .glbDecFwdDrop

/-- A decision that has become valid in slot k leaves for every device that the export map names, in entry order (R263,
R264). -/
def exportDecision (s : State) (k : Nat) : State :=
  let x := s.slot k
  forEach ((s.dec.export_.map (·.2)).filter (fun e => bit e.toNat 48 && slice e.toNat 0 12 == k)) (fun e s =>
    let e := e.toNat
    s.sendTo (slice e 32 6) false
      [decisionBlock (slice e 32 6) s.deviceId (slice e 16 12) (slice e 40 8) x.tag.toNat (setBit x.word.toNat 2 true) 0]) s

/-- An event delivered to LINK_OUT n leaves as a MIRROR EVENT (R437, R438). -/
def linkEvent (s : State) (n : Nat) : State :=
  let d := s.fld .glbLinkOutDestDev n
  s.sendTo d false [mirrorHead false d s.deviceId 0 0 0 (n <<< 29)]

/-- The training of a port stops; the lanes of a rejoin that have not joined are DOWN (R401, R441). -/
def stopTraining (s : State) (p : Nat) : State :=
  let out := (setBits (s.port p).train 4).filter fun l => !(bit (s.txMap p) l && bit (s.rxMap p) l)
  let s := when (s.portUp p) (fun s => forEach out (fun l s => s.setF .bllStatusState (4 * p + l) 0) s) s
  s.updPort p fun x => { x with train := 0, stage := [] }

/-! ## Invariants (R449, R450) -/

/-- Re-base of the block invariant (R43, R449). -/
def blRebase (s : State) (p : Nat) : State :=
  let x := s.port p
  let c := x.cnt
  (s.setPort p { x with cnt := { c with
    sentBase := c.sent, ackedBase := c.acked, unackedBase := BitVec.ofNat 48 x.unacked.length, rxCopiesBase := c.rxCopies,
    deliveredBase := c.delivered, discardedBase := c.discarded } }).bump .blpBlRebase p

/-- Re-base of the credit invariant (R43, R450). -/
def credRebase (s : State) (p : Nat) : State :=
  let x := s.port p
  let c := x.cnt
  (s.setPort p { x with cnt := { c with
    grantedDecBase := c.grantedDec, returnedDecBase := c.returnedDec, outDecBase := c.outDec,
    grantedBulkBase := c.grantedBulk, returnedBulkBase := c.returnedBulk, outBulkBase := c.outBulk } }).bump .blpCredRebase p

/-- A port goes DOWN (R442): what it holds is discarded with its credits, both invariants are re-based, and vector 6 latches. -/
def portDown (s : State) (p : Nat) : State :=
  if s.portState p = 0 then s
  else
    let x := s.port p
    let lost := x.decQ.length + x.bulkQ.length
    let s := s.bumpBy .blpTxDownDrop p lost
    let s := s.setPort p { Port.init with
      cnt := { x.cnt with outDec := 0, outBulk := 0 }, slip := x.slip, eye := x.eye, line := x.line }
    let s := (s.setF .blpStatusState p 0).setF .blpStatusStage p 0
    let s := (s.setF .blpStatusTxMap p 0).setF .blpStatusRxMap p 0
    let s := forEach (List.range 4) (fun l s =>
      let s := (s.setF .bllStatusState (4 * p + l) 0).setB .bllStatusRxSleepPend (4 * p + l) false
      (s.setB .bllStatusCdrLock (4 * p + l) false).setB .bllStatusHdrOk (4 * p + l) false) s
    ((s.blRebase p).credRebase p).irq 6

end State

end Sys2Proof.Machine
end

