-- ==== Sys2Proof/Machine/LinkTx.lean ====
section
/-!
DEFINITION. The transmitter of a Basord Link port (spec/16 R428 to R436, R445): what each lane of the transmit map carries
in one cycle, and the effects of a START that is sent. The stages of R433 between a block formed and its arrival are the
cable's and the peer's: they lie with whoever sends the receive rows.
-/

namespace Sys2Proof.Machine

/-! ## CRC-32 of IEEE 802.3, bit 0 first (R427, R431) -/

def crcBit (b : Bool) (c : Nat) : Nat :=
  if (c % 2 == 1) != b then (c / 2) ^^^ 0xEDB88320 else c / 2

def crcWord (w : Dword) : Nat → Nat → Nat
  | 0, c => c
  | n + 1, c => crcWord w n (crcBit (bit w.toNat (63 - n)) c)

/-- The CRC of the covered blocks. -/
def linkCrc (l : List Dword) : Nat := l.foldl (fun c w => crcWord w 64 c) 0xFFFFFFFF ^^^ 0xFFFFFFFF

/-! ## Scrambler and test sequence (R427, R447) -/

/-- The scrambler x^58 + x^39 + 1 over the bits of a block, bit 0 first: its new register, and the bits for the line from
bit `64 - n` on. -/
def scramble (w : Nat) : Nat → Nat → Nat → Nat × Nat
  | 0, r, o => (r, o)
  | n + 1, r, o =>
    let b := ((bit w (63 - n) != bit r 38) != bit r 57)
    scramble w n ((2 * r + ofBool b) % 2 ^ 58) (o + ofBool b <<< (63 - n))

/-- The next n bits of PRBS31, x^31 + x^28 + 1, inverted as O.150 has it (PRESUMED, log entry 7), the first in the lowest
bit: the new register, and the bits. -/
def prbsBits : Nat → Nat → Nat → Nat × Nat
  | 0, r, o => (r, o)
  | n + 1, r, o =>
    let b := bit r 30 != bit r 27
    prbsBits n ((2 * r + ofBool b) % 2 ^ 31) (o + ofBool (!b) <<< (51 - n))

/-! ## Control blocks (R429, R434, R435) -/

/-- Lanes of a map, rising. -/
def lanesOf (m : Nat) : List Nat := setBits m 4

/-- Lowest lane of a map. -/
def lowLane (m : Nat) : Nat := (lanesOf m).headD 0

def checkBlock (ncyc crc seq : Nat) : Dword := mkBlock 0x60 (1 <<< 52 + (ncyc - 1) <<< 50 + crc <<< 16 + seq)

def trainBlock (lane port dev stage rxOk : Nat) (marker : Word) : Dword :=
  mkBlock 0x60 (lane <<< 50 + port <<< 48 + dev <<< 42 + stage <<< 38 + rxOk <<< 34 + marker.toNat)

def keepaliveBlock (bits : BitVec 52) : Dword := mkBlock 0x60 (2 <<< 52 + bits.toNat)

def statusBlock (rxOk : Nat) : Dword := mkBlock 0x60 (3 <<< 52 + rxOk <<< 48)

def auditBlock (delivered : BitVec 48) : Dword := mkBlock 0x60 (4 <<< 52 + delivered.toNat)

/-- CREDIT: the last number delivered, the credits returned, INIT (R434). -/
def creditBlock (x : Port) (init : Bool) : Dword :=
  mkBlock 0x40 (((x.rxNext + 65535) % 65536) <<< 40 + (x.giveDec % 4096) <<< 28 + (x.giveBulk % 4096) <<< 16
    + (ofBool init) <<< 15)

def requestBlock (seq : Nat) : Dword := mkBlock 0x50 (seq <<< 36)

def startBlock (seq map : Nat) : Dword := mkBlock 0x50 (1 <<< 52 + seq <<< 36 + map <<< 32)

/-- The three blocks of a time message whose block A starts at ST `t` (R61). DESIGN CHOICE (log entry 15): DELAY_REQ and
DELAY_RESP carry that ST as ORIGIN_ST, as a master's SYNC does. -/
def syncBlocks (m : SyncOut) (t : Nat) : List Dword :=
  let o := m.origin.getD t
  let corr := match m.fix with | some f => unsgn 48 (f + 16 * (t : Int)) | none => 0
  [mkBlock 0x20 (m.kind <<< 48 + m.seq <<< 32 + m.source <<< 26 + m.hops <<< 20 + (slice o 5 7) <<< 13),
    mkBlock 0x20 (1 <<< 52 + slice o 12 52), mkBlock 0x20 (2 <<< 52 + corr <<< 4)]

/-! ## One cycle of a transmitter (R430) -/

/-- A port while its lanes are filled: the lanes still free, and what the others carry. -/
structure Fill where
  x : Port
  free : List Nat
  out : List (Nat × Dword)

/-- A block on a given lane. -/
def Fill.on (f : Fill) (l : Nat) (b : Dword) : Fill := { f with free := f.free.erase l, out := f.out ++ [(l, b)] }

/-- An unprotected block on the lowest free lane. -/
def Fill.next (f : Fill) (b : Dword) : Fill :=
  match f.free with
  | l :: _ => f.on l b
  | [] => f

/-- The number that the next protected block will have. -/
def nextSeq (x : Port) : Nat :=
  match x.resend with
  | (q, _) :: _ => q
  | [] => x.txSeq

/-- The first transmission of a protected block on a given lane: it takes a number and a credit (R430, R434, R449). -/
def Fill.first (f : Fill) (cyc l : Nat) (b : Dword) : Fill :=
  let x := f.x
  let c := x.cnt
  let c := { c with sent := c.sent + 1 }
  let c := if blkBulk b then { c with grantedBulk := c.grantedBulk + 1, outBulk := c.outBulk + 1 }
    else { c with grantedDec := c.grantedDec + 1, outDec := c.outDec + 1 }
  ({ f with x := { x with
    cnt := c, txSeq := (x.txSeq + 1) % 65536, unacked := x.unacked ++ [(x.txSeq, b)], busyAt := cyc, audited := false,
    carried := x.carried || blkType b == 1,
    ackAt := if x.unacked.isEmpty then cyc else x.ackAt } }).on l b

/-- A CHECK block. -/
def blkCheck (b : Dword) : Bool := blkType b == 6 && blkField b 52 4 == 1

/-- An idle block: IDLE or KEEPALIVE (R447). -/
def blkIdle (b : Dword) : Bool := blkType b == 0 || (blkType b == 6 && blkField b 52 4 == 2)

/-- A cycle since the last CHECK calls for one. DEDUCED (log entry 7): the blocks that call for it are those other than IDLE,
KEEPALIVE and CHECK itself, or a port's only lane would carry nothing but CHECKs for ever. -/
def Port.checkDue (x : Port) : Bool := x.cover.any fun c => c.2.any (fun b => !blkCheck b)

/-- The blocks that the next CHECK covers. -/
def Port.checked (x : Port) : List Dword := x.cover.flatMap Prod.snd

/-- The number of the first protected block covered, or of the next one (R431). -/
def Port.checkSeq (x : Port) : Nat :=
  match x.cover.find? (fun c => c.2.any blkProtected) with
  | some c => c.1
  | none => nextSeq x

/-- 1. The CHECK due, on the highest lane; a SYNC in progress on a port's only lane puts it off (R431). It covers every
cycle from that of the CHECK before on: in that cycle the other lanes' blocks are not covered yet. -/
def Fill.check (f : Fill) (map : Nat) : Fill :=
  let x := f.x
  let hi := (lanesOf map).getLastD 0
  if !x.checkDue || (hi == lowLane map && !x.syncNow.isEmpty) then f
  else { f with x := { x with cover := [] } }.on hi
    (checkBlock x.cover.length (linkCrc x.checked) x.checkSeq)

/-- 2. A time message on the lowest lane; it begins when its three blocks have credit (R61, R434). -/
def Fill.sync (f : Fill) (map cyc t : Nat) : Fill :=
  let lo := lowLane map
  if !f.free.contains lo then f
  else
    match f.x.syncNow with
    | b :: rest => { f with x := { f.x with syncNow := rest } }.first cyc lo b
    | [] =>
      match f.x.syncQ with
      | m :: q =>
        if f.x.resend.isEmpty && decide (f.x.cnt.outDec.toNat + 3 ≤ 64) then
          let bs := syncBlocks m t
          { f with x := { f.x with syncQ := q, syncNow := bs.drop 1 } }.first cyc lo (bs.headD 0)
        else f
      | [] => f

/-- Copies still to be resent, before any new block (R436). -/
def Fill.resend (f : Fill) (cyc : Nat) : Nat → Fill
  | 0 => f
  | n + 1 =>
    match f.free, f.x.resend with
    | l :: _, (_, b) :: rest =>
      Fill.resend ({ f with x := { f.x with resend := rest, busyAt := cyc, audited := false } }.on l b) cyc n
    | _, _ => f

/-- 3. DECISION blocks that have credit, in queue order. -/
def Fill.decision (f : Fill) (cyc : Nat) : Nat → Fill
  | 0 => f
  | n + 1 =>
    match f.free, f.x.decQ with
    | l :: _, b :: rest =>
      if f.x.resend.isEmpty && decide (f.x.cnt.outDec.toNat < 64) then
        Fill.decision ({ f with x := { f.x with decQ := rest } }.first cyc l b) cyc n
      else f
    | _, _ => f

/-- 6. BULK blocks that have credit. -/
def Fill.bulk (f : Fill) (cyc : Nat) : Nat → Fill
  | 0 => f
  | n + 1 =>
    match f.free, f.x.bulkQ with
    | l :: _, b :: rest =>
      if f.x.resend.isEmpty && decide (f.x.cnt.outBulk.toNat < 64) then
        Fill.bulk ({ f with x := { f.x with bulkQ := rest } }.first cyc l b) cyc n
      else f
    | _, _ => f

/-- 4 and 5. REQUEST, repeated every 256 cycles while the receiver discards; LANE_STATUS, repeated every 16 cycles during
its re-stripe; CREDIT, at most every 4 cycles; AUDIT (R432, R434, R444, R451). -/
def Fill.control (f : Fill) (cyc : Nat) : Fill :=
  let f := if (f.x.reqDue || (f.x.stall && decide (f.x.reqAt + 256 ≤ cyc))) && !f.free.isEmpty then
      { f with x := { f.x with reqDue := false, reqAt := cyc } }.next (requestBlock f.x.rxNext) else f
  let f := if (f.x.statusDue || (f.x.rxStripe && decide (f.x.statusAt + 16 ≤ cyc))) && !f.free.isEmpty then
      { f with x := { f.x with statusDue := false, statusAt := cyc } }.next (statusBlock f.x.rxOk) else f
  let f := if f.x.creditDue && decide (f.x.creditAt + 4 ≤ cyc) && !f.free.isEmpty then
      { f with x := { f.x with creditDue := false, creditAt := cyc } }.next (creditBlock f.x false) else f
  if f.x.auditDue && !f.free.isEmpty then
    { f with x := { f.x with auditDue := false } }.next (auditBlock f.x.cnt.delivered)
  else f

/-- 3 to 6 of R430: what fills the lanes that a CHECK, a SYNC or a START has left. -/
def Fill.body (f : Fill) (cyc : Nat) : Fill := (((f.resend cyc 4).decision cyc 4).control cyc).bulk cyc 4

/-- What the cycle, whose first protected block has or would have the number `seq`, leaves for the next CHECK: its blocks in
lane order (R431). -/
def Fill.covered (f : Fill) (seq : Nat) : Fill :=
  let bs := (List.range 4).filterMap fun l => (f.out.find? (fun b => b.1 == l && !blkIdle b.2)).map (·.2)
  let c := f.x.cover ++ [(seq, bs)]
  { f with x := { f.x with cover := c.drop (c.length - 4) } }

namespace State

/-- A DELAY_REQ leaves on a port at the next chance of its lowest lane (R64). -/
def delayReq (s : State) (p : Nat) : State :=
  let q := SMap.get 0 s.time.reqSeq p
  let s := { s with time := { s.time with reqSeq := SMap.put 0 s.time.reqSeq p ((q + 1) % 65536) } }
  s.updPort p fun x => { x with syncQ := x.syncQ ++ [⟨1, q, s.deviceId, 0, none, none⟩] }

/-- The lowest lane of a port's map has changed: the path delay is measured anew (R66, R446). -/
def laneChange (s : State) (p old new : Nat) : State :=
  if lowLane old = lowLane new || new = 0 then s
  else
    let old := (SMap.get [] s.time.req p).map fun q => { q with old := true }
    let s : State := { s with time := { s.time with
      anew := setBit s.time.anew p true, req := SMap.put [] s.time.req p old } }
    (s.setB .timePdelayValid p false).delayReq p

/-- The receiver of a lane is asleep (R446). -/
def rxAsleep (s : State) (n : Nat) : Bool := s.flag .bllSleepRxSleep n && !s.flag .bllStatusRxSleepPend n

/-- The transmitter of a lane goes to electrical idle: its receiver, unless lost, shows the lane ASLEEP, and what the peer
reported of the lane no longer counts (R445, R446). -/
def txIdle (s : State) (n : Nat) : State :=
  let s := when (s.fld .bllStatusState n == 2) (fun s => s.setF .bllStatusState n 4) s
  s.updPort (n / 4) fun x => { x with txLive := setBit x.txLive (n % 4) false, peerOk := setBit x.peerOk (n % 4) false }

/-- A lane that a map takes in is ACTIVE, unless its receiver is lost or asleep (R454). -/
def laneJoin (s : State) (n : Nat) : State :=
  if s.fld .bllStatusState n = 3 || s.rxAsleep n then s else s.setF .bllStatusState n 2

/-- A START leaves: the new map applies from the next cycle, and a re-stripe of the transmitter ends (R435, R444, R445). A
lane put to sleep goes to electrical idle, and the peer's last report of it no longer counts (R446). -/
def startSent (s : State) (p map : Nat) : State :=
  let old := s.txMap p
  let s := s.setF .blpStatusTxMap p map
  let s := forEach (List.range 4) (fun l s =>
    let n := 4 * p + l
    if bit map l then s.laneJoin n
    else if bit old l && s.flag .bllSleepTxSleep n then s.txIdle n
    else s) s
  let s := when (s.port p).txStripe (fun s =>
    let s := s.bump .blpRestripeCnt p
    when (!(s.port p).rxStripe) (fun s => (s.setF .blpStatusState p 2).irq 6) (s.updPort p fun x => { x with txStripe := false })) s
  s.laneChange p old map

/-- A block leaves on a lane, scrambled. -/
def laneOut (s : State) (p l : Nat) (b : Dword) : State :=
  let x := s.port p
  let y := SMap.get LaneLine.init x.line l
  let z := scramble b.toNat 64 y.scram.toNat 0
  (s.setPort p { x with line := SMap.put LaneLine.init x.line l { y with scram := BitVec.ofNat 58 z.1 } }).emit
    (.block p l b (BitVec.ofNat 64 z.2))

/-- The blocks of one cycle leave on their lanes. -/
def linkOut (s : State) (p : Nat) (f : Fill) : State :=
  let s := s.setPort p { f.x with
    laneBusy := f.out.foldl (fun m b => SMap.put 0 m b.1 s.cyc) f.x.laneBusy }
  forEach f.out (fun b s => s.laneOut p b.1 b.2) s

/-- The numbers from q on that are not acknowledged, oldest first. -/
def replayFrom (x : Port) (q : Nat) : List (Nat × Dword) := x.unacked.dropWhile (fun b => b.1 != q)

/-- One cycle of a port that carries traffic (R430). A START takes the lowest lane common to both maps, once no time message
is in progress; the other lanes carry on, but for protected blocks beside a replay's START and a time message that would
begin (DEDUCED from R430, R435 and R445: the block that SEQ names follows from the next cycle, and the count before it is
that of the cycle's own blocks). Where the CHECK has that lane, the cycle carries the CHECK alone, so that none is due in the
next. -/
def linkCycle (s : State) (p : Nat) : State :=
  let map := s.txMap p
  let f := (Fill.mk (s.port p) (lanesOf map) []).check map
  let lane := fun (m : Nat) => let c := map &&& m; lowLane (if c = 0 then map else c)
  let seq := nextSeq f.x
  match if f.x.syncNow.isEmpty then f.x.startDue else none with
  | some (from_, m) =>
    if !f.free.contains (lane m) then s.linkOut p (f.covered seq)
    else
      let x := { f.x with startDue := none }
      match from_ with
      | some q =>
        let f := ({ f with x := { x with resend := replayFrom x q } }.on (lane m) (startBlock q m)).control s.cyc
        (s.linkOut p (f.covered q)).startSent p m
      | none =>
        let f : Fill := { f with x := x, free := f.free.erase (lane m) }
        let g := f.body s.cyc
        let s := s.bumpBy .blpBlRetx p (f.x.resend.length - g.x.resend.length)
        let g : Fill := { g with out := g.out ++ [(lane m, startBlock (nextSeq g.x) m)] }
        (s.linkOut p (g.covered seq)).startSent p m
  | none =>
    let before := f.x.syncQ
    let f := f.sync map s.cyc s.st.toNat
    let began := before.length != f.x.syncQ.length
    let g := f.body s.cyc
    let s := s.bumpBy .blpBlRetx p (f.x.resend.length - g.x.resend.length)
    let s := s.linkOut p (g.covered seq)
    -- t1 of R64
    match before with
    | m :: _ =>
      if began && m.kind == 1 then
        let sent := SMap.get [] s.time.req p ++ [⟨m.seq, 16 * s.st.toNat, s.cyc, false⟩]
        { s with time := { s.time with req := SMap.put [] s.time.req p sent } }
      else s
    | [] => s

/-- Lowest stage reached by a lane still training (R441): the stage after the last it passed. -/
def trainStage (x : Port) : Nat :=
  let l := ((lanesOf x.train).map (fun l => SMap.get 0 x.stage l)).filter (· != 8)
  match l with
  | [] => 0
  | a :: t => t.foldl min a + 1

/-- One cycle of the lanes in training that the transmit map does not hold: TRAIN blocks, and CREDIT with INIT = 1 on the
lowest lane once every lane of a bring-up has passed stage 5 or been left out (R441). -/
def trainCycle (s : State) (p : Nat) : State :=
  let x := s.port p
  let live := (lanesOf x.train).filter (fun l => SMap.get 0 x.stage l != 8 && !bit (s.txMap p) l)
  let init := s.portState p == 1 && !live.isEmpty && live.all (fun l => decide (5 ≤ SMap.get 0 x.stage l))
  let s := s.updPort p fun x => { x with laneBusy := live.foldl (fun m l => SMap.put 0 m l s.cyc) x.laneBusy }
  forEach live (fun l s =>
    s.laneOut p l (if init && l == live.headD 0 then creditBlock x true
      else trainBlock l p s.deviceId (SMap.get 0 x.stage l + 1) x.rxOk (Config.trainMarker p s.cyc))) s

/-- A lane without another block in this cycle: the KEEPALIVE that is due, or IDLE (R427, R430, R447). -/
def laneIdle (s : State) (p l : Nat) : State :=
  let x := s.port p
  if bit x.keep l then
    let y := SMap.get LaneLine.init x.line l
    let z := prbsBits 52 y.prbs.toNat 0
    let s := s.setPort p { x with line := SMap.put LaneLine.init x.line l { y with prbs := BitVec.ofNat 31 z.1 } }
    (s.laneOut p l (keepaliveBlock (BitVec.ofNat 52 z.2))).bump .bllKeepaliveTx (4 * p + l)
  else s.laneOut p l 0

/-- What the live lanes carry that this cycle leaves free. -/
def idleOut (s : State) (p : Nat) : State :=
  let x := s.port p
  let free := (lanesOf x.txLive).filter fun l => SMap.get 0 x.laneBusy l != s.cyc
  (forEach free (fun l s => s.laneIdle p l) s).updPort p fun x => { x with keep := 0 }

/-- What the ports send in the present cycle. -/
def linkTick (s : State) : State :=
  forEach ((List.range 4).filter s.hasPort) (fun p s =>
    let s := when (s.portUp p && s.txMap p != 0) (fun s => s.linkCycle p) s
    let s := when ((s.port p).train != 0) (fun s => s.trainCycle p) s
    when (s.portUp p) (fun s => s.idleOut p) s) s

end State

end Sys2Proof.Machine
end

