-- ==== Sys2Proof/Machine/DspOps.lean ====
section
/-!
DEFINITION. DSP cores as the rest of the block sees them (spec/10, R289, R295, R297, R298): interrupt lines, result feed,
states. What their instructions do stands in the Dsp files. A DSP cycle is numbered 2c or 2c + 1 within cycle c (R279).
-/

namespace Sys2Proof.Machine.State

def core (s : State) (q : Nat) : Core := SMap.get Core.init s.dsp q

def setCore (s : State) (q : Nat) (c : Core) : State := { s with dsp := SMap.put Core.init s.dsp q c }

def updCore (s : State) (q : Nat) (f : Core → Core) : State := s.setCore q (f (s.core q))

/-- State of a core: 0 RESET, 1 HALTED, 2 RUNNING, 3 FAULTED (R299). -/
def coreState (s : State) (q : Nat) : Nat := s.fld .dspStatusState q

/-- The mark of a line that is pending from the first DSP cycle of the next cycle. -/
def lineNext (s : State) : Nat := 2 * (s.cyc + 1) + 1

/-- Interrupt line i becomes pending from the first DSP cycle of the next cycle; one already pending stays, and is set again
should it be cleared before (R289). -/
def coreLine (s : State) (q i : Nat) : State :=
  let c := s.core q
  if SMap.get 0 c.ipend i ≠ 0 then s.setCore q { c with inext := SMap.put 0 c.inext i s.lineNext }
  else s.setCore q { c with ipend := SMap.put 0 c.ipend i s.lineNext }

/-- IPEND bit i clears; a delivery of the present cycle sets it in the next (R289). -/
def lineClear (s : State) (i : Nat) (c : Core) : Core :=
  let again := SMap.get 0 c.ipend i == s.lineNext || SMap.get 0 c.inext i == s.lineNext
  { c with ipend := SMap.put 0 c.ipend i (if again then s.lineNext else 0), inext := SMap.put 0 c.inext i 0 }

/-- The RFEED line is set while the feed holds its watermark, and clear while it does not (R295). -/
def feedLine (s : State) (q : Nat) : State :=
  if s.fld .dspRfeedCfgWm q ≤ (s.core q).feed.length then s.coreLine q 4
  else s.updCore q fun c => { c with ipend := SMap.put 0 c.ipend 4 0, inext := SMap.put 0 c.inext 4 0 }

/-- A result record enters a core's feed, or is dropped when the feed is full (R295). -/
def feedPush (s : State) (q : Nat) (r : BitVec 128) : State :=
  let c := s.core q
  if c.feed.length < 64 then (s.setCore q { c with feed := c.feed ++ [r] }).feedLine q
  else s.bump .dspRfeedDrop q

/-- A record of receive channel r goes to every core fed by that channel. -/
def feedAll (s : State) (r : Nat) (x : BitVec 128) : State :=
  forEach ((List.range s.variant.dspCount).filter (fun q => bit (s.fld .dspRfeedCfgRch q) r)) (fun q s => s.feedPush q x) s

/-- The core halts: at once, or after the body of the REPEAT in progress (R297, R298). -/
def coreHalt (s : State) (q : Nat) : State :=
  if s.coreState q = 2 then
    if (s.core q).rep.isSome then s.updCore q fun c => { c with haltReq := true }
    else (s.setF .dspStatusState q 1).setB .dspStatusSleep q false
  else s

/-- Entry to DUSK, SAFE or FAULT halts every core (R298). -/
def coreHaltAll (s : State) : State := forEach (List.range s.variant.dspCount) (fun q s => s.coreHalt q) s

/-- The start tick reaches the SHOT line of the participating cores (R289). -/
def coreShotStart (s : State) : State :=
  forEach ((List.range s.variant.dspCount).filter s.dspPart) (fun q s => s.coreLine q 5) s

end Sys2Proof.Machine.State
end

