-- ==== Sys2Proof/Machine/Events.lean ====
section
/-!
DEFINITION. The event fabric (spec/15): producers, channels, delivery to consumers, counting, the storm detector, timers
and snapshot triggers. A firing is delivered in its own cycle and the consumer's own rule sets every later delay (R413),
so no delivery fires a producer in the same cycle.
-/

namespace Sys2Proof.Machine

namespace State

def setEvf (s : State) (e : Evf) : State := { s with evf := e }

/-! ## Counting (R415, R416) -/

/-- The four counters of the invariant advance. -/
def evCount (s : State) (f d c u : Nat) : State :=
  let k := s.evf.cnt
  s.setEvf { s.evf with cnt := { k with
    fired := k.fired + BitVec.ofNat 48 f, delivered := k.delivered + BitVec.ofNat 48 d,
    coalesced := k.coalesced + BitVec.ofNat 48 c, suppressed := k.suppressed + BitVec.ofNat 48 u } }

/-- Re-base of the event invariant (R43, R416). -/
def evRebase (s : State) : State :=
  let k := s.evf.cnt
  (s.setEvf { s.evf with cnt := { k with
    firedBase := k.fired, deliveredBase := k.delivered, coalescedBase := k.coalesced,
    suppressedBase := k.suppressed } }).bump .evfRebase

/-! ## Suppression (R420, R421) -/

def suppressed (s : State) (ch : Nat) : Bool := bit (s.rd .evfSupp (ch / 32)) (ch % 32)

def setSuppressed (s : State) (ch : Nat) (b : Bool) : State :=
  s.wr .evfSupp (ch / 32) (setBit (s.rd .evfSupp (ch / 32)) (ch % 32) b)

/-- The storm detector suppresses a channel from the present cycle on (R420). -/
def stormSuppress (s : State) (ch : Nat) : State :=
  if s.suppressed ch then s else (s.setSuppressed ch true).bump .evfStormCnt

/-- The host writes to a word of `EVF.SUPP`: its channels are released in the next cycle, those that a parity error
suppressed only once their route has been rewritten (R421). -/
def suppWrite (s : State) (word v : Nat) : State :=
  forEach ((setBits v 32).filter (fun b => s.suppressed (32 * word + b) && !s.evf.parity.contains (32 * word + b)))
    (fun b s => s.after (s.cyc + 1) (.release (32 * word + b))) s

/-- The host's release of a suppressed channel takes effect: its window starts empty (R421). -/
def unsuppress (s : State) (ch : Nat) : State :=
  (s.setSuppressed ch false).setEvf { s.evf with hist := SMap.put [] s.evf.hist ch [] }

/-- Firings of a channel in the window that ends now (R420). -/
def stormCount (s : State) (ch : Nat) : Nat :=
  (((SMap.get [] s.evf.hist ch).filter fun p => decide (s.cyc < p.1 + s.fld .evfCfgStormW)).map (·.2)).foldl (· + ·) 0

/-- A count that has reached STORM_N suppresses the channel from the next cycle (R420). -/
def stormCheck (s : State) (ch : Nat) : State :=
  if s.fld .evfCfgStormN ≤ s.stormCount ch then s.after (s.cyc + 1) (.suppress ch) else s

/-- A firing of the present cycle enters the channel's history, which reaches back over the longest window. -/
def stormFiring (s : State) (ch : Nat) : State :=
  let old := (SMap.get [] s.evf.hist ch).filter (fun p => decide (s.cyc < p.1 + 65536))
  let now := match old with
    | (c, k) :: t => if c = s.cyc then (c, k + 1) :: t else (s.cyc, 1) :: (c, k) :: t
    | [] => [(s.cyc, 1)]
  (s.setEvf { s.evf with hist := SMap.put [] s.evf.hist ch now }).stormCheck ch

/-- The detector's fields are written: a count may reach the new STORM_N at once (R420). -/
def stormConfig (s : State) (v : Nat) : State :=
  if slice v 0 16 < 2 || slice v 16 16 < 2 then s
  else forEach (s.evf.hist.map (·.1)) (fun ch s => s.stormCheck ch) (s.wr .evfCfg 0 v)

/-! ## Snapshots (R422, R423) -/

/-- T of a pending snapshot: the copies take what every block held at the end of the cycle before. -/
def snapLatch (s : State) : State :=
  match s.evf.snap with
  | some (c, t, src) =>
    if s.cyc = c + 8 then
      let u : State := { s with snaps := s.evf.snapAt }
      let u := (u.wr .evfSnapSt 0 t).setF .evfSnapStatusSource 0 src
      let u := u.wr .evfSnapSeq 0 (satAdd32 (u.rd .evfSnapSeq) 1)
      u.setEvf { u.evf with snap := none, snapAt := [] }
    else s
  | none => s

/-- A trigger in the present cycle: pending to T = 32(c + 8), joined to a pending one, or ignored while HELD. At T itself the one
before latches first. -/
def snapTrigger (s : State) (source : Nat) : State :=
  let fresh := match s.evf.snap with
    | some (c0, _, _) => decide (c0 + 8 ≤ s.cyc)
    | none => true
  if !fresh then s.bump .evfSnapMerged
  else if s.flag .evfSnapStatusHeld then s.bump .evfSnapMissed
  else
    let s := s.snapLatch
    let s := s.setEvf { s.evf with snap := some (s.cyc, s.stIn 8, source) }
    when (s.flag .evfSnapCfgHold) (fun s => s.setB .evfSnapStatusHeld 0 true) s

/-! ## Consumers (R412) -/

/-- An event channel delivers to the host: its HOST_PEND bit sets, and vector 7 latches (R366, R412). -/
def hostEvent (s : State) (ch : Nat) : State :=
  ((s.wr .evfHostPend (ch / 32) (setBit (s.rd .evfHostPend (ch / 32)) (ch % 32) true)).raise .evfHostPend (ch / 32)
    (2 ^ (ch % 32))).irq 7

/-- An event reaches a consumer input (R412, R413). -/
def consume (s : State) (ch input : Nat) : State :=
  if input = 0 then s.startEvent
  else if input = 1 then s.hostEvent ch
  else if input = 2 then s.snapTrigger 2
  else if 0x100 ≤ input ∧ input < 0x280 then s.einEvent ((input - 0x100) / 4) ((input - 0x100) % 4)
  else if 0x280 ≤ input ∧ input < 0x300 then s.coreLine ((input - 0x280) / 4) ((input - 0x280) % 4)
  else if 0x300 ≤ input ∧ input < 0x318 then s.acqEvent (input - 0x300)
  else if 0x320 ≤ input ∧ input < 0x350 then s.pinEvent (input - 0x320)
  else if 0x350 ≤ input ∧ input < 0x360 then s.linkEvent (input - 0x350)
  else if input = 0x3FF then s.bump .evfUnconsumed
  else s

/-! ## Firing (R413 to R415) -/

/-- One firing on channel ch in the present cycle: delivered, coalesced with the cycle's delivered event, or suppressed. -/
def fireChannel (s : State) (ch : Nat) : State :=
  let s := s.setEvf { s.evf with chFired := SMap.put 0 s.evf.chFired ch (satAdd32 (SMap.get 0 s.evf.chFired ch) 1) }
  if s.suppressed ch then s.evCount 1 0 0 1
  else
    let s := s.stormFiring ch
    if SMap.get 0 s.evf.lastDeliv ch = s.cyc + 1 then s.evCount 1 0 1 0
    else
      let s := s.evCount 1 1 0 0
      let s := s.setEvf { s.evf with lastDeliv := SMap.put 0 s.evf.lastDeliv ch (s.cyc + 1) }
      s.consume ch (s.routeOf ch)

/-- The channels that a producer drives (R413, R425). -/
def drives (s : State) (p : Nat) : List Nat :=
  let w := (SMap.get 0 s.evf.prodMap p).toNat
  ((List.range 4).filter (fun j => bit w (16 * j + 8))).map (fun j => slice w (16 * j) 8)

/-- A producer fires. -/
def fire (s : State) (p : Nat) : State := forEach (s.drives p) (fun ch s => s.fireChannel ch) s

/-- The firings of the present cycle that wait in `later` are performed. -/
def settle (s : State) : State :=
  let due := s.later.filterMap fun e => match e.2 with
    | .fire p => if e.1 = s.cyc then some p else none
    | _ => none
  let s := { s with later := s.later.filter fun e => match e.2 with
    | .fire _ => e.1 != s.cyc
    | _ => true }
  forEach due (fun p s => s.fire p) s

/-- A firing of the present cycle that waits in `later` and reaches the start input. -/
def startDue (s : State) (e : Nat × Later) : Option Nat :=
  match e with
  | (c, .fireLate p) => if c ≤ s.cyc && (s.drives p).any (fun ch => s.routeOf ch == 0) then some p else none
  | _ => none

/-- A start that can be accepted in this cycle is, before the commands of the cycle (R30, R396). -/
def startsDue (s : State) : State :=
  if s.mayStart then
    forEach (s.later.filterMap s.startDue) (fun p t => t.fire p)
      { s with later := s.later.filter fun e => (s.startDue e).isNone }
  else s

/-! ## Memory errors (R335, R336) -/

/-- A bank row's power group, 255 for a bank that is always on. -/
def bankGroup (row inst : Nat) : Nat :=
  match row with
  | 0 => inst
  | 1 => 96 + inst
  | 2 => inst
  | 3 => inst
  | 4 => inst
  | 5 => inst
  | 6 => 96 + inst
  | 7 => 96 + inst
  | 8 => 96 + inst
  | 9 => 120 + inst
  | 10 => 152 + inst
  | 16 => 156 + inst
  | _ => 255

/-- The power group of a bank, or the always-on bank (160 to 164) as MEM_TEST numbers it (R558). -/
def bankUnit (row inst : Nat) : Nat :=
  match row with
  | 11 => 160
  | 12 => 161 + inst
  | 13 => 163
  | 14 => 164
  | _ => bankGroup row inst

/-- The BANK code of the ECC logs (R355). -/
def bankCode (row : Nat) : Nat := if row = 16 then Config.dramBank.toNat else row

/-- An uncorrectable error is counted, logged if the log is empty, and fires MEM_UNCORR (R336). -/
def uncorrLog (s : State) (group bank addr : Nat) : State :=
  let s := s.bump .glbEccUncorr
  let s := when (!s.flag .glbEccLogUValid) (fun s =>
    let s := s.setF .glbEccLogUGroup 0 group
    let s := s.setF .glbEccLogUBank 0 bank
    let s := s.wr .glbEccLogUAddr 0 addr
    (s.wr .glbEccLogUSt 0 s.st.toNat).setB .glbEccLogUValid 0 true) s
  (s.irq 5).signal prodMemUncorr

/-- What a read found: a correctable error is counted and logged; an uncorrectable one is counted, logged if the log is
empty, fires MEM_UNCORR, and leaves its word uncorrectable until it is written. In a stream buffer it re-bases the
channel's invariant (R43). -/
def eccSeen (s : State) (e : Ecc) : State :=
  match e with
  | .clean => s
  | .correctable row inst addr =>
    let s := s.bump .glbEccCorr
    let s := s.wr .glbEccLogC 0 (bankGroup row inst + 256 * bankCode row)
    s.wr .glbEccLogCAddr 0 addr
  | .uncorrectable row inst addr =>
    let s := { s with mem := { s.mem with
      bad := if s.mem.bad.contains (row, inst, addr) then s.mem.bad else s.mem.bad ++ [(row, inst, addr)] } }
    (when (row == 5) (fun s => s.strmRebase inst) s).uncorrLog (bankGroup row inst) (bankCode row) addr

end State

/-- The outcome of an event row whose effect is f: the firings it causes in this cycle are performed with it. -/
def perform (f : State → State) (s : State) : Host.Outcome State Fault Refusal := run (fun s => (f s).settle) s

/-- The outcome of a host command that may fire producers. -/
def commandFires (sp : CmdSpec) (c : HostCmd) (s : State) : Host.Outcome State Fault Refusal := perform (hostCmd sp c) s

end Sys2Proof.Machine
end

