-- ==== Sys2Proof/Machine/SeqRows.lean ====
section
/-!
DEFINITION. The rows of the segment sequencer (spec/04, spec/05, spec/09): boundaries, selections, waits, granules, stream
blocks; table, shadow and request writes; and the commands that write tables. A row has its effect in the cycle in which
the spec places it, and changes nothing in any other.
-/

namespace Sys2Proof.Machine

/-! ## What the sequencer does by itself -/

/-- SEGMENT_BOUNDARY (R110) of a voice, or of its Mayfly lane. -/
def execSegmentBoundary (och : Fin 96) (voice : Fin 8) (lane : Bool) (ecc : Ecc) (s : State) :
    Host.Outcome State Fault Refusal :=
  perform (fun s => (s.eccSeen ecc).segmentBoundary och voice lane) s

/-- SPEC_SELECT (R251). -/
def execSpecSelect (och : Fin 96) (voice : Fin 8) (ecc : Ecc) (s : State) : Host.Outcome State Fault Refusal :=
  perform (fun s => (s.eccSeen ecc).specSelect och voice) s

namespace State

/-- WAIT_TIMEOUT (R261): the decisions of the limit's own cycle still count, so it acts at the cycle's end. -/
def waitTimeout (s : State) (n v : Nat) : State :=
  if (s.atWaitLimit n v).isSome then s.after s.cyc (.waitLimit n v) else s

/-- A channel still playing 10 µs after a host or Dusk abort stops at the next granule boundary at the multiplexer
(R121). -/
def abortLimit (s : State) (n : Nat) : State :=
  match s.shot.abort with
  | some (cause, c) =>
    if (cause == 2 || cause == 3) && (s.chan n).stopping && decide (c + 6250 < s.cyc) then
      s.stopChan n
    else s
  | none => s

end State

/-- WAIT_RESUME (R258) of a sync group, key 0 to 31, or of a channel alone, key 32 + n. -/
def execWaitResume (key : Fin 128) (s : State) : Host.Outcome State Fault Refusal := perform (fun s => s.waitResume key) s

/-- WAIT_TIMEOUT (R261). -/
def execWaitTimeout (och : Fin 96) (voice : Fin 8) (s : State) : Host.Outcome State Fault Refusal :=
  perform (fun s => s.waitTimeout och voice) s

/-- GRANULE_BOUNDARY (R84). -/
def execGranuleBoundary (och : Fin 96) (ecc : Ecc) (s : State) : Host.Outcome State Fault Refusal :=
  perform (fun s => (s.eccSeen ecc).granuleBoundary och) s

/-- STREAM_FETCH_ARRIVAL (R155): block `blk` of the tape. -/
def execStreamFetchArrival (och : Fin 96) (blk : Nat) (ecc : Ecc) (s : State) : Host.Outcome State Fault Refusal :=
  perform (fun s => (s.eccSeen ecc).strmArrive och blk) s

/-- ABORT_STOP_LIMIT (R121). -/
def execAbortStopLimit (och : Fin 96) (s : State) : Host.Outcome State Fault Refusal := perform (fun s => s.abortLimit och) s

/-! ## The table window (R128, R130) -/

namespace State

/-- Last word and number of entries of a table: 0 segment, 1 condition. -/
def tblLast (table : Nat) : Nat := if table = 0 then 3 else 15
def tblSize (table : Nat) : Nat := if table = 0 then 4096 else 256

/-- The access is void (R128). -/
def tblVoid (s : State) (n : Nat) : Bool :=
  let t := s.fld .ochTblAddrTable n
  decide (1 < t) || decide (tblLast t < s.fld .ochTblAddrWord n) || decide (tblSize t ≤ s.fld .ochTblAddrIndex n)

/-- AUTOINC (R128). -/
def tblAdvance (s : State) (n : Nat) : State :=
  if s.flag .ochTblAddrAutoinc n then
    let t := s.fld .ochTblAddrTable n
    let w := s.fld .ochTblAddrWord n
    if w < tblLast t then s.setF .ochTblAddrWord n (w + 1)
    else (s.setF .ochTblAddrWord n 0).setF .ochTblAddrIndex n ((s.fld .ochTblAddrIndex n + 1) % tblSize t)
  else s

/-- An entry as a number. -/
def tblEntry (s : State) (n table i : Nat) : Nat :=
  if table = 0 then (s.segEntry n i).toNat else (s.cond n i).toNat

/-- An entry is written whole, and its words become correct (R336). -/
def tblWrite (s : State) (n table i v : Nat) : State :=
  if table = 0 then
    (s.updChan n fun o => { o with segs := SMap.put 0 o.segs i (BitVec.ofNat 128 v) }).cleanBank 2 n (2 * i) (2 * i + 2)
  else
    (s.updChan n fun o => { o with conds := SMap.put 0 o.conds i (BitVec.ofNat 512 v) }).cleanBank 3 n (8 * i) (8 * i + 8)

/-- The record of a refused write (R127, R135): target 0 segment, 1 condition, 2 envelope; path 0 window, 1 BAR2, 2 DMA,
3 command. -/
def writeRefused (s : State) (n index target path : Nat) : State :=
  ((s.setB .ochSeqErrWriteRefused n true).wr .ochRefusedInfo n (index % 16384 + 16384 * target + 65536 * path)).bump
    .ochWrRefusedCnt n

/-- A write to TBL_DATA (R128). -/
def tblDataWrite (s : State) (n : Nat) (v : Word) : State :=
  if s.tblVoid n then s
  else
    let t := s.fld .ochTblAddrTable n
    let i := s.fld .ochTblAddrIndex n
    let w := s.fld .ochTblAddrWord n
    let s := s.updChan n fun o => { o with stage := SMap.put 0 o.stage w v }
    let s := if w = tblLast t then
        let words := (List.range (w + 1)).map (fun k => (SMap.get 0 (s.chan n).stage k).toNat)
        let entry := words.foldr (fun x a => x + 2 ^ 32 * a) 0
        let s := s.updChan n fun o => { o with stage := [] }
        if s.targetActive n t i then s.writeRefused n i t 0
        else if s.groupOn n then s.tblWrite n t i entry else s
      else s
    s.tblAdvance n

/-- A read of TBL_DATA (R128, R521). -/
def tblDataRead (s : State) (n : Nat) : State :=
  if s.tblVoid n then s.returns 0
  else
    let v := if s.groupOn n then
        slice (s.tblEntry n (s.fld .ochTblAddrTable n) (s.fld .ochTblAddrIndex n)) (32 * s.fld .ochTblAddrWord n) 32
      else 0
    (s.tblAdvance n).returns v

end State

/-- TBL_DATA_WRITE (R128). -/
def execTblDataWrite (och : Fin 96) (value : Word) (s : State) : Host.Outcome State Fault Refusal :=
  run (fun s => if s.hostOch och then s.tblDataWrite och value else s) s

/-- TBL_DATA_READ (R128). -/
def execTblDataRead (och : Fin 96) (s : State) : Host.Outcome State Fault Refusal :=
  run (fun s => if s.hostOch och then s.tblDataRead och else s.returns 0) s

/-- JUMP_REQ_WRITE (R114). -/
def execJumpReqWrite (och : Fin 96) (value : Word) (s : State) : Host.Outcome State Fault Refusal :=
  run (fun s => if s.hostOch och then s.asyncPost och (slice value.toNat 0 8) else s) s

/-- SHD_WRITE (R125): word 0 to 7 SHD_VAMP, 8 SHD_LOOP01, 9 SHD_LOOP23, 10 SHD_CH. -/
def execShdWrite (och : Fin 96) (reg : Fin 11) (value : Word) (s : State) : Host.Outcome State Fault Refusal :=
  run (fun s => if s.hostOch och then s.shadowWrite och reg value.toNat else s) s

/-- SHD_COMMIT (R123): token in [15:0], voice mask in [23:16], channel bit in [24]. -/
def execShdCommit (och : Fin 96) (value : Word) (s : State) : Host.Outcome State Fault Refusal :=
  run (fun s => if s.hostOch och then s.shadowCommit och (slice value.toNat 0 16) (slice value.toNat 16 9) else s) s

/-! ## Commands (R131, R134) -/

/-- SEQ_CONFIG (R134). -/
def seqConfigSpec : CmdSpec where
  opcode := 0x300
  kinds := [1]
  states := 0b1100
  layout := whole 16 20
  range := fun _ c => firstRej [
    firstRejOf [(17, 0xF8), (18, 0xF8), (19, 0xFF)] (fun p => rejIf (pByte c p.1 &&& p.2 != 0) (rejRange p.1)),
    firstRejOf ([20, 24, 28, 32].flatMap fun k => [k + 1, k + 3]) (fun k => rejIf (pByte c k &&& 0x70 != 0) (rejRange k))]
  app := justDo fun s c =>
    let n := indexOf c
    let s := s.wr .ochSeqCfg n (pNum c 16 4)
    let s := (s.wr .ochVstart01 n (pNum c 20 4)).wr .ochVstart23 n (pNum c 24 4)
    (s.wr .ochVstart45 n (pNum c 28 4)).wr .ochVstart67 n (pNum c 32 4)

def execSeqConfig (c : HostCmd) (s : State) : Host.Outcome State Fault Refusal := command seqConfigSpec c s

/-- Entry i of the buffer of a command whose entries have n bytes. -/
def bufEntry (c : HostCmd) (n i : Nat) : Nat := bufNat (bufOf c) (n * i) n

/-- First entry and count of SEQ_WRITE, COND_WRITE and MIRROR_EXPORT. -/
def tblFirst (c : HostCmd) : Nat := pNum c 16 2
def tblCount (c : HostCmd) : Nat := pNum c 18 2

/-- The span of entries lies in a table of the given size. -/
def spanRange (size : Nat) (c : HostCmd) : Option Reject :=
  firstRej [rejIf (tblCount c == 0 || decide (size < tblCount c)) (rejRange 18),
    rejIf (decide (size < tblFirst c + tblCount c)) (rejRange 16)]

/-- A segment entry breaks a rule of R131 or R157. -/
def segRefused (s : State) (n : Nat) (x : BitVec 128) : Bool :=
  let words := if s.flag .ochSynCfgDirect n && s.fld .ochSynCfgDirectFmt n == 0 then 16 else 4
  segBad x || (segSrcRaw x == 0 && decide (262144 < segWaddr x + words * segLenRaw x))
    || (segSrcRaw x == 1 && (decide (1023 < segWaddr x) || !State.descValid (s.desc (segWaddr x))
      || State.descOwner (s.desc (segWaddr x)) != n))

/-- The first entry of the span that is active refuses the command (R130). -/
def tblLocked (s : State) (table : Nat) (c : HostCmd) : Option Reject :=
  firstRej [s.bankLocked (indexOf c),
    firstRejOf (List.range (tblCount c)) (fun i =>
      rejIf (s.targetActive (indexOf c) table (tblFirst c + i)) (rejLockedAt (tblFirst c + i)))]

/-- The refusal record of a command that meets an active entry (R127, R135). -/
def tblOnLocked (table : Nat) (s : State) (c : HostCmd) (r : Reject) : State :=
  if r.info0 = noEntry then s else s.writeRefused (indexOf c) r.info0 table 3

/-- SEQ_WRITE (R131). -/
def seqWriteSpec : CmdSpec where
  opcode := 0x301
  kinds := [1]
  states := 0b11100
  layout := List.flatten [whole 16 4, whole 24 8]
  reads := fun _ _ => true
  absent := fun s c => firstRejOf (List.range (tblCount c)) fun i =>
    let x := BitVec.ofNat 128 (bufEntry c 16 i)
    rejIf (segSrcRaw x == 1 && !s.variant.dram) (rejAbsent 11 (segWaddr x % 4096))
  range := fun s c => firstRej [spanRange 4096 c, bufAligned c 24,
    firstRejOf (List.range (tblCount c)) fun i =>
      rejIf (segRefused s (indexOf c) (BitVec.ofNat 128 (bufEntry c 16 i))) (rejRangeAt (tblFirst c + i) 24)]
  locked := fun s c => tblLocked s 0 c
  onLocked := tblOnLocked 0
  busy := fun s c => s.bankBusy (indexOf c)
  app := justDo fun s c =>
    forEach (List.range (tblCount c)) (fun i s => s.tblWrite (indexOf c) 0 (tblFirst c + i) (bufEntry c 16 i)) s

def execSeqWrite (c : HostCmd) (s : State) : Host.Outcome State Fault Refusal := command seqWriteSpec c s

/-- COND_WRITE (R131). -/
def condWriteSpec : CmdSpec where
  opcode := 0x302
  kinds := [1]
  states := 0b11100
  layout := List.flatten [whole 16 4, whole 24 8]
  reads := fun _ _ => true
  absent := fun s c => firstRejOf (List.range (tblCount c)) fun i =>
    let e := BitVec.ofNat 512 (bufEntry c 64 i)
    firstRejOf (List.range (condNin e)) fun k =>
      rejIf (decide (condSlot e k < 384) && !s.unitPresent 3 (condSlot e k)) (rejAbsent 3 (condSlot e k))
  range := fun _ c => firstRej [spanRange 256 c, bufAligned c 24,
    firstRejOf (List.range (tblCount c)) fun i =>
      let e := bufEntry c 64 i
      rejIf (decide (8 < slice e 384 4) || slice e 390 122 != 0) (rejRangeAt (tblFirst c + i) 24)]
  locked := fun s c => tblLocked s 1 c
  onLocked := tblOnLocked 1
  busy := fun s c => s.bankBusy (indexOf c)
  app := justDo fun s c =>
    forEach (List.range (tblCount c)) (fun i s => s.tblWrite (indexOf c) 1 (tblFirst c + i) (bufEntry c 64 i)) s

def execCondWrite (c : HostCmd) (s : State) : Host.Outcome State Fault Refusal := command condWriteSpec c s

end Sys2Proof.Machine
end

