-- ==== Sys2Proof/Machine/GuardRows.lean ====
section
/-!
DEFINITION. The rows of the Output Guard and of the bias DACs (spec/06, R175 to R191). The GUARD page takes writes from
host requests and from Scarab's raise port only (R190).
-/

namespace Sys2Proof.Machine

/-! ## Guard limits (R184, R188, R191) -/

/-- The limit registers of the GUARD page. -/
inductive Limit where
  | peak
  | rms
  | duty
  | bmin
  | bmax
  | brate
  deriving DecidableEq, Repr

/-- Limit register by number, as the row names it: 0 PEAK, 1 RMS, 2 DUTY, 3 BMIN, 4 BMAX, 5 BRATE. -/
def Limit.ofFin (i : Fin 6) : Limit :=
  match i with
  | 0 => .peak
  | 1 => .rms
  | 2 => .duty
  | 3 => .bmin
  | 4 => .bmax
  | 5 => .brate

def Limit.reg : Limit → Reg
  | .peak => .guardPeak
  | .rms => .guardRms
  | .duty => .guardDuty
  | .bmin => .guardBmin
  | .bmax => .guardBmax
  | .brate => .guardBrate

/-- The bits of the register that hold a limit (R196). -/
def Limit.mask : Limit → Nat
  | .peak => 0xFFFF
  | .rms => 0xFFFF
  | .duty => 0xFFFF07FF
  | .bmin => 0xFFFFF
  | .bmax => 0xFFFFF
  | .brate => 0xFFFFFF

/-- Writing `new` over `old` loosens some field of the register (R191). -/
def Limit.loosens (l : Limit) (old new : Nat) : Bool :=
  match l with
  | .peak => decide (old < new)
  | .rms => decide (old < new)
  | .duty => decide (slice old 0 11 < slice new 0 11) || decide (slice old 16 16 < slice new 16 16)
  | .bmin => decide (sgn 20 new < sgn 20 old)
  | .bmax => decide (sgn 20 old < sgn 20 new)
  | .brate => decide (old < new)

namespace State

/-- The unit whose limit the register holds is present (R190, R197). -/
def limitPresent (s : State) (l : Limit) (i : Nat) : Bool :=
  match l with
  | .peak => s.hasOch i
  | .rms => s.hasOch i
  | .duty => s.hasOch i
  | _ => decide (i < 48)

/-- The limit is stored, with no check. -/
def limitStore (s : State) (l : Limit) (i v : Nat) : State := s.wr l.reg i (v &&& l.mask)

/-- A host write of a limit (R190, R191). -/
def limitWrite (s : State) (l : Limit) (i v : Nat) : State :=
  if !s.limitPresent l i then s
  else if s.flag .guardLockLocked && l.loosens (s.rd l.reg i) (v &&& l.mask) then s.bump .guardRaiseRefused
  else s.limitStore l i v

/-- The GUARD page answers host accesses. -/
def hostGuard (s : State) : Bool := s.hostPage 0x0E0

/-- Channels whose bits are set in a write to word w of a per-channel bit register. -/
def wordChans (s : State) (w v : Nat) : List Nat := ((setBits v 32).map (32 * w + ·)).filter s.hasOch

end State

/-- GUARD_LIMIT_WRITE (R191): limit 0 PEAK, 1 RMS, 2 DUTY, 3 BMIN, 4 BMAX, 5 BRATE of a channel or bias DAC. -/
def execGuardLimitWrite (limit : Fin 6) (index : Fin 96) (value : Word) (s : State) : Host.Outcome State Fault Refusal :=
  run (fun s => if s.hostGuard then s.limitWrite (Limit.ofFin limit) index value.toNat else s) s

/-- GUARD_TRIP_RELEASE (R187): a write to GUARD.TRIP0 to TRIP2. -/
def execGuardTripRelease (word : Fin 3) (value : Word) (s : State) : Host.Outcome State Fault Refusal :=
  run (fun s => if s.hostGuard then forEach (s.wordChans word value.toNat) (fun n s => s.guardRelease n) s else s) s

/-- GUARD_FORCE (R184): a write to GUARD.FORCE0 to FORCE2. -/
def execGuardForce (word : Fin 3) (value : Word) (s : State) : Host.Outcome State Fault Refusal :=
  perform (fun s =>
    if s.hostGuard then
      forEach (s.wordChans word value.toNat) (fun n s =>
        (s.wr .guardForce (n / 32) (setBit (s.rd .guardForce (n / 32)) (n % 32) true)).guardTrip n 8) s
    else s) s

/-- BDAC_TRIP_RELEASE (R189): a write to GUARD.BTRIP0 or BTRIP1. -/
def execBdacTripRelease (word : Fin 2) (value : Word) (s : State) : Host.Outcome State Fault Refusal :=
  run (fun s =>
    if s.hostGuard then
      forEach (((setBits value.toNat 32).map (32 * word.val + ·)).filter (fun k => decide (k < 48)))
        (fun k s => s.guardBrelease k) s
    else s) s

/-- GUARD_LOCK (R191). -/
def execGuardLock (value : Word) (s : State) : Host.Outcome State Fault Refusal :=
  run (fun s => when (s.hostGuard && bit value.toNat 0) (fun s => s.setB .guardLockLocked 0 true) s) s

/-! ## Bias DACs -/

/-- BDAC_TARGET_WRITE (R176): in OFF, DAWN and FAULT the write is counted as ignored although the page does not take
writes in all of them (R523). -/
def execBdacTargetWrite (bdac : Fin 48) (value : Word) (s : State) : Host.Outcome State Fault Refusal :=
  run (fun s =>
    if s.hostPage 3 then s.bdTarget bdac value.toNat
    else if [0, 1, 7].contains s.dev then s.bump .bdacIgnored bdac
    else s) s

/-- BDAC_OVERTEMP (R183). -/
def execBdacOvertemp (bdac : Fin 48) (hot : Bool) (s : State) : Host.Outcome State Fault Refusal :=
  perform (fun s => s.bdOvertemp bdac hot) s

/-- BDAC_SLEW_STEP (R177). -/
def execBdacSlewStep (bdac : Fin 48) (s : State) : Host.Outcome State Fault Refusal := perform (fun s => s.bdStep bdac) s

/-- BDAC_HOLD_RELEASE (R179). -/
def execBdacHoldRelease (bdac : Fin 48) (s : State) : Host.Outcome State Fault Refusal :=
  perform (fun s => s.bdHoldRelease bdac) s

/-- DEGLITCH_END (R180). -/
def execDeglitchEnd (bdac : Fin 48) (s : State) : Host.Outcome State Fault Refusal := run (fun s => s.bdDeglitchEnd bdac) s

/-- BDAC_PARK_END (R175). -/
def execBdacParkEnd (bdac : Fin 48) (s : State) : Host.Outcome State Fault Refusal := run (fun s => s.bdParkEnd bdac) s

end Sys2Proof.Machine
end

