-- ==== Sys2Proof/Machine/Journal.lean ====
section
/-!
DEFINITION. The result journal (spec/12, R342 to R353): packets, their way through the head buffer, the spill ring and the
tail buffer, draining into the host ring, and the journal invariant.
-/

namespace Sys2Proof.Machine

/-! ## Packets (R342) -/

/-- Blocks that a packet occupies. -/
def Packet.blocks (p : Packet) : Nat := (32 + 16 * p.recs.length + 63) / 64

/-- The eight header words. -/
def Packet.header (p : Packet) : List Word :=
  [p.kind + 16 * ofBool p.cont + 32 * ofBool p.replaced + 64 * ofBool p.gap + 256 * p.recs.length + 65536 * p.blocks,
    p.seq, slice p.shotNum 0 32, slice p.shotNum 32 16 + 65536 * (p.part % 256), slice p.startSt 0 32, slice p.startSt 32 32,
    p.outcome + 4 * p.cause + 256 * p.taint, p.length].map (BitVec.ofNat 32)

/-- The packet as it lies in the host ring: header, records, zeros to the end of its last block. -/
def Packet.bytes (p : Packet) : List Byte :=
  let b := State.wordBytes p.header ++ p.recs.flatMap (fun r => leBytes 16 r.toNat)
  b ++ List.replicate (64 * p.blocks - b.length) 0

/-- A PAD packet of n blocks. -/
def padBytes (n : Nat) : List Byte := leBytes (64 * n) (65536 * n)

namespace State

def setJrn (s : State) (j : Jrn) : State := { s with jrn := j }

/-- `JRN_RESIDENT` (R351). -/
def jrnResident (s : State) : Nat := s.jrn.head.length + s.jrn.spill.length + s.jrn.tail.length

/-- Counters of the invariant advance: started, committed, rewound, drained, lost. -/
def jrnCount (s : State) (st co re dr lo : Nat) : State :=
  let c := s.jrn.cnt
  s.setJrn { s.jrn with cnt := { c with
    started := c.started + BitVec.ofNat 48 st, committed := c.committed + BitVec.ofNat 48 co,
    rewound := c.rewound + BitVec.ofNat 48 re, drained := c.drained + BitVec.ofNat 48 dr,
    lost := c.lost + BitVec.ofNat 48 lo } }

/-- Re-base of the journal invariant (R43, R351). -/
def jrnRebase (s : State) : State :=
  let c := s.jrn.cnt
  (s.setJrn { s.jrn with cnt := { c with
    startedBase := c.started, committedBase := c.committed, rewoundBase := c.rewound, drainedBase := c.drained,
    residentBase := BitVec.ofNat 48 s.jrnResident, lostBase := c.lost } }).bump .jrnRebase

/-! ## Moving packets (R347, R349) -/

def spillEn (s : State) : Bool := s.flag .jrnCfgSpillEn

/-- Blocks of the spill ring in use, and its size in blocks. -/
def spillUsed (s : State) : Nat := (s.jrn.spill.map Packet.blocks).foldl (· + ·) 0
def spillSize (s : State) : Nat := s.fld .jrnSpillLenLen16m * 0x40000

/-- The oldest packet of the head buffer may go to the tail buffer, or to the spill ring (R347). -/
def headToTail (s : State) : Bool := s.jrn.spill.isEmpty && decide (s.jrn.tail.length < 64) && !s.jrn.head.isEmpty
def headToSpill (s : State) : Bool :=
  s.spillEn && (decide (64 ≤ s.jrn.tail.length) || !s.jrn.spill.isEmpty) &&
    (match s.jrn.head with | p :: _ => decide (s.spillUsed + p.blocks ≤ s.spillSize) | [] => false)

/-- A packet moves from the spill ring, or directly from the head buffer, into the tail buffer (R347). -/
def jrnRefill (s : State) : State :=
  let j := s.jrn
  if 64 ≤ j.tail.length then s
  else match j.spill, j.head with
    | p :: t, _ => s.setJrn { j with spill := t, tail := j.tail ++ [p] }
    | [], p :: t => s.setJrn { j with head := t, tail := j.tail ++ [p] }
    | [], [] => s

/-- The oldest packet of the head buffer moves to the spill ring (R347). -/
def jrnSpill (s : State) : State :=
  match s.jrn.head with
  | p :: t => if s.headToSpill then s.setJrn { s.jrn with head := t, spill := s.jrn.spill ++ [p] } else s
  | [] => s

/-- The oldest resident packet is discarded (R349). -/
def jrnDiscard (s : State) : State :=
  let j := s.jrn
  match j.tail, j.spill, j.head with
  | _ :: t, _, _ => (s.setJrn { j with tail := t }).jrnCount 0 0 0 0 1
  | [], _ :: t, _ => (s.setJrn { j with spill := t }).jrnCount 0 0 0 0 1
  | [], [], _ :: t => (s.setJrn { j with head := t }).jrnCount 0 0 0 0 1
  | [], [], [] => s

/-- A head slot is free for a packet about to start (R345, R349): packets move on, and the oldest is lost when every slot
is taken. -/
def jrnRoom (s : State) : Nat → State
  | 0 => s
  | n + 1 =>
    if s.jrn.head.length + ofBool s.jrn.opened.isSome < 64 then s
    else if s.jrn.tail.length < 64 then s.jrnRefill.jrnRoom n
    else if s.headToSpill then s.jrnSpill.jrnRoom n
    else s.jrnDiscard.jrnRefill.jrnRoom n

/-! ## Start and commit (R344 to R346) -/

/-- A fresh SHOT packet of the present shot. -/
def shotPacket (s : State) (part : Nat) : Packet :=
  ⟨1, false, false, false, 0, s.fld .glbShotNumNum, part, s.shot.startSt, 0, 0, 0, 0, []⟩

/-- A packet is started. -/
def jrnStart (s : State) (p : Packet) : State :=
  let s := s.jrnRoom 200
  (s.setJrn { s.jrn with opened := some p }).jrnCount 1 0 0 0 0

/-- The open packet is committed with the given header fields (R345). -/
def jrnCommit (s : State) (cont : Bool) (outcome cause taint length : Nat) : State :=
  match s.jrn.opened with
  | some p =>
    let p := { p with cont := cont, outcome := outcome, cause := cause, taint := taint, length := length,
                      seq := s.rd .jrnSeq }
    let s := s.setJrn { s.jrn with opened := none, head := s.jrn.head ++ [p] }
    (s.wr .jrnSeq 0 (s.rd .jrnSeq + 1)).jrnCount 0 1 0 0 0
  | none => s

/-- An uncorrectable error in a packet's stored words is reported like any other (R336): those of the spill ring in its DRAM
stack; for the head and tail buffers, which are no banks (R330), and for the word's address the spec gives no log entry:
free values. -/
def jrnEcc (s : State) (dram : Bool) : State :=
  let d := s.draw
  let w := Config.jrnLog d.1
  let g := if dram then 156 + s.fld .jrnSpillBaseBase1m / 8192 else 255
  d.2.uncorrLog g (if dram then bankCode 16 else slice w.toNat 0 4) (slice w.toNat 32 32)

/-- Taint bits of the shot whose packet is open. -/
def jrnTaint (s : State) : BitVec 8 := match s.jrn.closing with | some c => c.taint | none => s.shot.taint

/-- MEM_UNCORR found by a read-out tone: it taints the shot that the window belongs to, which may have ended (R227,
R344). -/
def taintTone (s : State) : State :=
  match s.jrn.closing with
  | some c => s.setJrn { s.jrn with closing := some { c with taint := c.taint ||| 8 } }
  | none => s.taintMem

/-- The places of the records that the packet has taken in the present cycle. -/
def ranksNow (s : State) : List Nat := if s.jrn.ranksAt = s.cyc + 1 then s.jrn.ranks else []

/-- Records with one of place k added: it stands before those of the same cycle with a higher place (R343). -/
def recsWith (l : List (BitVec 128)) (ranks : List Nat) (k : Nat) (r : BitVec 128) : List (BitVec 128) :=
  let n := l.length - (ranks.filter (fun j => decide (k < j))).length
  l.take n ++ r :: l.drop n

/-- A record joins the shot's packet in its place among those of the cycle, a tone's its slot and a core's after all slots
(R343): a full one is committed and the next PART started; after a rewind, records go to the replacement (R344, R346). -/
def jrnRecord (s : State) (k : Nat) (r : BitVec 128) : State :=
  let put := fun (s : State) (ranks : List Nat) => { s.jrn with ranks := k :: ranks, ranksAt := s.cyc + 1 }
  match s.jrn.opened, s.jrn.rewound with
  | some p, _ =>
    let full := decide (254 ≤ p.recs.length)
    let s := if full then
        (s.jrnCommit true 3 0 s.jrnTaint.toNat 0).jrnStart { s.shotPacket (p.part + 1) with shotNum := p.shotNum }
      else s
    let ranks := if full then [] else s.ranksNow
    match s.jrn.opened with
    | some q => s.setJrn { put s ranks with opened := some { q with recs := recsWith q.recs ranks k r } }
    | none => s
  | none, some p =>
    s.setJrn { put s s.ranksNow with rewound := some { p with recs := (recsWith p.recs s.ranksNow k r).take 254 } }
  | none, none => s

/-- An uncorrectable error in the open packet is reported and rewinds it (R336, R346): a replacement waits for the final
commit. -/
def jrnRewind (s : State) : State :=
  match s.jrn.opened with
  | some p =>
    ((s.jrnEcc false).setJrn { s.jrn with
      opened := none, rewound := some { p with replaced := true, recs := [] }, ranks := [] }).jrnCount 0 0 1 0 0
  | none => s

/-- The final commit of the ended shot's packet (R344, R346). -/
def jrnFinal (s : State) : State :=
  match s.jrn.closing with
  | some c =>
    let outcome := if c.cause.isSome then 2 else if c.taint ≠ 0 then 1 else 0
    let s := match s.jrn.rewound with
      | some p => (s.setJrn { s.jrn with rewound := none }).jrnStart p
      | none => s
    let s := s.jrnCommit false outcome (c.cause.getD 0) c.taint.toNat c.length
    s.setJrn { s.jrn with closing := none }
  | none => s

/-- A USER packet of one record, started and committed in the same cycle (R343). -/
def jrnUser (s : State) (r : BitVec 128) : State :=
  let p : Packet := ⟨2, false, false, false, s.rd .jrnSeq, s.fld .glbShotNumNum, 0, s.st.toNat, 0, 0, 0, 0, [r]⟩
  let s := s.jrnRoom 200
  let s := s.setJrn { s.jrn with head := s.jrn.head ++ [p] }
  (s.wr .jrnSeq 0 (s.rd .jrnSeq + 1)).jrnCount 1 1 0 0 0

/-! ## Draining (R347, R348, R350) -/

/-- Blocks of the host ring, blocks written and not yet freed, blocks free. -/
def hostBlocks (s : State) : Nat := s.fld .jrnHostLenLen4k * 64
def heldFrom (s : State) (rd : Nat) : Nat := (s.fld .jrnHostWrBlk + s.hostBlocks - rd) % max 1 s.hostBlocks
def hostHeld (s : State) : Nat := s.heldFrom (s.fld .jrnHostRdBlk)

/-- Blocks free for a drain of the present cycle: what the host frees in a cycle is seen from the next (R354). -/
def hostFree (s : State) : Nat :=
  s.hostBlocks - 1 - s.heldFrom (if s.jrn.rdAt = s.cyc + 1 then s.jrn.rdOld else s.fld .jrnHostRdBlk)

/-- The journal is at or above its watermark (R348). -/
def jrnAtMark (s : State) : Bool :=
  decide (0 < s.fld .jrnWmWmBlk) && decide (s.fld .jrnWmWmBlk ≤ s.hostHeld)

/-- n blocks of bytes go to the host ring's write offset. -/
def hostRing (s : State) (b : List Byte) (n : Nat) : State :=
  let s := s.emit (.hostWrite (BitVec.ofNat 64 (s.rd .jrnHostBase + 64 * s.fld .jrnHostWrBlk)) b)
  s.setF .jrnHostWrBlk 0 ((s.fld .jrnHostWrBlk + n) % max 1 s.hostBlocks)

/-- A committed packet found uncorrectable is discarded (R350). -/
def jrnUncorr (s : State) : State :=
  (((s.bump .jrnUncorr).jrnRebase).setJrn { ((s.bump .jrnUncorr).jrnRebase).jrn with gap := true })

/-- The packet at the front of a stage is discarded for an uncorrectable error, which is reported; then the invariant is
re-based (R336, R350). -/
def jrnDropBad (s : State) (dram : Bool) (front : Jrn → Jrn) : State := ((s.setJrn (front s.jrn)).jrnEcc dram).jrnUncorr

/-- Blocks of padding that a packet needs before it in the host ring (R347). -/
def jrnPad (s : State) (p : Packet) : Nat :=
  let left := s.hostBlocks - s.fld .jrnHostWrBlk
  if left < p.blocks then left else 0

/-- The host ring has room for a packet, and the link is up (R347, R360). -/
def jrnMayDrain (s : State) (p : Packet) : Bool :=
  s.hostBlocks != 0 && decide (p.blocks + s.jrnPad p ≤ s.hostFree) && s.pcie.linkUp

/-- The oldest packet of the tail buffer is written to the host ring with its write-pointer word, when there is room. -/
def jrnDrain (s : State) : State :=
  match s.jrn.tail with
  | p :: t =>
    let pad := s.jrnPad p
    if !s.jrnMayDrain p then s
    else
      let s := if pad = 0 then s else s.hostRing (padBytes pad) pad
      let q := { p with gap := s.jrn.gap }
      let s := s.hostRing q.bytes q.blocks
      let s := s.emit (.hostWrite (BitVec.ofNat 64 (s.rd .jrnWpAddr)) (leBytes 8 (s.fld .jrnHostWrBlk + 2 ^ 32 * q.seq)))
      let s := (s.setJrn { s.jrn with tail := t, gap := false }).jrnCount 0 0 0 1 0
      when s.jrnAtMark (fun s => s.irq 1) s
  | [] => s

/-- A host write of HOST_RD (R348). -/
def jrnHostRd (s : State) (v : Nat) : State :=
  let old := s.fld .jrnHostRdBlk
  let n := max 1 s.hostBlocks
  if v < n && decide ((v + n - old) % n ≤ s.hostHeld) then
    let s := if s.jrn.rdAt = s.cyc + 1 then s else s.setJrn { s.jrn with rdOld := old, rdAt := s.cyc + 1 }
    s.setF .jrnHostRdBlk 0 v
  else s.setB .jrnStatusPtrErr 0 true

end State

/-! ## Rows -/

/-- JRN_SPILL_WRITE (R347): `bad` says that the packet is found uncorrectable (R350). -/
def execJrnSpillWrite (bad : Bool) (s : State) : Host.Outcome State Fault Refusal :=
  perform (fun s =>
    if bad && s.headToSpill then s.jrnDropBad false (fun j => { j with head := j.head.drop 1 }) else s.jrnSpill) s

/-- JRN_TAIL_REFILL (R347). -/
def execJrnTailRefill (bad : Bool) (s : State) : Host.Outcome State Fault Refusal :=
  perform (fun s =>
    if bad && decide (s.jrn.tail.length < 64) && !(s.jrn.spill.isEmpty && s.jrn.head.isEmpty) then
      s.jrnDropBad (!s.jrn.spill.isEmpty) (fun j => if j.spill.isEmpty then { j with head := j.head.drop 1 } else { j with spill := j.spill.drop 1 })
    else s.jrnRefill) s

/-- JRN_DRAIN (R348). -/
def execJrnDrain (bad : Bool) (s : State) : Host.Outcome State Fault Refusal :=
  perform (fun s =>
    if bad && s.jrn.tail.head?.any s.jrnMayDrain then s.jrnDropBad false (fun j => { j with tail := j.tail.drop 1 })
    else if bad then s else s.jrnDrain) s

/-- JRN_HOST_RD_WRITE (R348). -/
def execJrnHostRdWrite (value : Word) (s : State) : Host.Outcome State Fault Refusal :=
  run (fun s => if s.hostPage 0x010 then s.jrnHostRd (slice value.toNat 0 24) else s) s

/-! ## JRN_CONFIG (R352) -/

/-- JRN_CONFIG. -/
def jrnConfigSpec : CmdSpec where
  opcode := 0x902
  kinds := [0]
  states := 0b100
  layout := List.flatten [[(16, 1), (17, 255)], whole 20 3, whole 24 8, whole 32 8, whole 40 7]
  absent := fun s c => rejIf (pByte c 46 != 0 && !s.variant.dram) (rejAbsent 0 0)
  range := fun s c =>
    let len := pNum c 40 4
    firstRej [
      rejIf (pNum c 20 3 == 0 || decide (64 * len < pNum c 20 3)) (rejRange 20),
      rejIf (pNum c 24 8 % 4096 != 0) (rejRange 24),
      rejIf (pNum c 32 8 % 8 != 0) (rejRange 32),
      rejIf (decide (len < 2) || decide (262144 < len)) (rejRange 40),
      rejIf (pByte c 46 != 0 &&
        decide (s.variant.dramStacks * 8192 < pNum c 44 2 + 16 * pByte c 46)) (rejRange 44),
      rejIf (decide (64 < pByte c 46)) (rejRange 46)]
  locked := fun s c => rejIf (pByte c 46 != 0 && ((List.range 2).any fun k =>
    overlaps (pNum c 44 2 * 0x100000, pNum c 44 2 * 0x100000 + pByte c 46 * 0x1000000) (k * 2 ^ 33, (k + 1) * 2 ^ 33)
      && !s.groupBusy (156 + k) && s.groupState (156 + k) != 0)) rejLocked
  conflict := fun s c =>
    let r := (pNum c 44 2 * 0x100000, pNum c 44 2 * 0x100000 + pByte c 46 * 0x1000000)
    if pByte c 46 = 0 then none
    else firstRej [
      firstRejOf (List.range 24) (fun u => rejIf (State.hits r (s.acqRegion u)) (rejConflict 6 u 0)),
      match s.streamHit r with | some n => rejConflict 1 n 0 | none => none]
  busy := fun s c => firstRej [
    rejIf (decide (0 < s.jrnResident) && !bit (pByte c 16) 0) rejBusy,
    rejIf (pByte c 46 != 0 && ((List.range 2).any fun k =>
      overlaps (pNum c 44 2 * 0x100000, pNum c 44 2 * 0x100000 + pByte c 46 * 0x1000000) (k * 2 ^ 33, (k + 1) * 2 ^ 33)
        && s.groupBusy (156 + k))) rejBusy]
  app := justDo fun s c =>
    let lost := s.jrnResident
    let s := (s.setJrn { s.jrn with head := [], spill := [], tail := [] }).jrnCount 0 0 0 0 lost
    let s := s.wr .jrnCfg 0 (ofBool (pByte c 46 != 0) + 256 * pByte c 17)
    let s := (s.wr .jrnWm 0 (pNum c 20 3)).wr .jrnHostBase 0 (pNum c 24 8)
    let s := (s.wr .jrnWpAddr 0 (pNum c 32 8)).wr .jrnHostLen 0 (pNum c 40 4)
    let s := (s.wr .jrnSpillBase 0 (if s.variant.dram then slice (pNum c 44 2) 0 14 else 0)).wr .jrnSpillLen 0 (pByte c 46)
    (s.wr .jrnHostWr 0 0).wr .jrnHostRd 0 0

def execJrnConfig (c : HostCmd) (s : State) : Host.Outcome State Fault Refusal := command jrnConfigSpec c s

end Sys2Proof.Machine
end

