-- ==== Sys2Proof/Machine/Tones.lean ====
section
/-!
DEFINITION. Receive channels and their read-out tones (spec/07, spec/08): groups and their flags, down-conversion and
decimation, the window, the projection, the discriminators, the result record, and the commands and rows of both
chapters. Group c is taken in pin cycle c, reaches the UNCORR tap in cycle c + 6 and the RAW tap and the mixer in cycle
c + 7 (R205, R224).
-/

namespace Sys2Proof.Machine

/-! ## Tone descriptor (R221) -/

def tdMode (d : BitVec 512) : Nat := slice d.toNat 0 2
def tdFrame (d : BitVec 512) : Nat := slice d.toNat 2 9
def tdOvrPol (d : BitVec 512) : Bool := bit d.toNat 11
def tdGuess (d : BitVec 512) : Nat := slice d.toNat 12 2
def tdEvtSel (d : BitVec 512) : Nat := slice d.toNat 14 2
/-- KLEN = KLEN_M1 + 1 (R226). -/
def tdKlen (d : BitVec 512) : Nat := slice d.toNat 16 10 + 1
def tdWinStart (d : BitVec 512) : Nat := slice d.toNat 32 24
def tdKbase (d : BitVec 512) : Nat := slice d.toNat 64 14
def tdKshift (d : BitVec 512) : Nat := slice d.toNat 80 5
def tdCshift (d : BitVec 512) : Nat := slice d.toNat 88 5
def tdMap (d : BitVec 512) (p : Nat) : Nat := slice d.toNat (96 + 2 * p) 2
def tdNhp (d : BitVec 512) : Nat := slice d.toNat 112 2
def tdA (d : BitVec 512) (i : Nat) : Int := sgn 16 (slice d.toNat (128 + 64 * i) 16)
def tdB (d : BitVec 512) (i : Nat) : Int := sgn 16 (slice d.toNat (144 + 64 * i) 16)
def tdC (d : BitVec 512) (i : Nat) : Int := sgn 32 (slice d.toNat (160 + 64 * i) 32)
def tdLscale (d : BitVec 512) : Int := sgn 16 (slice d.toNat 320 16)
def tdLshift (d : BitVec 512) : Nat := slice d.toNat 336 6
def tdLbias (d : BitVec 512) : Int := sgn 32 (slice d.toNat 352 32)
def tdUpper (d : BitVec 512) : Int := sgn 32 (slice d.toNat 384 32)
def tdLower (d : BitVec 512) : Int := sgn 32 (slice d.toNat 416 32)
def tdMinS (d : BitVec 512) : Nat := slice d.toNat 448 10

/-- Reserved fields of a descriptor, as (first bit, width). -/
def tdReserved : List (Nat × Nat) :=
  [(26, 6), (56, 8), (78, 2), (85, 3), (93, 3), (114, 14), (342, 10), (458, 22), (480, 32)]

/-- A descriptor breaks a rule of R238. -/
def tdBad (d : BitVec 512) : Bool :=
  tdReserved.any (fun f => slice d.toNat f.1 f.2 != 0) || tdGuess d == 3 || tdEvtSel d == 3
    || decide (16384 < tdKbase d + tdKlen d)
    || (tdMode d == 2 && (decide (tdUpper d ≤ tdLower d) || decide (tdKlen d ≤ tdMinS d)))

/-! ## Arithmetic -/

/-- One mixed sample (R223): the sample, and its phase. -/
def mixRx (x : Int) (p : Nat) : Int × Int := if x = 0 then (0, 0) else (x * ncoCos (theta p), -x * ncoSin (theta p))

/-- h_k of R225 for k below 32, which is h_(63 − k) too; the middle pair makes the sum of all 64 exactly 2^17. -/
def decimTap (k : Nat) : Int :=
  if k = 31 then 2 ^ 16 - (List.range 31).foldl (fun a i => a + (Config.decimTap i).toInt) 0 else (Config.decimTap k).toInt

/-- The decimator on the last 64 mixed samples, oldest first (R225). A constant span gives its exact value, as the sum
does. No output exceeds 1.25 × 2^21: the bound that the coefficients' own bound gives for |y| up to 2^28. -/
def decimate (l : List Int) : Int :=
  let a := l.headD 0
  if l.all (fun x => x == a) then satS 24 (roundUp (a * 2 ^ 17) 24)
  else
    let sum := (List.range 32).foldl (fun b k => b + decimTap k * (l.getD (63 - k) 0 + l.getD k 0)) 0
    clip (-2621440) 2621440 (satS 24 (roundUp sum 24))

/-- z with one product added (R227). -/
def project (z : Int × Int) (w : Word) (d : Int × Int) : Int × Int :=
  let a := sgn 16 w.toNat
  let b := sgn 16 (w.toNat / 65536)
  (z.1 + a * d.1 - b * d.2, z.2 + a * d.2 + b * d.1)

/-- λ after sample k, with whether it saturated (R230). -/
def likelihood (d : BitVec 512) (re : Int) (k : Nat) : Int × Bool :=
  satFlag 32 (roundUp (re * tdLscale d) (tdLshift d) - ((k : Int) + 1) * tdLbias d)

/-- State and CONF of the hyperplane test (R229). -/
def hyperplane (d : BitVec 512) (i q : Int) : Nat × Nat :=
  let m := (List.range (tdNhp d)).map fun k => tdA d k * i + tdB d k * q - tdC d k * 256
  let p := (List.range m.length).foldl (fun a k => a + ofBool (decide (0 ≤ m.getD k 0)) * 2 ^ k) 0
  let conf := match m.map (fun x => x.natAbs / 2 ^ tdCshift d) with
    | [] => 0
    | a :: t => min 255 (t.foldl min a)
  (tdMap d p, conf)

namespace State

/-! ## Receive channel states (R201) -/

def rxState (s : State) (r : Nat) : Nat := s.fld .rchRxStatusState r

/-- The channel's groups carry samples: LIVE, and its ADC not under calibration (R206, R214). -/
def rxValid (s : State) (r : Nat) : Bool := s.rxState r == 2 && !s.inSlice 2 r

/-! ## Over-range (R207 to R211) -/

/-- Cycle c lies within n cycles after a marked group's cycle. -/
def within (c : Nat) (mark : Option Nat) (n : Nat) : Bool :=
  match mark with
  | some m => decide (c ≤ m + n)
  | none => false

/-- Marked because of the tile partner (R210). -/
def rxPartner (s : State) (r c : Nat) : Bool :=
  let p := s.rchan (if r % 2 = 0 then r + 1 else r - 1)
  within c p.lastOwn 3 || within c p.lastClamp 5

/-- Flags of a group with samples that reaches the RAW tap in cycle c: OVR, OWN, CLAMP, PARTNER, INVALID from bit 0. -/
def rxMarks (s : State) (r c : Nat) : BitVec 5 :=
  let q := s.rchan r
  let own := q.lastOwn == some c
  let clamp := q.lastClamp == some c
  let part := s.rxPartner r c
  let ovr := own || part || within c q.lastOwn (s.fld .rchRxCfgOvrHold r) || within c q.lastClamp 32
  BitVec.ofNat 5 (ofBool ovr + 2 * ofBool own + 4 * ofBool clamp + 8 * ofBool part)

/-- Flags of a group: INVALID alone where no input was sampled (R214). -/
def rxFlags (s : State) (r c : Nat) (samples : List (BitVec 12)) : BitVec 5 :=
  if samples.isEmpty then 16 else s.rxMarks r c

/-- An input beyond full scale clips the group that is at the UNCORR tap in the present cycle (R207, R208). The clamp is
noted whatever the channel's state; a group without samples is not examined (R211). -/
def rxOverrange (s : State) (r : Nat) (clamp : Bool) : State :=
  if !s.hasRch r then s
  else
    let q := s.rchan r
    let c := s.cyc + 1
    let q := if clamp then { q with clampAt := c + 1 } else q
    if !s.rxValid r then s.setRchan r q
    else
      let again := q.lastOwn == some c
      let q := if again then q else { q with lastOwn := some c, newOwn := q.lastOwn != some s.cyc }
      let q := if clamp && q.lastClamp != some c then { q with lastClamp := some c, newClamp := q.lastClamp != some s.cyc }
        else q
      s.setRchan r q

/-- The traces of an OWN group, and of a CLAMP group, at the RAW tap in the present cycle (R211). -/
def rxTraces (s : State) (r : Nat) : State :=
  let q := s.rchan r
  let own := fun (s : State) =>
    ((s.bump .rchOvrGroups r).setB .rchRxStatusOverload r true).wr .rchOvrLastSt r (s.stOf (s.cyc - 7))
  let s := when (q.lastOwn == some s.cyc) own s
  let s := when (q.lastClamp == some s.cyc && q.newClamp)
    (fun s => (s.bump .rchClampCnt r).setB .rchRxStatusClampSeen r true) s
  when (q.lastOwn == some s.cyc && q.newOwn) (fun s => s.signal (prodOverload r)) s

/-- What the register page shows of the group at the RAW tap, and of the clamp, which acts in every state (R198). -/
def rxStatusNow (s : State) (r : Nat) (f : BitVec 5) : State :=
  let s := (s.setB .rchRxStatusOvrNow r (bit f.toNat 0)).setB .rchRxStatusClampNow r ((s.rchan r).clampAt == s.cyc + 1)
  when (bit f.toNat 3) (fun s => (s.bump .rchPartnerMark r).setB .rchRxStatusPartnerSeen r true) s

/-! ## The group (R206, R214) -/

/-- Sample i after interleave correction and clock trim. -/
def rxCorrect (s : State) (r : Nat) (samples : List (BitVec 12)) (i : Nat) : BitVec 12 :=
  let k := s.rd .rchIlv (16 * r + i)
  let t := s.rd .rchRxTrim r
  if k = 0 ∧ t = 0 then samples.getD i 0
  else Config.interleave (BitVec.ofNat 32 k) (BitVec.ofNat 32 t) samples i

/-- The 256-bit group of ST cycle c. -/
def groupWord (samples : List (BitVec 12)) (flags : BitVec 5) (c : Nat) : BitVec 256 :=
  BitVec.ofNat 256 ((List.range 16).foldl (fun a i => a + ((samples.getD i 0).toNat <<< (12 * i)))
    (flags.toNat <<< 192 + (c % 2 ^ 32) <<< 224))

/-! ## Tones -/

def tone (s : State) (r t : Nat) : Tone := SMap.get Tone.init (s.rchan r).tones t

def setTone (s : State) (r t : Nat) (y : Tone) : State :=
  s.updRchan r fun q => { q with tones := SMap.put Tone.init q.tones t y }

def toneDesc (s : State) (r t : Nat) : BitVec 512 := SMap.get 0 (s.rchan r).descs t

def kernelTap (s : State) (r k : Nat) : Word := SMap.get 0 (s.rchan r).kernel k

/-- The descriptor that the tone's window was opened with. -/
def ownDesc (s : State) (r t : Nat) : BitVec 512 := (s.tone r t).cutDesc.getD (s.toneDesc r t)

/-- All tones of present channels, as (channel, tone). -/
def allTones (s : State) : List (Nat × Nat) :=
  (List.range s.variant.rchCount).flatMap fun r => (List.range 16).map fun t => (r, t)

/-- Tones that take part in the present shot and are active (R239). -/
def activeTones (s : State) : List (Nat × Nat) := s.allTones.filter fun p => (s.tone p.1 p.2).active

/-- Tones whose window has opened and whose decision is still to come. -/
def openWindows (s : State) : List (Nat × Nat) := s.allTones.filter fun p => (s.tone p.1 p.2).opened.isSome

def toneOpen (s : State) (r t : Nat) (b : Bool) : State :=
  s.setF .rchToneStatusOpen r (setBit (s.fld .rchToneStatusOpen r) t b)

/-- The tone becomes active or inactive: `TONE_STATUS.PART` (R239). -/
def tonePartBit (s : State) (r t : Nat) (b : Bool) : State :=
  s.setF .rchToneStatusPart r (setBit (s.fld .rchToneStatusPart r) t b)

/-- The tone's window is over, closed at cycle e; its mixer runs on. A tone that the next shot's start fetch has already
named stays active for it. -/
def toneDone (s : State) (r t doneAt e : Nat) : State :=
  let y := s.tone r t
  let s := { s with shot := { s.shot with winEnd := max s.shot.winEnd e } }
  let next := y.due.isSome && y.opened.isSome
  let z : Tone := { Tone.init with hist := y.hist, chg := y.chg, demod := y.demod, doneAt := doneAt }
  if next then (s.setTone r t { z with active := true, due := y.due }).toneOpen r t false
  else ((s.setTone r t z).toneOpen r t false).tonePartBit r t false

/-- A window is closed by an abort (R228). -/
def toneAbort (s : State) (r t : Nat) : State := (s.toneDone r t 0 (s.cyc + 1)).bumpHeld .rchWinAbort r

/-- An EARLY window is closed by an abort (R228). The groups taken before the end of the cycle are still in the ADC's pipe:
what they bring is awaited, since a crossing among them closed the window before (R35). -/
def toneCut (s : State) (r t : Nat) : State :=
  let s := s.setTone r t { s.tone r t with
    cut := some s.cyc
    cutDesc := some (s.toneDesc r t)
    isOpen := false }
  ((s.toneOpen r t false).tonePartBit r t false).bumpHeld .rchWinAbort r

/-- A crossing shows that a window had closed before the abort that closed it too: its decision comes, and it is not counted
as closed by abort. -/
def toneUncut (s : State) (r t : Nat) : State :=
  let s := s.setTone r t { s.tone r t with cut := none }
  (s.tonePartBit r t true).unbump .rchWinAbort r

/-- The windows still open at the end of the cycle in which an abort takes effect close (R35, R228). A window not yet open
stays closed. -/
def closeWindows (s : State) : State :=
  forEach s.activeTones (fun p s =>
    let y := s.tone p.1 p.2
    match y.opened, y.endCyc with
    | some co, some e =>
      if e ≤ s.cyc then s
      else if tdMode (s.toneDesc p.1 p.2) = 2 && decide (co < s.cyc) then s.toneCut p.1 p.2
      else s.toneAbort p.1 p.2
    | _, _ => s.toneDone p.1 p.2 0 0) s

/-- State 3 is forced (R233). -/
def toneForced (d : BitVec 512) (flags : BitVec 16) : Bool :=
  bit flags.toNat 4 || (tdOvrPol d && bit flags.toNat 0) || bit flags.toNat 9

/-- A window sample: decimated sample d of cycle c enters the projection and the likelihood (R226 to R233). -/
def toneSample (s : State) (r t c : Nat) (fl : BitVec 16) (d : Int × Int) : State :=
  let y := s.tone r t
  let e := s.ownDesc r t
  match y.opened with
  | some co =>
    if !y.active || y.crossing.isSome || c < co || decide (co + tdKlen e ≤ c) then s
    else
      let k := c - co
      let tap := tdKbase e + k
      let unc := s.badIn 7 r (8 * t) (8 * t + 8) || s.badIn 8 r (tap / 2) (tap / 2 + 1)
      let z := project (y.zRe, y.zIm) (s.kernelTap r tap) d
      let early := tdMode e == 2
      let l := if early then likelihood e z.1 k else (0, false)
      let f := y.flags ||| fl ||| BitVec.ofNat 16 (512 * ofBool unc + 128 * ofBool l.2)
      let hit := early && decide (tdMinS e ≤ k) && !toneForced e f &&
        (decide (tdUpper e ≤ l.1) || decide (l.1 ≤ tdLower e))
      let y := { y with taken := y.taken + 1, zRe := z.1, zIm := z.2, lam := l.1, flags := f }
      let y := if hit then { y with crossing := some k, endCyc := some (c + 1) } else y
      let s := when unc taintTone (s.setTone r t y)
      match y.cut with
      | some a => if hit then s.toneUncut r t else if a ≤ c + 1 then s.toneDone r t 0 (a + 1) else s
      | none => s
  | none => s

/-- Group c of a channel enters a tone: it is mixed and decimated, offered at the DEMOD tap, and enters the window. -/
def toneGroup (s : State) (r t c : Nat) (gst : Nat) (xs : List Int) (fl : BitVec 5) (old : List (BitVec 5))
    (changed : List Nat) : State :=
  let e := s.toneDesc r t
  let f := s.frame true r (tdFrame e)
  let new := (List.range 16).map fun i => mixRx (xs.getD i 0) (framePhase f (gst + 2 * i))
  let y := s.tone r t
  let all := (if y.hist.isEmpty then List.replicate 48 (0, 0) else y.hist) ++ new
  let d := (decimate (all.map (·.1)), decimate (all.map (·.2)))
  let chg := changed.contains (tdFrame e)
  let keep := all.drop 16
  let chgs := (chg :: y.chg).take 3
  let or4 := old.foldl (· ||| ·) fl
  let words := (BitVec.ofNat 64 (demodWord d.1 d.2 or4.toNat false) :: y.demod).take 5
  let s := s.setTone r t { y with
    hist := if keep.all (fun p => p == (0, 0)) then [] else keep
    chg := if chgs.any id then chgs else []
    demod := if words.all (· == 0) then [] else words }
  let s := s.acqDemod r t (s.stOf (s.cyc - 11) / 32) (words.getD 4 0).toNat
  let first := y.opened == some c
  let fl16 := fun (b : BitVec 5) (h : Bool) => BitVec.ofNat 16 (b.toNat + 256 * ofBool h)
  s.toneSample r t c (if first then fl16 or4 (chg || y.chg.any id) else fl16 fl chg) d

/-- The flags at the UNCORR tap: as at RAW, but OWN is decided on the uncorrected codes (R214). -/
def uncorrFlags (fl : BitVec 5) (samples : List (BitVec 12)) : BitVec 5 :=
  BitVec.ofNat 5 (setBit fl.toNat 1 (samples.any fun x => x.toInt == 2047 || x.toInt == -2048))

/-- The group at the UNCORR tap turns out INVALID: what an over-range of its cycle has noted of it is void, as it is not
examined (R211). -/
def rxUnexamined (s : State) (r : Nat) : State :=
  let void := fun (m : Option Nat) => if m == some (s.cyc + 1) then none else m
  s.updRchan r fun q => { q with lastOwn := void q.lastOwn, lastClamp := void q.lastClamp }

/-- RX_GROUP: group c = cyc − 6 of a channel, from its sixteen uncorrected codes, is at the UNCORR tap (R205), and reaches
the RAW tap in the next cycle. -/
def rxGroup (s : State) (r : Nat) (samples : List (BitVec 12)) : State :=
  if !s.hasRch r || (s.rchan r).next.isSome then s
  else
    let xs := if s.rxValid r then samples else []
    let c := s.stOf (s.cyc - 6) / 32
    let s := if xs.isEmpty then s.rxUnexamined r else s
    let s := (s.updRchan r fun q => { q with next := some xs }).after (s.cyc + 1) (.rxRaw r)
    s.acqUncorr r c (groupWord xs (uncorrFlags (s.rxFlags r (s.cyc + 1) xs) xs) c)

/-- Group c = cyc − 7 of a channel reaches the RAW tap, its tones and the capture units there. -/
def rxRaw (s : State) (r : Nat) : State :=
  match (s.rchan r).next with
  | none => s
  | some xs =>
    let fl := s.rxFlags r s.cyc xs
    let gst := s.stOf (s.cyc - 7)
    let raw := if xs.isEmpty then [] else (List.range 16).map fun i => s.rxCorrect r xs i
    let s := (s.updRchan r fun q => { q with next := none }).rxTraces r
    let s := (s.rxStatusNow r fl).acqRaw r (gst / 32) (groupWord raw fl (gst / 32))
    let ops := ((s.frames true r).queue.filter (s.frameDue gst)).map (·.frame)
    let s := s.frameApply true r gst
    let bad := ((List.range 16).map fun t => tdFrame (s.toneDesc r t)).any fun k => s.badIn 6 r (2 * k) (2 * k + 2)
    let s := when (bad && s.activeTones.any (fun p => p.1 == r)) taintTone s
    let old := (s.rchan r).groups
    let xs := (List.range 16).map fun i => (raw.getD i 0).toInt
    let s := forEach (List.range 16) (fun t s => s.toneGroup r t (s.cyc - 7) gst xs fl old ops) s
    s.updRchan r fun q => { q with groups := (fl :: q.groups).take 3 }

/-! ## Window and decision (R226, R234 to R236) -/

/-- A tone's window opens in the present cycle. -/
def windowOpen (s : State) (r t : Nat) : State :=
  let y := s.tone r t
  if y.active && y.due == some s.cyc && !s.windowHeld r s.cyc then
    let e := s.cyc + tdKlen (s.toneDesc r t)
    (s.setTone r t { y with
      due := none, opened := some s.cyc, isOpen := true, endCyc := some e, tag := BitVec.ofNat 16 s.runTag }).toneOpen r t true
  else s

/-- A tone's window has closed by the present cycle: at its end, or by a crossing. -/
def windowClose (s : State) (r t : Nat) : State :=
  let y := s.tone r t
  match y.endCyc with
  | some e => if y.isOpen && decide (e ≤ s.cyc) then (s.setTone r t { y with isOpen := false }).toneOpen r t false else s
  | none => s

/-- The tone's decision cycle is the present one (R234). -/
def toneDue (s : State) (r t : Nat) : Bool :=
  s.hasRch r && (s.tone r t).active && (s.tone r t).cut.isNone && ((s.tone r t).endCyc.map (· + 20) == some s.cyc)

/-- What a closed window yields (R227 to R236): state, EARLY, GUESS, CONF, final FLAGS, I and Q. -/
structure Verdict where
  state : Nat
  early : Bool
  guess : Bool
  conf : Nat
  flags : Nat
  i : Int
  q : Int
  deriving DecidableEq, Repr

def verdict (e : BitVec 512) (y : Tone) : Verdict :=
  let i := satFlag 24 (roundUp y.zRe (tdKshift e))
  let q := satFlag 24 (roundUp y.zIm (tdKshift e))
  let f := y.flags.toNat ||| (64 * ofBool (i.2 || q.2))
  let lconf := min 255 (y.lam.natAbs / 256)
  if tdMode e = 3 then ⟨3, false, false, 0, f ||| 0x800, i.1, q.1⟩
  else if toneForced e (BitVec.ofNat 16 f) && y.crossing.isNone then ⟨3, false, false, 0, f ||| 0x400, i.1, q.1⟩
  else if tdMode e = 1 then
    let h := hyperplane e i.1 q.1
    ⟨h.1, false, false, h.2, f, i.1, q.1⟩
  else if y.crossing.isSome then ⟨if tdUpper e ≤ y.lam then 1 else 0, true, false, lconf, f, i.1, q.1⟩
  else if tdGuess e = 1 then ⟨if 0 ≤ y.lam then 1 else 0, false, true, lconf, f, i.1, q.1⟩
  else if tdGuess e = 2 then
    let h := hyperplane e i.1 q.1
    ⟨h.1, false, true, h.2, f, i.1, q.1⟩
  else ⟨3, false, false, lconf, f, i.1, q.1⟩

/-- The result record (R236). -/
def resultRecord (v : Verdict) (tag slot ticks epoch : Nat) : BitVec 128 :=
  BitVec.ofNat 128 (tag + slot <<< 16 + v.state <<< 28 + (ofBool v.early) <<< 30 + (ofBool v.guess) <<< 31
    + (unsgn 24 v.i) <<< 32 + (unsgn 24 v.q) <<< 56 + ticks <<< 80 + v.conf <<< 96 + v.flags <<< 104 + epoch <<< 120)

/-- TONE_DECISION: the record, the decision and the event of a window that closed 20 cycles ago. -/
def toneDecision (s : State) (r t : Nat) : State :=
  let y := s.tone r t
  let e := s.ownDesc r t
  let slot := 16 * r + t
  let v := verdict e y
  let tag := y.tag.toNat
  let ticks := match y.opened, y.endCyc with | some a, some b => 32 * (b - a) | _, _ => 0
  let decides := tdMode e != 3
  let rec_ := resultRecord v tag slot ticks (s.toneEpoch slot)
  let s := s.windowClose r t
  let s := when decides (fun s => s.decAccept slot (v.state + 8 * ofBool v.early) tag s.cyc) s
  let s := s.jrnRecord slot rec_
  let s := s.feedAll r rec_
  let s := when v.early (fun s => s.bump .rchDecEarly r) s
  let s := when (decides && v.state == 3) (fun s => s.bump .rchDecUnknown r) s
  let s := when (bit v.flags 10) (fun s => s.bump .rchDecForced r) s
  let s := when (slice v.flags 5 3 != 0) (fun s => s.bump .rchToneSat r) s
  let s := when (decides && (tdEvtSel e == 2 || (tdEvtSel e == 1 && v.early))) (fun s => s.signal (prodDecided slot)) s
  let s := s.toneDone r t (s.cyc + 1) (y.endCyc.getD 0)
  when (s.jrn.closing.isSome && s.openWindows.isEmpty) (fun s => s.after (s.cyc + 1) .jrnCommit) s

/-! ## Rows -/

/-- The channel's over-range extension has ended (R209). -/
def ovrHoldExpire (s : State) (r : Nat) : State :=
  if s.rxValid r && bit (s.rxMarks r s.cyc).toNat 0 then s else s.setB .rchRxStatusOvrNow r false

/-- A settling channel becomes LIVE within its bound (R201). -/
def rxSettleDone (s : State) (r : Nat) : State :=
  if s.rxState r == 1 && decide (s.cyc ≤ (s.rchan r).settle) then
    (s.setF .rchRxStatusState r 2).updRchan r fun q => { q with settle := s.cyc }
  else s

end State

/-- RX_OVERRANGE (R207): for the group at the UNCORR tap in its cycle, before that cycle's RX_GROUP rows. -/
def execRxOverrange (rch : Fin 24) (clamp : Bool) (s : State) : Host.Outcome State Fault Refusal :=
  perform (fun s => s.rxOverrange rch clamp) s

/-- OVR_HOLD_EXPIRE (R209). -/
def execOvrHoldExpire (rch : Fin 24) (s : State) : Host.Outcome State Fault Refusal :=
  run (fun s => s.ovrHoldExpire rch) s

/-- RX_SETTLE_DONE (R201). -/
def execRxSettleDone (rch : Fin 24) (s : State) : Host.Outcome State Fault Refusal :=
  run (fun s => s.rxSettleDone rch) s

/-- RX_GROUP (R204, R205, R214, R223 to R227). -/
def execRxGroup (rch : Fin 24) (samples : List (BitVec 12)) (ecc : Ecc) (s : State) : Host.Outcome State Fault Refusal :=
  perform (fun s => (s.eccSeen ecc).rxGroup rch samples) s

/-- TONE_WINDOW_OPEN (R226). -/
def execToneWindowOpen (rch : Fin 24) (tone : Fin 16) (s : State) : Host.Outcome State Fault Refusal :=
  run (fun s => s.windowOpen rch tone) s

/-- TONE_WINDOW_CLOSE (R226, R231). -/
def execToneWindowClose (rch : Fin 24) (tone : Fin 16) (s : State) : Host.Outcome State Fault Refusal :=
  run (fun s => s.windowClose rch tone) s

/-! ## RX_CONFIG (R202) -/

/-- What RX_CONFIG does to the channel's state (R201, R202). -/
def State.rxConfigure (s : State) (r : Nat) (en mode : Bool) (hold : Nat) : State :=
  let changed := s.flag .rchRxCfgMode r != mode
  let now := s.rxState r
  let s := s.wr .rchRxCfg r (ofBool en + 2 * ofBool mode + 256 * hold)
  let settle := fun (s : State) (c : Nat) =>
    (s.setF .rchRxStatusState r 1).updRchan r fun q => { q with settle := c }
  if !en then s.setF .rchRxStatusState r 0
  else if now = 0 then settle s (s.cyc + 12500)
  else if changed then settle s (if now = 1 then max (s.rchan r).settle (s.cyc + 3125) else s.cyc + 3125)
  else s

def rxConfigSpec : CmdSpec where
  opcode := 0x400
  kinds := [2]
  states := 0b1100
  layout := [(16, 3), (17, 63)]
  busy := fun s c => rejIf (s.inSlice 2 (indexOf c)) rejBusy
  app := justDo fun s c => s.rxConfigure (indexOf c) (bit (pByte c 16) 0) (bit (pByte c 16) 1) (pBits c 17 0 6)

def execRxConfig (c : HostCmd) (s : State) : Host.Outcome State Fault Refusal := command rxConfigSpec c s

/-! ## TONE_WRITE, KERNEL_WRITE, TONE_READ (R238, R239) -/

/-- A tone of the channel is active, also in the cycle of the start fetch before the fetch and in its decision cycle after
the decision (R239). -/
def State.toneBusy (s : State) (r t : Nat) : Bool :=
  let y := s.tone r t
  (y.active && y.cut.isNone) || y.doneAt == s.cyc + 1
    || (s.shot.accepted == some (s.cyc + 31) && s.tonePart (16 * r + t) && tdMode (s.toneDesc r t) != 0)

/-- Tone descriptor i of the buffer. -/
def toneEntry (c : HostCmd) (i : Nat) : BitVec 512 := BitVec.ofNat 512 (bufEntry c 64 i)

def toneWriteSpec : CmdSpec where
  opcode := 0x401
  kinds := [2]
  states := 0b11100
  layout := List.flatten [[(16, 255), (17, 255), (18, 1)], whole 24 8]
  reads := fun _ _ => true
  range := fun _ c => firstRej [
    rejIf (decide (15 < pByte c 16)) (rejRange 16),
    rejIf (pByte c 17 == 0 || decide (16 < pByte c 16 + pByte c 17)) (rejRange 17),
    bufAligned c 24,
    firstRejOf (List.range (pByte c 17)) fun i => rejIf (tdBad (toneEntry c i)) (rejRangeAt (pByte c 16 + i) 24)]
  locked := fun s c => firstRej [s.bankLocked (96 + indexOf c),
    firstRejOf (List.range (pByte c 17)) fun i =>
      rejIf (s.toneBusy (indexOf c) (pByte c 16 + i)) (rejLockedAt (pByte c 16 + i))]
  busy := fun s c => s.bankBusy (96 + indexOf c)
  app := justDo fun s c =>
    let r := indexOf c
    forEach (List.range (pByte c 17)) (fun i s =>
      let t := pByte c 16 + i
      let s := s.updRchan r fun q => { q with descs := SMap.put 0 q.descs t (toneEntry c i) }
      let s := s.cleanBank 7 r (8 * t) (8 * t + 8)
      when (bit (pByte c 18) 0) (fun s =>
        let k := 4 * r + t / 4
        s.wr .rchToneEpoch k (place (s.rd .rchToneEpoch k) (8 * (t % 4)) 8 (s.toneEpoch (16 * r + t) + 1))) s) s

def execToneWrite (c : HostCmd) (s : State) : Host.Outcome State Fault Refusal := command toneWriteSpec c s

/-- A tap lies in the range of an active tone of the channel. -/
def State.tapBusy (s : State) (r k : Nat) : Bool :=
  (List.range 16).any fun t =>
    let d := s.toneDesc r t
    s.toneBusy r t && decide (tdKbase d ≤ k) && decide (k < tdKbase d + tdKlen d)

def kernelWriteSpec : CmdSpec where
  opcode := 0x402
  kinds := [2]
  states := 0b11100
  layout := List.flatten [whole 16 4, whole 24 8]
  reads := fun _ _ => true
  range := fun _ c => firstRej [spanRange 16384 c, bufAligned c 24]
  locked := fun s c => firstRej [s.bankLocked (96 + indexOf c),
    firstRejOf (List.range (tblCount c)) fun i =>
      rejIf (s.tapBusy (indexOf c) (tblFirst c + i)) (rejLockedAt (tblFirst c + i))]
  busy := fun s c => s.bankBusy (96 + indexOf c)
  app := justDo fun s c =>
    let r := indexOf c
    let s := forEach (List.range (tblCount c)) (fun i s => s.updRchan r fun q =>
      { q with kernel := SMap.put 0 q.kernel (tblFirst c + i) (BitVec.ofNat 32 (bufEntry c 4 i)) }) s
    s.cleanBank 8 r (tblFirst c / 2) ((tblFirst c + tblCount c + 1) / 2)

def execKernelWrite (c : HostCmd) (s : State) : Host.Outcome State Fault Refusal := command kernelWriteSpec c s

def toneReadSpec : CmdSpec where
  opcode := 0x403
  kinds := [3]
  states := 0b11100
  layout := whole 24 8
  range := fun _ c => bufAligned c 24
  locked := fun s c => s.bankLocked (96 + indexOf c / 16)
  busy := fun s c => s.bankBusy (96 + indexOf c / 16)
  app := justDo fun s c =>
    s.emit (.hostWrite (BitVec.ofNat 64 (pNum c 24 8)) (leBytes 64 (s.toneDesc (indexOf c / 16) (indexOf c % 16)).toNat))

def execToneRead (c : HostCmd) (s : State) : Host.Outcome State Fault Refusal := command toneReadSpec c s

end Sys2Proof.Machine
end

