-- ==== Sys2Proof/Machine/LinkRows.lean ====
section
/-!
DEFINITION. The receiver of a Basord Link port and the rows of spec/16: windows and their CHECK, credits, replay, the
messages that travel, bring-up, lost lanes, re-maps and sleep, adaptation, eye scans, audits, and the link's commands.
A window's blocks are delivered in CHECK_WINDOW; the row of each kind then acts on the oldest delivered block of its kind.
-/

namespace Sys2Proof.Machine

/-! ## Receiving (R432) -/

/-- a is at or below b among 16-bit sequence numbers. -/
def seqLe (a b : Nat) : Bool := decide ((b + 65536 - a) % 65536 < 32768)

/-- A REPLAY START. -/
def blkStart (b : Dword) : Bool := blkType b == 5 && blkField b 52 4 == 1

/-- The other control blocks that a receiver acts on: CREDIT, REQUEST, LANE_STATUS, AUDIT. -/
def blkActs (b : Dword) : Bool :=
  blkType b == 4 || (blkType b == 5 && blkField b 52 4 == 0) || (blkType b == 6 && [3, 4].contains (blkField b 52 4))

/-- A block of a window that passed: a protected copy is delivered in sequence or discarded; a START that does not lie
ahead re-aligns the count; the other unprotected blocks are kept for their rows. -/
def recvBlock (x : Port) (b : Dword) : Port :=
  let c := x.cnt
  if blkProtected b then
    let c := { c with rxCopies := c.rxCopies + 1 }
    if x.stall then { x with cnt := { c with discarded := c.discarded + 1 } }
    else if x.rxSeq = x.rxNext then
      let x := { x with
        cnt := { c with delivered := c.delivered + 1 }, rxNext := (x.rxNext + 1) % 65536, rxSeq := (x.rxSeq + 1) % 65536,
        inbox := x.inbox ++ [b], creditDue := true, carried := x.carried || blkType b == 1 }
      if blkBulk b then { x with giveBulk := (x.giveBulk + 1) % 4096 } else { x with giveDec := (x.giveDec + 1) % 4096 }
    else { x with cnt := { c with discarded := c.discarded + 1 }, rxSeq := (x.rxSeq + 1) % 65536 }
  else if blkStart b then
    let q := blkField b 36 16
    if seqLe q x.rxNext then { x with rxSeq := q, stall := false, ctl := x.ctl ++ [b] } else x
  else if blkActs b then { x with ctl := x.ctl ++ [b] }
  else x

/-- A block that stands for itself: its type is not reserved (R428). -/
def blkKnown (b : Dword) : Bool := decide (blkType b ≤ 6)

/-- The receiver's expected number (R432): that of its next copy; while it discards, the first it has not delivered, which
its REQUEST names (DEDUCED, log entry 7). A window that holds a START and no protected block carries the number that the
START sets. -/
def seqWanted (x : Port) (l : List Dword) : Nat :=
  match l.any blkProtected, l.find? blkStart with
  | false, some b => if seqLe (blkField b 36 16) x.rxNext then blkField b 36 16 else x.rxNext
  | _, _ => if x.stall then x.rxNext else x.rxSeq

/-- A window that passed acts: a START after the other blocks, since the block it names follows from the next cycle
(R435). -/
def recvWindow (x : Port) (l : List Dword) : Port :=
  (l.filter (fun b => !blkStart b) ++ l.filter blkStart).foldl recvBlock x

namespace State

/-- CHECK_WINDOW (R432): the covered blocks with their lanes, as R431 orders them, and the lane of the CHECK; `badLane`
is a lane on which a covered block had an invalid header; `crc` is none when no CHECK came within 4 cycles. A failed window
is charged to the lane whose header failed or whose block has a reserved TYPE (R428), else to the CHECK's. -/
def checkWindow (s : State) (p lane : Nat) (window : List (Nat × Dword)) (badLane : Option Nat) (seq : Nat)
    (crc : Option Nat) : State :=
  if !s.portUp p then s
  else
    let x := s.port p
    let blocks := window.map (·.2)
    let bad := badLane <|> (window.find? (fun b => !blkKnown b.2)).map (·.1)
    let pass := bad.isNone && crc == some (linkCrc blocks) && seqWanted x blocks == seq
    let copies := (blocks.filter blkProtected).length
    let x := if copies = 0 then x else { x with busyAt := s.cyc, audited := false }
    if pass then s.setPort p (recvWindow x blocks)
    else
      let c := x.cnt
      let n := BitVec.ofNat 48 copies
      let s := s.bump .bllCheckFail (4 * p + bad.getD lane)
      s.setPort p { x with
        cnt := { c with rxCopies := c.rxCopies + n, discarded := c.discarded + n }, reqDue := true, stall := true }

/-- The oldest confirmed control block that a row stands for is taken. -/
def takeCtl (s : State) (p : Nat) (want : Dword → Bool) (f : Dword → State → State) : State :=
  let x := s.port p
  match x.ctl.find? want with
  | some b => if s.portUp p || s.portState p == 1 then f b (s.setPort p { x with ctl := x.ctl.erase b }) else s
  | none => s

/-! ## Credits and replay (R434 to R436) -/

/-- CREDIT: blocks up to ACK_SEQ are acknowledged, and credits return; with INIT = 1 it sets both counts (R441). -/
def creditRx (s : State) (p : Nat) : State :=
  s.takeCtl p (fun b => blkType b == 4) (fun b s =>
    let x := s.port p
    let dec := blkField b 28 12
    let bulk := blkField b 16 12
    if bit b.toNat 15 then s.setPort p { x with gotDec := dec, gotBulk := bulk }
    else
      let ack := blkField b 40 16
      let left := match x.unacked.findIdx? (fun u => u.1 == ack) with
        | some i => x.unacked.drop (i + 1)
        | none => x.unacked
      let got := x.unacked.length - left.length
      let rd := BitVec.ofNat 48 ((dec + 4096 - x.gotDec) % 4096)
      let rb := BitVec.ofNat 48 ((bulk + 4096 - x.gotBulk) % 4096)
      let c := x.cnt
      s.setPort p { x with
        unacked := left, resend := x.resend.filter left.contains, gotDec := dec, gotBulk := bulk,
        ackAt := if got = 0 then x.ackAt else s.cyc, tries := if got = 0 then x.tries else 0,
        busyAt := if got = 0 then x.busyAt else s.cyc,
        cnt := { c with
          acked := c.acked + BitVec.ofNat 48 got, returnedDec := c.returnedDec + rd, outDec := c.outDec - rd,
          returnedBulk := c.returnedBulk + rb, outBulk := c.outBulk - rb } })

/-- A port that cannot replay goes DOWN (R436). -/
def replayFail (s : State) (p : Nat) : State := (s.setB .blpStatusReplayFail p true).portDown p

/-- The transmitter will answer with START at q on its map of that moment. -/
def replayFromSeq (s : State) (p q : Nat) : State :=
  let map := match (s.port p).startDue with | some (_, m) => m | none => s.txMap p
  s.updPort p fun x => { x with startDue := some (some q, map) }

/-- REPLAY REQUEST: START at its SEQ and retransmission from there; `bad` says that an entry to be resent is
uncorrectable. -/
def replayRequestRx (s : State) (p : Nat) (bad : Bool) : State :=
  s.takeCtl p (fun b => blkType b == 5 && blkField b 52 4 == 0) (fun b s =>
    let q := blkField b 36 16
    if bad && !(replayFrom (s.port p) q).isEmpty then s.replayFail p else s.replayFromSeq p q)

/-- 256 cycles without advance: the oldest unacknowledged block is replayed, 16 times at most. -/
def replayTimeout (s : State) (p : Nat) (bad : Bool) : State :=
  let x := s.port p
  match x.unacked with
  | (q, _) :: _ =>
    if s.portUp p && decide (x.ackAt + 256 ≤ s.cyc) then
      if bad || decide (16 ≤ x.tries) then s.replayFail p
      else (s.setPort p { x with tries := x.tries + 1, ackAt := s.cyc }).replayFromSeq p q
    else s
  | [] => s

/-- Lanes of the receive map on which the receiver holds lock. -/
def rxLive (s : State) (p : Nat) : Nat := s.rxMap p &&& (s.port p).rxOk

/-- REPLAY START confirmed: the receive map follows; a re-stripe of the receiver ends, unless the map still has a lane that
has been lost since (R452); pending receiver sleeps of lanes outside the map take effect, and a lane that the peer's transmitter leaves by a planned
re-map is out of RX_OK until it is locked again (R432, R444 to R446). -/
def replayStartRx (s : State) (p : Nat) : State :=
  s.takeCtl p (fun b => blkType b == 5 && blkField b 52 4 == 1) (fun b s =>
    let map := blkField b 32 4
    let old := s.rxLive p
    let s := s.setF .blpStatusRxMap p map
    let s := forEach (List.range 4) (fun l s =>
      let n := 4 * p + l
      if bit map l then s.laneJoin n
      else if s.flag .bllStatusRxSleepPend n then
        ((s.setB .bllStatusRxSleepPend n false).setF .bllStatusState n 4).updPort p fun x =>
          { x with rxOk := setBit x.rxOk l false }
      -- a planned re-map leaves out a lane whose transmitter goes to electrical idle: block lock is gone
      else if bit old l && !(s.port p).rxStripe then s.updPort p fun x => { x with rxOk := setBit x.rxOk l false }
      else s) s
    let s := when ((s.port p).rxStripe && map &&& (15 - (s.port p).rxOk) == 0) (fun s =>
      let s := s.bump .blpRestripeCnt p
      when (!(s.port p).txStripe) (fun s => (s.setF .blpStatusState p 2).irq 6) (s.updPort p fun x => { x with rxStripe := false })) s
    s.laneChange p old map)

/-! ## Lost lanes, joins and sleep (R443 to R446) -/

/-- DECISION blocks travel over the port: a valid export entry, or an import slot's source, has its route there. -/
def portDecisions (s : State) (p : Nat) : Bool :=
  s.dec.export_.any (fun e => bit e.2.toNat 48 && s.routeTo (slice e.2.toNat 32 6) == some p)
    || s.dec.slots.any (fun x => decide (1024 ≤ x.1) && x.2.assigned && s.routeTo x.2.owner == some p)
    || (s.port p).carried

/-- A receiver that is not asleep declares a lane lost: re-stripe, or the port goes DOWN with its last lane. A lane that
the receive map does not hold is lost and reported without a re-stripe (DEDUCED, log entry 7: no START could end it). -/
def laneLost (s : State) (n : Nat) : State :=
  let p := n / 4
  let l := n % 4
  if s.portUp p && bit (s.port p).rxOk l && !s.rxAsleep n then
    let old := s.rxLive p
    let s := ((s.setF .bllStatusState n 3).bump .bllLostCnt n).setB .bllStatusHdrOk n false
    let s := s.updPort p fun x => { x with rxOk := setBit x.rxOk l false, statusDue := true }
    if !bit old l then s
    else if s.rxLive p = 0 then s.portDown p
    else
      let s := when (s.portDecisions p) (fun s => s.setB .glbFbStatusLatencyExcursion 0 true) s
      let s := when (s.portState p != 3) (fun s => (s.setF .blpStatusState p 3).irq 6) s
      let s := s.updPort p fun x => { x with rxStripe := true }
      s.laneChange p old (s.rxLive p)
  else s

/-- The transmit map that a planned re-map aims at: live lanes that the peer receives and that are not put to sleep. -/
def wantedMap (s : State) (p : Nat) : Nat :=
  ((s.port p).txLive &&& (s.port p).peerOk) &&& (15 - ((List.range 4).filter (fun l => s.flag .bllSleepTxSleep (4 * p + l))
    |>.map (fun l => 2 ^ l) |>.foldl (· + ·) 0))

/-- A planned re-map to the wanted map, where it differs from the map in force (R445). -/
def planMap (s : State) (p : Nat) : State :=
  let m := s.wantedMap p
  let x := s.port p
  if !s.portUp p || m = 0 then s
  else
    match x.startDue with
    | some (some q, _) => s.setPort p { x with startDue := some (some q, m) }
    | _ => s.setPort p { x with startDue := if m = s.txMap p then none else some (none, m) }

/-- LANE_STATUS: lanes of the map that the peer has lost leave it by a re-stripe; live lanes that it receives join. `bad`
says that an entry to be resent is uncorrectable, which takes the port DOWN (R436). -/
def laneStatusRx (s : State) (p : Nat) (bad : Bool) : State :=
  s.takeCtl p (fun b => blkType b == 6 && blkField b 52 4 == 3) (fun b s =>
    let ok := blkField b 48 4
    let s := s.updPort p fun x => { x with peerOk := ok &&& x.txLive }
    let map := s.txMap p
    if map &&& ok = 0 then s.portDown p
    else if map &&& (15 - ok) = 0 then s.planMap p
    else if bad && !(s.port p).unacked.isEmpty then s.replayFail p
    else
      let x := s.port p
      let seq := match x.unacked with | (q, _) :: _ => q | [] => x.txSeq
      let s := when (s.portState p != 3) (fun s => (s.setF .blpStatusState p 3).irq 6) s
      s.setPort p { x with txStripe := true, startDue := some (some seq, map &&& ok) })

/-- A host write to a page of a lane reaches it. -/
def hostLane (s : State) (n : Nat) : Bool := s.hostPage (0x24 + n) && s.hasPort (n / 4)

/-- TX_SLEEP set (R446): ignored on the last lane of the map. -/
def txSleepSet (s : State) (n : Nat) : State :=
  let p := n / 4
  if !s.hostLane n then s
  else if s.portUp p && s.txMap p = 2 ^ (n % 4) then s.setB .blpStatusSleepErr p true
  else
    let s := s.setB .bllSleepTxSleep n true
    if s.portUp p && bit (s.txMap p) (n % 4) && s.wantedMap p = 0 then
      (s.setB .bllSleepTxSleep n false).setB .blpStatusSleepErr p true
    else
      -- a lane outside the map goes to electrical idle at once
      let s := when (s.portUp p && !bit (s.txMap p) (n % 4) && [2, 3].contains (s.fld .bllStatusState n)) (fun s => s.txIdle n) s
      s.planMap p

def txSleepClear (s : State) (n : Nat) : State :=
  if s.hostLane n then (s.setB .bllSleepTxSleep n false).planMap (n / 4) else s

/-- RX_SLEEP set (R446): pending while the peer's map includes the lane. -/
def rxSleepSet (s : State) (n : Nat) : State :=
  let p := n / 4
  if !s.hostLane n then s
  else
    let s := s.setB .bllSleepRxSleep n true
    if !s.portUp p then s
    else if bit (s.rxMap p) (n % 4) then s.setB .bllStatusRxSleepPend n true
    else if s.fld .bllStatusState n = 3 then s
    else (s.setF .bllStatusState n 4).updPort p fun x => { x with rxOk := setBit x.rxOk (n % 4) false }

def rxSleepClear (s : State) (n : Nat) : State :=
  if s.hostLane n then (s.setB .bllSleepRxSleep n false).setB .bllStatusRxSleepPend n false else s

/-- A woken transmitter is live and rejoins by a planned re-map once the peer reports the lane, also where the lane's own
receiver is lost; a receiver that has been woken, or whose peer's transmitter has, holds block lock again and reports its lane
(R446). A lane that is DOWN, lost or in training comes back by LINK_UP alone. -/
def laneWake (s : State) (n : Nat) (rx : Bool) : State :=
  let p := n / 4
  let l := n % 4
  let st := s.fld .bllStatusState n
  if !s.portUp p then s
  else if rx then
    if !([2, 4].contains st) || s.flag .bllSleepRxSleep n || bit (s.port p).rxOk l then s
    else
      let s := when (!s.flag .bllSleepTxSleep n) (fun s => s.setF .bllStatusState n 2) s
      s.updPort p fun x => { x with rxOk := setBit x.rxOk l true, statusDue := true }
  else if !([2, 3, 4].contains st) || s.flag .bllSleepTxSleep n || bit (s.port p).txLive l then s
  else
    let s := when (st == 4 && !s.rxAsleep n) (fun s => s.setF .bllStatusState n 2) s
    (s.updPort p fun x => { x with
      txLive := setBit x.txLive l true, laneBusy := SMap.put 0 x.laneBusy l s.cyc }).planMap p

/-! ## Audits (R451) -/

/-- AUDIT: the peer's deliveries against our acknowledged blocks. -/
def auditRx (s : State) (p : Nat) : State :=
  s.takeCtl p (fun b => blkType b == 6 && blkField b 52 4 == 4) (fun b s =>
    if BitVec.ofNat 48 (blkField b 0 48) = (s.port p).cnt.acked then s
    else (s.blRebase p).setB .blpStatusAuditFail p true)

/-- A port has been idle for 64 cycles: one AUDIT, and the check of its credits. -/
def portIdle (s : State) (p : Nat) : State :=
  let x := s.port p
  if s.portUp p && x.unacked.isEmpty && !x.audited && decide (x.busyAt + 64 ≤ s.cyc) then
    let s := (s.setPort p { x with audited := true, auditDue := true }).bump .blpAuditCnt p
    if x.cnt.outDec = 0 && x.cnt.outBulk = 0 then s
    else
      let s := s.updPort p fun x => { x with cnt := { x.cnt with outDec := 0, outBulk := 0 } }
      (s.credRebase p).setB .blpStatusAuditFail p true
  else s

/-! ## Messages (R265 to R268, R438, R439)

Messages for this device's channels and slots reach them at the end of the cycle, after what the host does in it, in the
order of R87 and R126, and meet the epochs that then are in force (R270). -/

/-- What another device's DECISION block does when it is for this device (R267, R268). -/
def decisionArrives (s : State) (b : Dword) : State :=
  let k := blkField b 32 12
  let x := s.slot k
  if k < 1024 || !x.assigned || x.owner != blkField b 44 6 || x.epoch.toNat != blkField b 24 8 then s.decStale k
  else s.decAccept k (blkField b 4 4) (blkField b 8 16) s.cyc

/-- A message for another device goes on with HOPS one higher, unless that would reach 15, or it has no way on but back
(R265); the caller counts what is dropped. -/
def forward (s : State) (p : Nat) (dest hops : Nat) (blocks : List Dword) (bulk : Bool) (drop : State → State) : State :=
  match s.routeTo dest with
  | some q => if q = p || 15 ≤ hops + 1 then drop s else s.sendBlocks q bulk blocks
  | none => drop s

def decisionBlockRx (s : State) (p : Nat) : State :=
  let x := s.port p
  match x.inbox.find? (fun b => blkType b == 1) with
  | none => s
  | some b =>
    let s := s.setPort p { x with inbox := x.inbox.erase b }
    if blkField b 50 6 = s.deviceId then s.after s.cyc (.decBlock p b)
    else s.forward p (blkField b 50 6) (blkField b 0 4) [b + 1] false (fun s => s.bump .glbDecFwdDrop)

/-- The oldest whole MIRROR message of a virtual channel: its first block and its continuation blocks. -/
def mirrorMessage (x : Port) (bulk : Bool) : Option (Dword × List Dword) :=
  match x.inbox.filter (fun b => blkType b == 3 && blkBulk b == bulk) with
  | b :: rest => if blkField b 37 3 ≤ rest.length then some (b, rest.take (blkField b 37 3)) else none
  | [] => none

/-- The bits that the continuation blocks carry. -/
def mirrorBits (l : List Dword) : Nat := l.foldr (fun b n => blkField b 0 56 + n <<< 56) 0

/-- A MIRROR message of the kinds a row stands for acts: forwarded, discarded for an absent channel or a reserved kind, or
performed (R439). -/
def mirrorRow (s : State) (p : Nat) (bulk : Bool) (kinds : Nat → Bool) (act : Nat → Nat → State → Option State) : State :=
  let x := s.port p
  match mirrorMessage x bulk with
  | none => s
  | some (b, cont) =>
    if kinds (blkField b 40 4) then
      let s := s.setPort p { x with inbox := (b :: cont).foldl (fun l c => l.erase c) x.inbox }
      if blkCont b then s.bump .blpMirDrop p
      else if blkField b 50 6 ≠ s.deviceId then
        s.forward p (blkField b 50 6) (blkField b 33 4) ((b + BitVec.ofNat 64 (2 ^ 33)) :: cont) bulk
          (fun s => s.bump .blpMirFwdDrop p)
      else (act b.toNat (mirrorBits cont) s).getD (s.bump .blpMirDrop p)
    else s

/-- EVENT, and any reserved kind on the DECISION channel. -/
def mirrorEvent (s : State) (p : Nat) : State :=
  s.mirrorRow p false (fun k => k != 1) (fun b _ s =>
    if slice b 40 4 = 0 then some (s.fire (prodRevt (slice b 29 4))) else none)

/-- ASYNC: an async request, checked against the role epoch (R114, R269). -/
def mirrorAsync (s : State) (p : Nat) : State :=
  s.mirrorRow p false (fun k => k == 1) (fun b _ s =>
    let ch := slice b 26 7
    if s.hasOch ch then
      some (s.after s.cyc (.asyncMsg (5 + p) ch (slice b 18 8) (slice b 10 8)))
    else none)

/-- FRAME, and any reserved kind on the BULK channel: a frame operation (R85 to R88). -/
def mirrorFrame (s : State) (p : Nat) : State :=
  s.mirrorRow p true (fun k => k != 3) (fun b body s =>
    let ch := slice b 26 7
    let rx := bit b 25
    if slice b 40 4 = 2 && (if rx then s.hasRch ch else s.hasOch ch) then
      some (s.after s.cyc <| .frameMsg (5 + p) rx ch (slice body 192 8) (slice body 200 4)
        { frame := slice b 16 9, add := bit b 15, mask := slice b 10 5, val := BitVec.ofNat 128 body,
          delta := slice body 0 32, atSt := if bit b 9 then some (slice body 128 64) else none, entered := s.cyc })
    else none)

/-- SHADOW: a shadow write or commit (R123). -/
def mirrorShadow (s : State) (p : Nat) : State :=
  s.mirrorRow p true (fun k => k == 3) (fun b body s =>
    let ch := slice b 26 7
    if !s.hasOch ch || 1 < slice b 24 2 && slice b 24 2 ≠ 2 || slice b 24 2 = 0 || (slice b 24 2 = 1 && 10 < slice b 20 4) then none
    else if slice b 24 2 = 1 then
      some (s.after s.cyc (.shadowMsg (5 + p) ch (slice b 12 8) (slice b 20 4) (slice body 0 32)))
    else some (s.after s.cyc (.commitMsg (5 + p) ch (slice b 12 8) (slice body 0 16) (slice body 16 9))))

/-! ## Bring-up (R441) -/

/-- The port's lanes in training fail for a lane order that is neither straight nor reversed. -/
def orderFail (s : State) (p : Nat) : State :=
  let s := s.setB .blpStatusLaneOrderErr p true
  s.updPort p fun x => { x with stage := (lanesOf x.train).foldl (fun m l => SMap.put 0 m l 8) x.stage }

/-- STAGE follows the lowest stage of the lanes in training; with none left it stays as it was (R401, R402, R441). -/
def stageShown (s : State) (p : Nat) : State :=
  let v := trainStage (s.port p)
  if v = 0 then s else s.setF .blpStatusStage p v

/-- A lane of a port in training passes a stage with what it found, or fails it. -/
def trainStageEnd (s : State) (n stage info : Nat) (pass : Bool) : State :=
  let p := n / 4
  let l := n % 4
  let x := s.port p
  let done := SMap.get 0 x.stage l
  let setStage := fun (s : State) (v : Nat) =>
    (s.updPort p fun x => { x with stage := SMap.put 0 x.stage l v }).stageShown p
  if !bit x.train l || done + 1 ≠ stage then s
  else if !pass then
    -- manual bit-slip has no limit of its own
    if stage = 2 && s.flag .blpCfgLockMode p || stage = 6 then s else setStage s 8
  else
    match stage with
    | 1 => setStage (s.setB .bllStatusCdrLock n true) 1
    | 2 => setStage (s.setB .bllStatusHdrOk n true) 2
    | 3 => setStage (s.setB .bllStatusInverted n (bit info 0)) 3
    | 4 =>
      let lane := slice info 0 2
      let straight := lane == l
      let first := (lanesOf x.train).all (fun k => decide (SMap.get 0 x.stage k < 4) || SMap.get 0 x.stage k == 8)
        && s.portState p == 1
      if (lane ≠ l && lane ≠ 3 - l) || (!first && s.flag .blpStatusReversed p == straight) then
        s.orderFail p
      else
        let s := s.setB .blpStatusReversed p (!straight)
        let s := s.setF .blpStatusPeerDev p (slice info 2 6)
        setStage (s.setF .bllStatusLogical n lane) 4
    | 5 =>
      let s := s.setF .bllStatusSkewUi n (slice info 0 7)
      if 64 < slice info 0 7 then setStage s 8
      else
        let s := setStage s 5
        s.updPort p fun x => { x with rxOk := setBit x.rxOk l true, statusDue := x.statusDue || s.portUp p }
    | 6 => if s.portState p = 1 then setStage (s.updPort p fun x => { x with credInit := true }) 6 else s
    | _ => s

/-- The port enters ACTIVE with the lanes that passed in both directions (R441); SLEEP bits set before then act on them
(R446). -/
def linkActive (s : State) (p map : Nat) : State :=
  let s := (s.setF .blpStatusState p 2).setF .blpStatusStage p 7
  let s := (s.setF .blpStatusTxMap p map).setF .blpStatusRxMap p map
  let s := forEach (List.range 4) (fun l s =>
    if bit map l then s.setF .bllStatusState (4 * p + l) 2
    else if bit (s.port p).train l then s.setF .bllStatusState (4 * p + l) 0 else s) s
  let s := s.updPort p fun x => { x with
    train := 0, stage := [], txLive := map, peerOk := map, rxOk := map, busyAt := s.cyc, ackAt := s.cyc,
    reqAt := s.cyc, statusAt := s.cyc, creditAt := s.cyc }
  let s := forEach (lanesOf map) (fun l s =>
    when (s.flag .bllSleepRxSleep (4 * p + l)) (fun s => s.setB .bllStatusRxSleepPend (4 * p + l) true) s) s
  ((((s.blRebase p).credRebase p).irq 6).planMap p).delayReq p

/-- A rejoin ends: STAGE is that of the port's ACTIVE lanes again (R441). -/
def rejoinEnd (s : State) (p : Nat) : State := (s.stopTraining p).setF .blpStatusStage p 7

/-- The port's LINK_UP ends: the port is ACTIVE, the rejoined lanes are in both maps, or LINK_TIMEOUT has expired. INFO0
carries the last stage reached (R402). `peerOk` is RX_OK of the peer's TRAIN blocks. -/
def linkUpComplete (s : State) (p peerOk : Nat) : State :=
  match s.findLong 0x606 (some p) with
  | none => s
  | some l =>
    let x := s.port p
    let late := decide (l.accCyc + 625000 * s.fld .blpCfgLinkTimeout p ≤ s.cyc)
    let fail := 2 ^ 31 + max 1 (s.fld .blpStatusStage p)
    if l.arg = 1 then
      let want := (lanesOf x.train).filter (fun k => SMap.get 0 x.stage k != 8)
      if !want.isEmpty && want.all (fun k => bit (s.txMap p) k && bit (s.rxMap p) k) then
        (s.rejoinEnd p).completeAs l 0 7 (s.txMap p) 0
      else if late then (s.rejoinEnd p).completeAs l 0 fail (s.txMap p) 0
      else s
    else
      let map := (x.rxOk &&& x.train) &&& peerOk
      if s.portState p = 1 && x.credInit && map != 0 then (s.linkActive p map).completeAs l 0 7 map 0
      else if late then (s.portDown p).completeAs l 0 fail 0 0
      else s

/-! ## Lanes (R441, R447, R448) -/

/-- BITSLIP: the alignment slides by one bit. -/
def bitslip (s : State) (n : Nat) : State :=
  if s.hostLane n then s.updPort (n / 4) fun x => { x with slip := SMap.put 0 x.slip (n % 4) ((SMap.get 0 x.slip (n % 4) + 1) % 66) }
  else s

/-- Every 1,024th idle block in a row is a KEEPALIVE, on the lanes whose transmitters are live: it is due, and is sent if the
lane carries nothing else in this cycle. -/
def keepalive (s : State) (n : Nat) : State :=
  let p := n / 4
  let idle := s.cyc - SMap.get 0 (s.port p).laneBusy (n % 4)
  if s.portUp p && bit (s.port p).txLive (n % 4) && decide (0 < idle) && idle % 1024 == 0 then
    s.updPort p fun x => { x with keep := setBit x.keep (n % 4) true }
  else s

/-- Adaptation of a live receiver (R447): it freezes when the transitions of the last 64 blocks fall below TD_MIN a block,
or with 4,096 idle blocks in a row, and resumes with 256 non-idle blocks in a row since. -/
def adaptFreeze (s : State) (n transitions idle nonIdle : Nat) : State :=
  if !s.portUp (n / 4) || !bit (s.port (n / 4)).rxOk (n % 4) then s
  else if s.flag .bllStatusAdaptFrozen n then
    if 256 ≤ nonIdle then s.setB .bllStatusAdaptFrozen n false else s
  else if transitions < 64 * s.fld .bllAdaptTdMin n || 4096 ≤ idle then
    (s.setB .bllStatusAdaptFrozen n true).bump .bllAdaptFreeze n
  else s

/-- The end of an eye scan: DONE, and VALID with its errors where the lane is ACTIVE. -/
def eyeEnd (s : State) (n : Nat) (errors : Nat) : State :=
  let valid := s.fld .bllStatusState n == 2
  let s := (s.setB .bllEyeStatusDone n true).setB .bllEyeStatusValid n valid
  let s := when valid (fun s => s.wr .bllEyeErrors n (min errors (2 ^ s.fld .bllEyeCtrlDwell n))) s
  s.updPort (n / 4) fun x => { x with eye := SMap.put 0 x.eye (n % 4) 0 }

/-- START in EYE_CTRL, with the PHASE, VOLT and DWELL of the same write. -/
def eyeStart (s : State) (n v : Nat) : State :=
  if !s.hostLane n then s
  else
    let s := s.wr .bllEyeCtrl n (v &&& 0x003FFF3F)
    let s := (s.setB .bllEyeStatusDone n false).setB .bllEyeStatusValid n false
    if s.fld .bllStatusState n = 2 then
      s.updPort (n / 4) fun x => { x with eye := SMap.put 0 x.eye (n % 4) (s.cyc + 1) }
    else s.eyeEnd n 0

/-- A scan ends after 2^DWELL bits, 66 to the cycle, or when its lane is no longer ACTIVE. -/
def eyeDone (s : State) (n errors : Nat) : State :=
  let at_ := SMap.get 0 (s.port (n / 4)).eye (n % 4)
  if at_ ≠ 0 && (s.fld .bllStatusState n != 2 || decide (2 ^ s.fld .bllEyeCtrlDwell n ≤ 66 * (s.cyc + 1 - at_))) then
    s.eyeEnd n errors
  else s

end State

/-! ## Rows -/

/-- CHECK_WINDOW (R432). -/
def execCheckWindow (port lane : Fin 4) (blocks : List (Fin 4 × Dword)) (badLane : Option (Fin 4)) (seq : BitVec 16)
    (crc : Option Word) (s : State) : Host.Outcome State Fault Refusal :=
  run (fun s => s.checkWindow port lane (blocks.map fun b => (b.1.val, b.2)) (badLane.map (·.val)) seq.toNat
    (crc.map (·.toNat))) s

/-- CREDIT_RX (R434). -/
def execCreditRx (port : Fin 4) (s : State) : Host.Outcome State Fault Refusal := run (fun s => s.creditRx port) s

/-- REPLAY_REQUEST_RX (R436). -/
def execReplayRequestRx (port : Fin 4) (bad : Bool) (s : State) : Host.Outcome State Fault Refusal :=
  run (fun s => s.replayRequestRx port bad) s

/-- REPLAY_START_RX (R432). -/
def execReplayStartRx (port : Fin 4) (s : State) : Host.Outcome State Fault Refusal := run (fun s => s.replayStartRx port) s

/-- REPLAY_TIMEOUT (R436). -/
def execReplayTimeout (port : Fin 4) (bad : Bool) (s : State) : Host.Outcome State Fault Refusal :=
  run (fun s => s.replayTimeout port bad) s

/-- LANE_STATUS_RX (R444). -/
def execLaneStatusRx (read : PortRead) (s : State) : Host.Outcome State Fault Refusal :=
  run (fun s => s.laneStatusRx read.port read.bad) s

/-- AUDIT_RX (R451). -/
def execAuditRx (port : Fin 4) (s : State) : Host.Outcome State Fault Refusal := run (fun s => s.auditRx port) s

/-- PORT_IDLE (R451). -/
def execPortIdle (port : Fin 4) (s : State) : Host.Outcome State Fault Refusal := run (fun s => s.portIdle port) s

/-- LANE_LOST (R443). -/
def execLaneLost (lane : Fin 16) (s : State) : Host.Outcome State Fault Refusal := run (fun s => s.laneLost lane) s

/-- LINK_TRAIN_STAGE (R441): `info` is, in stage 3, whether the headers read 01; in stage 4, LANE in [1:0] and DEVICE_ID in
[7:2] of the peer's TRAIN blocks; in stage 5, the skew in UI. -/
def execLinkTrainStage (lane : Fin 16) (stage : Fin 8) (info : BitVec 8) (pass : Bool) (s : State) :
    Host.Outcome State Fault Refusal :=
  run (fun s => s.trainStageEnd lane stage info.toNat pass) s

/-- LINK_UP_COMPLETE (R441). -/
def execLinkUpComplete (port : Fin 4) (peerOk : BitVec 4) (s : State) : Host.Outcome State Fault Refusal :=
  run (fun s => s.linkUpComplete port peerOk.toNat) s

/-- BITSLIP (R441). -/
def execBitslip (lane : Fin 16) (s : State) : Host.Outcome State Fault Refusal := run (fun s => s.bitslip lane) s

/-- TX_SLEEP_SET (R446). -/
def execTxSleepSet (lane : Fin 16) (s : State) : Host.Outcome State Fault Refusal := run (fun s => s.txSleepSet lane) s

/-- TX_SLEEP_CLEAR (R446). -/
def execTxSleepClear (lane : Fin 16) (s : State) : Host.Outcome State Fault Refusal := run (fun s => s.txSleepClear lane) s

/-- RX_SLEEP_SET (R446). -/
def execRxSleepSet (lane : Fin 16) (s : State) : Host.Outcome State Fault Refusal := run (fun s => s.rxSleepSet lane) s

/-- RX_SLEEP_CLEAR (R446). -/
def execRxSleepClear (lane : Fin 16) (s : State) : Host.Outcome State Fault Refusal := run (fun s => s.rxSleepClear lane) s

/-- LANE_WAKE (R446). -/
def execLaneWake (lane : Fin 16) (rx : Bool) (s : State) : Host.Outcome State Fault Refusal :=
  run (fun s => s.laneWake lane rx) s

/-- EYE_SCAN_START (R448). -/
def execEyeScanStart (lane : Fin 16) (value : Word) (s : State) : Host.Outcome State Fault Refusal :=
  run (fun s => s.eyeStart lane value.toNat) s

/-- EYE_SCAN_DONE (R448). -/
def execEyeScanDone (lane : Fin 16) (errors : Dword) (s : State) : Host.Outcome State Fault Refusal :=
  run (fun s => s.eyeDone lane errors.toNat) s

/-- KEEPALIVE_INSERT (R447). -/
def execKeepaliveInsert (lane : Fin 16) (s : State) : Host.Outcome State Fault Refusal := run (fun s => s.keepalive lane) s

/-- ADAPT_FREEZE (R447): the transitions in the lane's last 64 blocks, and how many idle and non-idle blocks in a row have
arrived, the latter since a freeze. -/
def execAdaptFreeze (lane : Fin 16) (runs : BlockRuns) (s : State) : Host.Outcome State Fault Refusal :=
  run (fun s => s.adaptFreeze lane runs.transitions.toNat runs.idle.toNat runs.nonIdle.toNat) s

/-- DECISION_BLOCK_RX (R267). -/
def execDecisionBlockRx (port : Fin 4) (s : State) : Host.Outcome State Fault Refusal :=
  run (fun s => s.decisionBlockRx port) s

/-- MIRROR_EVENT (R438). -/
def execMirrorEvent (port : Fin 4) (s : State) : Host.Outcome State Fault Refusal := perform (fun s => s.mirrorEvent port) s

/-- MIRROR_ASYNC (R438). -/
def execMirrorAsync (port : Fin 4) (s : State) : Host.Outcome State Fault Refusal := run (fun s => s.mirrorAsync port) s

/-- MIRROR_FRAME (R438). -/
def execMirrorFrame (port : Fin 4) (s : State) : Host.Outcome State Fault Refusal := run (fun s => s.mirrorFrame port) s

/-- MIRROR_SHADOW (R438). -/
def execMirrorShadow (port : Fin 4) (s : State) : Host.Outcome State Fault Refusal := run (fun s => s.mirrorShadow port) s

/-- TONE_DECISION (R234, R263): the decision also leaves for the devices that its export entries name. `jrnBad` says that
the journal's next free entry is uncorrectable (R352). -/
def execToneDecision (rch : Fin 24) (tone : Fin 16) (jrnBad : Bool) (s : State) : Host.Outcome State Fault Refusal :=
  perform (fun s =>
    if s.toneDue rch tone then
      let decides := tdMode (s.toneDesc rch tone) != 3
      let s := when jrnBad (fun s => s.jrnRewind) s
      let s := s.toneDecision rch tone
      when decides (fun s => s.exportDecision (16 * rch.val + tone.val)) s
    else s) s

/-! ## Commands (R272, R440, R442) -/

/-- LINK_UP (R440). -/
def linkUpSpec : CmdSpec where
  opcode := 0x606
  kinds := [7]
  states := 0b1100
  layout := [(16, 0x3F), (18, 255), (19, 255)]
  range := fun s c =>
    firstRej [rejIf (pBits c 16 0 4 == 0 || (bit (pByte c 16) 5 && s.portState (indexOf c) == 0)) (rejRange 16),
      rejIf (pNum c 18 2 == 0) (rejRange 18)]
  busy := fun s c => firstRej [
    rejIf (!bit (pByte c 16) 5 && s.portState (indexOf c) != 0) rejBusy, s.longBusy .link (indexOf c)]
  app := fun s c =>
    let p := indexOf c
    let rejoin := bit (pByte c 16) 5
    let s := s.wr .blpCfg p (pBits c 16 0 5 + pNum c 18 2 <<< 16)
    let train := if rejoin then (lanesOf (pBits c 16 0 4)).filter (fun l => [0, 3].contains (s.fld .bllStatusState (4 * p + l)))
      else lanesOf (pBits c 16 0 4)
    let mask := (train.map (fun l => 2 ^ l)).foldl (· + ·) 0
    let s := if rejoin then s.updPort p fun x => { x with train := mask, stage := [] }
      else ((s.updPort p fun x => { Port.init with cnt := x.cnt, slip := x.slip, line := x.line, train := mask, txLive := mask }).setF
        .blpStatusState p 1).irq 6
    let s := when (mask != 0) (fun s => s.setF .blpStatusStage p 1) s
    let s := forEach train (fun l s => s.setF .bllStatusState (4 * p + l) 1) s
    let s := when rejoin (fun s => s.updPort p fun x => { x with txLive := x.txLive ||| mask }) s
    (s.startLong c .link p (ofBool rejoin) 0 [], { long := true })

def execLinkUp (c : HostCmd) (s : State) : Host.Outcome State Fault Refusal := command linkUpSpec c s

/-- LINK_DOWN (R442). -/
def linkDownSpec : CmdSpec where
  opcode := 0x607
  kinds := [7]
  states := 0b1100
  app := justDo fun s c => s.portDown (indexOf c)

def execLinkDown (c : HostCmd) (s : State) : Host.Outcome State Fault Refusal := command linkDownSpec c s

/-- MIRROR_EXPORT (R263, R272). -/
def mirrorExportSpec : CmdSpec where
  opcode := 0x608
  kinds := [0]
  states := 0b1100
  layout := List.flatten [whole 16 4, whole 24 8]
  reads := fun _ _ => true
  range := fun _ c => firstRej [
    rejIf (decide (1024 ≤ pNum c 16 2)) (rejRange 16),
    rejIf (pNum c 18 2 == 0 || decide (1024 < pNum c 16 2 + pNum c 18 2)) (rejRange 18),
    bufAligned c 24,
    firstRejOf (List.range (pNum c 18 2)) fun i =>
      let e := bufNat (bufOf c) (8 * i) 8
      rejIf (decide (1023 < slice e 0 12) || decide (slice e 16 12 < 1024) || slice e 12 4 != 0 || slice e 28 4 != 0
        || slice e 38 2 != 0 || slice e 49 15 != 0) (rejRangeAt (pNum c 16 2 + i) 24)]
  busy := fun s _ => s.bankBusy 162
  app := justDo fun s c =>
    let first := pNum c 16 2
    let s := s.cleanBank 12 1 first (first + pNum c 18 2)
    { s with dec := { s.dec with
      export_ := (List.range (pNum c 18 2)).foldl
        (fun m i => SMap.put 0 m (first + i) (BitVec.ofNat 64 (bufNat (bufOf c) (8 * i) 8))) s.dec.export_ } }

def execMirrorExport (c : HostCmd) (s : State) : Host.Outcome State Fault Refusal := command mirrorExportSpec c s

/-- MIRROR_ROUTE (R272, R275). -/
def mirrorRouteSpec : CmdSpec where
  opcode := 0x609
  kinds := [0]
  states := 0b1100
  layout := [(16, 0x3F), (17, 3), (18, 1)]
  absent := fun s c => rejIf (!s.hasPort (pBits c 17 0 2)) (rejAbsent 7 (pBits c 17 0 2))
  app := justDo fun s c =>
    let d := pBits c 16 0 6
    s.wr .glbRoute (d / 8) (place (s.rd .glbRoute (d / 8)) (4 * (d % 8)) 3 (pBits c 17 0 2 + 4 * pBits c 18 0 1))

def execMirrorRoute (c : HostCmd) (s : State) : Host.Outcome State Fault Refusal := command mirrorRouteSpec c s

end Sys2Proof.Machine
end

