-- ==== Sys2Proof/Machine/AcqRows.lean ====
section
/-!
DEFINITION. The acquisition commands and the rows of capture units (spec/11, R308, R311, R317 to R324).
-/

namespace Sys2Proof.Machine

/-! ## ACQ_CONFIG (R324, R327) -/

/-- The eight words of ACQ_CONFIG (R558). -/
def acqWord (c : HostCmd) (k : Nat) : Nat := pNum c (16 + 4 * k) 4
def acqcMode (c : HostCmd) : Bool := bit (acqWord c 0) 0
def acqcSource (c : HostCmd) : Nat := slice (acqWord c 0) 1 3
def acqcRch (c : HostCmd) : Nat := slice (acqWord c 0) 4 5
def acqcDest (c : HostCmd) : Bool := bit (acqWord c 0) 13
def acqcTsrc (c : HostCmd) : Nat := slice (acqWord c 0) 14 3
def acqcTindex (c : HostCmd) : Nat := slice (acqWord c 0) 17 5
def acqcN (c : HostCmd) : Nat := slice (acqWord c 5) 0 13
def acqcSpan (c : HostCmd) : Nat := acqWord c 1 + acqWord c 2

/-- AVG_N is allowed for the source (R304), and in WINDOW mode the record fits whole intervals (R307). -/
def acqcAvgOk (c : HostCmd) : Bool :=
  let n := acqcN c
  let fit := acqcMode c
  match acqcSource c with
  | 3 => decide (3 ≤ n) && decide (n ≤ 4096) && (fit || 16 * acqcSpan c % n == 0)
  | 4 => decide (2 ≤ n) && decide (n ≤ 4096) && (fit || acqcSpan c % n == 0)
  | _ => n == 1

/-- Size of the memory that DEST names, in 4 KiB units (R308). -/
def State.acqcRoom (s : State) (c : HostCmd) : Nat := if acqcDest c then s.variant.dramStacks * 2 ^ 21 else 256

/-- The DRAM bytes of the partition (R308). -/
def acqcRegion (c : HostCmd) : Nat × Nat := (4096 * acqWord c 6, 4096 * (acqWord c 6 + acqWord c 7))

def acqConfigSpec : CmdSpec where
  opcode := 0x500
  kinds := [6]
  states := 0b1100
  layout := List.flatten [whole 16 3, whole 20 1, [(21, 15)], whole 24 3, whole 28 3, whole 32 4, whole 36 1, [(37, 31), (38, 15)],
    whole 40 2, [(42, 63)], whole 44 2, [(46, 63)]]
  absent := fun s c => firstRej [
    rejIf (!s.unitPresent 2 (acqcRch c)) (rejAbsent 2 (acqcRch c)),
    rejIf (acqcTsrc c == 4 && !s.unitPresent 6 (acqcTindex c)) (rejAbsent 6 (acqcTindex c)),
    rejIf (acqcDest c && !s.variant.dram) (rejAbsent 0 0)]
  range := fun s c =>
    let u := indexOf c
    firstRej [
      rejIf (decide (4 < acqcSource c)) (rejRange 16),
      rejIf (decide (4 < acqcTsrc c)) (rejRange 17),
      rejIf ((acqcTsrc c == 2 && decide (15 < acqcTindex c)) ||
        (acqcTsrc c == 4 && (acqcTindex c == u || s.fld .acqCfgTsrc (acqcTindex c) == 4))) (rejRange 18),
      rejIf (decide (2048 < acqWord c 1)) (rejRange 20),
      rejIf (!acqcMode c && (acqWord c 2 == 0 ||
        decide (128 * acqWord c 7 - 1 < State.acqEntries (acqcSource c) (acqcN c) (acqcSpan c) + 2))) (rejRange 24),
      rejIf (!acqcAvgOk c) (rejRange 36),
      rejIf (decide (12 < slice (acqWord c 5) 16 4)) (rejRange 38),
      rejIf (decide (s.acqcRoom c < acqWord c 6 + acqWord c 7)) (rejRange 40),
      rejIf (acqWord c 7 == 0) (rejRange 44)]
  conflict := fun s c =>
    if !acqcDest c then none
    else firstRej [
      firstRejOf ((List.range 24).filter (· != indexOf c)) (fun u =>
        rejIf (State.hits (acqcRegion c) (s.acqRegion u)) (rejConflict 6 u 0)),
      rejIf (State.hits (acqcRegion c) s.spillRegion) (rejConflict 0 0 0),
      match s.streamHit (acqcRegion c) with | some n => rejConflict 1 n 0 | none => none]
  busy := fun s c => rejIf (s.acqOn (indexOf c)) rejBusy
  app := justDo fun s c =>
    let u := indexOf c
    let regs : List Reg := [.acqCfg, .acqPre, .acqPost, .acqDelay, .acqHold, .acqAvg, .acqPartBase, .acqPartLen]
    let s := forEach (List.range 8) (fun k s => s.wr (regs.getD k .acqCfg) u (acqWord c k)) s
    s.updAcq u fun a => { a with configured := true }

def execAcqConfig (c : HostCmd) (s : State) : Host.Outcome State Fault Refusal := command acqConfigSpec c s

/-! ## ACQ_START and ACQ_STOP -/

/-- The units of a mask. -/
def acqMask (c : HostCmd) : List Nat := setBits (pNum c 16 3) 24

/-- Absent units, or an absent engine (R329). -/
def State.acqAbsent (s : State) (c : HostCmd) : Option Reject :=
  firstRej [rejIf (!s.variant.acq) (rejAbsent 6 ((acqMask c).headD 0)),
    firstRejOf (acqMask c) (fun u => rejIf (!s.unitPresent 6 u) (rejAbsent 6 u))]

/-- Power group of a unit's partition (R334). -/
def State.acqGroupOf (s : State) (u : Nat) : Nat :=
  if s.flag .acqCfgDest u then 156 + 4096 * s.fld .acqPartBaseBase4k u / 2 ^ 33 else 96 + u

/-- A unit leaves STOPPED (R302, R308, R319): empty ring, fresh history. DESIGN CHOICE: what is left in the write FIFO of an
earlier capture has reached its place by then. -/
def State.acqBegin (s : State) (u : Nat) : State :=
  let wait := !s.flag .acqCfgMode u || s.flag .acqCfgStreamGate u
  let s := (s.setF .acqWrPtrPtr u 0).setF .acqRdPtrPtr u 0
  let s := (s.setF .acqStatusState u (if wait then 1 else 2)).setF .acqStatusStopCause u 0
  (s.acqFlush u).setAcq u { Acq.init with configured := true, histFrom := s.stCyc + 1 }

def acqStartSpec : CmdSpec where
  opcode := 0x501
  kinds := [0]
  states := 0b11100
  layout := whole 16 3
  absent := State.acqAbsent
  range := fun s c => firstRejOf (acqMask c) fun u => rejIf (!(s.acqOf u).configured) (rejRange 16)
  locked := fun s c => firstRejOf (acqMask c) fun u => s.bankLocked (s.acqGroupOf u)
  busy := fun s c => firstRej [firstRejOf (acqMask c) (fun u => rejIf (s.acqOn u) rejBusy),
    firstRejOf (acqMask c) (fun u => s.bankBusy (s.acqGroupOf u))]
  app := justDo fun s c => forEach (acqMask c) (fun u s => s.acqBegin u) s

def execAcqStart (c : HostCmd) (s : State) : Host.Outcome State Fault Refusal := command acqStartSpec c s

def acqStopSpec : CmdSpec where
  opcode := 0x502
  kinds := [0]
  states := 0b11100
  layout := whole 16 3
  absent := State.acqAbsent
  app := justDo fun s c => forEach (acqMask c) (fun u s => s.acqStop u 1) s

def execAcqStop (c : HostCmd) (s : State) : Host.Outcome State Fault Refusal := commandFires acqStopSpec c s

/-! ## Register rows and event rows -/

namespace State

/-- A host write of RD_PTR (R308). -/
def acqRdPtr (s : State) (u v : Nat) : State :=
  let l := s.acqLen u
  let old := s.fld .acqRdPtrPtr u
  if decide (v < l) && decide ((v + l - old) % max 1 l ≤ (s.fld .acqWrPtrPtr u + l - old) % max 1 l) then
    s.setF .acqRdPtrPtr u v
  else s.setB .acqStatusPtrErr u true

/-- A record's entries have all left the write FIFO. -/
def acqWritten (s : State) (u : Nat) (r : Rec) : Bool :=
  let l := max 1 (s.acqLen u)
  (s.acqOf u).fifo.all fun p => decide (r.wrote < (p.1 + l - r.hdr) % l)

/-- The oldest completed record of a unit is committed whole, once its last entry is written (R317). -/
def acqRecordCommit (s : State) (u : Nat) : State :=
  match (s.acqOf u).recs with
  | r :: t =>
    if s.acqOn u && r.full && s.acqWritten u r then
      let s := (s.acqCommit u r false).updAcq u fun a => { a with recs := t }
      when t.isEmpty (fun s => s.setF .acqStatusState u 1) s
    else s
  | [] => s

/-- A data entry could not be written (R318, R321): the ring is full, or the write FIFO is. -/
def acqOverflowRow (s : State) (u : Nat) (bandwidth : Bool) : State :=
  match (s.acqOf u).lost with
  | some (c, b) => if s.acqOn u && b == bandwidth then s.acqOverflow u c b else s
  | none => s

/-- A STREAM has captured POST cycles (R319). -/
def acqLengthDone (s : State) (u : Nat) : State :=
  if s.acqOn u && (s.acqOf u).done then s.acqFinish u 2 else s

/-! ## Memory bandwidth (R154, R303, R331) -/

/-- DRAM bandwidth in GB/s: two stacks or one, less above 85 °C (R154). -/
def dramRate (s : State) : Nat :=
  if s.flag .glbStrmAdmitHot 0 then (if s.variant.dramStacks = 2 then 779 else 389)
  else (if s.variant.dramStacks = 2 then 820 else 410)

/-- Entries of 32 bytes that DRAM takes from acquisition in a cycle at the least: what is left by streams that refill at 1.1
times their reservations, and nothing where journal spill waits, which comes first and whose share has no upper bound
(R154, R331). -/
def dramLeast (s : State) : Nat :=
  if s.headToSpill || (!s.jrn.spill.isEmpty && decide (s.jrn.tail.length < 64)) then 0 else (160 * s.dramRate - 176 * s.fld .glbStrmAdmitReserved 0) / 3200

/-- And at the most: all of the bandwidth. -/
def dramMost (s : State) : Nat := (s.dramRate + 19) / 20

/-- The end of a cycle for the write FIFOs: each capture RAM takes an entry, and DRAM serves the units in their order
(R331), as many of them as its bandwidth leaves. How far the streams use their share is open: that number is a free value
between the bounds that R154 gives. -/
def acqService (s : State) : State :=
  let wait := (List.range 24).filter fun u => !(s.acqOf u).fifo.isEmpty
  let ram := wait.filter fun u => !s.flag .acqCfgDest u
  let dram := wait.filter fun u => s.flag .acqCfgDest u
  let s := forEach ram (fun u s => s.acqDrain u) s
  if dram.isEmpty then s
  else
    let (k, s) := s.draw
    let n := max s.dramLeast (min s.dramMost (Config.dramTakes k))
    forEach (dram.take n) (fun u s => s.acqDrain u) s

end State

/-- ACQ_SWTRIG (R311). -/
def execAcqSwtrig (value : Word) (s : State) : Host.Outcome State Fault Refusal :=
  perform (fun s => when (s.hostPage 0x1A0)
    (forEach ((setBits value.toNat 24).filter s.hasAcq) (fun u s => s.acqTrigNow u 0)) s) s

/-- ACQ_RD_PTR_WRITE (R308). -/
def execAcqRdPtrWrite (unit : Fin 24) (value : Word) (s : State) : Host.Outcome State Fault Refusal :=
  run (fun s => when (s.hostPage 0x1A0 && s.hasAcq unit) (fun s => s.acqRdPtr unit (slice value.toNat 0 29)) s) s

/-- ACQ_RECORD_COMMIT (R317). -/
def execAcqRecordCommit (unit : Fin 24) (s : State) : Host.Outcome State Fault Refusal :=
  perform (fun s => s.acqRecordCommit unit) s

/-- ACQ_OVERFLOW (R321). -/
def execAcqOverflow (unit : Fin 24) (bandwidth : Bool) (s : State) : Host.Outcome State Fault Refusal :=
  perform (fun s => s.acqOverflowRow unit bandwidth) s

/-- ACQ_STREAM_LENGTH_DONE (R319). -/
def execAcqStreamLengthDone (unit : Fin 24) (s : State) : Host.Outcome State Fault Refusal :=
  perform (fun s => s.acqLengthDone unit) s

end Sys2Proof.Machine
end

