-- ==== Sys2Proof/Machine/DspDecode.lean ====
section
/-!
DEFINITION. DSP instruction words (spec/10 R285 to R287): fields of the six formats, the mnemonic a word stands for, and
the words that stand for none and fault with ILLEGAL.
-/

namespace Sys2Proof.Machine

/-- The instructions of R286. -/
inductive DspOp where
  | add | sub | and | or | xor | shl | shr | sar | mul
  | addi | movi | movhi | cadds | csubs | crotq | norm | exp | normA | expA | bexpL
  | cmul | cmac | cmul2 | cmac2 | crnd | mva | mvah
  | ldB | ldH | ldW | ldD | stB | stH | stW | stD
  | b | beqz | bnez | bltz | bgez | dbnz | repeat
  | mvc | mvct | reti | halt | waiti | ien | idis
  deriving DecidableEq, Repr

def iOp (w : Nat) : Nat := slice w 26 6
def iD (w : Nat) : Nat := slice w 22 4
def iS1 (w : Nat) : Nat := slice w 18 4
def iS2 (w : Nat) : Nat := slice w 14 4
def iSh (w : Nat) : Nat := slice w 8 6
def iFunc (w : Nat) : Nat := slice w 0 8
def iImm18 (w : Nat) : Nat := slice w 0 18
/-- Format M: pointer, MOD and IMM17 in bytes. -/
def iP (w : Nat) : Nat := slice w 19 3
def iMod (w : Nat) : Nat := slice w 17 2
def iImm17 (w : Nat) : Int := sgn 17 w
/-- Format X: accumulator, CONJ, the two sources and SH. -/
def iA (w : Nat) : Nat := slice w 19 3
def iConj (w : Nat) : Bool := bit w 18
def iX (w : Nat) : Nat := slice w 14 4
def iY (w : Nat) : Nat := slice w 10 4
def iXsh (w : Nat) : Nat := slice w 5 5
def iOffset (w : Nat) : Int := sgn 22 w
/-- Format C: control register and FUNC. -/
def iCr (w : Nat) : Nat := slice w 12 10
def iCfunc (w : Nat) : Nat := slice w 8 4

/-- A control register of R287. -/
def crKnown (n : Nat) : Bool :=
  decide (n < 0x18) || (decide (0x20 ≤ n) && decide (n ≤ 0x2B)) || (decide (0x30 ≤ n) && decide (n ≤ 0x34)) || n == 0x3F

/-- o where a condition holds. -/
def opIf (c : Bool) (o : DspOp) : Option DspOp := if c then some o else none

/-- The mnemonic a word stands for; none for an undefined OP or FUNC or a nonzero 0 field (R286). An odd accumulator pair,
CMUL2 and CMAC2 off A 0 or 4 or with an odd source, an odd double-word register, SH above 3 where it is 0 to 3, and REPEAT
beyond 1,023 count as undefined (DESIGN CHOICE). -/
def dspOp (w : Nat) : Option DspOp :=
  let x0 := slice w 0 5 == 0
  let pair := iA w % 2 == 0
  let quad := iA w % 4 == 0 && iX w % 2 == 0 && iY w % 2 == 0
  match iOp w with
  | 0x01 => match iFunc w with
    | 0 => some .add
    | 1 => some .sub
    | 2 => some .and
    | 3 => some .or
    | 4 => some .xor
    | 5 => some .shl
    | 6 => some .shr
    | 7 => some .sar
    | 8 => some .mul
    | _ => none
  | 0x02 => some .addi
  | 0x03 => some .movi
  | 0x04 => some .movhi
  | 0x08 => match iFunc w with
    | 0 => opIf (decide (iSh w ≤ 3)) .cadds
    | 1 => opIf (decide (iSh w ≤ 3)) .csubs
    | _ => none
  | 0x09 => opIf (iFunc w == 0 && decide (iSh w ≤ 3)) .crotq
  | 0x0C => match iFunc w with
    | 0 => some .norm
    | 1 => some .exp
    | _ => none
  | 0x0D => match iFunc w with
    | 0 => some .normA
    | 1 => some .expA
    | _ => none
  | 0x10 => some .bexpL
  | 0x20 => opIf (x0 && pair) .cmul
  | 0x21 => opIf (x0 && pair) .cmac
  | 0x22 => opIf (x0 && quad) .cmul2
  | 0x23 => opIf (x0 && quad) .cmac2
  | 0x24 => opIf (x0 && pair) .crnd
  | 0x25 => opIf x0 .mva
  | 0x26 => opIf x0 .mvah
  | 0x30 => some .ldB
  | 0x31 => some .ldH
  | 0x32 => some .ldW
  | 0x33 => opIf (iD w % 2 == 0) .ldD
  | 0x34 => some .stB
  | 0x35 => some .stH
  | 0x36 => some .stW
  | 0x37 => opIf (iD w % 2 == 0) .stD
  | 0x38 => some .b
  | 0x39 => some .beqz
  | 0x3A => some .bnez
  | 0x3B => some .bltz
  | 0x3C => some .bgez
  | 0x3D => some .dbnz
  | 0x3E => opIf (decide (iImm18 w ≤ 1023)) .repeat
  | 0x3F =>
    if slice w 0 8 ≠ 0 then none
    else match iCfunc w with
      | 0 => opIf (crKnown (iCr w)) .mvc
      | 1 => opIf (crKnown (iCr w)) .mvct
      | 2 => some .reti
      | 3 => some .halt
      | 4 => some .waiti
      | 5 => some .ien
      | 6 => some .idis
      | _ => none
  | _ => none

/-- Bytes of a load, a store or BEXP.L; 0 for any other instruction. -/
def DspOp.bytes : DspOp → Nat
  | .ldB => 1
  | .stB => 1
  | .ldH => 2
  | .stH => 2
  | .ldW => 4
  | .stW => 4
  | .bexpL => 4
  | .ldD => 8
  | .stD => 8
  | _ => 0

/-- A branch, REPEAT or a C-format instruction: no body of a REPEAT (R288). -/
def DspOp.control : DspOp → Bool
  | .b => true
  | .beqz => true
  | .bnez => true
  | .bltz => true
  | .bgez => true
  | .dbnz => true
  | .repeat => true
  | .mvc => true
  | .mvct => true
  | .reti => true
  | .halt => true
  | .waiti => true
  | .ien => true
  | .idis => true
  | _ => false

end Sys2Proof.Machine
end

