-- ==== Sys2Proof/Machine/DspCore.lean ====
section
/-!
DEFINITION. A DSP core's registers, pointers, memories and ports, its faults, and the issue of one instruction (spec/10
R280 to R298). Stalls and latencies in DSP cycles lie with whoever sends the rows: a row is the issue of one instruction.
-/

namespace Sys2Proof.Machine

/-- How an instruction ends: with a state and the next instruction, in a fault with its cause and data address, or stalled for
one DSP cycle (R294). -/
inductive DspEnd where
  | go (s : State) (pc : Nat)
  | fault (cause addr : Nat)
  | stall

/-! ## Pointers (R282) -/

/-- The low n bits of x reversed. -/
def revBits (x : Nat) : Nat → Nat
  | 0 => 0
  | n + 1 => revBits (x / 2) n + (x % 2) * 2 ^ n

/-- The pointer after a post-modify by PINC, and whether the mode was the reserved one. -/
def ptrStep (p inc base len : Nat) : Nat × Bool :=
  let linear := (p + inc) % 2 ^ 32
  match slice len 30 2 with
  | 1 =>
    let r := (p : Int) + sgn 32 inc
    let n : Int := (slice len 0 18 : Nat)
    let r := if r < base then r + n else if (base : Int) + n - 1 < r then r - n else r
    (unsgn 32 r, false)
  | 2 =>
    let k := slice len 0 5
    if 1 ≤ k ∧ k ≤ 16 then
      (place p 2 k (revBits ((revBits (slice p 2 k) k + revBits (slice inc 2 k) k) % 2 ^ k) k), false)
    else ((Config.bitrevOver (BitVec.ofNat 32 p) (BitVec.ofNat 32 inc) k).toNat, false)
  | 3 => (linear, true)
  | _ => (linear, false)

namespace State

/-! ## Registers (R280, R281, R287) -/

/-- The bank in use. -/
def coreBank (s : State) (q : Nat) : Bank :=
  if s.flag .dspStatusInHandler q then (s.core q).bank1 else (s.core q).bank0

def updBank (s : State) (q : Nat) (f : Bank → Bank) : State :=
  if s.flag .dspStatusInHandler q then s.updCore q fun c => { c with bank1 := f c.bank1 }
  else s.updCore q fun c => { c with bank0 := f c.bank0 }

def gReg (s : State) (q i : Nat) : Nat := (SMap.get 0 (s.coreBank q).g i).toNat

def setG (s : State) (q i v : Nat) : State := s.updBank q fun b => { b with g := SMap.put 0 b.g i (BitVec.ofNat 32 v) }

def acc (s : State) (q i : Nat) : Int := (SMap.get 0 (s.coreBank q).a i).toInt

def setAcc (s : State) (q i : Nat) (v : Int) : State :=
  s.updBank q fun b => { b with a := SMap.put 0 b.a i (BitVec.ofInt 40 v) }

def ptr (s : State) (q i : Nat) : Nat := (SMap.get 0 (s.coreBank q).p i).toNat

def setPtr (s : State) (q i v : Nat) : State := s.updBank q fun b => { b with p := SMap.put 0 b.p i (BitVec.ofNat 32 v) }

/-- FLAGS: SAT in bit 0, ASAT in bit 1, MODE_ERR in bit 2, the ALU flags in [7:4] (DESIGN CHOICE: the spec places none). -/
def flagOr (s : State) (q m : Nat) : State := s.updBank q fun b => { b with flags := b.flags ||| BitVec.ofNat 32 m }

/-- The ALU flags an instruction leaves. -/
def aluSet (s : State) (q w a b : Nat) : State :=
  let f := (Config.aluFlags (iOp w) (iFunc w) (BitVec.ofNat 32 a) (BitVec.ofNat 32 b)).toNat
  s.updBank q fun k => { k with flags := BitVec.ofNat 32 (place k.flags.toNat 4 4 f) }

/-- The present DSP cycles are 2c and 2c + 1; a line stored as d + 1 is pending from DSP cycle d. -/
def linePending (s : State) (q i : Nat) : Bool :=
  let d := SMap.get 0 (s.core q).ipend i
  d != 0 && decide (d ≤ 2 * s.cyc + 2)

def lineSeen (s : State) (q i : Nat) : Bool := s.linePending q i && bit (s.core q).imask.toNat i

/-- The lowest-numbered pending, unmasked line. -/
def lineFirst (s : State) (q : Nat) : Option Nat := (List.range 8).find? (fun i => s.lineSeen q i)

/-- IPEND bits clear; the RFEED line is a level (R287, R295). -/
def clearLines (s : State) (q m : Nat) : State :=
  (s.updCore q fun c => (setBits m 8).foldl (fun c i => s.lineClear i c) c).feedLine q

def crRead (s : State) (q n : Nat) : Nat :=
  let c := s.core q
  let b := s.coreBank q
  if n < 8 then (SMap.get 0 b.base n).toNat
  else if n < 0x10 then (SMap.get 0 b.inc (n - 8)).toNat
  else if n < 0x18 then (SMap.get 0 b.len (n - 0x10)).toNat
  else if n < 0x28 then (SMap.get 0 c.ivec (n - 0x20)).toNat
  else match n with
    | 0x28 => c.imask.toNat
    | 0x29 => ((List.range 8).filter (fun i => s.linePending q i)).foldl (fun m i => m + 2 ^ i) 0
    | 0x2A => c.elr.toNat
    | 0x2B => c.line.toNat + 8 * s.fld .dspStatusInHandler q
    | 0x30 => b.flags.toNat
    | 0x31 => slice c.tcmp.toNat 0 32
    | 0x32 => slice c.tcmp.toNat 32 32
    | 0x33 => c.mboxIn.toNat
    | 0x34 => s.rd .dspMboxOut q
    | _ => q

/-- ISTAT, MBOX_IN and CORE_ID are not written by MVCT (DESIGN CHOICE). -/
def crWrite (s : State) (q n v : Nat) : State :=
  let w := BitVec.ofNat 32 v
  if n < 8 then s.updBank q fun b => { b with base := SMap.put 0 b.base n w }
  else if n < 0x10 then s.updBank q fun b => { b with inc := SMap.put 0 b.inc (n - 8) w }
  else if n < 0x18 then s.updBank q fun b => { b with len := SMap.put 0 b.len (n - 0x10) w }
  else if n < 0x28 then s.updCore q fun c => { c with ivec := SMap.put 0 c.ivec (n - 0x20) w }
  else match n with
    | 0x28 => s.updCore q fun c => { c with imask := BitVec.ofNat 8 v }
    | 0x29 => s.clearLines q (slice v 0 8)
    | 0x2A => s.updCore q fun c => { c with elr := w }
    | 0x30 => s.updBank q fun b => { b with flags := w }
    | 0x31 => s.updCore q fun c => { c with tcmp := BitVec.ofNat 64 (place c.tcmp.toNat 0 32 v) }
    | 0x32 => s.updCore q fun c => { c with tcmp := BitVec.ofNat 64 (place c.tcmp.toNat 32 32 v) }
    | 0x34 => s.wr .dspMboxOut q v
    | _ => s

/-! ## Pointers in use -/

/-- The address of an M-format access (R285). -/
def dspAddr (s : State) (q w : Nat) : Nat :=
  let p := s.ptr q (iP w)
  if iMod w = 3 then unsgn 32 ((p : Int) + iImm17 w) else p

/-- The pointer's next value, and whether its mode is the reserved one. -/
def dspNext (s : State) (q w p : Nat) : Nat × Bool :=
  let b := s.coreBank q
  let i := iP w
  match iMod w with
  | 1 => ptrStep p (SMap.get 0 b.inc i).toNat (SMap.get 0 b.base i).toNat (SMap.get 0 b.len i).toNat
  | 2 => (unsgn 32 ((p : Int) + iImm17 w), false)
  | _ => (p, false)

/-- The modify that follows an access. -/
def dspModify (s : State) (q w : Nat) : State :=
  let r := s.dspNext q w (s.ptr q (iP w))
  when r.2 (fun s => s.flagOr q 4) (s.setPtr q (iP w) r.1)

/-! ## Memories (R283, R284) -/

def inDmem (a n : Nat) : Bool := decide (0x100000 ≤ a) && decide (a + n ≤ 0x140000)
def inClm (a n : Nat) : Bool := decide (0x200000 ≤ a) && decide (a + n ≤ 0x400000)

/-- Port regions (R283), as (first address, bytes). -/
def dspPorts : List (Nat × Nat) :=
  [(0x800000, 0x4000), (0x810000, 8), (0x820000, 0x24), (0x830000, 0x10), (0x840000, 0x14), (0x850000, 4), (0x860000, 12),
    (0x870000, 16)]

def inPort (a : Nat) : Bool := dspPorts.any (fun r => decide (r.1 ≤ a) && decide (a < r.1 + r.2))

def clmBytes (s : State) (q : Nat) : List Host.Cell := SMap.get [] s.clm (q / 8)

/-- The banks' word addresses: IMEM words first, then DMEM words, of 64 bits each (DESIGN CHOICE for the ECC logs). -/
def dmemBad (s : State) (q a n : Nat) : Bool :=
  s.badIn 9 q (0x2000 + (a - 0x100000) / 8) (0x2000 + (a - 0x100000 + n - 1) / 8 + 1)
def clmBad (s : State) (q a n : Nat) : Bool := s.badIn 10 (q / 8) ((a - 0x200000) / 8) ((a - 0x200000 + n - 1) / 8 + 1)

/-- Record of a slot as `GLB.DEC_WIN_DATA` shows it (R274). -/
def slotData (s : State) (k : Nat) : Nat :=
  let x := s.slot k
  x.word.toNat + (ofBool x.counted) <<< 4 + s.slotEpoch k <<< 8 + x.tag.toNat <<< 16

/-- What a load finds: a value, or a fault's cause. The state is the one that the load leaves. -/
def portLoad (s : State) (q a n : Nat) : Option (State × Nat) :=
  let c := s.core q
  if n = 4 then
    if decide (0x800000 ≤ a) && decide (a < 0x804000) then
      let k := (a - 0x800000) / 4
      let s := when (s.badIn 11 0 k (k + 1)) (fun s => s.decUncorr k) s
      some (s, s.slotData k)
    else if decide (0x820000 ≤ a) && decide (a < 0x820020) then some (s, (SMap.get 0 c.frmw ((a - 0x820000) / 4)).toNat)
    else if decide (0x830000 ≤ a) && decide (a < 0x83000C) then some (s, (SMap.get 0 c.seqp ((a - 0x830000) / 4)).toNat)
    else if a = 0x840010 then some (s, c.feed.length)
    else if a = 0x860008 then some (s, s.fld .glbShotNumNum % 65536 + 65536 * ofBool s.shot.running)
    else if a = 0x820020 || a = 0x83000C || a = 0x850000 then
      let d := s.draw
      some (d.2, (Config.portRead a d.1).toNat)
    else none
  else if n = 8 then
    if a = 0x840000 then some (s, slice (c.feed.headD 0).toNat 0 64)
    else if a = 0x840008 then
      some ((s.updCore q fun c => { c with feed := c.feed.drop 1 }).feedLine q, slice (c.feed.headD 0).toNat 64 64)
    else if a = 0x860000 then some (s, s.st.toNat + 16 * (c.issueAt - 2 * s.cyc))
    else none
  else none

/-- A load of n bytes: the value, or cause and address of a fault. -/
def dspLoad (s : State) (q a n : Nat) : Sum (Nat × Nat) (State × Nat) :=
  if inDmem a n then
    if s.dmemBad q a n then .inl (5, a) else .inr (s, leNat (Memory.readBytes (s.core q).dmem (a - 0x100000) n))
  else if inClm a n then
    if !s.groupOn (152 + q / 8) then .inl (2, a)
    else if s.clmBad q a n then .inl (6, a)
    else .inr (s, leNat (Memory.readBytes (s.clmBytes q) (a - 0x200000) n))
  else if a % n = 0 then
    match s.portLoad q a n with
    | some r => .inr r
    | none => .inl (2, a)
  else .inl (2, a)

/-! ## What the ports send (R292 to R296, R437) -/

/-- FRMW: the staged operation goes to its channel, which it reaches at the end of the cycle, or to the linked device that word 1 names. -/
def frmwSend (s : State) (q : Nat) : State :=
  let w := fun i => (SMap.get 0 (s.core q).frmw i).toNat
  let ch := slice (w 0) 0 7
  let rx := bit (w 0) 7
  let add := bit (w 0) 17
  let at_ := w 6 / 32 * 32 + w 7 <<< 32
  let ctx := w 2 + w 3 <<< 32 + w 4 <<< 64 + w 5 <<< 96
  if bit (w 1) 18 then
    let dev := slice (w 1) 12 6
    let fields := ch <<< 26 + (ofBool rx) <<< 25 + (slice (w 0) 8 9) <<< 16 + (ofBool add) <<< 15 + (slice (w 0) 18 5) <<< 10
      + (slice (w 0) 23 1) <<< 9
    let body := (if add then w 2 else ctx) + (if bit (w 0) 23 then at_ else 0) <<< 128 + (slice (w 1) 0 8) <<< 192
      + (slice (w 1) 8 4) <<< 200
    s.sendTo dev true (mirrorHead true dev s.deviceId 2 4 0 fields :: mirrorBody 4 body)
  else if if rx then s.hasRch ch else s.hasOch ch then
    s.after s.cyc <| .frameMsg (1 + q / 8) rx ch (slice (w 1) 0 8) (slice (w 1) 8 4)
      { frame := slice (w 0) 8 9, add := add, mask := slice (w 0) 18 5, val := BitVec.ofNat 128 ctx, delta := w 2,
        atSt := if bit (w 0) 23 then some at_ else none, entered := s.cyc }
  else s.bump .dspPortErr q

/-- SEQP: an async request, shadow write or commit goes to its channel, which it reaches at the end of the cycle, or to the linked device that word 0 names. -/
def seqpSend (s : State) (q : Nat) : State :=
  let w := fun i => (SMap.get 0 (s.core q).seqp i).toNat
  let ch := slice (w 0) 0 7
  let kind := slice (w 0) 8 2
  let role := slice (w 0) 10 8
  let reg := slice (w 1) 0 4
  if kind = 3 || (kind = 1 && 10 < reg) then s.bump .dspPortErr q
  else if bit (w 0) 24 then
    let dev := slice (w 0) 18 6
    if kind = 0 then
      s.sendTo dev false [mirrorHead false dev s.deviceId 1 0 0 (ch <<< 26 + role <<< 18 + (slice (w 1) 0 8) <<< 10)]
    else
      let fields := ch <<< 26 + kind <<< 24 + (if kind = 1 then reg else 0) <<< 20 + role <<< 12
      s.sendTo dev true (mirrorHead true dev s.deviceId 3 1 0 fields :: mirrorBody 1 (w 2))
  else if !s.hasOch ch then s.bump .dspPortErr q
  else s.after s.cyc (match kind with
    | 0 => .asyncMsg (1 + q / 8) ch role (slice (w 1) 0 8)
    | 1 => .shadowMsg (1 + q / 8) ch role reg (w 2)
    | _ => .commitMsg (1 + q / 8) ch role (slice (w 2) 0 16) (slice (w 2) 16 9))

/-- JRNW: a user record joins the running shot's packet where the core participates, else a packet of its own (R343). -/
def userRecord (s : State) (q hi : Nat) : State :=
  let tag := if s.shot.running then s.fld .glbShotNumNum % 65536 else 0
  let w0 := tag + (0xF00 + q) <<< 16
  let r := BitVec.ofNat 128 (w0 + (slice (s.core q).jrnw.toNat 32 32) <<< 32 + hi <<< 64)
  if s.shot.running && s.dspPart q then s.jrnRecord (384 + q) r else s.jrnUser r

/-- A core's decision write reaches the file (R292, R268 to R270). -/
def decWrite (s : State) (q lo hi : Nat) : State :=
  let k := slice lo 0 12
  let x := s.slot k
  if k < 384 || 1024 ≤ k || !x.assigned || x.owner ≠ q || x.epoch.toNat ≠ slice lo 16 8 then s.decStale k
  else (s.decAccept k (slice lo 12 4) (slice hi 0 16) s.cyc).exportDecision k

/-- A store to a port; none where the port takes no such store. -/
def portStore (s : State) (q a n v : Nat) : Option State :=
  let put := fun (m : SMap Word) (i : Nat) => SMap.put 0 m i (BitVec.ofNat 32 v)
  if n = 4 then
    if decide (0x820000 ≤ a) && decide (a < 0x820020) then
      some (s.updCore q fun c => { c with frmw := put c.frmw ((a - 0x820000) / 4) })
    else if a = 0x820020 then some ((s.frmwSend q).updCore q fun c => { c with frmwAt := s.cyc + 1 })
    else if decide (0x830000 ≤ a) && decide (a < 0x83000C) then
      some (s.updCore q fun c => { c with seqp := put c.seqp ((a - 0x830000) / 4) })
    else if a = 0x83000C then some ((s.seqpSend q).updCore q fun c => { c with seqpAt := s.cyc + 1 })
    else if a = 0x850000 then some (forEach (setBits v 4) (fun j s => s.after (s.cyc + 1) (.fireLate (prodEout q j))) s)
    else none
  else if n = 8 then
    if a = 0x810000 then some (s.after (s.cyc + 4) (.decWrite q (slice v 0 32) (slice v 32 32)))
    else if a = 0x870000 then some (s.updCore q fun c => { c with jrnw := BitVec.ofNat 64 v })
    else if a = 0x870008 then some (s.userRecord q v)
    else none
  else none

/-- A second send on one port in a cycle (R294). -/
def sendStalls (s : State) (q a n : Nat) : Bool :=
  n == 4 && ((a == 0x820020 && (s.core q).frmwAt == s.cyc + 1) || (a == 0x83000C && (s.core q).seqpAt == s.cyc + 1))

/-- A store of n bytes: the state, or cause and address of a fault. An unaligned one first reads the words that it covers
(R284). -/
def dspStore (s : State) (q a n v : Nat) : Sum (Nat × Nat) State :=
  if inDmem a n then
    if a % n != 0 && s.dmemBad q a n then .inl (5, a)
    else .inr ((s.updCore q fun c => { c with dmem := Memory.writeBytes c.dmem (a - 0x100000) (leBytes n v) }).cleanBank 9 q
      (0x2000 + (a - 0x100000) / 8) (0x2000 + (a - 0x100000 + n - 1) / 8 + 1))
  else if inClm a n then
    if !s.groupOn (152 + q / 8) then .inl (2, a)
    else if a % n != 0 && s.clmBad q a n then .inl (6, a)
    else
      .inr ({ s with clm := SMap.put [] s.clm (q / 8) (Memory.writeBytes (s.clmBytes q) (a - 0x200000) (leBytes n v)) }.cleanBank
        10 (q / 8) ((a - 0x200000) / 8) ((a - 0x200000 + n - 1) / 8 + 1))
  else if a % n = 0 then
    match s.portStore q a n v with
    | some t => .inr t
    | none => .inl (2, a)
  else .inl (2, a)

/-! ## Issue -/

def pcOf (s : State) (q : Nat) : Nat := s.fld .dspStatusPc q

/-- The address after the present instruction; addresses wrap at the end of IMEM (DESIGN CHOICE). -/
def pcNext (s : State) (q : Nat) : Nat := (s.pcOf q + 1) % 16384

/-- The target of a branch: OFFSET22 instructions from the branch. -/
def pcBranch (s : State) (q w : Nat) : Nat := unsgn 14 ((s.pcOf q : Int) + iOffset w)

/-- A word of IMEM. -/
def imemWord (s : State) (q pc : Nat) : Nat := (SMap.get 0 (s.core q).imem pc).toNat

/-- A core faults (R298). -/
def coreFault (s : State) (q cause addr : Nat) : State :=
  let s := ((s.setF .dspStatusState q 3).setB .dspStatusInRepeat q false).setB .dspStatusSleep q false
  let s := s.wr .dspFault q (cause + 16 * s.pcOf q)
  let s := when (decide (2 ≤ cause) && cause != 3 && cause != 4) (fun s => s.wr .dspFaultAddr q addr) s
  let s := s.updCore q fun c => { c with rep := none, haltReq := false }
  let s := when (decide (4 ≤ cause) && s.shot.running && s.dspPart q) (fun s => s.taintMem) s
  s.signal (prodDspFault q)

/-- A core that issues in the present cycle: RUNNING, not busy in both its DSP cycles (R279), and not asleep in WAITI. A
sleeping core goes on when an unmasked line is pending; with interrupts enabled, it goes on in the handler (R286, R290). -/
def coreIssues (s : State) (q : Nat) : Bool :=
  s.hasDsp q && s.coreState q == 2 && decide ((s.core q).free ≤ 2 * s.cyc + 1) &&
    (!s.flag .dspStatusSleep q || ((s.lineFirst q).isSome && (s.flag .dspStatusInHandler q || !(s.core q).ien)))

/-- After an instruction: the next iteration of a REPEAT body, or the instruction that follows it, with a halt that waited
for the end of the body (R288, R297). -/
def coreNext (s : State) (q pc : Nat) : State :=
  match (s.core q).rep with
  | some (n + 2) => s.updCore q fun c => { c with rep := some (n + 1) }
  | some _ =>
    let halt := (s.core q).haltReq
    let s := s.updCore q fun c => { c with rep := none, haltReq := false }
    let s := (s.setB .dspStatusInRepeat q false).setF .dspStatusPc q pc
    when halt (fun s => s.coreHalt q) s
  | none => s.setF .dspStatusPc q pc

/-- A branch is taken (R286). -/
def taken (s : State) (q w : Nat) (o : DspOp) : Bool :=
  let g := s.gReg q (iD w)
  match o with
  | .b => true
  | .beqz => g == 0
  | .bnez => g != 0
  | .bltz => bit g 31
  | .bgez => !bit g 31
  | .dbnz => g % 2 ^ 32 != 1
  | _ => false

/-- Issue cycles of an instruction (R286): a taken branch and an unaligned access have two. -/
def dspCost (s : State) (q w : Nat) : Nat :=
  match dspOp w with
  | some o => if s.taken q w o || (o.bytes != 0 && s.dspAddr q w % o.bytes != 0) then 2 else 1
  | none => 1

/-- A core issues the instruction w: it is awake, and issues in its first free DSP cycle of the present cycle, in the second
where the row says so (R279). -/
def wake (s : State) (q w : Nat) (second : Bool) : State :=
  let d := max (s.core q).free (2 * s.cyc + ofBool second)
  (s.setB .dspStatusSleep q false).updCore q fun c => { c with issueAt := d, free := d + s.dspCost q w }

/-- The issue of the instruction at the core's PC, where it is the one that the row stands for. A word that no instruction
has faults with ILLEGAL, an uncorrectable one with IMEM (R286, R298). One that stalls is issued again (R294). -/
def issue (s : State) (q : Nat) (op : DspOp) (ecc : Ecc) (f : Nat → State → DspEnd) (second : Bool) : State :=
  if !s.coreIssues q then s
  else
    let pc := s.pcOf q
    let w := s.imemWord q pc
    let t := s.eccSeen ecc
    if t.badIn 9 q (pc / 2) (pc / 2 + 1) then t.coreFault q 4 0
    else match dspOp w with
      | none => t.coreFault q 1 0
      | some o =>
        if o = op then
          match f w (t.wake q w second) with
          | .go u pc => u.coreNext q pc
          | .fault cause addr => t.coreFault q cause addr
          | .stall => (t.setB .dspStatusSleep q false).updCore q fun c => { c with free := max c.free (2 * s.cyc) + 1 }
        else s

end State

/-- The outcome of a DSP row. -/
def dspRow (q : Nat) (op : DspOp) (ecc : Ecc) (f : Nat → State → DspEnd) (s : State) (second : Bool := false) :
    Host.Outcome State Fault Refusal :=
  perform (fun s => s.issue q op ecc f second) s

end Sys2Proof.Machine
end

