-- ==== Sys2Proof/Machine/DspRows.lean ====
section
/-!
DEFINITION. The DSP instructions (spec/10 R286), interrupt entry, the timer line, the mailbox, and the host's DSP commands
(R297). Each row is the issue of one instruction on one core; `ecc` is what the check bits say of the words it reads.
-/

namespace Sys2Proof.Machine

/-! ## Arithmetic (R286) -/

/-- How many of the top bits among the low n of x, in a row, repeat a sign. -/
def redSign (x : Nat) (sign : Bool) : Nat → Nat
  | 0 => 0
  | n + 1 => if bit x n == sign then redSign x sign n + 1 else 0

/-- e of NORM and EXP: the redundant sign bits of a w-bit value. -/
def signBits (w x : Nat) : Nat := redSign x (bit x (w - 1)) (w - 1)

/-- rnd of R89, then saturation to 16 bits: the value and whether it was clipped. -/
def rndSat16 (x : Int) (k : Nat) : Nat × Bool :=
  let r := roundUp x k
  (unsgn 16 (satS 16 r), satS 16 r != r)

def reOf (g : Nat) : Int := sgn 16 (slice g 0 16)
def imOf (g : Nat) : Int := sgn 16 (slice g 16 16)

/-- A complex product x · y, or x · conj(y). -/
def cProduct (x y : Nat) (conj : Bool) : Int × Int :=
  let yi := if conj then -imOf y else imOf y
  (reOf x * reOf y - imOf x * yi, reOf x * yi + imOf x * reOf y)

namespace State

/-- An instruction that goes on to the next one. -/
def thenNext (q : Nat) (f : State → State) (s : State) : DspEnd := .go (f s) (s.pcNext q)

/-- OP 1: Gd = f(Gs1, Gs2), with the ALU flags. -/
def aluOp (q : Nat) (f : Nat → Nat → Nat) (w : Nat) (s : State) : DspEnd :=
  thenNext q (fun s =>
    let a := s.gReg q (iS1 w)
    let b := s.gReg q (iS2 w)
    (s.setG q (iD w) (f a b)).aluSet q w a b) s

/-- A shift by Gs2; by 32 or more the result is a free value (DEDUCED: the amount is S2, as for every other OP 1). -/
def shiftBy (k : Nat) (f : Nat → Nat → Nat) (a b : Nat) : Nat :=
  if b < 32 then f a b else (Config.shiftOver k (BitVec.ofNat 32 a) (BitVec.ofNat 32 b)).toNat

/-- Both halves of a result, with SAT where either was clipped. -/
def setHalves (s : State) (q d : Nat) (re im : Nat × Bool) : State :=
  when (re.2 || im.2) (fun s => s.flagOr q 1) (s.setG q d (re.1 + im.1 <<< 16))

/-- CADDS and CSUBS. -/
def cadd (q : Nat) (f : Int → Int → Int) (w : Nat) (s : State) : DspEnd :=
  thenNext q (fun s =>
    let a := s.gReg q (iS1 w)
    let b := s.gReg q (iS2 w)
    s.setHalves q (iD w) (rndSat16 (f (reOf a) (reOf b)) (iSh w)) (rndSat16 (f (imOf a) (imOf b)) (iSh w))) s

/-- A part of a complex product enters an accumulator, saturating at 40 bits. -/
def accPut (s : State) (q i : Nat) (v : Int) : State :=
  when (satS 40 v != v) (fun s => s.flagOr q 2) (s.setAcc q i (satS 40 v))

/-- One complex product into, or added to, the pair a. -/
def macPair (s : State) (q a x y : Nat) (conj add : Bool) : State :=
  let p := cProduct x y conj
  let re := if add then s.acc q a + p.1 else p.1
  let im := if add then s.acc q (a + 1) + p.2 else p.2
  (s.accPut q a re).accPut q (a + 1) im

def cmulOp (q : Nat) (add : Bool) (w : Nat) (s : State) : DspEnd :=
  thenNext q (fun s => s.macPair q (iA w) (s.gReg q (iX w)) (s.gReg q (iY w)) (iConj w) add) s

def cmul2Op (q : Nat) (add : Bool) (w : Nat) (s : State) : DspEnd :=
  thenNext q (fun s =>
    let x1 := s.gReg q (iX w + 1)
    let y1 := s.gReg q (iY w + 1)
    (s.macPair q (iA w) (s.gReg q (iX w)) (s.gReg q (iY w)) (iConj w) add).macPair q (iA w + 2) x1 y1 (iConj w) add) s

/-- A load into Gd, or Gd and Gd + 1. -/
def loadOp (q n : Nat) (w : Nat) (s : State) : DspEnd :=
  match s.dspLoad q (s.dspAddr q w) n with
  | .inl (cause, addr) => .fault cause addr
  | .inr (t, v) =>
    let u := if n = 8 then (t.setG q (iD w) (slice v 0 32)).setG q (iD w + 1) (slice v 32 32)
      else t.setG q (iD w) (unsgn 32 (sgn (8 * n) v))
    .go (u.dspModify q w) (s.pcNext q)

/-- A store of the low n bytes of Gd, or of Gd and Gd + 1. -/
def storeOp (q n : Nat) (w : Nat) (s : State) : DspEnd :=
  let v := s.gReg q (iD w) + (if n = 8 then s.gReg q (iD w + 1) <<< 32 else 0)
  if s.sendStalls q (s.dspAddr q w) n then .stall
  else match s.dspStore q (s.dspAddr q w) n (v % 2 ^ (8 * n)) with
  | .inl (cause, addr) => .fault cause addr
  | .inr t => .go (t.dspModify q w) (s.pcNext q)

/-- BEXP.L: the smaller of Gd, as a signed number, and the headroom of the loaded word's halves. -/
def bexpOp (q : Nat) (w : Nat) (s : State) : DspEnd :=
  match s.dspLoad q (s.dspAddr q w) 4 with
  | .inl (cause, addr) => .fault cause addr
  | .inr (t, v) =>
    let h : Int := (min (signBits 16 (slice v 0 16)) (signBits 16 (slice v 16 16)) : Nat)
    .go ((t.setG q (iD w) (unsgn 32 (min (sgn 32 (s.gReg q (iD w))) h))).dspModify q w) (s.pcNext q)

/-- A branch on Gs. -/
def branchOp (q : Nat) (c : Nat → Bool) (w : Nat) (s : State) : DspEnd :=
  .go s (if c (s.gReg q (iD w)) then s.pcBranch q w else s.pcNext q)

def dbnzOp (q : Nat) (w : Nat) (s : State) : DspEnd :=
  let v := unsgn 32 ((s.gReg q (iD w) : Int) - 1)
  .go (s.setG q (iD w) v) (if v ≠ 0 then s.pcBranch q w else s.pcNext q)

/-- The body's accesses, n of them from pointer p, all keep off CLM and the ports (R288). -/
def bodyStays (s : State) (q w : Nat) : Nat → Nat → Bool
  | _, 0 => true
  | p, n + 1 =>
    let a := if iMod w = 3 then unsgn 32 ((p : Int) + iImm17 w) else p
    !(decide (0x200000 ≤ a) && decide (a < 0x400000)) && !inPort a && s.bodyStays q w (s.dspNext q w p).1 n

/-- REPEAT: the body is checked, then runs IMM18 + 1 times. -/
def repeatOp (q : Nat) (w : Nat) (s : State) : DspEnd :=
  let n := iImm18 w + 1
  let body := s.imemWord q (s.pcNext q)
  let good := match dspOp body with
    | some o => !o.control && (o.bytes == 0 || s.bodyStays q body (s.ptr q (iP body)) n)
    | none => true
  if good then
    let s := (s.setF .dspStatusPc q (s.pcNext q)).setB .dspStatusInRepeat q true
    .go (s.updCore q fun c => { c with rep := some (n + 1) }) (s.pcOf q)
  else .fault 3 0

/-- WAITI: asleep unless an unmasked line is pending. -/
def waitiOp (q : Nat) (s : State) : DspEnd :=
  thenNext q (fun s => when (s.lineFirst q).isNone (fun s => s.setB .dspStatusSleep q true) s) s

/-- RETI: bank 0 and the return address; outside a handler only the return address (DEDUCED). -/
def retiOp (q : Nat) (s : State) : DspEnd := .go (s.setB .dspStatusInHandler q false) ((s.core q).elr.toNat % 16384)

/-- A pending, enabled line is taken (R290, R291): `second` says that the handler's first instruction issues in the second
DSP cycle of the cycle. -/
def interruptEntry (s : State) (q : Nat) (second : Bool) : State :=
  if s.hasDsp q && s.coreState q == 2 && !s.flag .dspStatusInHandler q && (s.core q).ien && (s.core q).rep.isNone then
    match s.lineFirst q with
    | some i =>
      let d := SMap.get 0 (s.core q).ipend i - 1
      let late := max (s.core q).free (2 * s.cyc + ofBool second) - d
      let s := s.setF .dspIntMaxCycles q (min 0xFFFF (max (s.fld .dspIntMaxCycles q) late))
      let s := s.updCore q fun c => { c with
        elr := BitVec.ofNat 32 (s.pcOf q), line := BitVec.ofNat 3 i, free := max c.free (2 * s.cyc + ofBool second) }
      let s := (s.setB .dspStatusInHandler q true).setB .dspStatusSleep q false
      let s := s.setF .dspStatusPc q ((SMap.get 0 (s.core q).ivec i).toNat % 16384)
      s.clearLines q (2 ^ i)
    | none => s
  else s

end State

open State

/-! ## General arithmetic -/

def execDspAdd (core : Fin 32) (ecc : Ecc) (s : State) := dspRow core .add ecc (aluOp core (fun a b => a + b)) s
def execDspSub (core : Fin 32) (ecc : Ecc) (s : State) := dspRow core .sub ecc (aluOp core (fun a b => a + 2 ^ 32 - b)) s
def execDspAnd (core : Fin 32) (ecc : Ecc) (s : State) := dspRow core .and ecc (aluOp core (fun a b => a &&& b)) s
def execDspOr (core : Fin 32) (ecc : Ecc) (s : State) := dspRow core .or ecc (aluOp core (fun a b => a ||| b)) s
def execDspXor (core : Fin 32) (ecc : Ecc) (s : State) := dspRow core .xor ecc (aluOp core (fun a b => a ^^^ b)) s
def execDspShl (core : Fin 32) (ecc : Ecc) (s : State) :=
  dspRow core .shl ecc (aluOp core (shiftBy 5 (fun a b => a <<< b))) s
def execDspShr (core : Fin 32) (ecc : Ecc) (s : State) :=
  dspRow core .shr ecc (aluOp core (shiftBy 6 (fun a b => a >>> b))) s
def execDspSar (core : Fin 32) (ecc : Ecc) (s : State) :=
  dspRow core .sar ecc (aluOp core (shiftBy 7 (fun a b => unsgn 32 (sgn 32 a >>> b)))) s
def execDspMul (core : Fin 32) (ecc : Ecc) (s : State) := dspRow core .mul ecc (aluOp core (fun a b => a * b)) s

/-- ADDI. -/
def execDspAddi (core : Fin 32) (ecc : Ecc) (s : State) : Host.Outcome State Fault Refusal :=
  dspRow core .addi ecc (fun w => thenNext core fun s =>
    let a := s.gReg core (iS1 w)
    let b := unsgn 32 (sgn 18 (iImm18 w))
    (s.setG core (iD w) (a + b)).aluSet core w a b) s

/-- MOVI. -/
def execDspMovi (core : Fin 32) (ecc : Ecc) (s : State) : Host.Outcome State Fault Refusal :=
  dspRow core .movi ecc (fun w => thenNext core fun s => s.setG core (iD w) (unsgn 32 (sgn 18 (iImm18 w)))) s

/-- MOVHI: Gd[31:14]; the low bits stay. -/
def execDspMovhi (core : Fin 32) (ecc : Ecc) (s : State) : Host.Outcome State Fault Refusal :=
  dspRow core .movhi ecc (fun w => thenNext core fun s =>
    s.setG core (iD w) (place (s.gReg core (iD w)) 14 18 (iImm18 w))) s

/-! ## Complex arithmetic -/

def execDspCadds (core : Fin 32) (ecc : Ecc) (s : State) := dspRow core .cadds ecc (cadd core (fun a b => a + b)) s
def execDspCsubs (core : Fin 32) (ecc : Ecc) (s : State) := dspRow core .csubs ecc (cadd core (fun a b => a - b)) s

/-- CROTQ: a rotation by j^SH. -/
def execDspCrotq (core : Fin 32) (ecc : Ecc) (s : State) : Host.Outcome State Fault Refusal :=
  dspRow core .crotq ecc (fun w => thenNext core fun s =>
    let g := s.gReg core (iS1 w)
    let r : Int × Int := match iSh w with
      | 0 => (reOf g, imOf g)
      | 1 => (-imOf g, reOf g)
      | 2 => (-reOf g, -imOf g)
      | _ => (imOf g, -reOf g)
    s.setHalves core (iD w) (rndSat16 r.1 0) (rndSat16 r.2 0)) s

/-- NORM. -/
def execDspNorm (core : Fin 32) (ecc : Ecc) (s : State) : Host.Outcome State Fault Refusal :=
  dspRow core .norm ecc (fun w => thenNext core fun s =>
    let g := s.gReg core (iS1 w)
    s.setG core (iD w) (g <<< signBits 32 g)) s

/-- EXP. -/
def execDspExp (core : Fin 32) (ecc : Ecc) (s : State) : Host.Outcome State Fault Refusal :=
  dspRow core .exp ecc (fun w => thenNext core fun s => s.setG core (iD w) (signBits 32 (s.gReg core (iS1 w)))) s

/-- NORM.A: the shifted accumulator has 40 bits; what Gd keeps of it is a free value. -/
def execDspNormA (core : Fin 32) (ecc : Ecc) (s : State) : Host.Outcome State Fault Refusal :=
  dspRow core .normA ecc (fun w => thenNext core fun s =>
    let a := unsgn 40 (s.acc core (slice (iS1 w) 0 3))
    s.setG core (iD w) (Config.normA (BitVec.ofNat 40 (a <<< signBits 40 a))).toNat) s

/-- EXP.A. -/
def execDspExpA (core : Fin 32) (ecc : Ecc) (s : State) : Host.Outcome State Fault Refusal :=
  dspRow core .expA ecc (fun w => thenNext core fun s =>
    s.setG core (iD w) (signBits 40 (unsgn 40 (s.acc core (slice (iS1 w) 0 3))))) s

def execDspBexpL (core : Fin 32) (ecc : Ecc) (s : State) := dspRow core .bexpL ecc (bexpOp core) s
def execDspCmul (core : Fin 32) (ecc : Ecc) (s : State) := dspRow core .cmul ecc (cmulOp core false) s
def execDspCmac (core : Fin 32) (ecc : Ecc) (s : State) := dspRow core .cmac ecc (cmulOp core true) s
def execDspCmul2 (core : Fin 32) (ecc : Ecc) (s : State) := dspRow core .cmul2 ecc (cmul2Op core false) s
def execDspCmac2 (core : Fin 32) (ecc : Ecc) (s : State) := dspRow core .cmac2 ecc (cmul2Op core true) s

/-- CRND. -/
def execDspCrnd (core : Fin 32) (ecc : Ecc) (s : State) : Host.Outcome State Fault Refusal :=
  dspRow core .crnd ecc (fun w => thenNext core fun s =>
    s.setHalves core (iD w) (rndSat16 (s.acc core (iA w)) (iXsh w)) (rndSat16 (s.acc core (iA w + 1)) (iXsh w))) s

/-- MVA. -/
def execDspMva (core : Fin 32) (ecc : Ecc) (s : State) : Host.Outcome State Fault Refusal :=
  dspRow core .mva ecc (fun w => thenNext core fun s => s.setG core (iD w) (unsgn 32 (s.acc core (iA w)))) s

/-- MVAH. -/
def execDspMvah (core : Fin 32) (ecc : Ecc) (s : State) : Host.Outcome State Fault Refusal :=
  dspRow core .mvah ecc (fun w => thenNext core fun s => s.setG core (iD w) (unsgn 32 (s.acc core (iA w) / 2 ^ 32))) s

/-! ## Loads and stores -/

def execDspLdB (core : Fin 32) (ecc : Ecc) (s : State) := dspRow core .ldB ecc (loadOp core 1) s
def execDspLdH (core : Fin 32) (ecc : Ecc) (s : State) := dspRow core .ldH ecc (loadOp core 2) s
def execDspLdW (core : Fin 32) (ecc : Ecc) (s : State) := dspRow core .ldW ecc (loadOp core 4) s
/-- LD.D: `second` says that it issues in the second DSP cycle of the cycle. TIMEP returns the ST of its DSP cycle. -/
def execDspLdD (core : Fin 32) (second : Bool) (ecc : Ecc) (s : State) := dspRow core .ldD ecc (loadOp core 8) s second
def execDspStB (core : Fin 32) (ecc : Ecc) (s : State) := dspRow core .stB ecc (storeOp core 1) s
def execDspStH (core : Fin 32) (ecc : Ecc) (s : State) := dspRow core .stH ecc (storeOp core 2) s
def execDspStW (core : Fin 32) (ecc : Ecc) (s : State) := dspRow core .stW ecc (storeOp core 4) s
def execDspStD (core : Fin 32) (ecc : Ecc) (s : State) := dspRow core .stD ecc (storeOp core 8) s

/-! ## Control -/

def execDspB (core : Fin 32) (ecc : Ecc) (s : State) := dspRow core .b ecc (branchOp core (fun _ => true)) s
def execDspBeqz (core : Fin 32) (ecc : Ecc) (s : State) := dspRow core .beqz ecc (branchOp core (fun g => g == 0)) s
def execDspBnez (core : Fin 32) (ecc : Ecc) (s : State) := dspRow core .bnez ecc (branchOp core (fun g => g != 0)) s
def execDspBltz (core : Fin 32) (ecc : Ecc) (s : State) := dspRow core .bltz ecc (branchOp core (fun g => bit g 31)) s
def execDspBgez (core : Fin 32) (ecc : Ecc) (s : State) := dspRow core .bgez ecc (branchOp core (fun g => !bit g 31)) s
def execDspDbnz (core : Fin 32) (ecc : Ecc) (s : State) := dspRow core .dbnz ecc (dbnzOp core) s

/-- REPEAT (R288). -/
def execDspRepeat (core : Fin 32) (ecc : Ecc) (s : State) : Host.Outcome State Fault Refusal :=
  dspRow core .repeat ecc (repeatOp core) s

/-- MVC. -/
def execDspMvc (core : Fin 32) (ecc : Ecc) (s : State) : Host.Outcome State Fault Refusal :=
  dspRow core .mvc ecc (fun w => thenNext core fun s => s.setG core (iD w) (s.crRead core (iCr w))) s

/-- MVCT. -/
def execDspMvct (core : Fin 32) (ecc : Ecc) (s : State) : Host.Outcome State Fault Refusal :=
  dspRow core .mvct ecc (fun w => thenNext core fun s => s.crWrite core (iCr w) (s.gReg core (iD w))) s

def execDspReti (core : Fin 32) (ecc : Ecc) (s : State) := dspRow core .reti ecc (fun _ => retiOp core) s

/-- HALT (R298). -/
def execDspHalt (core : Fin 32) (ecc : Ecc) (s : State) : Host.Outcome State Fault Refusal :=
  dspRow core .halt ecc (fun _ => thenNext core fun s => s.coreHalt core) s

def execDspWaiti (core : Fin 32) (ecc : Ecc) (s : State) := dspRow core .waiti ecc (fun _ => waitiOp core) s

/-- IEN. -/
def execDspIen (core : Fin 32) (ecc : Ecc) (s : State) : Host.Outcome State Fault Refusal :=
  dspRow core .ien ecc (fun _ => thenNext core fun s => s.updCore core fun c => { c with ien := true }) s

/-- IDIS. -/
def execDspIdis (core : Fin 32) (ecc : Ecc) (s : State) : Host.Outcome State Fault Refusal :=
  dspRow core .idis ecc (fun _ => thenNext core fun s => s.updCore core fun c => { c with ien := false }) s

/-! ## Interrupt lines (R289, R290) -/

/-- DSP_INTERRUPT_ENTRY (R290). -/
def execDspInterruptEntry (core : Fin 32) (second : Bool) (s : State) : Host.Outcome State Fault Refusal :=
  run (fun s => s.interruptEntry core second) s

/-- DSP_TIMER_MATCH (R289): ST reaches TCMP in the present cycle. -/
def execDspTimerMatch (core : Fin 32) (s : State) : Host.Outcome State Fault Refusal :=
  run (fun s =>
    let t := (s.core core).tcmp.toNat
    if s.hasDsp core && decide (s.st.toNat ≤ t) && decide (t < s.st.toNat + 32) then s.coreLine core 7 else s) s

/-- MBOX_WRITE (R289). -/
def execMboxWrite (core : Fin 32) (value : Word) (s : State) : Host.Outcome State Fault Refusal :=
  run (fun s =>
    if s.hostPage (0x40 + core.val / 8) && s.hasDsp core then
      (s.updCore core fun c => { c with mboxIn := value }).coreLine core 6
    else s) s

/-! ## Host commands (R295, R297) -/

namespace State

/-- RESET: both banks and the core's control registers; memories, feed and configuration stay (DESIGN CHOICE). -/
def coreReset (s : State) (q : Nat) : State :=
  let s := s.updCore q fun c => { Core.init with imem := c.imem, dmem := c.dmem, feed := c.feed }
  ((((s.wr .dspStatus q 0).wr .dspFault q 0).wr .dspFaultAddr q 0).wr .dspMboxOut q 0).feedLine q

/-- START at ENTRY: the main program runs in bank 0. -/
def coreStart (s : State) (q entry : Nat) : State :=
  let s := (s.setF .dspCtrlEntry q entry).updCore q fun c => { c with rep := none, haltReq := false }
  s.wr .dspStatus q (2 + entry <<< 16)

/-- A core of the cluster runs. -/
def clusterRuns (s : State) (c : Nat) : Bool := (List.range 8).any (fun k => s.coreState (8 * c + k) == 2)

end State

/-- DSP_CTRL. -/
def dspCtrlSpec : CmdSpec where
  opcode := 0x10D
  kinds := [5]
  states := 0b11100
  layout := [(16, 255), (18, 255), (19, 0x3F)]
  range := fun _ c => rejIf (decide (2 < pByte c 16)) (rejRange 16)
  locked := fun s c => if pByte c 16 = 1 then s.bankLocked (120 + indexOf c) else none
  busy := fun s c => if pByte c 16 = 1 then s.bankBusy (120 + indexOf c) else none
  app := justDo fun s c =>
    match pByte c 16 with
    | 0 => s.coreReset (indexOf c)
    | 1 => s.coreStart (indexOf c) (pNum c 18 2)
    | _ => s.coreHalt (indexOf c)

def execDspCtrl (c : HostCmd) (s : State) : Host.Outcome State Fault Refusal := command dspCtrlSpec c s

/-- Size of the memory that a DSP_LOAD or DSP_READ names. -/
def dspSize (m : Nat) : Nat := if m = 0 then 0x10000 else if m = 1 then 0x40000 else 0x200000

/-- What DSP_LOAD and DSP_READ refuse with RANGE; `lo` is the lowest memory number. -/
def dspRange (lo : Nat) (c : HostCmd) : Option Reject := firstRej [
  rejIf (decide (pByte c 16 < lo) || decide (2 < pByte c 16)) (rejRange 16),
  rejIf (pNum c 20 4 % 4 != 0 || decide (dspSize (pByte c 16) ≤ pNum c 20 4)) (rejRange 20),
  bufAligned c 24,
  rejIf (pNum c 32 4 % 4 != 0 || decide (0x40000 < pNum c 32 4)
    || decide (dspSize (pByte c 16) < pNum c 20 4 + pNum c 32 4)) (rejRange 32)]

/-- Power group of the memory named. -/
def dspGroup (c : HostCmd) : Nat := if pByte c 16 = 2 then 152 + indexOf c / 8 else 120 + indexOf c

/-- The layout of DSP_LOAD and DSP_READ (R558). -/
def dspLayout : List (Nat × Nat) := List.flatten [[(16, 255)], whole 20 4, whole 24 8, whole 32 4]

/-- A transfer to or from the memory of a cluster that failed its Weevil test (R340). -/
def dspClmFailed (s : State) (c : HostCmd) : Option Reject :=
  rejIf (pByte c 16 == 2 && s.memFailed (152 + indexOf c / 8)) (rejAbsent 12 (152 + indexOf c / 8))

/-- DSP_LOAD. -/
def dspLoadSpec : CmdSpec where
  opcode := 0x10E
  kinds := [5]
  states := 0b11100
  layout := dspLayout
  reads := fun _ _ => true
  absent := dspClmFailed
  range := fun _ c => dspRange 0 c
  locked := fun s c => firstRej [
    rejIf (if pByte c 16 = 2 then s.clusterRuns (indexOf c / 8) else s.coreState (indexOf c) == 2) rejLocked,
    s.bankLocked (dspGroup c)]
  busy := fun s c => s.bankBusy (dspGroup c)
  app := justDo fun s c =>
    let q := indexOf c
    let off := pNum c 20 4
    let n := pNum c 32 4
    let b := (List.range n).map (fun k => (bufOf c).getD k 0)
    match pByte c 16 with
    | 0 =>
      let fill := fun (m : SMap Word) => (List.range (n / 4)).foldl
        (fun m i => SMap.put 0 m (off / 4 + i) (BitVec.ofNat 32 (bufNat b (4 * i) 4))) m
      (s.updCore q fun x => { x with imem := fill x.imem }).cleanBank 9 q (off / 8) ((off + n + 7) / 8)
    | 1 =>
      (s.updCore q fun x => { x with dmem := Memory.writeBytes x.dmem off b }).cleanBank 9 q (0x2000 + off / 8)
        (0x2000 + (off + n + 7) / 8)
    | _ =>
      { s with clm := SMap.put [] s.clm (q / 8) (Memory.writeBytes (s.clmBytes q) off b) }.cleanBank 10 (q / 8) (off / 8)
        ((off + n + 7) / 8)

def execDspLoad (c : HostCmd) (s : State) : Host.Outcome State Fault Refusal := command dspLoadSpec c s

/-- DSP_READ: the words go to the host buffer. -/
def dspReadSpec : CmdSpec where
  opcode := 0x10F
  kinds := [5]
  states := 0b11100
  layout := dspLayout
  absent := dspClmFailed
  range := fun _ c => dspRange 1 c
  locked := fun s c => s.bankLocked (dspGroup c)
  busy := fun s c => s.bankBusy (dspGroup c)
  app := justDo fun s c =>
    let m := if pByte c 16 = 1 then (s.core (indexOf c)).dmem else s.clmBytes (indexOf c)
    s.emit (.hostWrite (BitVec.ofNat 64 (pNum c 24 8)) (Memory.readBytes m (pNum c 20 4) (pNum c 32 4)))

def execDspRead (c : HostCmd) (s : State) : Host.Outcome State Fault Refusal := command dspReadSpec c s

/-- DSP_FEED. -/
def dspFeedSpec : CmdSpec where
  opcode := 0x110
  kinds := [5]
  states := 0b11100
  layout := [(16, 255), (17, 255), (18, 255), (20, 0x7F)]
  absent := fun s c => firstRejOf (setBits (pNum c 16 3) 24) fun r => rejIf (!s.unitPresent 2 r) (rejAbsent 2 r)
  range := fun _ c => rejIf (pByte c 20 == 0 || decide (64 < pByte c 20)) (rejRange 20)
  app := justDo fun s c =>
    (s.wr .dspRfeedCfg (indexOf c) (pNum c 16 3 + pByte c 20 <<< 24)).feedLine (indexOf c)

def execDspFeed (c : HostCmd) (s : State) : Host.Outcome State Fault Refusal := command dspFeedSpec c s

end Sys2Proof.Machine
end

