-- ==== Sys2Proof/Machine/MemRows.lean ====
section
/-!
DEFINITION. Memories (spec/12 R330 to R341, spec/13 R363, R364): bank power, Weevil tests, the scrubber, and host access
through BAR2. What an address refuses is said once here, for BAR2 and for the DMA engine.
-/

namespace Sys2Proof.Machine

namespace State

/-! ## Contents of a power group (R330, R332) -/

/-- The words of a group's banks are all zero, with valid check bits. -/
def clearGroup (s : State) (g : Nat) : State :=
  let s := { s with mem := { s.mem with bad := s.mem.bad.filter (fun w => bankGroup w.1 w.2.1 != g) } }
  let bytes := fun (s : State) (lo n : Nat) => { s with mem := { s.mem with bytes := Memory.clear s.mem.bytes lo (lo + n) } }
  if g < 96 then
    let s := bytes s (envAddr g 0) 0x100000
    s.updChan g fun o => { o with segs := [], conds := [], fr := { o.fr with mem := [] } }
  else if g < 120 then
    let s := bytes s (capAddr (g - 96) 0) 0x100000
    s.updRchan (g - 96) fun r => { r with fr := { r.fr with mem := [] }, descs := [], kernel := [] }
  else if g < 152 then s.updCore (g - 120) fun c => { c with imem := [], dmem := [] }
  else if g < 156 then { s with clm := SMap.put [] s.clm (g - 152) [] }
  else bytes s (dramAddr ((g - 156) * 0x200000000)) 0x200000000

/-- The n words that free values give a bank, from draw d (R341, R401: contents that the spec leaves undefined). -/
def freeWords {α : Type} [DecidableEq α] (z : α) (d n : Nat) (f : BitVec 512 → α) : SMap α :=
  (List.range n).foldl (fun m i => SMap.put z m i (f (Config.bankWord d i))) []

/-- Place of a word's bank among the Weevil-covered banks of its group, and how many the group has (R330). -/
def bankPlace (row word : Nat) : Nat :=
  match row with
  | 3 => 1
  | 4 => 2
  | 5 => 3
  | 6 => 2
  | 8 => 1
  | 9 => if word < 0x2000 then 0 else 1
  | _ => 0
def groupBanks (g : Nat) : Nat := if g < 96 then 4 else if g < 120 then 3 else if g < 152 then 2 else 1

/-- A decision record of undefined contents (R274). -/
def freeRecord (w : BitVec 512) (cyc : Nat) : Slot :=
  { word := BitVec.ofNat 4 w.toNat, tag := BitVec.ofNat 16 (w.toNat >>> 16), epoch := BitVec.ofNat 8 (w.toNat >>> 8),
    counted := bit w.toNat 4, stale := BitVec.ofNat 8 (w.toNat >>> 32), owner := slice w.toNat 40 6,
    assigned := bit w.toNat 48, from_ := cyc, past := [] }

/-- Those Weevil-covered banks of a group for which `hit` holds, or an always-on bank (160 to 163), hold undefined contents,
with valid check bits. -/
def freeBanks (s : State) (g : Nat) (hit : Nat → Bool) : State :=
  let d := s.draw
  let k := d.1
  let s := d.2
  let pick := fun {α : Type} (i : Nat) (new old : α) => if hit i then new else old
  let s := { s with mem := { s.mem with bad := s.mem.bad.filter (fun w =>
    !(bankUnit w.1 w.2.1 == g && w.1 != 0 && w.1 != 1 && w.1 != 16 && hit (bankPlace w.1 w.2.2))) } }
  if g < 96 then s.updChan g fun o => { o with
    segs := pick 0 (freeWords 0 k 4096 (fun w => w.setWidth 128)) o.segs
    conds := pick 1 (freeWords 0 (k + 1) 256 (fun w => w)) o.conds
    fr := { o.fr with mem := pick 2 (freeWords 0 (k + 2) 512 (fun w => w.setWidth 128)) o.fr.mem } }
  else if g < 120 then s.updRchan (g - 96) fun r => { r with
    descs := pick 0 (freeWords 0 k 16 (fun w => w)) r.descs
    kernel := pick 1 (freeWords 0 (k + 1) 16384 (fun w => w.setWidth 32)) r.kernel
    fr := { r.fr with mem := pick 2 (freeWords 0 (k + 2) 512 (fun w => w.setWidth 128)) r.fr.mem } }
  else if g < 152 then s.updCore (g - 120) fun c => { c with
    imem := pick 0 (freeWords 0 k 16384 (fun w => w.setWidth 32)) c.imem
    dmem := pick 1 (freeWords 0 (k + 1) 0x40000 (fun w => w.setWidth 8)) c.dmem }
  else if g < 156 then { s with clm := SMap.put [] s.clm (g - 152) (freeWords 0 k 0x200000 (fun w => w.setWidth 8)) }
  else match g with
    | 160 => forEach (List.range 4096) (fun i s => s.setSlot i (freeRecord (Config.bankWord k i) s.cyc)) s
    | 161 => { s with descs := freeWords 0 k 1024 (fun w => w.setWidth 256) }
    | 162 => { s with dec := { s.dec with export_ := freeWords 0 k 1024 (fun w => w.setWidth 64) } }
    | 163 => forEach (List.range 48) (fun b s =>
        let x := SMap.get Bdac.init s.bdac b
        { s with bdac := SMap.put Bdac.init s.bdac b { x with
          list := freeWords 0 (k + b) 256 (fun w => w.setWidth 20) } }) s
    | _ => s

/-- All Weevil-covered banks of a group, or an always-on bank, hold undefined contents (R401). -/
def freeGroup (s : State) (g : Nat) : State := s.freeBanks g fun _ => true

/-- A transparent test has found a fault in a group: the banks with a fault hold undefined contents, the others what they
held (R339, R341). Which banks these are the reply does not say: a free value. -/
def freeFailed (s : State) (g : Nat) : State :=
  let d := s.draw
  let m := Config.failedBanks d.1 % 2 ^ groupBanks g
  d.2.freeBanks g fun i => m = 0 || bit m i

/-- The Weevil-covered banks of a group, or an always-on bank, are all zero after a March C− test (R339). -/
def zeroBanks (s : State) (g : Nat) : State :=
  let bytes := s.mem.bytes
  let bad := s.mem.bad.filter (fun w => !(bankUnit w.1 w.2.1 == g && w.1 != 0 && w.1 != 1 && w.1 != 16))
  if g < 158 then
    let t := s.clearGroup g
    { t with mem := { t.mem with bytes := bytes, bad := bad } }
  else
    let s := { s with mem := { s.mem with bad := bad } }
    match g with
    | 161 => { s with descs := [] }
    | 162 => { s with dec := { s.dec with export_ := [] } }
    | 163 => forEach (List.range 48) (fun b s =>
        { s with bdac := SMap.put Bdac.init s.bdac b { SMap.get Bdac.init s.bdac b with list := [] } }) s
    | _ => s

/-! ## Power (R333) -/

/-- The unit of a group is in use (R333). -/
def groupUsed (s : State) (g : Nat) : Bool :=
  let armed := s.dev == 3 || s.dev == 4
  if g < 96 then (armed && s.ochPart g) || s.outState g != 0 || s.strmOpen g
  else if g < 120 then
    let r := g - 96
    (armed && (List.range 16).any (fun t => s.tonePart (16 * r + t))) || s.rxState r != 0
      || (s.acqOn r && !s.flag .acqCfgDest r)
  else if g < 152 then (armed && s.dspPart (g - 120)) || s.coreState (g - 120) == 2
  else if g < 156 then s.clusterRuns (g - 152)
  else
    let stack := (0x200000000 * (g - 156), 0x200000000 * (g - 155))
    hits stack s.spillRegion || (s.streamHit stack).isSome
      || (List.range 24).any (fun u => s.acqOn u && hits stack (s.acqRegion u))

def setBankBusy (s : State) (g : Nat) (b : Bool) : State :=
  s.wr .glbBankBusy (g / 32) (setBit (s.rd .glbBankBusy (g / 32)) (g % 32) b)

/-- MEM_POWER_DONE: the group reaches its state; entering or leaving OFF leaves every word zero when it is next ON. -/
def memPowerDone (s : State) (g : Nat) : State :=
  match SMap.get none s.mem.moving g with
  | some t =>
    let was := s.groupState g
    let s := s.wr .glbBankPwr (g / 16) (place (s.rd .glbBankPwr (g / 16)) (2 * (g % 16)) 2 t)
    let s := { s with mem := { s.mem with moving := SMap.put none s.mem.moving g none } }
    let s := s.setBankBusy g false
    if t = 2 || was = 2 then s.clearGroup g else s
  | none => s

end State

/-- MEM_POWER (R333). -/
def memPowerSpec : CmdSpec where
  opcode := 0x900
  kinds := [12]
  states := 0b1100
  layout := [(16, 3)]
  range := fun _ c => firstRej [rejIf (decide (158 ≤ indexOf c)) (rejRange 8), rejIf (pBits c 16 0 2 == 3) (rejRange 16)]
  locked := fun s c => rejIf (s.groupUsed (indexOf c)) rejLocked
  busy := fun s c => s.bankBusy (indexOf c)
  app := justDo fun s c =>
    let g := indexOf c
    if s.groupState g = pBits c 16 0 2 then s
    else
      { s with mem := { s.mem with moving := SMap.put none s.mem.moving g (some (pBits c 16 0 2)) } }.setBankBusy g true

def execMemPower (c : HostCmd) (s : State) : Host.Outcome State Fault Refusal := command memPowerSpec c s

/-- MEM_POWER_DONE (R333). -/
def execMemPowerDone (group : Fin 158) (s : State) : Host.Outcome State Fault Refusal :=
  run (fun s => s.memPowerDone group) s

/-! ## Weevil (R339, R341) -/

/-- MEM_TEST: its states depend on TEST. -/
def memTestSpec (keep : Bool) : CmdSpec where
  opcode := 0x901
  kinds := [12]
  states := if keep then 0b11100 else 0b100
  layout := [(16, 1)]
  range := fun _ c => rejIf (decide (158 ≤ indexOf c) && decide (indexOf c < 160)) (rejRange 8)
  locked := fun s c =>
    let g := indexOf c
    if g < 158 then firstRej [rejIf (s.groupUsed g) rejLocked, s.bankLocked g]
    else rejIf (if keep then g == 160 && s.shot.running else g == 160 || g == 164) rejLocked
  busy := fun s c => firstRej [s.longBusy .test (indexOf c), s.bankBusy (indexOf c)]
  app := fun s c =>
    let g := indexOf c
    let s := when (decide (g < 158)) (fun s => s.setBankBusy g true) s
    (s.startLong c .test g (ofBool keep) 0 [], { long := true })

def execMemTest (c : HostCmd) (s : State) : Host.Outcome State Fault Refusal :=
  command (memTestSpec (bit (pByte c 16) 0)) c s

namespace State

/-- A test ends: TEST 0 leaves zeros, TEST 1 what was there unless a word failed; a failure marks the unit. -/
def memTestComplete (s : State) (g : Nat) (fail : Option Nat) : State :=
  match s.findLong 0x901 (some g) with
  | some l =>
    let s := when (decide (g < 158)) (fun s => s.setBankBusy g false) s
    let s := if l.arg = 0 then s.zeroBanks g else if fail.isSome then s.freeFailed g else s
    let s := when (fail.isSome && decide (g < 158)) (fun s =>
      s.wr .glbMemFail (g / 32) (setBit (s.rd .glbMemFail (g / 32)) (g % 32) true)) s
    s.completeAs l 0 (match fail with | some _ => 2 ^ 31 | none => 0) (fail.getD 0) 0
  | none => s

/-- Long commands end at once with a status: a destructive test that is cut leaves undefined contents, and the training of a
LINK_UP stops (R401, R403). -/
def cutLongs (s : State) (status : Nat) : State :=
  let tests := s.ce.longs.filter (fun l => l.cls == .test)
  let s := forEach tests (fun l s =>
    let s := when (decide (l.unit < 158)) (fun s => s.setBankBusy l.unit false) s
    if l.arg = 0 then s.freeGroup l.unit else s) s
  -- a LINK_UP leaves its port at the stage it had reached
  let s := forEach (s.ce.longs.filter (fun l => l.cls == .link)) (fun l s => s.stopTraining l.unit) s
  s.endLongs status

end State

/-- MEM_TEST_COMPLETE (R341): the bank or group, and the first failing word address where one failed. -/
def execMemTestComplete (bank : Fin 165) (fail : Option Word) (s : State) : Host.Outcome State Fault Refusal :=
  run (fun s => s.memTestComplete bank (fail.map (·.toNat))) s

/-! ## Scrubber (R337) -/

namespace State

/-- The first line at or after l in a partition that is ON; partition p is power group p. -/
def scrubFrom (s : State) (l : Nat) : Option Nat :=
  let p := l / 16384
  if decide (p < 120) && s.groupOn p then some l
  else ((List.range 120).filter (fun k => decide (p < k) && s.groupOn k)).head?.map (· * 16384)

/-- One line is read; the pass counts when no line is left. -/
def scrubLine (s : State) (ecc : Ecc) : State :=
  if s.fld .glbScrubCfgRate = 0 then s
  else
    let at_ := fun (s : State) (n : Nat) => { s with mem := { s.mem with scrubAt := n } }
    -- the place is in a partition that has left ON, with no other after it: the pass ends there
    let s := if (s.scrubFrom s.mem.scrubAt).isNone && (s.scrubFrom 0).isSome then at_ (s.bump .glbScrubPass) 0 else s
    match s.scrubFrom s.mem.scrubAt with
    | none => s
    | some l =>
      let s := s.eccSeen ecc
      match s.scrubFrom (l + 1) with
      | some n => at_ s n
      | none => at_ (s.bump .glbScrubPass) ((s.scrubFrom 0).getD 0)

end State

/-- SCRUB_LINE (R337): `ecc` is what the line's check bits say; a corrected line reads as before. -/
def execScrubLine (ecc : Ecc) (s : State) : Host.Outcome State Fault Refusal := perform (fun s => s.scrubLine ecc) s

/-! ## BAR2 (R363, R364) -/

/-- Why an access of the device's memories by address is turned away. -/
inductive Bar2No where
  | reserved
  | absent
  | off
  | envelope (och blk : Nat)
  | partition
  deriving DecidableEq, Repr

namespace State

/-- What turns away an access of n bytes at BAR2 offset a that crosses no 4 KiB boundary. -/
def bar2No (s : State) (a n : Nat) (write : Bool) : Option Bar2No :=
  if (bar2Bank a).isNone then some .reserved
  else if !s.bar2Present a then some .absent
  else if !s.bar2On a then some .off
  else if !write then none
  else
    let blocks := (List.range ((a % 0x100000 % 64 + n + 63) / 64)).map (fun k => a % 0x100000 / 64 + k)
    match if a < 0x6000000 then blocks.find? (fun b => s.blockActive (a / 0x100000) b) else none with
    | some b => some (.envelope (a / 0x100000) b)
    | none =>
      if (List.range 24).any (fun u => s.acqOn u && overlaps (a, a + n) (s.acqRange u)) then some .partition else none

/-- Bytes up to the next 4 KiB boundary. -/
def pieceLen (a n : Nat) : Nat := min n (0x1000 - a % 0x1000)

/-- A host write, piece by piece. -/
def bar2Write (s : State) (a : Nat) (b : List Byte) : Nat → State
  | 0 => s
  | k + 1 =>
    if b.isEmpty then s
    else
      let n := pieceLen a b.length
      let s := match s.bar2No a n true with
        | none => s.bar2Store a (b.take n)
        | some .off => s.bump .glbMemPwrBlocked
        | some (.envelope och blk) => s.writeRefused och blk 2 1
        | some _ => s
      s.bar2Write (a + n) (b.drop n) k

/-- What a host read finds, piece by piece: its bytes, and whether one is poisoned. -/
def bar2Read (s : State) (a n : Nat) : Nat → List Byte × Bool × State
  | 0 => ([], false, s)
  | k + 1 =>
    if n = 0 then ([], false, s)
    else
      let m := pieceLen a n
      let one : List Byte × Bool × State := match s.bar2No a m false with
        | none => (Memory.readBytes s.mem.bytes a m, s.bar2Bad a m, s)
        | some .off => (List.replicate m 0, false, s.bump .glbMemPwrBlocked)
        | some _ => (List.replicate m 0, false, s)
      let rest := one.2.2.bar2Read (a + m) (n - m) k
      (one.1 ++ rest.1, one.2.1 || rest.2.1, rest.2.2)

/-- A host access to the memories is served: like the pages that do not respond during Dawn, else (R523, DEDUCED). -/
def hostMem (s : State) : Bool := s.pcie.linkUp && !s.pcie.d3hot && s.dev != 0 && !s.fewPages

/-- An error is reported by AER. -/
def aerNote (s : State) (b : Nat) : State :=
  if b < 32 then { s with pcie := { s.pcie with aer := BitVec.ofNat 32 (setBit s.pcie.aer.toNat b true) } } else s

end State

/-- BAR2_WRITE (R364). -/
def execBar2Write (addr : BitVec 36) (data : List Byte) (s : State) : Host.Outcome State Fault Refusal :=
  run (fun s => if s.hostMem then s.bar2Write addr.toNat data (data.length / 0x1000 + 2) else s) s

/-- BAR2_READ (R364): `ecc` is what the words' check bits say. -/
def execBar2Read (addr : BitVec 36) (len : Nat) (ecc : Ecc) (s : State) : Host.Outcome State Fault Refusal :=
  perform (fun s =>
    if s.hostMem then
      let r := (s.eccSeen ecc).bar2Read addr.toNat len (len / 0x1000 + 2)
      when r.2.1 (fun s => s.aerNote 12) { r.2.2 with readBytes := r.1, poisoned := r.2.1 }
    else { s with readBytes := List.replicate len 0, poisoned := false }) s

end Sys2Proof.Machine
end

