-- ==== Sys2Proof/Machine/DmaRows.lean ====
section
/-!
DEFINITION. The DMA engine, MSI-X and the endpoint's link and power states (spec/13 R358 to R381). The rows stand for what
the engine does at its own pace and for what host memory answers; a row acts when its condition of the spec holds.
-/

namespace Sys2Proof.Machine

/-! ## Descriptors (R369, R370) -/

/-- The unit of a SWAP. -/
def swapUnit (k : Nat) : Nat := if k = 1 then 2 else if k = 0 then 1 else 4

/-- The fields of a descriptor's eight words. -/
def dmaDecode (w : List Word) : DmaDesc :=
  let g := fun k => (w.getD k 0).toNat
  let op := slice (g 0) 0 4
  let dir := slice (g 0) 4 2
  let swap := slice (g 0) 6 2
  let len := g 1
  let src := g 2 + g 3 <<< 32
  let dst := g 4 + g 5 <<< 32
  let u := swapUnit swap
  let mis := len % u != 0 || dst % u != 0 || (op != 1 && src % u != 0)
  { op := op, dir := dir, swap := swap, irq := bit (g 0) 8, haltMism := bit (g 0) 9, len := len, src := src, dst := dst,
    bad := decide (2 < op) || dir == 3 || slice (g 0) 10 22 != 0 || len == 0 || mis || slice (g 6) 8 24 != 0 }

/-- The descriptors of a row's words, eight words each. -/
def descWords : List Word → List (List Word)
  | a :: b :: c :: d :: e :: f :: g :: h :: t => [a, b, c, d, e, f, g, h] :: descWords t
  | _ => []

/-- SWAP on the bytes of a request. -/
def swapBytes (k : Nat) : List Byte → List Byte
  | a :: b :: c :: d :: t =>
    (match k with
      | 1 => [b, a, d, c]
      | 2 => [d, c, b, a]
      | 3 => [c, d, a, b]
      | _ => [a, b, c, d]) ++ swapBytes k t
  | [a, b] => if k = 1 then [b, a] else [a, b]
  | l => l

/-- FILL: the bytes at offsets from off. -/
def fillBytes (d : DmaDesc) (off n : Nat) : List Byte :=
  let p := swapBytes d.swap (leBytes 8 d.src)
  (List.range n).map (fun k => p.getD ((off + k) % 8) 0)

/-- Offset of the first byte in which two lists differ. -/
def firstDiff : List Byte → List Byte → Nat → Option Nat
  | a :: s, b :: t, k => if a = b then firstDiff s t (k + 1) else some k
  | _, _, _ => none

/-- Side of SRC and of DST: true for the device. -/
def srcDev (d : DmaDesc) : Bool := d.dir != 0
def dstDev (d : DmaDesc) : Bool := d.dir != 1

/-- A descriptor reads host memory: COPY from the host, or a COMPARE with a host side. -/
def readsHost (d : DmaDesc) : Bool := (d.op == 0 && d.dir == 0) || (d.op == 2 && d.dir != 2)

/-- It writes host memory. -/
def writesHost (d : DmaDesc) : Bool := d.op != 2 && d.dir == 1

/-- Bytes to the next 4 KiB boundary. -/
def to4k (a : Nat) : Nat := 0x1000 - a % 0x1000

namespace State

def dmaOf (s : State) (i : Nat) : DmaChan := SMap.get DmaChan.init s.dma i

def setDma (s : State) (i : Nat) (x : DmaChan) : State := { s with dma := SMap.put DmaChan.init s.dma i x }

def updDma (s : State) (i : Nat) (f : DmaChan → DmaChan) : State := s.setDma i (f (s.dmaOf i))

def dmaState (s : State) (i : Nat) : Nat := s.fld .dmaStatusState i

/-- RING_LEN; HEAD and TAIL are below it. -/
def ringLen (s : State) (i : Nat) : Nat := s.fld .dmaRingLenLen i

/-! ## The rate limiter (R373) -/

/-- Credit of one byte: SHARE counts in 256ths, the link's rate in 13,000ths of a byte. -/
def bucketUnit : Nat := 3328000

def bucketCap (s : State) (i : Nat) : Nat := 64 * 2 ^ s.fld .dmaCtrlBurst i

/-- Whole bytes of credit now. -/
def bucketNow (s : State) (i : Nat) : Nat :=
  let x := s.dmaOf i
  min (bucketUnit * s.bucketCap i) (x.bucket + (s.cyc - x.bucketAt) * ((s.fld .dmaCtrlShare i + 1) * s.pcie.rate))

/-- n bytes of credit are taken. -/
def bucketTake (s : State) (i n : Nat) : State :=
  let b := s.bucketNow i
  s.updDma i fun x => { x with bucket := b - bucketUnit * n, bucketAt := s.cyc }

/-- The host writes SHARE and BURST: the credit gained so far is at the old rate. -/
def bucketRate (s : State) (i v : Nat) : State :=
  let s := s.updDma i fun x => { x with bucket := s.bucketNow i, bucketAt := s.cyc }
  (s.setF .dmaCtrlShare i (slice v 8 8)).setF .dmaCtrlBurst i (slice v 16 3)

/-! ## Starting and stopping (R368, R375, R377, R379) -/

/-- A channel halts: RUN clears, its vector latches (R372), and what it has fetched ahead is discarded (R368). -/
def dmaHalt (s : State) (i : Nat) : State :=
  let s := s.updDma i fun x => { x with copies := [], haltDue := false }
  ((s.setF .dmaStatusState i 2).setB .dmaCtrlRun i false).irq (8 + i)

/-- A request of the descriptor has ended in error already, whether or not the replies before it are in. -/
def DmaChan.failed (x : DmaChan) : Bool := x.err.isSome || x.pend.any (fun r => r.kind != 0)

/-- RUN = 0: at once between descriptors, else when the current one has resolved, with ABORTED unless an error came first;
what has been fetched ahead is discarded (R368, R379). -/
def dmaStop (s : State) (i : Nat) : State :=
  if s.flag .dmaCtrlRun i then
    let s := (s.setB .dmaCtrlRun i false).updDma i fun x => { x with copies := [] }
    if (s.dmaOf i).desc.isSome then s.updDma i fun x => { x with aborting := !DmaChan.failed x }
    else s.setF .dmaStatusState i 0
  else s

/-- Descriptors from HEAD to a tail. -/
def dmaAhead (s : State) (i t : Nat) : Nat := (t + s.ringLen i - s.fld .dmaHeadIndex i) % max 1 (s.ringLen i)

/-- The host writes TAIL or its doorbell; moved back toward HEAD, it discards what has been fetched ahead (R368). -/
def dmaTail (s : State) (i v : Nat) : State :=
  let v := v % 65536
  if v < s.ringLen i then
    let back := decide (s.dmaAhead i v < s.dmaAhead i (s.fld .dmaTailIndex i))
    (when back (fun s => s.updDma i fun x => { x with copies := [] }) s).setF .dmaTailIndex i v
  else s.setB .dmaStatusPtrErr i true

/-- The host writes CTRL with RUN = 1: the write is ignored during Dawn, while ERR or GROUP_HALT stands, or with a short
ring. -/
def dmaRunSet (s : State) (i v : Nat) : State :=
  if s.dev ≤ 1 || s.flag .dmaStatusErr i || s.flag .dmaStatusGroupHalt i || s.flag .grpPfStatusPfErr (i / 8) then s
  else if s.flag .dmaCtrlRun i then s.bucketRate i v
  else if s.ringLen i < 2 then s.setB .dmaStatusPtrErr i true
  else
    let s := ((s.bucketRate i v).setB .dmaCtrlRun i true).setF .dmaStatusState i 1
    s.updDma i fun x => { x with bucket := bucketUnit * s.bucketCap i, bucketAt := s.cyc }

/-- The host writes CTRL with RUN = 0. -/
def dmaRunClear (s : State) (i v : Nat) : State :=
  (s.bucketRate i v).dmaStop i

/-- A group's descriptor fetch fails: idle channels halt at once, the others once their descriptor is complete, and nothing
that was fetched ahead stays (R377). -/
def dmaFetchFail (s : State) (g kind : Nat) : State :=
  let s := (s.setB .grpPfStatusPfErr g true).setF .grpPfStatusKind g kind
  forEach (List.range 8) (fun k s =>
    let i := 8 * g + k
    let s := s.setB .dmaStatusGroupHalt i true
    if (s.dmaOf i).desc.isSome then s.updDma i fun x => { x with copies := [], haltDue := true } else s.dmaHalt i) s

/-- The descriptor at HEAD starts (R368, R370, R380). The words are what the group's fetches have brought: descriptors that
follow the copies already held, up to TAIL. The copy of HEAD is used as it was fetched, and up to four stay for later. -/
def dmaStart (s : State) (i : Nat) (w : List Word) : State :=
  let x := s.dmaOf i
  let got := x.copies ++ descWords w
  if s.pcie.linkUp && !s.pcie.d3hot && s.flag .dmaCtrlRun i && s.dmaState i == 1 && x.desc.isNone
      && s.fld .dmaHeadIndex i != s.fld .dmaTailIndex i && !s.flag .dmaStatusGroupHalt i && !got.isEmpty then
    let d := dmaDecode (got.headD [])
    let at_ := s.rd .dmaRingBase i + 32 * s.fld .dmaHeadIndex i
    let s := s.wr .dmaRemain i d.len
    s.setDma i { x with
      desc := some d
      issued := 0
      done := 0
      pend := []
      aborting := false
      mism := none
      err := if d.bad then some (9, false, false, at_) else none
      req := x.req + BitVec.ofNat 48 d.len
      copies := (got.drop 1).take (min 4 (s.dmaAhead i (s.fld .dmaTailIndex i) - 1)) }
  else s

/-! ## Moving data (R370, R371, R375) -/

/-- The descriptor's failing request. -/
def dmaErr (s : State) (i kind : Nat) (write dev : Bool) (addr : Nat) : State :=
  s.updDma i fun x => if x.err.isSome then x else { x with err := some (kind, write, dev, addr) }

/-- The error kind of a device access that is turned away. -/
def no2kind : Bar2No → Nat
  | .reserved => 8
  | .absent => 5
  | _ => 6

/-- A device read of n bytes: its bytes, or the kind of its error. -/
def dmaRead (s : State) (a n : Nat) : Sum Nat (List Byte) :=
  match s.bar2No a n false with
  | some r => .inl (no2kind r)
  | none => if s.bar2Bad a n then .inl 7 else .inr (Memory.readBytes s.mem.bytes a n)

/-- The prefix grows by n bytes. -/
def dmaGain (s : State) (i n : Nat) : State :=
  s.updDma i fun x => { x with done := x.done + n, xfer := x.xfer + BitVec.ofNat 48 n }

/-- Device writes in bursts, each checked whole before it is written. -/
def dmaWrite (s : State) (i a : Nat) (b : List Byte) : Nat → State
  | 0 => s
  | k + 1 =>
    if b.isEmpty then s
    else
      let n := min b.length (to4k a)
      match s.bar2No a n true with
      | none => ((s.bar2Store a (b.take n)).dmaGain i n).dmaWrite i (a + n) (b.drop n) k
      | some r =>
        let s := match r with
          | .envelope och blk => s.writeRefused och blk 2 2
          | _ => s
        s.dmaErr i (no2kind r) true true a

/-- Bytes compared, from offset off. -/
def dmaCompare (s : State) (i off : Nat) (p q : List Byte) : State :=
  (s.updDma i fun x => { x with mism := match x.mism with | some m => some m | none => firstDiff p q off }).dmaGain i p.length

/-- Host data are compared with the device's, in bursts that do not cross a 4 KiB boundary of BAR2 (R371). -/
def dmaMatch (s : State) (i : Nat) (d : DmaDesc) (off a : Nat) (b : List Byte) : Nat → State
  | 0 => s
  | k + 1 =>
    if b.isEmpty then s
    else
      let n := min b.length (to4k a)
      match s.dmaRead a n with
      | .inl e => s.dmaErr i e false true a
      | .inr dev =>
        let s := if d.dir = 0 then s.dmaCompare i off (swapBytes d.swap (b.take n)) dev
          else s.dmaCompare i off (swapBytes d.swap dev) (b.take n)
        s.dmaMatch i d (off + n) (a + n) (b.drop n) k

/-- A host read's data act, in address order. -/
def dmaArrive (s : State) (i : Nat) (d : DmaDesc) (r : DmaReq) (b : List Byte) : State :=
  let b := (List.range r.n).map (fun k => b.getD k 0)
  if d.op = 0 then s.dmaWrite i (d.dst + r.off) (swapBytes d.swap b) (r.n / 0x1000 + 2)
  else s.dmaMatch i d r.off ((if d.dir = 0 then d.dst else d.src) + r.off) b (r.n / 0x1000 + 2)

/-- Replies that have every lower-addressed byte before them are taken; after an error they are discarded. -/
def dmaDrain (s : State) (i : Nat) : Nat → State
  | 0 => s
  | k + 1 =>
    let x := s.dmaOf i
    match x.desc, x.pend with
    | some d, r :: rest =>
      if r.kind ≠ 0 then
        let addr := (if d.op = 2 && d.dir = 1 then d.dst else d.src) + r.off
        ((s.setDma i { x with pend := rest }).dmaErr i r.kind false false addr).dmaDrain i k
      else match r.data with
        | some b =>
          let s := s.setDma i { x with pend := rest }
          (if x.err.isSome then s else s.dmaArrive i d r b).dmaDrain i k
        | none => s
    | _, _ => s

/-- A reply to the host read at an offset of the descriptor. -/
def dmaReply (s : State) (i off kind : Nat) (data : Option (List Byte)) : State :=
  let x := s.dmaOf i
  if x.pend.any (fun r => r.off == off) then
    (s.setDma i { x with pend := x.pend.map (fun r => if r.off = off then { r with data := data, kind := kind } else r) }).dmaDrain
      i (x.pend.length + 1)
  else s

/-- Bytes of the next request (R371): no more than the limiter's bucket can ever hold (DEDUCED). -/
def dmaLen (s : State) (i : Nat) (d : DmaDesc) (off : Nat) : Nat :=
  let rem := d.len - off
  let src := d.src + off
  let dst := d.dst + off
  if readsHost d then min (min s.pcie.maxRead (to4k (if d.op = 2 && d.dir = 1 then dst else src))) (min rem (s.bucketCap i))
  else if writesHost d then
    min (min s.pcie.maxPayload (to4k dst)) (min rem (min (s.bucketCap i) (if d.op = 0 then to4k src else rem)))
  else min rem (min (to4k dst) (if d.op = 1 then rem else to4k src))

/-- Host reads that wait for their replies: with 10-bit tags, at most 512 (R358). -/
def dmaTags (s : State) : Nat :=
  (List.range 32).foldl (fun n i => n + ((s.dmaOf i).pend.filter fun r => r.kind == 0 && r.data.isNone).length) 0

/-- Channel i has a request of a size its bucket holds, or one without host data (R371 to R373). -/
def dmaReady (s : State) (i : Nat) : Bool :=
  let x := s.dmaOf i
  match x.desc with
  | none => false
  | some d =>
    !(x.err.isSome || x.aborting || decide (d.len ≤ x.issued) || x.pend.any (fun r => r.kind != 0) || !s.pcie.linkUp)
      && (!(readsHost d || writesHost d) || decide (bucketUnit * s.dmaLen i d x.issued ≤ s.bucketNow i))
      && (!readsHost d || decide (s.dmaTags < 512))

/-- The channel's requests use the link. -/
def dmaHosted (s : State) (i : Nat) : Bool := (s.dmaOf i).desc.any fun d => readsHost d || writesHost d

/-- Round-robin: no channel after the one served last and before i is ready for the link (R373). -/
def dmaTurn (s : State) (i : Nat) : Bool :=
  let last := s.pcie.served
  (List.range ((i + 31 - last) % 32)).all fun k => !(s.dmaHosted ((last + 1 + k) % 32) && s.dmaReady ((last + 1 + k) % 32))

/-- The next data request of a descriptor (R371 to R373). -/
def dmaIssue (s : State) (i : Nat) (ecc : Ecc) : State :=
  let x := s.dmaOf i
  match x.desc with
  | none => s
  | some d =>
    let off := x.issued
    let n := s.dmaLen i d off
    let host := readsHost d || writesHost d
    if !s.dmaReady i || (host && !s.dmaTurn i) then s
    else
      let s := when host (fun s => ({ s with pcie := { s.pcie with served := i } }).bucketTake i n) s
      let s := s.wr .dmaRemain i (d.len - off - n)
      let s := s.updDma i fun x => { x with issued := off + n }
      if readsHost d then
        let a := (if d.op = 2 && d.dir = 1 then d.dst else d.src) + off
        (s.updDma i fun x => { x with pend := x.pend ++ [⟨off, n, none, 0⟩] }).emit (.hostRead i (BitVec.ofNat 64 a) n)
      else
        let s := s.eccSeen ecc
        let out := fun (s : State) (b : List Byte) => (s.emit (.hostWrite (BitVec.ofNat 64 (d.dst + off)) b)).dmaGain i n
        match d.op, d.dir with
        | 1, 1 => out s (fillBytes d off n)
        | 1, _ => s.dmaWrite i (d.dst + off) (fillBytes d off n) 2
        | 0, 1 =>
          -- the device-side burst that this write belongs to is read whole
          let a := d.src + off
          let burst := min (d.len - off) (to4k a)
          let first := decide (off = 0) || a % 0x1000 == 0
          match s.dmaRead a (if first then burst else n) with
          | .inl k => s.dmaErr i k false true a
          | .inr b => out s (swapBytes d.swap (b.take n))
        | 0, _ =>
          match s.dmaRead (d.src + off) n with
          | .inl k => s.dmaErr i k false true (d.src + off)
          | .inr b => s.dmaWrite i (d.dst + off) (swapBytes d.swap b) 2
        | _, _ =>
          match s.dmaRead (d.src + off) n, s.dmaRead (d.dst + off) n with
          | .inl k, _ => s.dmaErr i k false true (d.src + off)
          | _, .inl k => s.dmaErr i k false true (d.dst + off)
          | .inr p, .inr q => s.dmaCompare i off (swapBytes d.swap p) q

/-! ## Retirement (R372, R375, R376) -/

/-- A descriptor whose every request has resolved retires. After a RUN = 0 stop its kind is ABORTED and the channel is IDLE
(R379), unless RUN has been set again meanwhile. DESIGN CHOICE (log entry 10): ERR_INFO then shows DIR read and SIDE host. -/
def dmaRetire (s : State) (i : Nat) : State :=
  let x := s.dmaOf i
  match x.desc with
  | none => s
  | some d =>
    if !x.pend.isEmpty || !(x.err.isSome || x.aborting || decide (d.len ≤ x.issued)) then s
    else
      let failed := d.len - x.done
      let bad := x.err.isSome || x.aborting
      let kind := if x.aborting then 11 else match x.err with | some e => e.1 | none => 0
      let status := if bad then 2 + 8 * kind else if x.mism.isSome then 3 else 1
      let result := if bad then failed else x.mism.getD 0
      let a := s.rd .dmaRingBase i + 32 * s.fld .dmaHeadIndex i + 24
      let s := s.emit (.hostWrite (BitVec.ofNat 64 a) (leBytes 4 status ++ leBytes 4 result))
      let s := s.setF .dmaHeadIndex i ((s.fld .dmaHeadIndex i + 1) % max 1 (s.ringLen i))
      let s := s.bump .dmaDescDone i
      let s := when d.irq (fun s => s.irq (8 + i)) s
      let s := s.setDma i { x with
        desc := none, err := none, aborting := false, fail := if bad then x.fail + BitVec.ofNat 48 failed else x.fail }
      if x.aborting then
        let s := s.wr .dmaErrInfo i 11
        if x.haltDue then s.dmaHalt i else s.setF .dmaStatusState i (ofBool (s.flag .dmaCtrlRun i))
      else match x.err with
        | some (k, w, dev, addr) =>
          let s := s.wr .dmaErrInfo i (k + 32 * ofBool w + 64 * ofBool dev)
          ((s.wr .dmaErrAddr i addr).setB .dmaStatusErr i true).dmaHalt i
        | none => if (x.mism.isSome && d.haltMism) || x.haltDue then s.dmaHalt i else s

/-! ## Link and power states (R359, R360) -/

/-- The DMA registers at their reset values, but for the byte counters, whose invariant is re-based: its re-base counter
counts on (R43, R360). -/
def dmaReset (s : State) (i : Nat) : State :=
  let s := forEach [Reg.dmaCtrl, .dmaRingLen, .dmaTail, .dmaHead, .dmaStatus, .dmaErrInfo, .dmaRemain, .dmaDescDone,
    .dmaRingBase, .dmaErrAddr] (fun r s => s.wr r i (r.rst i)) s
  let x := s.dmaOf i
  (s.setDma i { DmaChan.init with
    req := x.req, xfer := x.xfer, fail := x.fail, reqBase := x.req, xferBase := x.xfer, failBase := x.fail }).bump .dmaDmaRebase i

/-! ## Configuration space (R358) -/

/-- The Device ID of a variant. -/
def pcieDeviceId : Variant → Nat
  | .cq9624a => 0x9624
  | .cq4812a => 0x4812
  | .cq9600d => 0x9600
  | .cq9624n => 0x962E

/-- What the TAP shifts out for IDCODE (R551). -/
def jtagIdcode (v : Variant) : Nat :=
  slice (v.cap 2) 12 4 * 2 ^ 28 + pcieDeviceId v * 2 ^ 12 + Config.jedecId.toNat * 2 + 1

/-- Class Code: a processing accelerator. -/
def classCode : Nat := 0x120000

/-- Interrupt Pin: no INTx. -/
def interruptPin : Nat := 0

/-- The bit of AER's status that an error kind of R374 sets in the device that takes the completion (PRESUMED, the
standard's): 14 for a timeout, 12 for poisoned data; a completion with an error status sets none. -/
def aerBit (kind : Nat) : Nat := if kind = 3 then 14 else if kind = 4 then 12 else 32

/-- A reply that comes while the link is up: one that no request waits for is an unexpected completion (bit 16). -/
def dmaCompletion (s : State) (i off kind : Nat) (data : Option (List Byte)) : State :=
  if (s.dmaOf i).pend.any (fun r => r.off == off && r.kind == 0 && r.data.isNone) then
    (s.aerNote (aerBit kind)).dmaReply i off kind data
  else if s.pcie.linkUp && kind != 3 then s.aerNote 16
  else s

/-- The function's configuration space and MSI-X state after a reset (R360): standard reset values. -/
def pcieReset (p : Pcie) : Pcie :=
  { p with d3hot := false, msixEn := false, fmask := false, vmask := 0xFFFFFFFFFFFFFFFF, pba := 0, msgAddr := [],
           msgData := [], maxPayload := 128, maxRead := 512, aer := 0, bars := [] }

def pcieDown (s : State) : State :=
  let s := { s with pcie := { pcieReset s.pcie with linkUp := false } }
  let s := forEach (List.range 4) (fun q s => s.setQp q { s.qp q with tail := 0, rplHead := 0 }) s
  let s := forEach (List.range 32) (fun i s => s.dmaReset i) s
  forEach (List.range 4) (fun g s => s.wr .grpPfStatus g 0) s

/-- A pending message of vector v leaves when nothing masks it (R367). -/
def msixFlush (s : State) (v : Nat) : State :=
  if s.pcie.msixEn && !s.pcie.fmask && !bit s.pcie.vmask.toNat v && bit s.pcie.pba.toNat v then
    ({ s with pcie := { s.pcie with pba := BitVec.ofNat 64 (setBit s.pcie.pba.toNat v false) } }).msixSend v
  else s

def msixUnmask (s : State) (t : MsixTarget) : State :=
  match t with
  | .vector v =>
    ({ s with pcie := { s.pcie with vmask := BitVec.ofNat 64 (setBit s.pcie.vmask.toNat v false) } }).msixFlush v
  | .function => forEach (List.range 64) (fun v s => s.msixFlush v) { s with pcie := { s.pcie with fmask := false } }

/-- A cause that holds as a level: the journal at its watermark, a host event pending (R366, R367, R412). -/
def causeHolds (s : State) (v : Nat) : Bool :=
  match v with
  | 1 => s.jrnAtMark
  | 7 => (List.range 8).any (fun w => s.rd .evfHostPend w != 0)
  | _ => false

/-- The host clears cause latches of vectors 32w to 32w + 31; one whose cause still holds sets again, and one
that sets in the same cycle stays set (R522). -/
def irqClear (s : State) (w v : Nat) : State :=
  let r : Reg := if w = 0 then .glbIrqPend0 else .glbIrqPend1
  let gone := setBits (v &&& (0xFFFFFFFF - s.raisedBits r 0)) 32
  let s := s.wr r 0 (s.rd r &&& (0xFFFFFFFF - v ||| s.raisedBits r 0))
  let s := { s with pcie := { s.pcie with pba := BitVec.ofNat 64 (gone.foldl (fun m b => setBit m (32 * w + b) false) s.pcie.pba.toNat) } }
  forEach gone (fun b s => if s.causeHolds (32 * w + b) then s.irq (32 * w + b) else s) s

/-- r of R373 in 1/13,000 byte per cycle, exactly: 8b/10b coding below 8 GT/s, 128b/130b from there. The rate is in tenths
of GT/s. -/
def linkRate (rate width : Nat) : Nat := if rate < 80 then rate * width * 208 else rate * width * 256

/-- A host access to the DMA page of channel i. -/
def hostDma (s : State) (i : Nat) : Bool := s.hostPage (8 + i / 8)

end State

/-! ## Rows -/

/-- DMA_TAIL_WRITE (R368). -/
def execDmaTailWrite (chan : Fin 32) (value : Word) (s : State) : Host.Outcome State Fault Refusal :=
  run (fun s => if s.hostDma chan then s.dmaTail chan value.toNat else s) s

/-- DMA_RUN_SET (R368): `value` is the word written to CTRL, whose RUN is taken as 1. -/
def execDmaRunSet (chan : Fin 32) (value : Word) (s : State) : Host.Outcome State Fault Refusal :=
  run (fun s => if s.hostDma chan then s.dmaRunSet chan value.toNat else s) s

/-- DMA_RUN_CLEAR (R379): `value` is the word written to CTRL, whose RUN is taken as 0. -/
def execDmaRunClear (chan : Fin 32) (value : Word) (s : State) : Host.Outcome State Fault Refusal :=
  run (fun s => if s.hostDma chan then s.dmaRunClear chan value.toNat else s) s

/-- DMA_DESCRIPTOR_START (R368): the descriptor's eight words as fetched. -/
def execDmaDescriptorStart (chan : Fin 32) (words : List Word) (s : State) : Host.Outcome State Fault Refusal :=
  run (fun s => s.dmaStart chan words) s

/-- DMA_REQUEST_ISSUE (R373). -/
def execDmaRequestIssue (chan : Fin 32) (ecc : Ecc) (s : State) : Host.Outcome State Fault Refusal :=
  perform (fun s => s.dmaIssue chan ecc) s

/-- DMA_COMPLETION_RX (R375): the reply to the host read at offset `off` of the descriptor; `ecc` is what the check bits say
of device words that it is compared with. -/
def execDmaCompletionRx (chan : Fin 32) (off : Nat) (reply : HostReply) (ecc : Ecc) (s : State) :
    Host.Outcome State Fault Refusal :=
  perform (fun s =>
    let s := s.eccSeen ecc
    match reply with
    | .data b => s.dmaCompletion chan off 0 (some b)
    | .unsupported => s.dmaCompletion chan off 1 none
    | .aborted => s.dmaCompletion chan off 2 none
    | .poisoned => s.dmaCompletion chan off 4 none) s

/-- DMA_COMPLETION_TIMEOUT (R374). -/
def execDmaCompletionTimeout (chan : Fin 32) (off : Nat) (s : State) : Host.Outcome State Fault Refusal :=
  run (fun s => s.dmaCompletion chan off 3 none) s

/-- DMA_RETIRE (R372). -/
def execDmaRetire (chan : Fin 32) (s : State) : Host.Outcome State Fault Refusal := run (fun s => s.dmaRetire chan) s

/-- DMA_PREFETCH_FAIL (R377): kind 1 to 4 or 10. -/
def execDmaPrefetchFail (group : Fin 4) (kind : Fin 32) (s : State) : Host.Outcome State Fault Refusal :=
  run (fun s =>
    if [1, 2, 3, 4, 10].contains kind.val then (s.aerNote (State.aerBit kind)).dmaFetchFail group kind else s) s

/-- PCIE_LINK_DOWN (R360). -/
def execPcieLinkDown (s : State) : Host.Outcome State Fault Refusal := run State.pcieDown s

/-- PCIE_LINK_RETURN (R360): the rate in tenths of GT/s and the width of the trained link. -/
def execPcieLinkReturn (rate width : Nat) (s : State) : Host.Outcome State Fault Refusal :=
  run (fun s =>
    if [25, 50, 80, 160, 320].contains rate && [1, 2, 4, 8, 16].contains width then
      { s with pcie := { s.pcie with linkUp := true, rate := State.linkRate rate width } }
    else s) s

/-- PCIE_D3HOT (R359). -/
def execPcieD3hot (s : State) : Host.Outcome State Fault Refusal :=
  run (fun s =>
    if s.pcie.linkUp then
      forEach (List.range 32) (fun i s => s.dmaStop i) { s with pcie := { s.pcie with d3hot := true } }
    else s) s

/-- PCIE_D0_RETURN (R359). -/
def execPcieD0Return (s : State) : Host.Outcome State Fault Refusal :=
  run (fun s => { s with pcie := { s.pcie with d3hot := false } }) s

/-- MSIX_UNMASK (R367). -/
def execMsixUnmask (target : MsixTarget) (s : State) : Host.Outcome State Fault Refusal :=
  run (fun s => if s.pcie.linkUp && !s.pcie.d3hot then s.msixUnmask target else s) s

/-- IRQ_PEND_CLEAR (R367). -/
def execIrqPendClear (word : Fin 2) (value : Word) (s : State) : Host.Outcome State Fault Refusal :=
  run (fun s => if s.hostPage 0 then s.irqClear word value.toNat else s) s

end Sys2Proof.Machine
end

