-- ==== Sys2Proof/Machine/CeRows.lean ====
section
/-!
DEFINITION. The Command Engine's own rows (spec/14, R385 to R389, R400, R403; spec/19, R511 to R513): rings and their
pointers, queue pairs set up and taken down, completions that waited, restarts, and NOP.
-/

namespace Sys2Proof.Machine

namespace State

/-- A host access to BAR4 reaches it (R365). -/
def hostBar4 (s : State) : Bool := s.pcie.linkUp && !s.pcie.d3hot && s.dev != 0

/-- The CE page answers host accesses. -/
def hostCe (s : State) : Bool := s.hostPage 0x1E0

/-! ## Pointers (R386) -/

/-- v lies in the span of a ring of n slots from a to b in the direction of travel. -/
def inSpan (n a b v : Nat) : Bool := decide (v < n) && decide ((v + n - a) % n ≤ (b + n - a) % n)

def ptrErr (s : State) (q : Nat) : State := s.setB .qpStatusPtrErr q true

/-- The doorbell: CMD_TAIL may go as far as CMD_HEAD − 1. -/
def cmdTail (s : State) (q v : Nat) : State :=
  let p := s.qp q
  let n := s.cmdLen q
  if inSpan n p.tail (p.head + n - 1) v then s.setQp q { p with tail := v } else s.ptrErr q

/-- The host frees replies up to RPL_TAIL. -/
def rplHead (s : State) (q v : Nat) : State :=
  let p := s.qp q
  if inSpan (s.rplLen q) p.rplHead p.rplTail v then s.setQp q { p with rplHead := v } else s.ptrErr q

/-! ## Setting up and taking down (R385, R389) -/

/-- The ring fields of a pair keep the rules of R385. -/
def qpFieldsOk (s : State) (q : Nat) : Bool :=
  let ok := fun n => decide (16 ≤ n) && decide (n ≤ 4096)
  s.rd .qpCmdBase q % 4096 == 0 && s.rd .qpRplBase q % 4096 == 0 && ok (s.cmdLen q) && ok (s.rplLen q)

/-- EN is set: pointers 0, then the held completions as the first replies, as far as the ring has room. -/
def qpEnable (s : State) (q : Nat) : State :=
  if s.qpEn q then s
  else if s.qpFieldsOk q then
    let s := (s.setB .qpCtrlEn q true).setQp q { Qp.init with held := (s.qp q).held }
    forEach (List.range 16) (fun _ s => s.drainReply q) (s.setB .qpStatusCplHeld q false)
  else s.setB .qpStatusCfgErr q true

/-- EN is cleared: the pair is no longer served, and a completion that still waits is held. -/
def qpDisable (s : State) (q : Nat) : State :=
  if s.qpEn q then (s.setB .qpCtrlEn q false).setB .qpStatusCplHeld q (!(s.qp q).held.isEmpty) else s

/-! ## Restarts (R403, R511, R512, R513) -/

/-- `CE.CE_UCODE_VER` with the fused anti-rollback counter (R516). -/
def ucodeVer (s : State) : Nat := place (s.rd .ceUcodeVer) 23 7 s.fuse.arb

/-- The control words of an image's body, 18 bytes each (R511, R512). -/
def patchWords (b : List Byte) : List (BitVec 144) :=
  (List.range ((b.length - 160) / 18)).map fun i => BitVec.ofNat 144 (leNat ((b.drop (64 + 18 * i)).take 18))

/-- The patch RAM is loaded from NVM, when an image is stored there that may be loaded (R511, R512). -/
def loadPatch (s : State) (valid : Bool) : State :=
  match s.nvm.image with
  | some p =>
    if valid && decide (s.fuse.arb ≤ p.svn) then
      let s : State := { s with ce := { s.ce with
        patchRam := patchWords p.image, patchBase := Config.patchField 4 p.image } }
      ((s.setF .ceUcodeVerPatchVer 0 p.ver).setF .ceUcodeVerSvn 0 p.svn).setB .ceUcodeVerPatched 0 true
    else s
  | none => s

/-- The control word at an address: the patch RAM's where the patch overlays it, else the ROM's (R511). -/
def controlWord (s : State) (a : Nat) : BitVec 144 :=
  if s.ce.patchBase ≤ a then s.ce.patchRam.getD (a - s.ce.patchBase) (Config.romWord a) else Config.romWord a

/-- A UCODE_PATCH whose image is stored, and which waits for the engine to come back in its new patch (R512). -/
def patchWaits (s : State) : Option LongCmd := s.ce.longs.find? (fun l => l.opcode == 0x804 && l.arg == 1)

/-- The engine is back; a UCODE_PATCH that restarted it then completes. -/
def ceBack (s : State) : State :=
  if s.flag .ceStatusRestart then
    let s := s.setB .ceStatusRestart 0 false
    match s.patchWaits with
    | some l => s.completeAs l 0 0 0 0
    | none => s
  else s

/-- The hardware responder answers the command at the head of a ring `INTERNAL` (R403). -/
def internalAnswer (s : State) (c : HostCmd) : State :=
  if s.flag .ceStatusRestart && s.canServe c.qp then
    let p := s.qp c.qp
    (s.setQp c.qp { p with head := (p.head + 1) % s.cmdLen c.qp, fenced := none }).answer c 0xB 0 0 0 0 0
  else s

end State

/-! ## Rows -/

/-- NOP (R404). -/
def nopSpec : CmdSpec where
  opcode := 0x100
  kinds := [0]
  states := 0b11111100
  app := fun s _ => (s, { result := s.ucodeVer })

def execNop (c : HostCmd) (s : State) : Host.Outcome State Fault Refusal := command nopSpec c s

/-- CMD_TAIL_WRITE (R386). -/
def execCmdTailWrite (qp : Fin 4) (value : Word) (s : State) : Host.Outcome State Fault Refusal :=
  run (fun s => when s.hostBar4 (fun s => s.cmdTail qp value.toNat) s) s

/-- RPL_HEAD_WRITE (R386). -/
def execRplHeadWrite (qp : Fin 4) (value : Word) (s : State) : Host.Outcome State Fault Refusal :=
  run (fun s => when s.hostBar4 (fun s => s.rplHead qp value.toNat) s) s

/-- QP_ENABLE (R385). -/
def execQpEnable (qp : Fin 4) (s : State) : Host.Outcome State Fault Refusal :=
  run (fun s => when s.hostCe (fun s => s.qpEnable qp) s) s

/-- QP_DISABLE (R389). -/
def execQpDisable (qp : Fin 4) (s : State) : Host.Outcome State Fault Refusal :=
  run (fun s => when s.hostCe (fun s => s.qpDisable qp) s) s

/-- COMMAND_FETCH_FAIL (R388). -/
def execCommandFetchFail (qp : Fin 4) (s : State) : Host.Outcome State Fault Refusal :=
  run (fun s => when (s.canServe qp) (fun s => s.setB .qpStatusFetchErr qp true) s) s

/-- FETCH_ERR_CLEAR (R388). -/
def execFetchErrClear (qp : Fin 4) (s : State) : Host.Outcome State Fault Refusal :=
  run (fun s => when (s.hostCe && !bit (s.raisedBits .qpStatus qp) Fld.qpStatusFetchErr.lo) (fun s => s.setB .qpStatusFetchErr qp false) s) s

/-- COMPLETION_REPLY_WRITE (R400). -/
def execCompletionReplyWrite (qp : Fin 4) (s : State) : Host.Outcome State Fault Refusal := run (fun s => s.drainReply qp) s

/-- CE_RESTART_END (R403). -/
def execCeRestartEnd (s : State) : Host.Outcome State Fault Refusal := run State.ceBack s

/-- INTERNAL_ANSWER (R403). -/
def execInternalAnswer (c : HostCmd) (s : State) : Host.Outcome State Fault Refusal := run (fun s => s.internalAnswer c) s

end Sys2Proof.Machine
end

