-- ==== Sys2Proof/Machine/Security.lean ====
section
/-!
DEFINITION. Identity, lifecycle and firmware (spec/19, R499 to R512; spec/06, R192): Scarab's commands, tamper events and
wipes, and microcode patches. The check of a signature comes in with the command, as Scarab's answer under which key it
verifies (`HostCmd.signer`); whether that key is the right one is checked here.
-/

namespace Sys2Proof.Machine

namespace State

def tampered (s : State) : Bool := s.flag .scbStatusTamper
def wiping (s : State) : Bool := s.flag .scbStatusWiping

/-- What the bank holds when Scarab has loaded the identity key from its fuses (R483, R507). DESIGN CHOICE (log entry 13):
the key takes the bank's first words. -/
def keyBank (s : State) : SMap Dword :=
  if s.fuse.identity then (List.range 6).foldl (fun m k => SMap.put 0 m k (identityWords.getD k 0)) [] else []

/-- The whole secure bank is written to zero (R507); Scarab reloads its key afterwards, or leaves the bank empty. -/
def wipe (s : State) (reload : Bool) : State :=
  { ((s.setB .scbStatusWiping 0 true).bump .scbWipeCnt).cleanBank 14 0 0 0x8000 with scarab := ⟨[], reload⟩ }

/-- The wipe completes. -/
def wipeDone (s : State) : State :=
  if s.wiping then
    { s.setB .scbStatusWiping 0 false with scarab := ⟨if s.scarab.reload then s.keyBank else [], false⟩ }
  else s

/-- A LIFECYCLE_SET whose fuses are blown waits for the wipe to complete, as `lcDone` marks it. -/
def lcBlown : Nat := 8

/-- A tamper cause is seen (R509); a lifecycle transition whose fuses are not blown is abandoned (R515). -/
def tamper (s : State) (cause : Nat) : State :=
  if s.dev = 0 then s
  else
    let s := (s.wr .scbTamperCause 0 (setBit (s.rd .scbTamperCause) cause true)).raise .scbTamperCause 0 (2 ^ cause)
    let s := (s.setB .scbStatusTamper 0 true).wipe false
    match s.findLong 0x803 with
    | some l => if l.arg = lcBlown then s else s.completeAs l 7 0 0 0
    | none => s

/-! ## Attestation (R501 to R504) -/

/-- The registers that CONFIG_DIGEST covers, in its order (R503); a field of an absent channel reads 0 (R517). -/
def digestWords (s : State) : List Nat :=
  let och := (List.range 96).flatMap fun n =>
    if s.hasOch n then [s.rd .guardPeak n, s.rd .guardRms n, s.rd .guardDuty n] else [0, 0, 0]
  let bd := (List.range 48).flatMap fun k => [s.rd .guardBmin k, s.rd .guardBmax k, s.rd .guardBrate k]
  List.flatten [(List.range 4).map s.variant.cap, och, bd,
    [s.rd .guardLock, slice (s.rd .guardNonce) 0 32, slice (s.rd .guardNonce) 32 32, s.rd .thermCfg, s.rd .calNvmSeq]]

/-- The digest of the loaded patch image; zeros when none is loaded. -/
def patchDigest (s : State) : List Byte :=
  match s.nvm.image with
  | some p => if s.flag .ceUcodeVerPatched then sha384 p.image else List.replicate 48 0
  | none => List.replicate 48 0

def configDigest (s : State) : List Byte := sha384 (s.digestWords.flatMap (leBytes 4) ++ s.patchDigest)

/-- Bytes 0 to 143 of the report, latched in the present cycle (R502). -/
def report (s : State) (nonce : List Byte) : List Byte :=
  let n := nonce.length
  List.flatten [leBytes 4 0x41545354, leBytes 2 1, leBytes 1 s.fuse.lc, leBytes 1 s.dev, unitIdBytes, leBytes 8 s.st.toNat,
    leBytes 4 s.ucodeVer, leBytes 4 (s.rd .scbTamperCause), s.configDigest, leBytes 1 n, List.replicate 7 0, nonce,
    List.replicate (48 - n) 0]

/-- The identity key's ECDSA P-384 signature over the SHA-384 of some bytes: r then s (R502). PRESUMED (log entry 13): each
in 48 bytes, the highest first. -/
def sign (s : State) (bytes : List Byte) : List Byte × State :=
  let d := s.draw
  let sig := Config.ecdsa identityWords (sha384 bytes) d.1
  (beBytes 48 sig.1.toNat ++ beBytes 48 sig.2.toNat, d.2)

/-- The signed report is written, and ATTEST completes. -/
def attestDone (s : State) : State :=
  match s.findLong 0x801 with
  | some l =>
    let g := s.sign l.payload
    (g.2.emit (.hostWrite l.addr (l.payload ++ g.1))).completeAs l 0 0 0 0
  | none => s

end State

/-- ATTEST (R502, R504). -/
def attestSpec : CmdSpec where
  opcode := 0x801
  kinds := [0]
  states := 0b11011100
  layout := List.flatten [[(16, 255)], whole 20 4, whole 24 8, whole 32 8]
  reads := fun _ _ => true
  auth := fun s _ => rejIf (s.fuse.lc == 0 || s.fuse.lc == 4 || s.tampered) rejAuth
  range := fun _ c => firstRej [
    rejIf (decide (pByte c 16 < 16) || decide (48 < pByte c 16)) (rejRange 16),
    rejIf (decide (pNum c 20 4 < 240)) (rejRange 20), bufAligned c 24, bufAligned c 32]
  busy := fun s _ => firstRej [s.bankBusy 164, s.longBusy .scarab 0]
  app := fun s c =>
    (s.startLong c .scarab 0 0 (pNum c 32 8) (s.report ((bufOf c).take (pByte c 16))), { long := true })

def execAttest (c : HostCmd) (s : State) : Host.Outcome State Fault Refusal := command attestSpec c s

/-- ATTEST_COMPLETE (R502). -/
def execAttestComplete (s : State) : Host.Outcome State Fault Refusal := run State.attestDone s

/-- CERT_READ (R501): in BLANK it is refused in every state. -/
def certReadSpec (blank : Bool) : CmdSpec where
  opcode := 0x802
  kinds := [0]
  states := if blank then 0 else 0b11011100
  layout := List.flatten [whole 16 4, whole 24 8]
  range := fun s c => firstRej [
    bufAligned c 24,
    if pNum c 16 4 < s.nvm.chain.length then some ⟨4, s.nvm.chain.length, 16⟩ else none]
  app := fun s c =>
    (s.emit (.hostWrite (BitVec.ofNat 64 (pNum c 24 8)) s.nvm.chain), { result := s.nvm.chain.length })

def execCertRead (c : HostCmd) (s : State) : Host.Outcome State Fault Refusal :=
  command (certReadSpec (s.fuse.lc == 0)) c s

/-! ## GUARD_RAISE (R192) -/

/-- Record i of the payload: kind, index, field code, the byte that is zero, value, the eight bytes that are zero. -/
def raiseRec (b : List Byte) (i : Nat) : Nat × Nat × Nat × Nat × Nat × Nat :=
  let at_ := fun k n => bufNat b (32 + 16 * i + k) n
  (at_ 0 1, at_ 1 1, at_ 2 1, at_ 3 1, at_ 4 4, at_ 8 8)

/-- Width of the field of a field code (R196). -/
def raiseWidth (code : Nat) : Nat := [16, 16, 11, 16, 20, 20, 24].getD code 0

/-- A record that is malformed or whose value lies outside its field. -/
def raiseBad (b : List Byte) (i : Nat) : Bool :=
  let (kind, _, code, zer, v, rest) := raiseRec b i
  decide (1 < kind) || zer != 0 || rest != 0 || decide (6 < code) || (kind == 0) != decide (code ≤ 3)
    || decide (2 ^ raiseWidth code ≤ v)

def raiseCount (b : List Byte) : Nat := bufNat b 24 2

namespace State

/-- The unit that a record names is absent. -/
def raiseAbsent (s : State) (b : List Byte) (i : Nat) : Option Reject :=
  let (kind, idx, _) := raiseRec b i
  if kind = 0 then rejIf (!s.unitPresent 1 idx) (rejAbsent 1 idx)
  else if kind = 1 then rejIf (decide (48 ≤ idx)) (rejAbsent 4 idx)
  else none

/-- Scarab writes one record into the GUARD page. -/
def raiseWrite (s : State) (b : List Byte) (i : Nat) : State :=
  let (_, idx, code, _, v, _) := raiseRec b i
  match code with
  | 0 => s.limitStore .peak idx v
  | 1 => s.limitStore .rms idx v
  | 2 => s.limitStore .duty idx (place (s.rd .guardDuty idx) 0 11 v)
  | 3 => s.limitStore .duty idx (place (s.rd .guardDuty idx) 16 16 v)
  | 4 => s.limitStore .bmin idx v
  | 5 => s.limitStore .bmax idx v
  | _ => s.limitStore .brate idx v

/-- Scarab has finished: it writes every record and advances the nonce, or, after a tamper event, refuses. -/
def raiseDone (s : State) : State :=
  match s.findLong 0x800 with
  | some l =>
    if s.tampered then s.completeAs l 7 0 0 0
    else
      let b := l.payload
      let s := forEach (List.range (raiseCount b)) (fun i s => s.raiseWrite b i) s
      let n := s.rd .guardNonce + 1
      let s := s.wr .guardNonce 0 n
      let s := { s with nvm := { s.nvm with guardNonce := BitVec.ofNat 64 n } }
      s.completeAs l 0 0 0 0
  | none => s

end State

/-- GUARD_RAISE (R192): every check is made when it is accepted; Scarab verifies and writes in GUARD_RAISE_COMPLETE. -/
def guardRaiseSpec : CmdSpec where
  opcode := 0x800
  kinds := [0]
  states := 0b1100
  layout := List.flatten [whole 16 4, whole 24 8]
  reads := fun _ _ => true
  auth := fun s c =>
    let b := bufOf c
    rejIf (c.signer != some .guard || s.tampered || s.nvm.guardKey.isNone || bufNat b 0 8 != s.rd .guardNonce
      || (b.drop 8).take 16 != unitIdBytes) rejAuth
  absent := fun s c => firstRejOf (List.range (min 144 (raiseCount (bufOf c)))) (s.raiseAbsent (bufOf c))
  range := fun _ c =>
    let b := bufOf c
    let n := raiseCount b
    firstRej [
      rejIf (pNum c 16 4 != 128 + 16 * n) (rejRange 16),
      bufAligned c 24,
      rejIf (n == 0 || decide (144 < n) || bufNat b 26 6 != 0) (rejRange 24),
      firstRejOf (List.range n) (fun i => rejIf (raiseBad b i) (rejRangeAt i 24))]
  busy := fun s _ => firstRej [rejIf s.wiping rejBusy, s.bankBusy 164, s.longBusy .scarab 0]
  app := fun s c => (s.startLong c .scarab 0 0 0 (bufOf c), { long := true })

def execGuardRaise (c : HostCmd) (s : State) : Host.Outcome State Fault Refusal := command guardRaiseSpec c s

/-- GUARD_RAISE_COMPLETE (R192). -/
def execGuardRaiseComplete (s : State) : Host.Outcome State Fault Refusal := run State.raiseDone s

/-! ## Lifecycle (R505, R506) -/

/-- The transitions of R505: 0 BLANK, 1 PROVISIONED, 2 FIELD, 3 RETURN, 4 RETIRED. -/
def lcMoves : List (Nat × Nat) := [(0, 1), (1, 2), (2, 2), (2, 3), (3, 2), (2, 4), (3, 4)]

namespace State

/-- The transition to a target state is allowed, with a fuse pair left where it needs one. -/
def lcAllowed (s : State) (t : Nat) : Bool :=
  lcMoves.contains (s.fuse.lc, t)
    && !(((s.fuse.lc == 2 && t == 3) || (s.fuse.lc == 3 && t == 2)) && s.fuse.pairsLeft == 0)

/-- The payload of a transition is signed by the key that R505 asks for. -/
def lcSigner (s : State) (t : Nat) (k : Signer) : Bool :=
  match s.fuse.lc, t with
  | 0, 1 => k == .root
  | 1, 2 => k == .offered
  | 2, 2 => k == .guard
  | 2, 3 => k == .guard
  | 3, 2 => k == .root
  | _, 4 => k == .guard || k == .root
  | _, _ => true

/-- The keys that a transition stores or erases, in both copies (R499, R505). -/
def lcKeys (n : Nvm) (t : Nat) (b : List Byte) : Nvm :=
  if t = 1 then { n with chain := certChain }
  else if t = 2 then { n with guardKeyA := some ((b.drop 32).take 97), guardKey := some ((b.drop 32).take 97) }
  else if t = 3 then { n with guardKeyA := none, guardKey := none }
  else n

/-- First the fuses are blown, the nonce advances and the secure bank is wiped; then, when the wipe has completed,
LIFECYCLE_SET completes (R506). -/
def lcDone (s : State) : State :=
  match s.findLong 0x803 with
  | some l =>
    if l.arg = lcBlown then (if s.wiping then s else s.completeAs l 0 0 0 0)
    else
      let t := l.arg
      let f := s.fuse.blow t
      let n := s.rd .scbLcNonce + 1
      let s := { s with
        fuse := { f with identity := (f.identity || t == 1) && t != 4 }
        nvm := { lcKeys s.nvm t l.payload with lcNonce := BitVec.ofNat 64 n } }
      let s := s.setLongs (s.ce.longs.map fun x => if x = l then { x with arg := lcBlown } else x)
      (s.wr .scbLcNonce 0 n).wipe true
  | none => s

end State

/-- LIFECYCLE_SET (R506). -/
def lifecycleSetSpec : CmdSpec where
  opcode := 0x803
  kinds := [0]
  states := 0b100
  layout := (16, 7) :: whole 24 8
  reads := fun _ _ => true
  auth := fun s c =>
    let b := bufOf c
    let signed := match c.signer with
      | some k => s.lcSigner (pBits c 16 0 3) k
      | none => false
    rejIf (!signed || s.tampered || bufNat b 0 8 != s.rd .scbLcNonce || (b.drop 8).take 16 != unitIdBytes) rejAuth
  range := fun s c =>
    let b := bufOf c
    let t := pBits c 16 0 3
    let key := (b.drop 32).take 97
    firstRej [
      bufAligned c 24,
      rejIf (b.length != 232 || bufNat b 24 1 != t || bufNat b 25 7 != 0 || bufNat b 129 7 != 0
        || (if t = 2 then key.headD 0 != 4 else key != List.replicate 97 0)) (rejRange 24),
      rejIf (!s.lcAllowed t) (rejRange 16)]
  busy := fun s _ => firstRej [rejIf s.wiping rejBusy, s.bankBusy 164, s.longBusy .nvm 0]
  app := fun s c => (s.startLong c .nvm 0 (pBits c 16 0 3) 0 (bufOf c), { long := true })

def execLifecycleSet (c : HostCmd) (s : State) : Host.Outcome State Fault Refusal := command lifecycleSetSpec c s

/-- LIFECYCLE_SET_COMPLETE (R506). -/
def execLifecycleSetComplete (s : State) : Host.Outcome State Fault Refusal := run State.lcDone s

/-- TAMPER_EVENT (R509): cause 0 SUPPLY, 1 CLOCK, 2 MESH, 3 TEMP. -/
def execTamperEvent (cause : Fin 4) (s : State) : Host.Outcome State Fault Refusal := run (fun s => s.tamper cause) s

/-- WIPE_DONE (R507). -/
def execWipeDone (s : State) : Host.Outcome State Fault Refusal := run State.wipeDone s

/-! ## Microcode patches (R512) -/

/-- The header and the length of an image are in order. -/
def patchOk (b : List Byte) (len : Nat) : Bool :=
  let n := Config.patchField 3 b
  let svn := Config.patchField 2 b
  Config.patchMagic b && decide (1 ≤ svn) && decide (svn ≤ 64) && decide (1 ≤ n) && decide (n ≤ 4096)
    && len == 160 + 18 * n && b.length == len

/-- The body of an image has the digest that its header carries. -/
def patchBodyOk (b : List Byte) : Bool := sha384 ((b.drop 64).take (18 * Config.patchField 3 b)) == Config.patchHash b

/-- UCODE_PATCH (R512). -/
def ucodePatchSpec : CmdSpec where
  opcode := 0x804
  kinds := [0]
  states := 0b100
  layout := List.flatten [whole 16 4, whole 24 8]
  reads := fun _ _ => true
  auth := fun s c => rejIf (c.signer != some .patch || s.tampered || !patchBodyOk (bufOf c)) rejAuth
  range := fun s c => firstRej [
    bufAligned c 24,
    rejIf (Config.patchField 0 (bufOf c) != s.fld .ceUcodeVerRomVer) (rejRange 24),
    rejIf (!patchOk (bufOf c) (pNum c 16 4)) (rejRange 16)]
  locked := fun s c => rejIf (decide (Config.patchField 2 (bufOf c) < s.fuse.arb)) rejLocked
  busy := fun s _ => firstRej [rejIf s.wiping rejBusy, s.longBusy .nvm 0]
  app := fun s c => (s.startLong c .nvm 0 0 0 (bufOf c), { long := true })

def execUcodePatch (c : HostCmd) (s : State) : Host.Outcome State Fault Refusal := command ucodePatchSpec c s

/-- A copy of an image, written whole. -/
def patchOf (b : List Byte) : Patch := ⟨Config.patchField 1 b % 256, Config.patchField 2 b, b, true⟩

/-! ## Writes to NVM that are cut short (R488, R506, R512) -/

namespace State

/-- A LIFECYCLE_SET whose fuses are not blown has not happened; its new key may stand in copy A, which is not in force. -/
def keyCut (s : State) : State :=
  match s.findLong 0x803 with
  | some l =>
    if l.arg = 2 then
      let d := s.draw
      if (Config.nvmCut d.1).toNat = 0 then d.2
      else { d.2 with nvm := { d.2.nvm with guardKeyA := some ((l.payload.drop 32).take 97) } }
    else s
  | none => s

/-- An image being stored stands in no copy, torn or whole in copy A. -/
def patchCut (s : State) : State :=
  match s.findLong 0x804 with
  | some l =>
    if l.arg = 1 then s
    else
      let d := s.draw
      let p := patchOf l.payload
      match (Config.nvmCut d.1).toNat with
      | 0 => d.2
      | 1 => { d.2 with nvm := { d.2.nvm with patch := some { p with whole := false } } }
      | _ => { d.2 with nvm := { d.2.nvm with patch := some p } }
  | none => s

end State

/-- UCODE_PATCH_COMPLETE (R512): first the image is stored in both copies, the anti-rollback counter raised and the engine restarted into
the patch; then, when the engine is back, the completion is sent. -/
def State.patchDone (s : State) : State :=
  match s.patchWaits with
  | some _ => s.ceBack
  | none =>
    match s.findLong 0x804 with
    | some l =>
      let p := patchOf l.payload
      let s := { s with
        nvm := { s.nvm with patch := some p, patchB := some p }
        fuse := { s.fuse with arb := max s.fuse.arb p.svn }
        ce := { s.ce with ustack := [] } }
      let s := s.setLongs (s.ce.longs.map fun x => if x = l then { x with arg := 1 } else x)
      (s.setB .ceStatusRestart 0 true).loadPatch true
    | none => s

def execUcodePatchComplete (s : State) : Host.Outcome State Fault Refusal := run State.patchDone s

end Sys2Proof.Machine
end

