-- ==== Sys2Proof/Machine/Calib.lean ====
section
/-!
DEFINITION. Calibration and housekeeping measurement (spec/17): units and their slices, CAL_RUN, saves to NVM, and the
HKADC with its scan, its injected requests and the check of VREFIN.
-/

namespace Sys2Proof.Machine

/-- One second, 100 ms and 1 µs in FCLK cycles. -/
def cycS : Nat := 625000000
def cyc100ms : Nat := 62500000
def cycUs : Nat := 625

/-- Length of a slice (R458). -/
def sliceLen (kind : Nat) : Nat := cycUs * [40, 60, 100, 300, 20, 2000].getD kind 0

/-- The region and the fused neighbour of a sensor (R485). -/
def sensorRegion (i : Nat) : Nat :=
  if i < 4 then 0 else if i < 8 then 1 else if i < 11 then 2 else if i < 15 then 3 else if i < 18 then 4
  else if i < 20 then 5 else if i < 22 then 6 else 7

def neighbour (i : Nat) : Nat :=
  [1, 0, 3, 2, 5, 4, 7, 6, 9, 8, 9, 12, 11, 14, 13, 16, 15, 16, 19, 18, 21, 20, 23, 22].getD i i

namespace State

/-! ## Units (R458, R461, R477) -/

/-- Units of a kind that the variant has. -/
def calCount (s : State) (kind : Nat) : Nat :=
  match kind with
  | 0 => s.variant.ochCount
  | 1 => s.variant.ochCount
  | 2 => s.variant.rchCount
  | 3 => 48
  | 4 => 16
  | 5 => 1
  | _ => 0

def calPresent (s : State) (kind idx : Nat) : Bool := decide (idx < s.calCount kind)

/-- Every present unit of the kinds in a mask. -/
def calUnits (s : State) (mask : Nat) : List (Nat × Nat) :=
  (setBits mask 6).flatMap fun k => (List.range (s.calCount k)).map (k, ·)

/-- Sensor i is excluded (R491). -/
def sensorOut (s : State) (i : Nat) : Bool := bit (s.rd .thermSensorFail) i

/-- The excluded sensors of a region. -/
def regionOut (s : State) (r : Nat) : List Nat := (List.range 24).filter fun j => sensorRegion j == r && s.sensorOut j

/-- The sensor a unit uses: the one fused to it; its neighbour when that is excluded; where both are, one of the others left
in the region, if there is any (R461, R491). -/
def calSensor (s : State) (kind idx : Nat) : Nat :=
  let k := (Config.calSensor kind idx).val
  if !s.sensorOut k then k
  else if !s.sensorOut (neighbour k) then neighbour k
  else
    let left := (List.range 24).filter fun j => sensorRegion j == sensorRegion k && !s.sensorOut j
    left.getD (Config.calSensorNext kind idx (s.rd .thermSensorFail) % left.length) k

/-- A unit becomes due (R461). -/
def calDue (s : State) (kind idx : Nat) : State :=
  let u := s.calUnit kind idx
  if u.due then s else s.setCalUnit kind idx { u with due := true, dueAt := s.cyc }

/-- Units whose temperature has drifted by CAL_DT become due (R461). -/
def calDrift (s : State) : State :=
  forEach (s.calUnits (s.fld .calCfgAutoMask)) (fun u s =>
    let k := s.calSensor u.1 u.2
    let d := sgn 16 (s.fld .thermSensorTemp k) - sgn 16 (s.calUnit u.1 u.2).lastTemp.toNat
    when (s.flag .thermSensorValid k && decide (16 * s.fld .calCfgCalDt ≤ 10 * d.natAbs)) (fun s => s.calDue u.1 u.2) s) s

/-! ## Gaps (R463) -/

/-- The unit takes part in the armed program. -/
def calArmed (s : State) (kind idx : Nat) : Bool :=
  if kind ≤ 1 then s.ochPart idx else if kind = 2 then (List.range 16).any (fun t => s.tonePart (16 * idx + t)) else false

/-- Some unit of HK or BDAC is in its slice. -/
def hkSlice (s : State) : Bool := s.inSlice 5 0 || (List.range 48).any (s.inSlice 3)

/-- REF_EN has been 1 for 5 ms (R472). -/
def refReady (s : State) : Bool := s.flag .hkCfgRefEn && decide (s.hk.refAt + 5000 * cycUs ≤ s.cyc)

def calGap (s : State) (kind idx : Nat) : Bool :=
  let c20 := 20 * cycUs
  match kind with
  | 2 => !(List.range 24).any (fun u => s.acqOn u && s.fld .acqCfgRch u == idx)
      && (s.rxState idx == 0 || (s.rxState idx == 2 && decide ((s.rchan idx).settle + c20 ≤ s.cyc)))
  | 3 => s.flag .bdacStatusParked idx && decide ((s.bd idx).parkedAt + c20 ≤ s.cyc)
  | 4 => !s.flag .trigCfgEn idx || (s.dev == 2 && decide ((SMap.get Trig.init s.time.trig idx).edgeAt + c20 ≤ s.cyc + 1)
      && !(List.range 24).any (fun u => s.acqOn u && s.fld .acqCfgTsrc u == 2 && s.fld .acqCfgTindex u == idx))
  | 5 => s.refReady
  | _ => s.outState idx == 0 || (s.outState idx == 2
      && decide (max (s.chan idx).enabling (s.chan idx).zeroFrom + c20 ≤ s.cyc))

/-- Dawn is in its calibration stage, where every unit has its slice whatever its state (R464). -/
def calDawn (s : State) : Bool := s.dev == 1 && s.fld .glbDawnStatusStage == 8

/-- A due unit's slice is able to start. -/
def calReady (s : State) (kind idx : Nat) : Bool :=
  let u := s.calUnit kind idx
  s.calPresent kind idx && u.due && u.slice.isNone && decide (u.retryAt ≤ s.cyc)
    && (s.calDawn || (decide (2 ≤ s.dev) && decide (s.dev ≤ 4) && !s.calArmed kind idx && s.calGap kind idx))

/-- Every present unit has completed a slice of Dawn's stage or failed in it. -/
def calDawnOver (s : State) : Bool :=
  (s.calUnits 0x3F).all fun u =>
    let x := s.calUnit u.1 u.2
    x.slice.isNone && (!x.due || x.lastFail)

/-- The units that share the HKADC go one at a time, HK first and then BDACs in index order, and after an injected
conversion that is pending (R463, R473). -/
def calTurn (s : State) (kind idx : Nat) : Bool :=
  if kind = 5 then !s.hkSlice && s.hk.inj.isNone
  else if kind = 3 then
    !s.hkSlice && s.hk.inj.isNone && !s.calReady 5 0 && (List.range idx).all (fun j => !s.calReady 3 j)
  else true

/-- A slice starts (R459): an output channel is held OFF, to return to LIVE where it was. -/
def calStart (s : State) (kind idx : Nat) : State :=
  if s.calReady kind idx && s.calTurn kind idx then
    let live := decide (kind ≤ 1) && s.outState idx == 2
    let u := s.calUnit kind idx
    let s := s.setCalUnit kind idx { u with slice := some s.cyc, restore := u.restore || live }
    when live (fun s => s.outStop idx false) s
  else s

/-! ## Slice ends (R459, R460) -/

/-- An output channel taken out of LIVE returns through ENABLING when its last slice ends. -/
def calReturn (s : State) (kind idx : Nat) : State :=
  when (decide (kind ≤ 1) && !s.inSlice 0 idx && !s.inSlice 1 idx
    && ((s.calUnit 0 idx).restore || (s.calUnit 1 idx).restore)) (fun s => s.outEnabling idx 6250) s

/-- A slice is abandoned, and its channel goes back to what it was. -/
def calGiveUp (s : State) (kind idx : Nat) : State := (s.sliceAbandon kind idx).calReturn kind idx

/-- The device leaves the states that have gaps: every slice is abandoned, and no channel returns to LIVE (R460, R172). -/
def calAbandonAll (s : State) : State :=
  forEach (s.calUnits 0x3F) (fun u s =>
    let s := s.sliceAbandon u.1 u.2
    s.setCalUnit u.1 u.2 { s.calUnit u.1 u.2 with restore := false }) s

/-- The trims go to the registers that show them: OUT_SKEW to FDELAY.CAL; ADC to ILV[0] to ILV[15] and RX_TRIM (R458). -/
def calTrim (s : State) (kind idx : Nat) (trims : List Word) : State :=
  let w := fun k => (trims.getD k 0).toNat
  if kind = 1 then s.setF .ochFdelayCal idx (unsgn 7 (clip (-32) 32 (sgn 7 (w 0))))
  else if kind = 2 then
    (forEach (List.range 16) (fun j s => s.wr .rchIlv (16 * idx + j) (w j % 2 ^ 28)) s).wr .rchRxTrim idx (w 16 % 2 ^ 10)
  else s

/-- A slice has completed: its trims are applied whole. -/
def calDone (s : State) (kind idx : Nat) (trims : List Word) : State :=
  let u := s.calUnit kind idx
  let temp := BitVec.ofNat 16 (s.fld .thermSensorTemp (s.calSensor kind idx))
  let s := s.setCalUnit kind idx { u with
    due := false, overdue := false, slice := none, lastFail := false, count := satAdd32 u.count 1, lastSt := s.st,
    lastTemp := temp, trim := trims, marked := false }
  let s : State := { s with nvm := { s.nvm with changed := s.nvm.changed || u.trim != trims } }
  s.calTrim kind idx trims

/-- A slice completes with new trims, or fails because VREFIN is out of tolerance. -/
def calEnd (s : State) (kind idx : Nat) (trims : List Word) : State :=
  let u := s.calUnit kind idx
  match u.slice with
  | some c =>
    if c + sliceLen kind ≤ s.cyc then
      let s : State := when (kind == 3 || kind == 5) (fun s => { s with hk := { s.hk with slotAt := s.cyc, now := none } }) s
      if s.hk.vrefBad && (kind == 0 || kind == 2 || kind == 3 || kind == 5) then
        (s.setCalUnit kind idx { u with lastFail := true }).calGiveUp kind idx
      else (s.calDone kind idx trims).calReturn kind idx
    else s
  | none => s

/-- A unit that has been due for CAL.STALE becomes overdue (R462). -/
def calLate (s : State) (kind idx : Nat) : State :=
  let u := s.calUnit kind idx
  if s.calPresent kind idx && u.due && !u.overdue && decide (u.dueAt + cyc100ms * s.fld .calStaleStale ≤ s.cyc) then
    ((s.setCalUnit kind idx { u with overdue := true }).setB .calStatusOverdueSeen 0 true).bump .calOverdueCnt
  else s

/-! ## CAL_RUN (R466) -/

/-- Every present unit of the kinds in the mask is marked and becomes due. -/
def calMark (s : State) (mask : Nat) : State :=
  let clear := fun (u : Nat × Nat) (s : State) => s.setCalUnit u.1 u.2 { s.calUnit u.1 u.2 with marked := false }
  let set := fun (u : Nat × Nat) (s : State) =>
    let s := s.calDue u.1 u.2
    s.setCalUnit u.1 u.2 { s.calUnit u.1 u.2 with marked := true }
  forEach (s.calUnits mask) set (forEach (s.calUnits 0x3F) clear s)

/-- The kinds with a unit that CAL_RUN still waits for. -/
def calWaits (s : State) : Nat :=
  (List.range 6).foldl (fun a k =>
    if (List.range (s.calCount k)).any (fun j => (s.calUnit k j).marked) then a + 2 ^ k else a) 0

/-- CAL_RUN completes when no marked unit is left, or with FAIL when its time is over. -/
def calRunEnd (s : State) : State :=
  match s.findLong 0x700 with
  | some l =>
    let m := s.calWaits
    if m = 0 then s.completeAs l 0 0 0 0
    else if l.accCyc + cyc100ms * s.fld .calStaleStale + cyc100ms ≤ s.cyc then s.completeAs l 0 (2 ^ 31) m 0
    else s
  | none => s

/-! ## NVM (R467 to R469) -/

/-- Field sectors that hold no copy of the record in force and have cycles left. -/
def nvmFree (s : State) : List Nat :=
  (List.range 32).filter fun k =>
    (match SMap.get none s.nvm.sectors k with
      | some c => !(c.valid && c.seq == s.nvm.seq)
      | none => true)
    && decide (SMap.get 0 s.nvm.wear k < 10000)

/-- The least worn sector of a list, the first where several are. -/
def leastWorn (s : State) : List Nat → Option Nat
  | [] => none
  | a :: l => some (l.foldl (fun b k => if SMap.get 0 s.nvm.wear k < SMap.get 0 s.nvm.wear b then k else b) a)

/-- The two sectors that a save takes. -/
def nvmPair (s : State) : Option (Nat × Nat) :=
  match s.leastWorn s.nvmFree with
  | some a => (s.leastWorn (s.nvmFree.erase a)).map (a, ·)
  | none => none

/-- A save begins: it will store the trims in force now. -/
def nvmBegin (s : State) (auto : Bool) : State :=
  { s with nvm := { s.nvm with saving := some s.cal, auto := auto, changed := false } }

/-- One copy of the record that follows the one in force is written to a sector, whole or torn (R467, R468). -/
def nvmStore (n : Nvm) (k seq copy : Nat) (r : SMap CalUnit) (whole : Bool) : Nvm :=
  { n with
    sectors := SMap.put none n.sectors k (some ⟨0x4351, 1, seq, Config.recordSize.toNat, copy, r, whole⟩)
    wear := SMap.put 0 n.wear k (SMap.get 0 n.wear k + 1) }

/-- A save ends: copy A and then copy B are written, or, with no two usable sectors, nothing is. -/
def nvmEnd (s : State) : State × Bool :=
  match s.nvm.saving, s.nvmPair with
  | some r, some (a, b) =>
    let seq := s.nvm.seq + 1
    let n := nvmStore (nvmStore s.nvm a seq 0 r true) b seq 1 r true
    let s : State := { s with nvm := { n with saving := none, auto := false, lastSave := s.cyc } }
    (s.wr .calNvmSeq 0 seq, true)
  | some _, none =>
    let s : State := { s with nvm := { s.nvm with saving := none, auto := false, changed := true } }
    (s.setB .calNvmStatusWorn 0 true, false)
  | none, _ => (s, true)

/-- The save in progress, automatic or CAL_SAVE's, finishes. -/
def saveEnd (s : State) : State :=
  if s.nvm.saving.isNone then s
  else
    let r := s.nvmEnd
    match s.findLong 0x701 with
    | some l => if s.nvm.auto then r.1 else r.1.completeAs l 0 (if r.2 then 0 else 2 ^ 31) 0 0
    | none => r.1

/-- 24 h in FCLK cycles. -/
def cycDay : Nat := 86400 * cycS

/-- An automatic save starts. -/
def autosave (s : State) : State :=
  if s.flag .calCfgAutosave && s.nvm.changed && decide (s.nvm.lastSave + cycDay ≤ s.cyc) && s.nvm.saving.isNone
      && !s.ce.longs.any (fun l => l.cls == .nvm) && s.served then
    s.nvmBegin true
  else s

/-! ## HKADC (R470 to R473) -/

/-- Entry i of the scan list. -/
def hkScanAt (s : State) (i : Nat) : Nat := slice (s.rd .hkScan (i / 4)) (8 * (i % 4)) 6

/-- The code of VREFIN lies within 2.500 V ± 0.5 %: V = code × 3 V / 32,768. -/
def vrefOk (code : BitVec 16) : Bool :=
  let v : Int := 30000 * sgn 16 code.toNat
  decide (815104000 ≤ v) && decide (v ≤ 823296000)

/-- The scan's conversion is running. -/
def hkScans (s : State) : Bool := s.hk.inj.isNone && !s.hkSlice && decide (s.hk.slotAt ≤ s.cyc)

/-- The conversion of the present slot ends: an injected request's, or the scan's, of the input that it began with. What it
says of VREFIN counts for calibration only where the reference was ready (R472). -/
def hkEnd (s : State) (code : BitVec 16) : State :=
  if decide (s.fld .glbDawnStatusStage < 7) || s.dev == 0 || s.hkSlice || decide (s.cyc < s.hk.slotAt + 500) then s
  else
    let input := s.hk.inj.getD (s.hk.now.getD (s.hkScanAt s.hk.pos))
    let notReady := !(s.flag .hkCfgRefEn && decide (s.hk.refAt + 5000 * cycUs ≤ s.hk.slotAt))
    let s := when (input == 56) (fun s => s.setB .hkStatusVrefBad 0 (!vrefOk code)) s
    let s : State := when (input == 56 && !notReady) (fun s => { s with hk := { s.hk with vrefBad := !vrefOk code } }) s
    match s.hk.inj with
    | some i =>
      let s := s.wr .hkInjResult 0 (code.toNat + i <<< 16 + 2 ^ 24 + ofBool notReady <<< 25)
      { s with hk := { s.hk with inj := none, slotAt := s.cyc + 125 } }
    | none =>
      let s := s.wr .hkResult input (code.toNat + 2 ^ 16 + ofBool notReady <<< 17)
      let next := if s.fld .hkCfgScanLen ≤ s.hk.pos then 0 else s.hk.pos + 1
      { s with hk := { s.hk with pos := next, slotAt := s.cyc + 125, now := none } }

/-- A request is dropped with its reason. -/
def hkDrop (s : State) (why : Nat) : State := (s.bump .hkInjDrop).setF .hkInjStatusLastDrop 0 why

/-- A write of `HK.INJ`. -/
def hkRequest (s : State) (input : Nat) : State :=
  if s.hkSlice then s.hkDrop 3
  else if s.hk.slotAt ≤ s.cyc then s.hkDrop 1
  else if s.hk.inj.isSome then s.hkDrop 2
  else { s with hk := { s.hk with inj := some input } }

end State

/-! ## Rows -/

/-- CAL_RUN (R466). -/
def calRunSpec : CmdSpec where
  opcode := 0x700
  kinds := [0]
  states := 0b11100
  layout := [(16, 255)]
  range := fun _ c => rejIf (pByte c 16 == 0 || decide (0x3F < pByte c 16)) (rejRange 16)
  busy := fun s _ => s.longBusy .cal 0
  app := fun s c => ((s.startLong c .cal 0 (pByte c 16) 0 []).calMark (pByte c 16), { long := true })

def execCalRun (c : HostCmd) (s : State) : Host.Outcome State Fault Refusal := command calRunSpec c s

/-- CAL_RUN_COMPLETE (R466). -/
def execCalRunComplete (s : State) : Host.Outcome State Fault Refusal := run State.calRunEnd s

/-- CAL_SAVE (R469). -/
def calSaveSpec : CmdSpec where
  opcode := 0x701
  kinds := [0]
  states := 0b11100
  busy := fun s _ => s.longBusy .nvm 0
  app := fun s c => ((s.startLong c .nvm 0 0 0 []).nvmBegin false, { long := true })

def execCalSave (c : HostCmd) (s : State) : Host.Outcome State Fault Refusal := command calSaveSpec c s

/-- CAL_SAVE_COMPLETE (R469). -/
def execCalSaveComplete (s : State) : Host.Outcome State Fault Refusal := run State.saveEnd s

/-- CAL_AUTOSAVE (R469). -/
def execCalAutosave (s : State) : Host.Outcome State Fault Refusal := run State.autosave s

/-- CAL_CONFIG (R462): a new CAL_DT or AUTO_MASK is held against the temperatures at once. -/
def calConfigSpec : CmdSpec where
  opcode := 0x702
  kinds := [0]
  states := 0b11100
  layout := [(16, 255), (17, 127), (18, 255), (19, 255)]
  range := fun _ c => firstRej [
    rejIf (decide (pByte c 16 < 5) || decide (200 < pByte c 16)) (rejRange 16),
    rejIf (decide (pNum c 18 2 < 10) || decide (36000 < pNum c 18 2)) (rejRange 18)]
  app := justDo fun s c => ((s.wr .calCfg 0 (pNum c 16 2)).wr .calStale 0 (pNum c 18 2)).calDrift

def execCalConfig (c : HostCmd) (s : State) : Host.Outcome State Fault Refusal := command calConfigSpec c s

/-- CAL_SLICE_START (R463). -/
def execCalSliceStart (kind : Fin 6) (index : Fin 96) (s : State) : Host.Outcome State Fault Refusal :=
  run (fun s => s.calStart kind index) s

/-- CAL_SLICE_END (R459): the trims that the slice has measured. -/
def execCalSliceEnd (kind : Fin 6) (index : Fin 96) (trims : List Word) (s : State) : Host.Outcome State Fault Refusal :=
  run (fun s => s.calEnd kind index trims) s

/-- CAL_OVERDUE (R462). -/
def execCalOverdue (kind : Fin 6) (index : Fin 96) (s : State) : Host.Outcome State Fault Refusal :=
  run (fun s => s.calLate kind index) s

/-- HK_CONFIG (R471, R472): a list address of 0 keeps the present list. -/
def hkConfigSpec : CmdSpec where
  opcode := 0x703
  kinds := [0]
  states := 0b1100
  layout := List.flatten [[(16, 63), (17, 1)], whole 24 8]
  reads := fun _ c => pNum c 24 8 != 0
  range := fun _ c =>
    if pNum c 24 8 = 0 then none
    else firstRej [bufAligned c 24, firstRejOf (List.range 64) fun j => rejIf (decide (63 < bufNat (bufOf c) j 1)) (rejRangeAt j 24)]
  busy := fun s _ => rejIf (s.inSlice 5 0) rejBusy
  app := justDo fun s c =>
    let ref := bit (pByte c 17) 0
    let s : State := when (ref && !s.flag .hkCfgRefEn) (fun s => { s with hk := { s.hk with refAt := s.cyc } }) s
    let s : State := when (s.hkScans && s.hk.now.isNone)
      (fun s => { s with hk := { s.hk with now := some (s.hkScanAt s.hk.pos) } }) s
    let s := s.wr .hkCfg 0 (ofBool ref + 256 * pBits c 16 0 6)
    let s := if pNum c 24 8 = 0 then s
      else forEach (List.range 16) (fun j s => s.wr .hkScan j (bufNat (bufOf c) (4 * j) 4)) s
    { s with hk := { s.hk with pos := if !s.hkScans && pBits c 16 0 6 < s.hk.pos then 0 else s.hk.pos } }

def execHkConfig (c : HostCmd) (s : State) : Host.Outcome State Fault Refusal := command hkConfigSpec c s

/-- HK_CONVERSION_END (R471): the code that the converter brings. -/
def execHkConversionEnd (code : BitVec 16) (s : State) : Host.Outcome State Fault Refusal := run (fun s => s.hkEnd code) s

/-- HK_INJ_WRITE (R471). -/
def execHkInjWrite (value : Word) (s : State) : Host.Outcome State Fault Refusal :=
  run (fun s => when (s.hostPage 3) (fun s => s.hkRequest (slice value.toNat 0 6)) s) s

end Sys2Proof.Machine
end

