-- ==== Sys2Proof/Machine/EventRows.lean ====
section
/-!
DEFINITION. The event fabric's commands and rows (spec/15, R411, R414, R416 to R423).
-/

namespace Sys2Proof.Machine

/-! ## Producers and consumers (R410, R412, R418) -/

/-- The unit whose presence a producer needs, as KIND and INDEX; none for a reserved ID. -/
def prodUnit (p : Nat) : Option (Nat × Nat) :=
  if p ≤ 0x2B then some (0, 0)
  else if 0x100 ≤ p ∧ p < 0x180 then some (5, (p - 0x100) / 4)
  else if 0x180 ≤ p ∧ p < 0x1A0 then some (5, p - 0x180)
  else if 0x1A0 ≤ p ∧ p < 0x1B8 then some (2, p - 0x1A0)
  else if 0x200 ≤ p ∧ p < 0x380 then some (3, p - 0x200)
  else if 0x380 ≤ p ∧ p < 0x3C8 then some (6, (p - 0x380) % 24)
  else none

/-- The unit whose presence a consumer input bound by EVT_ROUTE needs; none for any other input. -/
def consUnit (i : Nat) : Option (Nat × Nat) :=
  if i = 1 ∨ i = 2 ∨ i = 0x3FF then some (0, 0)
  else if 0x100 ≤ i ∧ i < 0x280 then some (1, (i - 0x100) / 4)
  else if 0x280 ≤ i ∧ i < 0x300 then some (5, (i - 0x280) / 4)
  else if 0x300 ≤ i ∧ i < 0x318 then some (6, i - 0x300)
  else if 0x350 ≤ i ∧ i < 0x360 then some (0, 0)
  else none

/-- A LINK_OUT input (R412). -/
def isLinkOut (i : Nat) : Bool := decide (0x350 ≤ i) && decide (i < 0x360)

/-- A binding of ARM or MRK_CLAIM (R412). -/
def isBound (i : Nat) : Bool := i == 0 || (decide (0x320 ≤ i) && decide (i < 0x350))

/-- The producers that a consumer input's block reaches (R419). -/
def reaches (i p : Nat) : Bool :=
  if i = 0 then p == prodShotStart || p == prodShotEnd
  else if 0x280 ≤ i ∧ i < 0x300 then
    let q := (i - 0x280) / 4
    p == prodDspFault q || (decide (prodEout q 0 ≤ p) && decide (p < prodEout q 4))
  else if 0x300 ≤ i ∧ i < 0x318 then decide (0x380 ≤ p) && decide (p < 0x3C8)
  else if 0x100 ≤ i ∧ i < 0x280 then p == prodGuardTrip
  else false

namespace State

/-- The producers of a channel on the committed map. -/
def prodsOf (s : State) (ch : Nat) : List Nat := (s.evf.prodMap.map (·.1)).filter fun p => (s.drives p).contains ch

/-- The producers of a channel with the staged changes. -/
def prodsNew (s : State) (ch : Nat) : List Nat :=
  match SMap.get none s.evf.staged ch with
  | some g => g.prods
  | none => s.prodsOf ch

end State

/-! ## EVT_ROUTE (R417) -/

def evrCons (c : HostCmd) : Nat := pNum c 16 2
def evrAppend (c : HostCmd) : Bool := bit (pByte c 19) 0
def evrProds (c : HostCmd) : List Nat := (List.range (min 15 (pByte c 18))).map fun i => pNum c (20 + 2 * i) 2

def evtRouteSpec : CmdSpec where
  opcode := 0x109
  kinds := [8]
  states := 0b1100
  layout := List.flatten [[(16, 255), (17, 255), (18, 255), (19, 1)], whole 20 30, [(50, 63)]]
  range := fun _ c => firstRej [
    rejIf (!evrAppend c && (consUnit (evrCons c)).isNone) (rejRange 16),
    rejIf (decide (15 < pByte c 18)) (rejRange 18),
    firstRejOf (List.range 15) (fun i =>
      let p := pNum c (20 + 2 * i) 2
      rejIf (if i < pByte c 18 then decide (1023 < p) || (prodUnit p).isNone else p != 0) (rejRange (20 + 2 * i))),
    rejIf (pByte c 50 != 0 && !isLinkOut (evrCons c)) (rejRange 50)]
  app := justDo fun s c =>
    let ch := indexOf c
    let old : Staged := ⟨s.stagedOf ch, s.prodsNew ch⟩
    let new : Staged := if evrAppend c then ⟨old.cons, (old.prods ++ evrProds c).dedup⟩ else ⟨evrCons c, (evrProds c).dedup⟩
    let s := s.setEvf { s.evf with staged := SMap.put none s.evf.staged ch (some new) }
    let s := when (!evrAppend c && isLinkOut old.cons) (fun s => s.setEvf { s.evf with
      stagedDest := SMap.put 0 s.evf.stagedDest (old.cons - 0x350) 0 }) s
    let s := when (!evrAppend c && isLinkOut (evrCons c)) (fun s => s.setEvf { s.evf with
      stagedDest := SMap.put 0 s.evf.stagedDest (evrCons c - 0x350) (pBits c 50 0 6 + 1) }) s
    s.setB .evfStagedPending 0 true

def execEvtRoute (c : HostCmd) (s : State) : Host.Outcome State Fault Refusal := command evtRouteSpec c s

/-! ## EVT_COMMIT (R418, R419) -/

namespace State

/-- The channels with staged changes. -/
def stagedChans (s : State) : List Nat := s.evf.staged.map (·.1)

/-- The channels that would have a producer or a consumer on the resulting map. -/
def usedChans (s : State) : List Nat :=
  (List.range 256).filter fun ch => s.stagedOf ch != 0x3FF || !(s.prodsNew ch).isEmpty

/-- The channels that producer p would drive. -/
def drivesNew (s : State) (p : Nat) : List Nat :=
  ((s.drives p).filter (fun ch => (SMap.get none s.evf.staged ch).isNone))
    ++ s.stagedChans.filter (fun ch => (s.prodsNew ch).contains p)

/-- Successors of a channel in the graph of R419, among a list of channels. -/
def succs (s : State) (among : List Nat) (ch : Nat) : List Nat :=
  among.filter fun j => (s.prodsNew j).any (reaches (s.stagedOf ch))

/-- The channels left when those without a successor are removed again and again. -/
def loopCore (s : State) : Nat → List Nat → List Nat
  | 0, l => l
  | n + 1, l => s.loopCore n (l.filter fun ch => !(s.succs l ch).isEmpty)

/-- The channel reached from ch by n steps to the first successor. -/
def loopWalk (s : State) (l : List Nat) : Nat → Nat → Nat
  | 0, ch => ch
  | n + 1, ch => s.loopWalk l n ((s.succs l ch).headD ch)

/-- A channel on a cycle of the resulting map. -/
def loopChan (s : State) : Option Nat :=
  let used := s.usedChans
  match s.loopCore used.length used with
  | [] => none
  | ch :: t => some (s.loopWalk (ch :: t) 256 ch)

/-- Another channel that would have the same consumer input. -/
def sameInput (s : State) (ch : Nat) : Option Nat :=
  (List.range 256).find? fun j => j != ch && s.stagedOf j == s.stagedOf ch

/-- A unit that a staged change names and that is absent (R418). -/
def routeAbsent (s : State) (ch : Nat) : Option Reject :=
  let units := (s.prodsNew ch).filterMap prodUnit ++ (consUnit (s.stagedOf ch)).toList
  firstRejOf units fun u => rejIf (u.1 != 0 && !s.unitPresent u.1 u.2) (rejAbsent u.1 u.2)

/-- The first of the four slots of a producer's map word that is free. -/
def freeSlot (w : Nat) : Option Nat := (List.range 4).find? fun j => !bit w (16 * j + 8)

/-- Producer p drives, or drives no longer, channel ch. -/
def setDrive (s : State) (p ch : Nat) (on : Bool) : State :=
  let w := (SMap.get 0 s.evf.prodMap p).toNat
  let w' :=
    if on then
      if (s.drives p).contains ch then w
      else match freeSlot w with
        | some j => place w (16 * j) 9 (ch + 256)
        | none => w
    else (List.range 4).foldl (fun a j => if slice a (16 * j) 9 = ch + 256 then place a (16 * j) 9 0 else a) w
  s.setEvf { s.evf with prodMap := SMap.put 0 s.evf.prodMap p (BitVec.ofNat 64 w') }

/-- Every staged change takes effect. -/
def commitRoutes (s : State) : State :=
  let staged := s.evf.staged
  let drop := staged.flatMap fun g => match g.2 with
    | some x => ((s.prodsOf g.1).filter fun p => !x.prods.contains p).map (g.1, ·)
    | none => []
  let s := forEach drop (fun q s => s.setDrive q.2 q.1 false) s
  let s := forEach staged (fun g s => match g.2 with
    | some x =>
      let s := s.setEvf { s.evf with route := SMap.put 0x3FF s.evf.route g.1 x.cons }
      forEach x.prods (fun p s => s.setDrive p g.1 true) s
    | none => s) s
  let s := forEach s.evf.stagedDest (fun d s => s.setF .glbLinkOutDestDev d.1 (d.2 - 1)) s
  let bad := s.evf.parity.filter fun ch => !staged.any (fun g => g.1 == ch)
  (s.setEvf { s.evf with staged := [], stagedDest := [], parity := bad }).setB .evfStagedPending 0 false

end State

def evtCommitSpec : CmdSpec where
  opcode := 0x10A
  kinds := [0]
  states := 0b1100
  absent := fun s _ => firstRejOf s.usedChans s.routeAbsent
  range := fun s _ =>
    rejIf ((s.stagedChans.flatMap s.prodsNew).any (fun p => decide (4 < (s.drivesNew p).length))) (rejRange 0)
  conflict := fun s _ => firstRejOf (s.stagedChans ++ s.usedChans) fun ch => firstRej [
    rejIf (isBound (s.routeOf ch) && s.stagedOf ch != s.routeOf ch) (rejConflict 8 ch (s.routeOf ch)),
    if s.stagedOf ch = 1 ∨ s.stagedOf ch = 0x3FF then none
    else (s.sameInput ch).bind fun j => rejConflict 8 j (s.stagedOf ch)]
  loop := fun s _ => s.loopChan.bind rejLoop
  app := justDo fun s _ => s.commitRoutes

def execEvtCommit (c : HostCmd) (s : State) : Host.Outcome State Fault Refusal := command evtCommitSpec c s

/-! ## SNAPSHOT (R422) -/

/-- SNAPSHOT: RESULT is T of the snapshot that the trigger begins or joins. -/
def snapshotSpec : CmdSpec where
  opcode := 0x10B
  kinds := [0]
  states := 0b11111100
  app := fun s _ =>
    let s := s.snapTrigger 3
    (s, { result := match s.evf.snap with | some (_, t, _) => t | none => s.rd .evfSnapSt })

def execSnapshot (c : HostCmd) (s : State) : Host.Outcome State Fault Refusal := command snapshotSpec c s

/-! ## Software firing, suppression, parity (R414, R416, R420, R421) -/

/-- EVF_FIRE: a write of `EVF.FIRE[i]` (R414). -/
def execEvfFire (word : Fin 8) (value : Word) (s : State) : Host.Outcome State Fault Refusal :=
  perform (fun s => when (s.hostPage 5)
    (forEach (setBits value.toNat 32) (fun b s => s.fireChannel (32 * word + b))) s) s

/-- EVF_SUPP_RELEASE: a write of `EVF.SUPP[i]` (R421): the channels named are released from the next cycle, one with
a parity error only once its route has been rewritten. -/
def execEvfSuppRelease (word : Fin 8) (value : Word) (s : State) : Host.Outcome State Fault Refusal :=
  run (fun s => when (s.hostPage 5) (fun s => s.suppWrite word value.toNat) s) s

/-- Bits of `EVF.PROD_MAP` that exist (R425). -/
def prodMapBits (v : Nat) : Nat := (List.range 4).foldl (fun a j => a + (slice v (16 * j) 9) <<< (16 * j)) 0

/-- A host write of `EVF.CH_ROUTE` or `EVF.PROD_MAP` (R420): it acts only with DBG.EN, at once and unchecked. It rewrites
the route of the channel shown, or of those that the producer drove or then drives (R421). -/
def State.debugRoute (s : State) (map : Bool) (v : Nat) : State :=
  if !s.flag .evfDbgEn then s
  else if map then
    let p := s.fld .evfProdSelProd
    let old := s.drives p
    let s := s.setEvf { s.evf with prodMap := SMap.put 0 s.evf.prodMap p (BitVec.ofNat 64 (prodMapBits v)) }
    s.setEvf { s.evf with parity := s.evf.parity.filter fun ch => !(old.contains ch || (s.drives p).contains ch) }
  else s.setEvf { s.evf with
    route := SMap.put 0x3FF s.evf.route (s.fld .evfChSelCh) (slice v 0 10),
    parity := s.evf.parity.filter (· != s.fld .evfChSelCh) }

/-- EVF_DEBUG_ROUTE_WRITE: CH_ROUTE, or PROD_MAP as a whole. -/
def execEvfDebugRouteWrite (map : Bool) (value : Dword) (s : State) : Host.Outcome State Fault Refusal :=
  run (fun s => when (s.hostPage 5) (fun s => s.debugRoute map value.toNat) s) s

/-- EVF_PARITY_ERROR (R416): the channel is suppressed and the invariant re-based. -/
def execEvfParityError (chan : Fin 256) (s : State) : Host.Outcome State Fault Refusal :=
  run (fun s =>
    let s := s.setEvf { s.evf with parity := chan.val :: s.evf.parity.filter (· != chan.val) }
    (s.setSuppressed chan true).evRebase) s

/-! ## Timers (R411) -/

namespace State

def timerNext (s : State) (k : Nat) : Option Nat := SMap.get none s.evf.timerNext k

def setTimer (s : State) (k : Nat) (next : Option Nat) (made : Nat) : State :=
  s.setEvf { s.evf with timerNext := SMap.put none s.evf.timerNext k next, timerDone := SMap.put 0 s.evf.timerDone k made }

/-- The first tick of a timer's series after the present cycle. -/
def timerFirst (s : State) (k : Nat) : Nat :=
  let start := s.rd .timerStart k
  let p := 32 * s.rd .timerPeriod k
  let now := s.st.toNat
  if now < start then start
  else if p = 0 then now + 32
  else start + ((now - start) / p + 1) * p

/-- A host write of a timer's CTRL: EN starts or stops the series; COUNT is written only while EN is 0. -/
def timerCtrl (s : State) (k v : Nat) : State :=
  let was := s.flag .timerCtrlEn k
  let en := bit v 0
  let s := s.wr .timerCtrl k (ofBool en + 256 * (if was then s.fld .timerCtrlCount k else slice v 8 24))
  if en && !was then s.setTimer k (some (s.timerFirst k)) 0
  else if en then s else s.setTimer k none 0

/-- A timer reaches its next tick and fires; a tick that a step of ST has passed over is not a firing. -/
def timerFire (s : State) (k : Nat) : State :=
  match s.timerNext k with
  | some t =>
    if t = s.st.toNat then
      let made := SMap.get 0 s.evf.timerDone k + 1
      let count := s.fld .timerCtrlCount k
      let p := 32 * s.rd .timerPeriod k
      let next := if p = 0 || (count != 0 && decide (count ≤ made)) then none else some (t + p)
      (s.setTimer k next made).signal (prodTimer k)
    else if t < s.st.toNat then s.setTimer k (some (s.timerFirst k)) (SMap.get 0 s.evf.timerDone k)
    else s
  | none => s

end State

/-- TIMER_ENABLE: a write of `EVF.TIMER[k].CTRL`. -/
def execTimerEnable (timer : Fin 8) (value : Word) (s : State) : Host.Outcome State Fault Refusal :=
  run (fun s => when (s.hostPage 5) (fun s => s.timerCtrl timer value.toNat) s) s

/-- EVF_TIMER_FIRE. -/
def execEvfTimerFire (timer : Fin 8) (s : State) : Host.Outcome State Fault Refusal :=
  perform (fun s => s.timerFire timer) s

/-! ## Snapshots (R422, R423) -/

/-- SNAP_HELD_RELEASE: a write of `EVF.SNAP_STATUS`. -/
def execSnapHeldRelease (value : Word) (s : State) : Host.Outcome State Fault Refusal :=
  run (fun s => when (s.hostPage 5 && bit value.toNat 0 && !bit (s.raisedBits .evfSnapStatus 0) Fld.evfSnapStatusHeld.lo) (fun s => s.setB .evfSnapStatusHeld 0 false) s) s

/-- SNAPIN_EDGE: the edge lies in the present cycle, and the trigger cycle is three later. -/
def execSnapinEdge (s : State) : Host.Outcome State Fault Refusal :=
  run (fun s => when (s.flag .evfSnapCfgSnapinEn && !s.jtag.hold) (fun s => s.after (s.cyc + 3) .snapIn) s) s

end Sys2Proof.Machine
end

