-- ==== Sys2Proof/Machine/Shot.lean ====
section
/-!
DEFINITION. The shot controller (spec/01, R28 to R36; spec/14, R397, R398, R405): arming, starts, the start fetch and the
start tick, the shot end, and the commands that stop a run.
-/

namespace Sys2Proof.Machine

namespace State

/-! ## Leaving ARMED or RUNNING (R397) -/

/-- The start event channel's binding and a pending scheduled start are discarded (R397). -/
def dropBinding (s : State) : State :=
  let s := match s.shot.startEvt with
    | some ch => s.bindChannel ch 0x3FF
    | none => s
  { s with shot := { s.shot with startEvt := none, sched := none } }

/-- Participation, the start event's binding and a pending scheduled start are discarded. -/
def dropProgram (s : State) : State :=
  let s := s.dropBinding
  { s with shot := { s.shot with part := ⟨0, 0, 0⟩ } }

/-- The device returns to IDLE. -/
def toIdle (s : State) : State := s.dropProgram.setDev 2

/-! ## Start (R29 to R31, R119) -/

/-- The start fetch of a participating tone whose MODE is not OFF (R220, R239). -/
def startTone (s : State) (r t tick : Nat) : State :=
  let d := s.toneDesc r t
  if s.tonePart (16 * r + t) && tdMode d != 0 then
    (s.setTone r t { s.tone r t with active := true, due := some (tick + tdWinStart d) }).tonePartBit r t true
  else s

/-- The render point of the start tick, 31 cycles before it (R119). -/
def startFetch (s : State) : State :=
  match s.shot.accepted with
  | some tick =>
    if s.cyc + 31 = tick then
      let s := { s with shot := { s.shot with taint := 0, abort := none, ended := [], winEnd := 0 } }
      let tag := (s.fld .glbShotNumNum + 1) % 65536
      let s := forEach (s.och.map (·.1)) (fun n s => s.handOverFirst n) s
      let s := forEach s.shotChans (fun n s => s.startChan n tick tag) s
      forEach s.allTones (fun p s => s.startTone p.1 p.2 tick) s
    else s
  | none => s

/-- An abort that met the accepted start takes effect at the start tick (R398). -/
def abortAtStart (s : State) : State :=
  let a := s.shot.abortAtTick
  let t : State := { s with shot := { s.shot with abortAtTick := 0 } }
  if a = 0 then s else if a = 4 then t.abortNow else t.abortShot a

/-- The start tick (R29, R31, R344). -/
def startTick (s : State) : State :=
  if s.shot.accepted == some s.cyc then
    let s := { s with shot := { s.shot with
      accepted := none, running := true, startCyc := s.cyc, startSt := s.st.toNat, lastStart := some s.cyc } }
    let s := s.setF .glbShotNumNum 0 ((s.fld .glbShotNumNum + 1) % 2 ^ 48)
    let s := s.jrnStart (s.shotPacket 0)
    (s.signal prodShotStart).coreShotStart.acqShotStart.bdShotStart.guardShotStart.abortAtStart
  else s

/-- The decision cycle of a scheduled start, 32 cycles before its tick (R30). -/
def schedDecision (s : State) : State :=
  match s.shot.sched with
  | some t =>
    if t = s.stIn 32 then
      let s := { s with shot := { s.shot with sched := none } }
      if s.mayStart then s.startMade else s.startIgnored
    else s
  | none => s

/-! ## Shot end (R28, R120, R124, R344, R397, R490) -/

/-- Every participating channel has finished, and every window of the shot has opened and closed. -/
def shotOver (s : State) : Bool :=
  s.shot.running && s.shotChans.all (fun n => let c := SMap.get 0 s.shot.ended n; c != 0 && decide (c ≤ s.cyc))
    && s.activeTones.all (fun p =>
      let y := s.tone p.1 p.2
      y.due.isNone && y.cut.isNone && (match y.endCyc with | some e => decide (e ≤ s.cyc) | none => false))

/-- The cycle of the shot end: the later of the last channel's end and the close of the last window, which is one of this
shot; 4 cycles after the start tick when there is neither. -/
def shotEndCyc (s : State) : Nat :=
  let chans := s.shotChans.map (fun n => SMap.get 0 s.shot.ended n)
  let wins := (s.shot.winEnd :: s.activeTones.map (fun p => (s.tone p.1 p.2).endCyc.getD 0)).filter
    (fun e => decide (s.shot.startCyc < e))
  let m := (chans ++ wins).foldl max 0
  if chans.isEmpty && m == 0 then s.shot.startCyc + 4 else m

/-- The start hold after a shot of length l (R489). -/
def startHold (s : State) (l : Nat) : Nat :=
  match s.fld .thermStatusThrLevel with
  | 1 => (l + 2) / 3
  | 2 => l
  | 3 => 3 * l
  | _ => 0

/-- A voice returns to idle (R120). -/
def idleVoice (s : State) (n v : Nat) : State :=
  (s.dropAsync n v).updVoice n v fun x => { x with
    chain := none, granules := [], spec := none, hist := [], abortAt := none, kept := false, pend := none }

/-- The final packet is committed at once, or after the last decision cycle of the shot's tones (R344). -/
def closeJournal (s : State) (cause : Option Nat) (taint : BitVec 8) (length : Nat) : State :=
  let s := s.setJrn { s.jrn with closing := some ⟨cause, taint, length⟩ }
  if !s.openWindows.isEmpty then s
  else if s.allTones.any (fun p => (s.tone p.1 p.2).doneAt == s.cyc + 1) then s.after (s.cyc + 1) .jrnCommit
  else s.jrnFinal

/-- The run is over at the end of a shot (R397): it was stopped, or it has had all its shots. -/
def runOver (s : State) : Bool := s.shot.stopping || (s.shot.count != 0 && decide (s.shot.count ≤ s.shot.started))

/-- The shot ends. -/
def shotEnd (s : State) : State :=
  let m := s.shotEndCyc
  if s.shotOver && decide (m ≤ s.cyc) then
    let h := s.shot
    let l := m - h.startCyc
    let s := forEach s.shotChans (fun n s =>
      (forEach (List.range 8) (fun v s => s.idleVoice n v) s).updChan n fun o => { o with stopping := false }) s
    let s : State := s.decShotEnd.strmShotEnd
    let s : State := { s with
      waits := []
      shot := { s.shot with running := false, lastEnd := some m, length := l, hold := m + s.startHold l, abort := none,
                            taint := 0 } }
    let s := forEach (List.range s.variant.ochCount) (fun n s =>
      forEach ((List.range 9).filter (s.committed n)) (fun set s => s.after (s.cyc + 1) (.handOver n set)) s) s
    let s := s.closeJournal (h.abort.map (·.1)) h.taint l
    let s : State := s.signal prodShotEnd
    if s.dev = 4 then (if s.runOver then s.toIdle else s) else s.dropProgram
  else s

end State

/-! ## Rows -/

/-- START_EVENT (R30). -/
def execStartEvent (s : State) : Host.Outcome State Fault Refusal := run State.startEvent s

/-- SCHEDULED_START_DECISION (R30). -/
def execScheduledStartDecision (s : State) : Host.Outcome State Fault Refusal := run State.schedDecision s

/-- SHOT_START_FETCH (R119). -/
def execShotStartFetch (s : State) : Host.Outcome State Fault Refusal := perform State.startFetch s

/-- SHOT_START_TICK (R31). -/
def execShotStartTick (s : State) : Host.Outcome State Fault Refusal := perform State.startTick s

/-- SHOT_END (R28). `jrnBad`: the open packet's stored words are found uncorrectable before the commit (R346). A start that
is sampled in the cycle of the end is accepted (R36). -/
def execShotEnd (jrnBad : Bool) (s : State) : Host.Outcome State Fault Refusal :=
  perform (fun s =>
    let t := (when jrnBad State.jrnRewind s).shotEnd
    when (s.shot.running && !t.shot.running) State.startsDue t) s

/-! ## ARM and DISARM (R397, R405) -/

/-- A bit mask of n bytes of the participation block from byte k. -/
def partMask (c : HostCmd) (k n : Nat) : Nat := bufNat (bufOf c) k n
def partOch (c : HostCmd) : List Nat := setBits (partMask c 0 12) 96
def partTones (c : HostCmd) : List Nat := setBits (partMask c 12 48) 384
def partDsp (c : HostCmd) : List Nat := setBits (partMask c 60 4) 32

def armSpec : CmdSpec where
  opcode := 0x101
  kinds := [0]
  states := 0b100
  layout := List.flatten [[(16, 255)], whole 24 6, whole 32 4, whole 40 8]
  reads := fun _ _ => true
  absent := fun s c => firstRej [
    firstRejOf (partOch c) (fun n => rejIf (!s.unitPresent 1 n) (rejAbsent 1 n)),
    firstRejOf (partTones c) (fun k => rejIf (!s.unitPresent 3 k) (rejAbsent 3 k)),
    firstRejOf (partDsp c) (fun q => rejIf (!s.unitPresent 5 q) (rejAbsent 5 q))]
  range := fun _ c => firstRej [
    rejIf (pNum c 32 4 != 0 && decide (2 ^ 48 < pNum c 24 6 + pNum c 32 4)) (rejRange 32),
    bufAligned c 40]
  conflict := fun s c => (s.heldBy (pByte c 16)).bind fun i => rejConflict 8 (pByte c 16) i
  busy := fun s c => firstRej [
    firstRejOf (partOch c) (fun n => rejIf (s.inSlice 0 n || s.inSlice 1 n) rejBusy),
    firstRejOf (partTones c) (fun k => rejIf (s.inSlice 2 (k / 16)) rejBusy)]
  app := justDo fun s c =>
    let part : Part := ⟨BitVec.ofNat 96 (partMask c 0 12), BitVec.ofNat 384 (partMask c 12 48), BitVec.ofNat 32 (partMask c 60 4)⟩
    let s := { s with shot := { s.shot with
      part := part, startEvt := some (pByte c 16), sched := none, count := pNum c 32 4, started := 0, stopping := false,
      abortAtTick := 0 } }
    let s := s.setF .glbShotNumNum 0 (prev48 (pNum c 24 6))
    (s.bindChannel (pByte c 16) 0).setDev 3

def execArm (c : HostCmd) (s : State) : Host.Outcome State Fault Refusal := command armSpec c s

def disarmSpec : CmdSpec where
  opcode := 0x102
  kinds := [0]
  states := 0b1000
  app := justDo fun s _ => s.toIdle

def execDisarm (c : HostCmd) (s : State) : Host.Outcome State Fault Refusal := command disarmSpec c s

/-! ## SHOT_SCHEDULE, RUN_STOP, SHOT_ABORT (R29, R398, R406) -/

def shotScheduleSpec : CmdSpec where
  opcode := 0x103
  kinds := [0]
  states := 0b11000
  layout := whole 16 8
  range := fun s c => rejIf (pNum c 16 8 % 32 != 0 || decide (pNum c 16 8 < s.st.toNat + 1024)) (rejRange 16)
  busy := fun s _ => rejIf s.shot.sched.isSome rejBusy
  app := justDo fun s c => { s with shot := { s.shot with sched := some (pNum c 16 8) } }

def execShotSchedule (c : HostCmd) (s : State) : Host.Outcome State Fault Refusal := command shotScheduleSpec c s

def runStopSpec : CmdSpec where
  opcode := 0x104
  kinds := [0]
  states := 0b10000
  app := justDo fun s _ =>
    if s.shotOn then { s with shot := { s.shot with stopping := true, sched := none } } else s.toIdle

def execRunStop (c : HostCmd) (s : State) : Host.Outcome State Fault Refusal := command runStopSpec c s

def shotAbortSpec : CmdSpec where
  opcode := 0x105
  kinds := [0]
  states := 0b10000
  layout := [(16, 1)]
  app := justDo fun s c =>
    let stop := bit (pByte c 16) 0
    if !s.shotOn then (if stop then s.toIdle else s)
    else
      let s := if stop then { s with shot := { s.shot with stopping := true, sched := none } } else s
      if s.shot.running then s.abortShot 2 else { s with shot := { s.shot with abortAtTick := 2 } }

def execShotAbort (c : HostCmd) (s : State) : Host.Outcome State Fault Refusal := command shotAbortSpec c s

end Sys2Proof.Machine
end

