-- ==== Sys2Proof/Machine/Power.lean ====
section
/-!
DEFINITION. Power, reset and Dusk (spec/18, R480 to R488, R493, R494): rail sequencing, Dawn and its stages, TRIP and PGOOD
loss, Dusk, SAFE_EXIT and SYS_RESET.
-/

namespace Sys2Proof.Machine

/-- One millisecond in FCLK cycles. -/
def cycMs : Nat := 625000

namespace State

/-! ## Leaving IDLE, ARMED and RUNNING for DUSK or FAULT (R397, R401, R298, R318, R322, R460) -/

/-- A save in progress ends where it has come to, which no rule says: before its first page, in copy A, between the copies,
in copy B, or with copy B's last page (a free value). A copy that is not whole is invalid, and one that is loads at the next
Dawn (R468, R488). -/
def saveCut (s : State) : State :=
  match s.nvm.saving with
  | none => s
  | some r =>
    let d := s.draw
    let t := d.2
    let n := { t.nvm with saving := none, auto := false, changed := true }
    let seq := n.seq + 1
    match t.nvmPair with
    | none => { t with nvm := n }
    | some (a, b) =>
      match (Config.nvmCut d.1).toNat with
      | 0 => { t with nvm := n }
      | 1 => { t with nvm := nvmStore n a seq 0 r false }
      | 2 => { t with nvm := nvmStore n a seq 0 r true }
      | 3 => { t with nvm := nvmStore (nvmStore n a seq 0 r true) b seq 1 r false }
      | _ => { t with nvm := { nvmStore (nvmStore n a seq 0 r true) b seq 1 r true with changed := false, lastSave := t.cyc } }

/-- Every write to NVM in progress is cut short (R401, R488, R506). -/
def nvmStop (s : State) : State := s.saveCut.keyCut.patchCut

/-- What a restart of the Command Engine ends (R401, R403): slices that CAL_RUN asked for are abandoned, a CAL_SAVE is cut
short, and every long command completes `INTERNAL`. -/
def ceCut (s : State) : State :=
  let s := match s.findLong 0x700 with
    | some l => forEach (s.calUnits l.arg) (fun u s => s.calGiveUp u.1 u.2) s
    | none => s
  ((when (s.findLong 0x701).isSome State.saveCut s).keyCut.patchCut).cutLongs 0xB

/-- The Command Engine restarts with its micro-stack empty, and the patch RAM is reloaded where an image was loaded: one
that Dawn refused stays out (R511, R512). -/
def ceRestart (s : State) : State :=
  let s := ((s.bump .ceWdogCnt).setB .ceStatusRestart 0 true).ceCut
  ({ s with ce := { s.ce with ustack := [] } } : State).loadPatch (s.flag .ceUcodeVerPatched)

/-- What a free word says that the micro-engine does next: a fetch that fails, a fetch, a call with its return address, or a
return. -/
def microOp (w : BitVec 16) : MicroOp :=
  match slice w.toNat 14 2 with
  | 0 => .fetch true
  | 1 => .fetch false
  | 2 => .call (BitVec.ofNat 14 w.toNat)
  | _ => .ret

/-- The micro-engine turns to its next operation, a free value (R511: the instruction set is not given). -/
def microNext (s : State) : State :=
  let (n, s) := s.draw
  { s with ce := { s.ce with micro := microOp (Config.microNext n) } }

/-- The micro-engine does something that may fault: a ninth call, a return from an empty stack and an uncorrectable control
word restart the engine (R511). -/
def micro (s : State) (op : MicroOp) : State :=
  let fault := (s.bump .ceUfaultCnt).ceRestart
  match op with
  | .call back => if s.ce.ustack.length < 8 then { s with ce := { s.ce with ustack := back :: s.ce.ustack } } else fault
  | .ret =>
    match s.ce.ustack with
    | _ :: rest => { s with ce := { s.ce with ustack := rest } }
    | [] => fault
  | .fetch bad => if bad then fault else s

/-- The device enters DUSK or FAULT: no start follows, captures stop, cores halt, long commands end, slices are abandoned. The
program is discarded (R397); what a shot still in progress takes its part from stays to its end. -/
def leaveRun (s : State) (d : Nat) : State :=
  let s := s.setDev d
  let s : State := { s with shot := { s.shot with stopping := true } }
  let s := if s.shotOn then s.dropBinding else s.dropProgram
  let s := s.acqStopAll.coreHaltAll
  (s.nvmStop.cutLongs 3).calAbandonAll

/-- A failure puts the device in FAULT; in DAWN it stops Dawn at its stage. Outputs that the failure has not opened already
send zero code for one granule and open (R172). -/
def toFault (s : State) : State :=
  if s.dev = 0 || s.dev = 7 then s
  else
    let s := when (s.dev == 1) (fun s => s.setB .glbDawnStatusFail 0 true) s
    let s : State := { s with power := { s.power with dusk := 0 } }
    s.outMuteAll.leaveRun 7

/-- The fast protection path of TRIP, PGOOD loss and loss of PLL lock (R50, R487). -/
def protect (s : State) : State := s.outTrip.bdTripPark.abortNow.toFault

/-! ## Rails (R480, R487) -/

def setPower (s : State) (p : Power) : State := { s with power := p }

/-- Group k is enabled, and its PGOOD awaited. -/
def railOn (s : State) (k : Nat) : State :=
  s.setPower { s.power with pwren := setBit s.power.pwren k true, seq := some (k, s.cyc) }

/-- The supervisor starts sequencing; PWRFAIL goes. -/
def seqStart (s : State) : State :=
  (s.setPower { s.power with down := false, waits := false, pwrfail := false }).railOn 0

/-- The rails are taken down in the order 3, 2, 1, 0, the first in cycle c, 1 ms apart. -/
def railsDown (s : State) (c : Nat) : State :=
  let s := s.setPower { s.power with down := true, seq := none }
  forEach (List.range 4) (fun k s => s.after (c + k * cycMs) (.railOff (3 - k))) s

/-- What ended the rails (VAUX_LOG): 1 TRIP, 2 PGOOD loss, 3 sequencing failure, with the sensor or group. -/
def vauxLog (s : State) (cause index : Nat) : State :=
  (s.setF .thermVauxLogCause 0 cause).setF .thermVauxLogIndex 0 index

/-- The power-down of a TRIP or a PGOOD loss: PWRFAIL after 50 µs, then the rails. In FAULT an automatic save may still be
in progress. -/
def powerDown (s : State) : State := (s.saveCut.after (s.cyc + 50 * cycUs) .pwrFail).railsDown (s.cyc + 50 * cycUs)

/-- A group's PWREN is deasserted; with group 0 the cool-down of 10 s begins, unless sequencing had failed. -/
def railOff (s : State) (k : Nat) : State :=
  let p := s.power
  let s := s.setPower { p with pwren := setBit p.pwren k false, pgood := setBit p.pgood k false }
  if k = 0 then
    if s.fld .thermVauxLogCause = 3 then s.setPower { s.power with waits := true }
    else (s.setPower { s.power with coolEnd := some (s.cyc + 10 * cycS), why := 4 }).setB .thermVauxLogCooling 0 true
  else s

/-! ## Dawn (R481, R483, R484) -/

/-- The core domain at its reset values: the VAUX domain, fuses and what has left the block are kept. -/
def domainReset (s : State) : State :=
  let vaux := fun e => match e with
    | (_, Later.railNext _) => true
    | (_, Later.railOff _) => true
    | (_, Later.pwrFail) => true
    | _ => false
  let t := State.resetOf s.variant
  let t : State := { t with
    pending := s.pending
    cyc := s.cyc
    fresh := s.fresh
    egress := s.egress
    later := s.later.filter vaux
    nvm := { s.nvm with saving := none, auto := false }
    fuse := s.fuse
    jtag := s.jtag
    power := { s.power with dusk := 0 } }
  ((t.wr .thermVauxLog 0 (s.rd .thermVauxLog)).wr .scbTamperCause 0 (s.rd .scbTamperCause)).wr .glbResetCause 0
    (s.rd .glbResetCause)

/-- Dawn begins at a stage, from a source (R484). -/
def dawn (s : State) (stage cause : Nat) : State :=
  let s := s.nvmStop.setDev 1
  let t := s.domainReset
  let t : State := if stage = 2 then { t with pcie := s.pcie } else t
  (t.setF .glbResetCauseSource 0 cause).setF .glbDawnStatusStage 0 stage

/-- A device in OFF leaves it when all four PGOOD are good and PERST# is released (R481). -/
def dawnFromOff (s : State) : State :=
  if s.dev == 0 && s.power.pgood == 15 && !s.power.perst && !s.power.down then s.dawn 1 s.power.why else s

/-- The core rails have fallen: the core domain's state is lost, and the TAP, which lives on VDD_IO, starts afresh. -/
def coreOff (s : State) : State :=
  if s.dev = 0 then s
  else { s.nvmStop.domainReset.setF .glbDevStateState 0 0 with jtag := ⟨false, 0⟩, power := { s.power with dusk := 0, io := false } }

/-! ## Stages of Dawn (R483) -/

def stage (s : State) : Nat := s.fld .glbDawnStatusStage

def toStage (s : State) (n : Nat) : State := s.setF .glbDawnStatusStage 0 n

/-- Dawn fails at its stage with a reason. -/
def dawnFail (s : State) (reason : Nat) : State := (s.setF .glbDawnStatusReason 0 reason).toFault

/-- Banks whose failure stops Dawn: decision file, export map, descriptor table, secure bank (R340). -/
def fatalBank (g : Nat) : Bool := g == 160 || g == 161 || g == 162 || g == 164

/-- A calibration unit as a record holds it (R467). -/
def recordUnit (s : State) (kind idx : Nat) : CalUnit :=
  match s.nvm.best with
  | some r =>
    let u := SMap.get CalUnit.init r.units (128 * kind + idx)
    { CalUnit.init with trim := u.trim, count := u.count, lastTemp := u.lastTemp }
  | none =>
    { CalUnit.init with
      trim := (List.range 17).map (Config.factoryTrim kind idx)
      count := (Config.factoryCount kind idx).toNat
      lastTemp := Config.factoryTemp kind idx }

/-- The calibration record is loaded, and every present unit is due (R464, R468). -/
def loadRecord (s : State) : State :=
  let src := if s.nvm.best.isSome then 2 else 1
  let s := (s.setF .calNvmStatusSrc 0 src).wr .calNvmSeq 0 s.nvm.seq
  forEach (s.calUnits 0x3F) (fun u s =>
    let x := s.recordUnit u.1 u.2
    ((s.setCalUnit u.1 u.2 x).calTrim u.1 u.2 x.trim).calDue u.1 u.2) s

/-- Dusk begins with a cause: 1 threshold, 2 region failure, 3 command. -/
def duskBegin (s : State) (cause : Nat) : State :=
  if 2 ≤ s.dev ∧ s.dev ≤ 4 then
    let s := when (cause != 3) (fun s => s.bump .thermStopCnt) (s.setF .thermStatusStopCause 0 cause)
    (s.setPower { s.power with dusk := 1, duskAt := s.cyc, stepAt := s.cyc }).leaveRun 5
  else s

/-- Dawn is complete: the device is in IDLE. A region that lost two sensors during Dawn brings Dusk at once (DEDUCED, log
entry 13: R491 names no state, and Dusk has no way out of DAWN). -/
def dawnEnd (s : State) : State :=
  let s : State := { s with therm := { s.therm with evalAt := s.cyc + 10 * cycMs } }
  let s := (s.toStage 9).setDev 2
  when ((List.range 8).any fun r => decide (2 ≤ (s.regionOut r).length)) (fun s => s.duskBegin 2) s

/-- What the end of a stage brings, in the stage that it ends. -/
def stageEnd (s : State) (what : DawnEnd) : State :=
  match what, s.stage with
  | .link up, 1 => { s with pcie := { s.pcie with linkUp := up } }.toStage 2
  | .clock freq, 2 =>
    if freq = 1 || freq = 2 then
      ((s.setF .timeStatusRefFreq 0 freq.toNat).setB .timeStatusRefPresent 0 true).toStage 3
    else (s.setF .timeStatusRefFreq 0 3).dawnFail 1
  | .lock ok, 3 =>
    if ok then
      let s : State := { s with st := 0, time := { s.time with running := true } }
      ((s.setB .timeStatusPllLock 0 true).setB .timeStatusHoldover 0 (s.flag .timeStatusHoldover && !s.flag .timeStatusRefPresent)).toStage 4
    else s.dawnFail 2
  | .memories failed, 4 =>
    let s := forEach failed (fun g s =>
      when (decide (g.val < 158) && s.unitPresent 12 g)
        (fun s => s.wr .glbMemFail (g / 32) (setBit (s.rd .glbMemFail (g / 32)) (g % 32) true)) s) s
    if failed.any (fun g => fatalBank g) then s.dawnFail 3 else s.toStage 5
  | .scarab ok patch, 5 =>
    if !ok || s.fuse.lc == 4 then s.dawnFail 4
    else
      let s := (s.wr .guardNonce 0 s.nvm.guardNonce.toNat).wr .scbLcNonce 0 s.nvm.lcNonce.toNat
      let s : State := when (!s.tampered) (fun s => { s with scarab := ⟨s.keyBank, false⟩ }) s
      (s.loadPatch patch).toStage 6
  | .dram ok, 6 =>
    if ok then
      let s : State := { s with
        hk := ⟨s.cyc, 0, s.cyc, none, none, false⟩
        therm := { s.therm with next := s.cyc }
        power := { s.power with io := true } }
      s.toStage 7
    else s.dawnFail 5
  | .sensors, 7 => s.loadRecord.toStage 8
  | .calibration, 8 => if s.calDawnOver then s.dawnEnd else s
  | _, _ => s

/-! ## PERST#, PGOOD and VAUX (R480 to R482, R484, R488) -/

/-- PERST# is asserted: the link goes down, and Dawn starts over. -/
def perstAssert (s : State) : State :=
  let s := s.setPower { s.power with perst := true }
  if s.dev = 0 then s else if s.dev = 1 then s.dawn 1 2 else s.pcieDown

/-- PERST# is released. -/
def perstRelease (s : State) : State :=
  if !s.power.perst then s
  else
    let s := s.setPower { s.power with perst := false }
    if s.power.down && s.power.pwren != 0 || s.power.coolEnd.isSome then s
    else if s.dev = 0 then
      if s.power.waits then s.seqStart else s.dawnFromOff
    else s.dawn 1 2

/-- PGOOD of an enabled group becomes good: the next group follows 1 ms later. -/
def pgoodRise (s : State) (k : Nat) : State :=
  let p := s.power
  if bit p.pwren k && !bit p.pgood k then
    let s := s.setPower { p with pgood := setBit p.pgood k true }
    if p.seq.map (·.1) = some k then
      let s := s.setPower { s.power with seq := none }
      if k < 3 then s.after (s.cyc + cycMs) (.railNext k) else s.dawnFromOff
    else s.dawnFromOff
  else s

/-- The 1 ms hold of group k ends. -/
def railNext (s : State) (k : Nat) : State := if bit s.power.pgood k && !s.power.down then s.railOn (k + 1) else s

/-- A PGOOD that does not rise in 20 ms (R480). -/
def railTimeout (s : State) : State :=
  match s.power.seq with
  | some (k, c) => if c + 20 * cycMs ≤ s.cyc then (s.vauxLog 3 k).railsDown s.cyc else s
  | none => s

/-- PGOOD of an enabled group is bad for longer than 10 µs (R482). -/
def pgoodLoss (s : State) (k : Nat) : State :=
  let p := s.power
  if bit p.pwren k && bit p.pgood k && !p.down then
    (((s.setPower { p with pgood := setBit p.pgood k false }).protect).vauxLog 2 k).powerDown
  else s

/-- The comparator of a sensor sees 115 °C (R487); it is armed once the core rails are good. -/
def trip (s : State) (sensor temp : Nat) : State :=
  if s.power.pgood == 15 && !s.power.down then
    ((s.protect.vauxLog 1 sensor).setF .thermVauxLogTemp 0 temp).powerDown
  else s

/-- The cool-down ends (R487). -/
def coolEnd (s : State) : State :=
  match s.power.coolEnd with
  | some c =>
    if c ≤ s.cyc then
      let s := (s.setPower { s.power with coolEnd := none }).setB .thermVauxLogCooling 0 false
      if s.power.perst then s.setPower { s.power with waits := true } else s.seqStart
    else s
  | none => s

/-- VAUX has been in range for 10 ms: the VAUX domain starts, its log clear, and sequences the rails. -/
def vauxUp (s : State) : State :=
  if s.power.vaux || s.dev != 0 then s
  else
    let s := ((s.wr .thermVauxLog 0 0).wr .scbTamperCause 0 0).wr .glbResetCause 0 1
    (s.setPower ⟨true, s.power.perst, 0, 0, false, none, false, none, false, 1, 0, 0, 0, false⟩).seqStart

/-- VAUX falls out of range (R488): PWREN goes low, and the VAUX domain's state is lost. -/
def vauxLoss (s : State) : State :=
  let s := ((s.wr .thermVauxLog 0 0).wr .scbTamperCause 0 0).wr .glbResetCause 0 1
  let s : State := { s with later := s.later.filter fun e => match e.2 with
    | .railNext _ => false
    | .railOff _ => false
    | .pwrFail => false
    | _ => true }
  (s.setPower ⟨false, s.power.perst, 0, 0, false, none, false, none, false, 1, 0, 0, 0, s.power.io⟩).nvmStop

/-! ## Dusk (R493, R494) -/

/-- Step n of Dusk begins. -/
def duskStep (s : State) (n : Nat) : State := s.setPower { s.power with dusk := n, stepAt := s.cyc }

/-- Dusk is complete. -/
def duskEnd (s : State) : State := (s.duskStep 0).setDev 6

/-- Step n begins, after step n − 1: outputs, bias, journal, SAFE. -/
def duskEnter (s : State) (n : Nat) : State :=
  if s.power.dusk = 0 || s.power.dusk + 1 != n then s
  else
    match n with
    | 2 => (s.duskStep 2).outMuteAll
    | 3 => (s.duskStep 3).bdDusk
    | 4 => (s.duskStep 4).jrnFinal
    | 5 => s.duskEnd
    | _ => s

/-- The step of Dusk in progress has completed: no shot, every output OFF, every bias DAC parked, or the journal empty. -/
def duskDone (s : State) : Bool :=
  match s.power.dusk with
  | 1 => !s.shotOn
  | 2 => (List.range s.variant.ochCount).all (fun n => s.outState n == 0)
  | 3 => (List.range 48).all (fun k => s.flag .bdacStatusParked k)
  | 4 => decide (s.jrnResident = 0)
  | _ => false

/-- The step of Dusk in progress completes, and the next begins in the cycle after. -/
def duskNext (s : State) : State :=
  if s.duskDone then s.after (s.cyc + 1) (.duskStep (s.power.dusk + 1)) else s

/-- FLUSH_MAX has passed in the journal step (R353). -/
def flushOver (s : State) : State :=
  if s.power.dusk = 4 ∧ s.power.stepAt + cycMs * s.fld .jrnCfgFlushMax ≤ s.cyc then s.after (s.cyc + 1) (.duskStep 5) else s

/-- DUSK_MAX expires with a shot still running: it is aborted with CAUSE 3. -/
def duskMax (s : State) : State :=
  if s.power.dusk = 1 ∧ s.power.duskAt + cycUs * s.fld .thermDuskMaxUs ≤ s.cyc then
    if s.shot.running then s.abortShot 3
    else if s.shot.accepted.isSome && s.shot.abortAtTick == 0 then { s with shot := { s.shot with abortAtTick := 3 } }
    else s
  else s

/-- A sensor at or above STOP less its hysteresis (R406, R494). -/
def stopHolds (s : State) : Bool :=
  (List.range 24).any fun i => s.flag .thermSensorValid i
    && decide (16 * ((s.fld .thermCfgStop : Int) - 3) ≤ sgn 16 (s.fld .thermSensorTemp i))

end State

/-! ## Rows -/

/-- DUSK (R493). -/
def duskSpec : CmdSpec where
  opcode := 0x106
  kinds := [0]
  states := 0b11100
  app := justDo fun s _ => s.duskBegin 3

def execDusk (c : HostCmd) (s : State) : Host.Outcome State Fault Refusal := command duskSpec c s

/-- SAFE_EXIT (R406, R494). -/
def safeExitSpec : CmdSpec where
  opcode := 0x107
  kinds := [0]
  states := 0b1000000
  locked := fun s _ =>
    rejIf ((s.fld .thermStatusStopCause == 1 && s.stopHolds) || s.fld .thermStatusStopCause == 2) rejLocked
  app := justDo fun s _ => s.toIdle

def execSafeExit (c : HostCmd) (s : State) : Host.Outcome State Fault Refusal := command safeExitSpec c s

/-- SYS_RESET (R404, R484). -/
def sysResetSpec : CmdSpec where
  opcode := 0x108
  kinds := [0]
  states := 0b11000100
  silent := true
  app := justDo fun s _ => s.dawn 2 3

def execSysReset (c : HostCmd) (s : State) : Host.Outcome State Fault Refusal := command sysResetSpec c s

/-- DUSK_STEP_END (R493). -/
def execDuskStepEnd (s : State) : Host.Outcome State Fault Refusal := run State.duskNext s

/-- DUSK_MAX_EXPIRE (R493). -/
def execDuskMaxExpire (s : State) : Host.Outcome State Fault Refusal := run State.duskMax s

/-- JRN_FLUSH_TIMEOUT (R353). -/
def execJrnFlushTimeout (s : State) : Host.Outcome State Fault Refusal := run State.flushOver s

/-- VAUX_POWER_UP (R480). -/
def execVauxPowerUp (s : State) : Host.Outcome State Fault Refusal := run State.vauxUp s

/-- VAUX_LOSS (R488). -/
def execVauxLoss (s : State) : Host.Outcome State Fault Refusal := run State.vauxLoss s

/-- PGOOD_RISE (R480, R481). -/
def execPgoodRise (group : Fin 4) (s : State) : Host.Outcome State Fault Refusal := run (fun s => s.pgoodRise group) s

/-- RAIL_SEQUENCE_TIMEOUT (R480). -/
def execRailSequenceTimeout (s : State) : Host.Outcome State Fault Refusal := run State.railTimeout s

/-- PGOOD_GLITCH (R495). -/
def execPgoodGlitch (group : Fin 4) (s : State) : Host.Outcome State Fault Refusal :=
  run (fun s => when (bit s.power.pgood group && s.dev != 0) (fun s => s.bump .thermPgoodGlitch) s) s

/-- PGOOD_LOSS (R482). -/
def execPgoodLoss (group : Fin 4) (s : State) : Host.Outcome State Fault Refusal := run (fun s => s.pgoodLoss group) s

/-- TRIP (R487): the sensor and its reading. -/
def execTrip (sensor : Fin 24) (temp : BitVec 16) (s : State) : Host.Outcome State Fault Refusal :=
  run (fun s => s.trip sensor temp.toNat) s

/-- COOL_DOWN_END (R487). -/
def execCoolDownEnd (s : State) : Host.Outcome State Fault Refusal := run State.coolEnd s

/-- CORE_RAILS_REMOVED (R397). -/
def execCoreRailsRemoved (s : State) : Host.Outcome State Fault Refusal := run State.coreOff s

/-- PERST_ASSERT (R484). -/
def execPerstAssert (s : State) : Host.Outcome State Fault Refusal := run State.perstAssert s

/-- PERST_RELEASE (R481, R484). -/
def execPerstRelease (s : State) : Host.Outcome State Fault Refusal := run State.perstRelease s

/-- DAWN_STAGE_END (R483): how the stage in progress ends. -/
def execDawnStageEnd (what : DawnEnd) (s : State) : Host.Outcome State Fault Refusal :=
  run (fun s => if s.dev == 1 && !s.power.perst then s.stageEnd what else s) s

/-- WATCHDOG_RESTART (R403, R513): armed from the end of Dawn. -/
def execWatchdogRestart (s : State) : Host.Outcome State Fault Refusal :=
  run (fun s => when s.served State.ceRestart s) s

/-- UCODE_FAULT_RESTART (R511). -/
def execUcodeFaultRestart (s : State) : Host.Outcome State Fault Refusal :=
  run (fun s => when s.served (fun s => s.microNext.micro s.ce.micro) s) s

end Sys2Proof.Machine
end

