-- ==== Sys2Proof/Machine/Thermal.lean ====
section
/-!
DEFINITION. Thermal management (spec/18, R485, R486, R489 to R492, R498): the sensors and their exclusion, levels, and the
throttle level. Temperatures are signed, in sixteenths of a degree.
-/

namespace Sys2Proof.Machine

namespace State

/-- Sensor i is there: those of a DRAM stack with their stack (R498). -/
def hasSensor (s : State) (i : Nat) : Bool := if i < 20 then true else s.hasStack ((i - 20) / 2)

def sensor (s : State) (i : Nat) : Sensor := SMap.get Sensor.init s.therm.sensors i

def setSensor (s : State) (i : Nat) (x : Sensor) : State :=
  { s with therm := { s.therm with sensors := SMap.put Sensor.init s.therm.sensors i x } }

/-- A sensor's reading. -/
def tempOf (s : State) (i : Nat) : Int := sgn 16 (s.fld .thermSensorTemp i)

/-- The sensors that are read: present, in order. -/
def sensorList (s : State) : List Nat := (List.range 24).filter s.hasSensor

/-- A new reading of sensor i, with its neighbour's: how long its code has stood still, and how far the neighbour's has
moved meanwhile (R491). -/
def sensorSeen (s : State) (i : Nat) (t n : BitVec 16) : State :=
  let x := s.sensor i
  let nb := sgn 16 n.toNat
  let y := if x.raw = some t then { x with same := x.same + 1, lo := min x.lo nb, hi := max x.hi nb }
    else { x with raw := some t, same := 0, lo := nb, hi := nb }
  (s.setSensor i y).setF .thermSensorTemp i t.toNat

/-- The sensor must be excluded (R491). -/
def sensorBad (s : State) (i : Nat) : Bool :=
  let x := s.sensor i
  let t := s.tempOf i
  decide (t < -640) || decide (2400 < t) || (decide (10000 ≤ x.same) && decide (16 ≤ x.hi - x.lo))

/-- The throttle level, and how it deepens. -/
def deepen (s : State) : State := s.setF .thermStatusThrLevel 0 (min 3 (s.fld .thermStatusThrLevel + 1))

/-- A sensor is excluded until the next Dawn (R491). The second of a region begins Dusk; in DUSK and SAFE, which it finds
begun, it is the cause from then on (R494). -/
def sensorDrop (s : State) (i : Nat) : State :=
  let wasMax := s.fld .thermMaxIdxSensor == i
  let s := (s.wr .thermSensorFail 0 (setBit (s.rd .thermSensorFail) i true)).bump .thermFailCnt
  let l := s.fld .thermStatusThrLevel
  let s := when (wasMax && decide (0 < l) && decide (l < 3)) (fun s => s.deepen.irq 4) s
  if (s.regionOut (sensorRegion i)).length < 2 then s
  else if s.dev = 5 || s.dev = 6 then s.setF .thermStatusStopCause 0 2
  else s.duskBegin 2

/-- The mean of a list of differences, in sixteenths of a degree. -/
def meanOf (l : List Int) : Int :=
  let n := l.length
  let sum : Int := l.foldl (fun a d => a + d) 0
  let q : Int := sum / (n : Int)
  if n = 0 then 0 else if q * n = sum then q else if Config.meanUp sum n then q + 1 else q

/-- The running mean of a sensor's reading less its neighbour's, over 60 s (R492). -/
def sensorOffset (s : State) (i : Nat) : State :=
  let j := neighbour i
  if s.sensorOut i || s.sensorOut j then s
  else
    let x := s.sensor i
    let d := ((s.tempOf i - s.tempOf j) :: x.diffs).take 600000
    (s.setSensor i { x with diffs := d }).setF .thermOffsetOfs i (unsgn 16 (meanOf d))

/-- The valid sensors. -/
def validSensors (s : State) : List Nat := s.sensorList.filter fun i => !s.sensorOut i

/-- THERM.MAX and its sensor, the lowest where several read the maximum. -/
def thermMaxSet (s : State) : State :=
  match s.validSensors with
  | [] => s
  | a :: l =>
    let k := l.foldl (fun b i => if s.tempOf b < s.tempOf i then i else b) a
    (s.setF .thermMaxTemp 0 (unsgn 16 (s.tempOf k))).setF .thermMaxIdxSensor 0 k

/-- THERM.MAX is at or above a threshold. -/
def thermAt (s : State) (f : Fld) : Bool := decide (16 * (s.fld f : Int) ≤ sgn 16 (s.fld .thermMaxTemp))

/-- A level of R486: set at its threshold, cleared 3 °C below it. -/
def hysteresis (s : State) (f : Fld) (was : Bool) : Bool :=
  s.thermAt f || (was && decide (16 * ((s.fld f : Int) - 3) ≤ sgn 16 (s.fld .thermMaxTemp)))

/-- THERM.STATUS.LEVEL follows the levels; a change latches vector 4. -/
def levelSet (s : State) : State :=
  let t := s.therm
  let l := if t.stop then 3 else if t.throttle then 2 else if t.warn then 1 else 0
  if s.fld .thermStatusLevel = l then s else (s.setF .thermStatusLevel 0 l).irq 4

/-- STOP is reached: Dawn fails, or Dusk begins (R486, R495). -/
def stopReached (s : State) : State := if s.dev = 1 then s.dawnFail 6 else s.duskBegin 1

/-- A stack above 85 °C (R154). -/
def hotSet (s : State) : State :=
  s.setB .glbStrmAdmitHot 0 (s.validSensors.any fun i => decide (20 ≤ i) && decide (16 * 85 < s.tempOf i))

/-- The readings of all sensors (R485). -/
def thermRead (s : State) (temps : List (BitVec 16)) : State :=
  if decide (s.stage < 7) || s.dev == 0 || decide (s.cyc < s.therm.next) then s
  else
    let s : State := { s with therm := { s.therm with next := s.cyc + 62500 } }
    let l := s.sensorList
    let s := forEach l (fun i s => s.sensorSeen i (temps.getD i 0) (temps.getD (neighbour i) 0)) s
    let s := forEach (l.filter fun i => !s.sensorOut i && s.sensorBad i) (fun i s => s.sensorDrop i) s
    let s := forEach l (fun i s => (s.sensorOffset i).setB .thermSensorValid i (!s.sensorOut i)) s
    let s := s.thermMaxSet
    let warn := s.hysteresis .thermCfgWarn s.therm.warn
    let stop := s.hysteresis .thermCfgStop s.therm.stop
    let s : State := { s with therm := { s.therm with warn := warn, stop := stop } }
    let s := when (s.thermAt .thermCfgStop) State.stopReached s.levelSet
    s.hotSet.calDrift

/-- The release condition of R492: every valid sensor reads below THROTTLE − 3 °C less the largest offset of an excluded
one. -/
def releaseHolds (s : State) : Bool :=
  let outs := s.sensorList.filter s.sensorOut
  let m := outs.foldl (fun a i => max a (sgn 16 (s.fld .thermOffsetOfs i))) 0
  let bound : Int := 16 * ((s.fld .thermCfgThrottle : Int) - 3) - m
  s.validSensors.all fun i => decide (s.tempOf i < bound)

/-- One evaluation of the throttle (R489). -/
def throttle (s : State) : State :=
  if decide (s.stage < 9) || s.dev == 0 || decide (s.cyc < s.therm.evalAt) then s
  else
    let s : State := { s with therm := { s.therm with evalAt := s.therm.evalAt + 10 * cycMs } }
    let set := fun (b : Bool) (s : State) => ({ s with therm := { s.therm with throttle := b } } : State).levelSet
    if s.thermAt .thermCfgThrottle then set true s.deepen
    else if s.releaseHolds then set false (s.setF .thermStatusThrLevel 0 (s.fld .thermStatusThrLevel - 1))
    else s

end State

/-! ## Rows -/

/-- THERM_READING (R485): the codes of the 24 sensors. -/
def execThermReading (temps : List (BitVec 16)) (s : State) : Host.Outcome State Fault Refusal :=
  run (fun s => s.thermRead temps) s

/-- THROTTLE_EVALUATE (R489). -/
def execThrottleEvaluate (s : State) : Host.Outcome State Fault Refusal := run State.throttle s

/-- THERM_CONFIG (R486). -/
def thermConfigSpec : CmdSpec where
  opcode := 0x10C
  kinds := [0]
  states := 0b11100
  layout := whole 16 3
  range := fun _ c =>
    let w := pByte c 16
    let t := pByte c 17
    let p := pByte c 18
    firstRej [
      firstRejOf [16, 17, 18] (fun k => rejIf (decide (pByte c k < 50)) (rejRange k)),
      rejIf (decide (t < w)) (rejRange 16), rejIf (decide (p < t)) (rejRange 17), rejIf (decide (115 ≤ p)) (rejRange 18)]
  locked := fun s c =>
    rejIf (decide (s.fld .thermCfgWarn < pByte c 16) || decide (s.fld .thermCfgThrottle < pByte c 17)
      || decide (s.fld .thermCfgStop < pByte c 18)) rejLocked
  app := justDo fun s c =>
    ((s.setF .thermCfgWarn 0 (pByte c 16)).setF .thermCfgThrottle 0 (pByte c 17)).setF .thermCfgStop 0 (pByte c 18)

def execThermConfig (c : HostCmd) (s : State) : Host.Outcome State Fault Refusal := command thermConfigSpec c s

end Sys2Proof.Machine
end

