-- ==== Sys2Proof/Machine/TimeRows.lean ====
section
/-!
DEFINITION. Clocks, sample time and network time (spec/02): Midnight placed by a step or by SYNCIN, slews, time messages
over the link, TRIGIN stamps, and the loss of reference or lock; with the JTAG instruction that holds the timing I/O
(spec/21, R556).
-/

namespace Sys2Proof.Machine

namespace State

/-! ## Midnight (R53 to R57, R67) -/

/-- A receive or output channel holds a frame operation with AT_ST. -/
def framesWait (f : Frames) : Bool := f.queue.any (·.atSt.isSome)

/-- The owner of an ST-scheduled action that is pending (R55), as KIND and INDEX, but for a SYNCIN arm. -/
def stPending (s : State) : Option (Nat × Nat) :=
  let find := fun (kind n : Nat) (p : Nat → Bool) => ((List.range n).find? p).map (kind, ·)
  let l := [
    if s.shot.sched.isSome then some (0, 0) else none,
    find 1 96 (fun n => framesWait (s.chan n).fr),
    find 2 24 (fun n => framesWait (s.rchan n).fr),
    if (List.range 8).any (fun k => s.flag .timerCtrlEn k && (s.timerNext k).isSome) then some (0, 0) else none,
    find 5 32 (fun q => s.coreState q == 2 && bit (s.core q).imask.toNat 7),
    find 6 24 s.acqOn]
  l.findSome? id

/-- The stamps waiting in the FIFOs are of the scale before (R56, R69). -/
def stampsOld (s : State) : State :=
  { s with time := { s.time with
    trig := s.time.trig.map fun p => (p.1, { p.2 with fifo := p.2.fifo.map fun x => { x with pre := true } }) } }

/-- The present cycle begins at ST v: Midnight is placed. -/
def midnight (s : State) (v : Nat) : State :=
  let s : State := { s with st := BitVec.ofNat 64 v }
  ((s.setB .timeStatusMidnightSet 0 true).wr .timeStepSt 0 (v % 2 ^ 64)).stampsOld

/-- Midnight may be placed in the present cycle: no shot, and nothing that waits for an ST (R33, R55, R56). DESIGN CHOICE (log
entry 15): in IDLE and ARMED only. -/
def midnightOk (s : State) : Bool := !s.shotOn && (s.dev == 2 || s.dev == 3) && s.stPending.isNone

/-- The accepted step takes effect (R54): a slew is cancelled. A step that meets a shot or an ST-scheduled action waits for
a gap (R33, R55; DESIGN CHOICE, log entry 15: beyond 64 cycles where it must), and one that meets an armed SYNCIN for its
disarming. -/
def stepApply (s : State) : State :=
  match s.time.step with
  | some (x, _) =>
    if !s.midnightOk || s.flag .timeStatusSyncinArmed then s else
    let v := match x with
      | .abs v => v
      | .rel d => unsgn 64 ((s.st.toNat : Int) + d)
    let s : State := { s with time := { s.time with step := none, slewAmt := 0 } }
    s.midnight v
  | none => s

/-- FROM_SYNC: the measured offset to the nearest multiple of 32 ticks, ties toward zero, the other way. -/
def syncStep (s : State) : Int :=
  let o := sgn 64 (s.rd .timeOffset)
  let n := (2 * o.natAbs + 511) / 1024
  if o < 0 then 32 * (n : Int) else -(32 * (n : Int))

/-- An armed device's dividers and ST are aligned (R67): the row's cycle is that of edge k + 2. While a shot or an
ST-scheduled action is pending the device stays armed, and a step that waits is discarded with the alignment (R55; DESIGN
CHOICE, log entry 15). -/
def syncin (s : State) : State :=
  if s.flag .timeStatusSyncinArmed && s.midnightOk then
    let t := (s.setB .timeStatusSyncinArmed 0 false).midnight (s.rd .timeSyncinValue)
    { t with time := { t.time with step := none } }
  else s

/-! ## Slews (R58, R59) -/

/-- Whole slew steps made by now: 8192 · rate / 10⁹ of 1/256 tick in each cycle. -/
def slewMade (s : State) : Nat := (s.cyc - s.time.slewFrom) * 8192 * s.time.slewRate / 1000000000

/-- `TIME.SLEW_REMAIN`. -/
def slewRemain (s : State) : Int :=
  let n := s.time.slewAmt.natAbs - s.slewMade
  if s.time.slewAmt < 0 then -(n : Int) else n

/-- A slew begins, in place of the one in progress. -/
def slew (s : State) (amount : Int) (rate : Nat) : State :=
  { s with time := { s.time with slewAmt := amount, slewRate := rate, slewFrom := s.cyc } }

def slewDone (s : State) : State :=
  if s.slewRemain = 0 then { s with time := { s.time with slewAmt := 0 } } else s

/-! ## Network time (R60 to R66) -/

def syncRole (s : State) : Nat := s.fld .timeSyncCfgRole
def upPort (s : State) : Nat := s.fld .timeSyncCfgUpPort

/-- The master's interval in cycles. -/
def syncEvery (s : State) : Nat := 2 ^ s.fld .timeSyncCfgSyncInterval

/-- A time message is queued on every ACTIVE port of FWD_MASK. -/
def syncForward (s : State) (m : SyncOut) : State :=
  forEach ((List.range 4).filter fun p => bit (s.fld .timeSyncCfgFwdMask) p && s.portUp p)
    (fun p s => s.updPort p fun x => { x with syncQ := x.syncQ ++ [m] }) s

/-- The master sends a SYNC (R60). DESIGN CHOICE (log entry 15): SEQ counts from 0 after reset, and the first SYNC leaves one
interval after TIME_SYNC_CFG. -/
def syncSend (s : State) : State :=
  if s.syncRole = 1 ∧ s.time.syncNext ≤ s.cyc then
    let t := s.time
    let s := s.syncForward ⟨0, t.seqOut, s.deviceId, 0, none, none⟩
    { s with time := { s.time with seqOut := (t.seqOut + 1) % 65536, syncNext := t.syncNext + s.syncEvery } }
  else s

/-- A time message as received: KIND, SEQ, HOPS, ORIGIN_ST, CORRECTION. -/
structure TimeMsg where
  kind : Nat
  seq : Nat
  hops : Nat
  origin : Nat
  corr : Nat

/-- The oldest time message of a port's deliveries, with its three blocks. -/
def timeMsg (x : Port) : Option (TimeMsg × List Dword) :=
  match x.inbox.filter (fun b => blkType b == 2) with
  | a :: b :: c :: _ =>
    some (⟨blkField a 48 4, blkField a 32 16, blkField a 20 6, (blkField a 13 7) <<< 5 + (blkField b 0 52) <<< 12,
      blkField c 4 48⟩, [a, b, c])
  | _ => none

/-- A port's oldest time message, if of the kind, is taken and acted on. -/
def takeTime (s : State) (p kind : Nat) (f : TimeMsg → State → State) : State :=
  let x := s.port p
  match timeMsg x with
  | some (m, bs) =>
    if m.kind = kind then f m (s.setPort p { x with inbox := bs.foldl (fun l b => l.erase b) x.inbox }) else s
  | none => s

def syncDiscard (s : State) : State := s.bump .timeSyncDiscard

/-- Path of the upstream port: its mean delay and the host's asymmetry. -/
def upPath (s : State) : Int := (s.fld .timePdelayDelay s.upPort : Int) + sgn 16 (s.fld .timePathAsymAsym s.upPort)

/-- A SYNC goes on (R62): CORRECTION grows by the residence time and by the path given; not when HOPS would reach 63.
DESIGN CHOICE (log entry 15): that is a discard also where no port forwards. -/
def syncOn (s : State) (m : TimeMsg) (stamp : Nat) (path : Int) : State :=
  if 63 ≤ m.hops + 1 then s.syncDiscard
  else s.syncForward ⟨0, m.seq, s.deviceId, m.hops + 1, some m.origin, some ((m.corr : Int) - stamp + path)⟩

/-- The offset of an accepted SYNC, and what the servo makes of it (R63). -/
def syncOffset (s : State) (o : Int) : State :=
  let s := (s.wr .timeOffset 0 (unsgn 64 o)).setB .timeStatusOffsetLarge 0 (decide (512 ≤ o.natAbs))
  let n := if o.natAbs ≤ 2 then s.time.inBound + 1 else 0
  let s : State := { s with time := { s.time with offsetValid := true, inBound := n } }
  let s := if n = 0 then s.setB .timeStatusSyncLocked 0 false
    else when (decide (16 ≤ n)) (fun s => s.setB .timeStatusSyncLocked 0 true) s
  when (s.flag .timeSyncCfgServoEn && s.flag .timeStatusMidnightSet && decide (o.natAbs < 512))
    (fun s => s.slew (-o * 16) (s.fld .timeSlewRateRate)) s

/-- a is newer than the last accepted number (R66). -/
def seqNewer (s : State) (a : Nat) : Bool :=
  match s.time.lastSeq with
  | some q => decide (0 < (a + 65536 - q) % 65536) && decide ((a + 65536 - q) % 65536 < 32768)
  | none => true

/-- A SYNC message with the ingress stamp of its block A in 1/16 tick, and whether the link replayed any of its blocks. -/
def syncRx (s : State) (p stamp : Nat) (replayed : Bool) : State :=
  s.takeTime p 0 fun m s =>
    if s.syncRole != 2 || s.upPort != p || replayed || !s.seqNewer m.seq || bit s.time.anew p then s.syncDiscard
    else if !s.flag .timePdelayValid p then s.syncDiscard.syncOn m stamp 0
    else
      let s : State := { s with time := { s.time with lastSeq := some m.seq, lastSync := s.cyc } }
      let s := s.bump .timeSyncRx
      let s := s.syncOffset ((stamp : Int) - (16 * (m.origin : Int) + m.corr + s.upPath))
      s.syncOn m stamp s.upPath

/-- Four intervals without an accepted SYNC (R66). DESIGN CHOICE (log entry 15): the count starts anew, so SYNC_TIMEOUT sets
again after four more. -/
def syncLost (s : State) : State :=
  if s.syncRole = 2 ∧ s.time.lastSync + 4 * s.syncEvery ≤ s.cyc then
    let s : State := { s with time := { s.time with
      lastSync := s.cyc, inBound := 0, slewAmt := if s.flag .timeSyncCfgServoEn then 0 else s.time.slewAmt } }
    (s.setB .timeStatusSyncTimeout 0 true).setB .timeStatusSyncLocked 0 false
  else s

/-- DELAY_REQ of an ACTIVE port is due (R64). DESIGN CHOICE (log entry 15): at the first check after link-up too. -/
def delayTimer (s : State) (p : Nat) : State :=
  if s.portUp p && decide (SMap.get 0 s.time.reqNext p ≤ s.cyc) then
    let n := s.cyc + 2 ^ s.fld .timeSyncCfgPdelayInterval
    let s : State := { s with time := { s.time with reqNext := SMap.put 0 s.time.reqNext p n } }
    s.delayReq p
  else s

/-- The peer's DELAY_REQ, stamped t2, is answered with CORRECTION t3 − t2. DESIGN CHOICE (log entry 15): a replayed DELAY_REQ
or DELAY_RESP counts in SYNC_DISCARD as a replayed SYNC does. -/
def delayAnswer (s : State) (p stamp : Nat) (replayed : Bool) : State :=
  s.takeTime p 1 fun m s =>
    if replayed then s.syncDiscard
    else s.updPort p fun x => { x with syncQ := x.syncQ ++ [⟨2, m.seq, s.deviceId, 0, none, some (-(stamp : Int))⟩] }

/-- DELAY_RESP, stamped t4: the path delay is (t4 − t1 − CORRECTION) / 2. The answer to a request sent before a change of
the lowest lane does not complete the measurement that the change asked for (R66). -/
def delayStore (s : State) (p stamp : Nat) (replayed : Bool) : State :=
  s.takeTime p 2 fun m s =>
    if replayed then s.syncDiscard
    else match (SMap.get [] s.time.req p).find? (·.seq == m.seq) with
      | some q =>
          let d : Int := (stamp : Int) - q.t1 - m.corr
          let h : Int := if d % 2 = 0 then d / 2 else if Config.halfUp d then d / 2 + 1 else d / 2
          let s : State := { s with time := { s.time with
            req := SMap.put [] s.time.req p ((SMap.get [] s.time.req p).erase q)
            anew := if q.old then s.time.anew else setBit s.time.anew p false } }
          s.wr .timePdelay p (unsgn 31 h + 2 ^ 31)
      | none => s

/-- The oldest request's DELAY_RESP has not come within 65,536 cycles. -/
def delayLost (s : State) (p : Nat) : State :=
  match SMap.get [] s.time.req p with
  | q :: rest =>
    if q.sent + 65536 ≤ s.cyc then
      let s : State := { s with time := { s.time with req := SMap.put [] s.time.req p rest } }
      s.bump .timePdelayLost
    else s
  | [] => s

/-! ## TRIGIN (R68 to R70) -/

def trigOf (s : State) (n : Nat) : Trig := SMap.get Trig.init s.time.trig n

def setTrig (s : State) (n : Nat) (x : Trig) : State :=
  { s with time := { s.time with trig := SMap.put Trig.init s.time.trig n x } }

/-- CFG.EDGE selects the edge. -/
def edgeWanted (s : State) (n : Nat) (rising : Bool) : Bool := bit (s.fld .trigCfgEdge n) (if rising then 0 else 1)

/-- A selected edge at `pos` sixteenths of a tick into the present cycle is stamped, unless it follows the last stamped one
by less than 800 ps or the FIFO is full. DESIGN CHOICE (log entry 15): where both hold, EDGE_DROP alone counts. -/
def trigStamp (s : State) (n pos : Nat) : State :=
  let x := s.trigOf n
  let t := 512 * s.cyc + pos
  let near := match x.last with | some l => decide (t < l + 256) | none => false
  if near then s.bump .trigEdgeDrop n
  else
    let stamp := 16 * s.st.toNat + pos
    let s := if 16 ≤ x.fifo.length then s.bump .trigTsOvf n
      else s.setTrig n { x with fifo := x.fifo ++ [⟨stamp, false⟩], last := some t }
    s.acqTrigin n stamp

/-- The input's event fires four cycles later, once for the edges of one cycle. DESIGN CHOICE (log entry 15): a TRIG_CONFIG
that clears EN in between does not take the firing back. -/
def trigFire (s : State) (n : Nat) : State :=
  let e := (s.cyc + 4, Later.fireLate (prodTrigin n))
  if s.flag .trigCfgEvtEn n && !s.later.contains e then s.after e.1 e.2 else s

/-- An edge crosses the threshold at a TRIGIN ball. -/
def trigEdge (s : State) (n : Nat) (rising : Bool) (pos : Nat) : State :=
  if s.jtag.hold then s
  else
    let s := s.setTrig n { s.trigOf n with edgeAt := s.cyc + 1 }
    if s.inSlice 4 n then s.bump .calTrigLost
    else if s.flag .trigCfgEn n && s.edgeWanted n rising then (s.trigStamp n pos).trigFire n
    else s

/-- A read of TS_X: the oldest stamp's flags, and the stamp goes (R69, R74). -/
def trigRead (s : State) (n : Nat) : State :=
  let x := s.trigOf n
  match x.fifo with
  | [] => s.returns 0
  | a :: rest =>
    (s.setTrig n { x with fifo := rest }).returns (slice a.val 64 4 + 16 * ofBool a.pre + 32 + 256 * rest.length)

/-! ## Reference and lock (R49, R50) -/

/-- The reference is lost: holdover, and SYNCIN is disarmed (R67). A reference that is not there cannot be lost. DESIGN CHOICE
(log entry 15): PLL_LOCK stays as it is. -/
def refLost (s : State) : State :=
  if s.flag .timeStatusRefPresent then
    ((((s.setB .timeStatusRefPresent 0 false).setB .timeStatusRefLost 0 true).setB .timeStatusSyncinArmed 0 false).setB
      .timeStatusHoldover 0 true)
  else s

/-- A reference is within limits again, once it has been measured (R49, R71); holdover ends with the PLL locked to it. -/
def refBack (s : State) : State :=
  when (s.fld .timeStatusRefFreq == 1 || s.fld .timeStatusRefFreq == 2) (fun s =>
    when (s.flag .timeStatusPllLock) (fun s => s.setB .timeStatusHoldover 0 false) (s.setB .timeStatusRefPresent 0 true)) s

/-- The root PLL loses lock with a reference present. -/
def lockLost (s : State) : State :=
  if s.flag .timeStatusPllLock && s.flag .timeStatusRefPresent then
    ((s.setB .timeStatusPllLock 0 false).setB .timeStatusLockLost 0 true).protect
  else s

end State

/-! ## Commands -/

/-- TIME_STEP (R53, R54). DESIGN CHOICE (log entry 15): `BUSY` also while an accepted step has yet to take effect. -/
def timeStepSpec : CmdSpec where
  opcode := 0x600
  kinds := [0]
  states := 0b1100
  layout := (16, 3) :: whole 24 8
  range := fun _ c => firstRej [
    rejIf (pBits c 16 0 2 == 3) (rejRange 16),
    rejIf (pBits c 16 0 2 != 2 && pNum c 24 8 % 32 != 0) (rejRange 24)]
  locked := fun s _ => rejIf (s.flag .timeStatusMidnightSet) rejLocked
  conflict := fun s _ => firstRej [
    s.stPending.bind fun u => rejConflict u.1 u.2 0,
    rejIf (s.flag .timeStatusSyncinArmed) (rejConflict 0 0 0)]
  busy := fun s c => rejIf (s.time.step.isSome || (pBits c 16 0 2 == 2 && !s.time.offsetValid)) rejBusy
  app := justDo fun s c =>
    let x : Step := match pBits c 16 0 2 with
      | 0 => .abs (pNum c 24 8)
      | 1 => .rel (sgn 64 (pNum c 24 8))
      | _ => .rel s.syncStep
    { s with time := { s.time with step := some (x, s.cyc) } }

def execTimeStep (c : HostCmd) (s : State) : Host.Outcome State Fault Refusal := command timeStepSpec c s

/-- TIME_STEP_APPLY (R54). -/
def execTimeStepApply (s : State) : Host.Outcome State Fault Refusal := run State.stepApply s

/-- TIME_UNLOCK (R57). -/
def timeUnlockSpec : CmdSpec where
  opcode := 0x601
  kinds := [0]
  states := 0b100
  app := justDo fun s _ => s.setB .timeStatusMidnightSet 0 false

def execTimeUnlock (c : HostCmd) (s : State) : Host.Outcome State Fault Refusal := command timeUnlockSpec c s

/-- TIME_SLEW (R58, R59): not in a state without lock, which is FAULT. -/
def timeSlewSpec (lock : Bool) : CmdSpec where
  opcode := 0x602
  kinds := [0]
  states := if lock then 0b11111100 else 0b01111100
  layout := whole 16 6
  range := fun _ c => rejIf (pNum c 20 2 == 0 || decide (1000 < pNum c 20 2)) (rejRange 20)
  conflict := fun s _ => rejIf (s.flag .timeSyncCfgServoEn) (rejConflict 0 0 0)
  app := justDo fun s c => s.slew (sgn 32 (pNum c 16 4)) (pNum c 20 2)

def execTimeSlew (c : HostCmd) (s : State) : Host.Outcome State Fault Refusal :=
  command (timeSlewSpec (s.flag .timeStatusPllLock)) c s

/-- SLEW_COMPLETE (R59). -/
def execSlewComplete (s : State) : Host.Outcome State Fault Refusal := run State.slewDone s

/-- TIME_SYNC_CFG (R60, R72, R75). DESIGN CHOICE (log entry 15): it clears SYNC_LOCKED, the count of SYNCs within bounds and
the last accepted SEQ, and starts the timeout count and the master's interval anew. -/
def timeSyncCfgSpec : CmdSpec where
  opcode := 0x603
  kinds := [0]
  states := 0b1100
  layout := List.flatten [whole 16 3, [(19, 1)], whole 20 2, whole 24 8]
  absent := fun s c =>
    let cfg := pNum c 16 4
    firstRejOf (slice cfg 2 2 :: setBits (slice cfg 4 4) 4) (fun p => rejIf (!s.hasPort p) (rejAbsent 7 p))
  range := fun _ c =>
    let cfg := pNum c 16 4
    let sy := slice cfg 8 5
    let pd := slice cfg 13 5
    firstRej [
      rejIf (slice cfg 0 2 == 3) (rejRange 16),
      rejIf (decide (sy < 12) || decide (24 < sy) || decide (pd < 16) || decide (24 < pd)) (rejRange 17),
      rejIf (pNum c 20 2 == 0 || decide (1000 < pNum c 20 2)) (rejRange 20)]
  app := justDo fun s c =>
    let s := (s.wr .timeSyncCfg 0 (pNum c 16 4)).setF .timeSlewRateRate 0 (pNum c 20 2)
    let s := forEach (List.range 4) (fun p s => s.setF .timePathAsymAsym p (pNum c (24 + 2 * p) 2)) s
    let s : State := { s with time := { s.time with
      offsetValid := false, lastSeq := none, inBound := 0, lastSync := s.cyc, syncNext := s.cyc + s.syncEvery } }
    s.setB .timeStatusSyncLocked 0 false

def execTimeSyncCfg (c : HostCmd) (s : State) : Host.Outcome State Fault Refusal := command timeSyncCfgSpec c s

/-- TIME_SYNCIN_ARM (R67): arm with VALUE, or cancel. DESIGN CHOICE (log entry 15): with the cancel flag the conditions on
MIDNIGHT_SET, pending actions, ports and VALUE are not checked. -/
def timeSyncinArmSpec : CmdSpec where
  opcode := 0x604
  kinds := [0]
  states := 0b100
  layout := (16, 1) :: whole 24 8
  range := fun _ c => rejIf (!bit (pByte c 16) 0 && pNum c 24 8 % 32 != 0) (rejRange 24)
  locked := fun s c => rejIf (!bit (pByte c 16) 0 && s.flag .timeStatusMidnightSet) rejLocked
  conflict := fun s c =>
    if bit (pByte c 16) 0 then none
    else firstRej [
      firstRejOf (List.range 4) (fun p => rejIf (s.portUp p) (rejConflict 7 p 0)),
      s.stPending.bind fun u => rejConflict u.1 u.2 0]
  app := justDo fun s c =>
    if bit (pByte c 16) 0 then s.setB .timeStatusSyncinArmed 0 false
    else (s.wr .timeSyncinValue 0 (pNum c 24 8)).setB .timeStatusSyncinArmed 0 true

def execTimeSyncinArm (c : HostCmd) (s : State) : Host.Outcome State Fault Refusal := command timeSyncinArmSpec c s

/-- SYNCIN_EDGE (R67). -/
def execSyncinEdge (s : State) : Host.Outcome State Fault Refusal := run State.syncin s

/-- TRIG_CONFIG (R70, R74). -/
def trigConfigSpec : CmdSpec where
  opcode := 0x605
  kinds := [0]
  states := 0b1100
  layout := [(16, 15), (17, 15)]
  range := fun _ c => rejIf (pBits c 17 1 2 == 0) (rejRange 17)
  busy := fun s c => rejIf (s.inSlice 4 (pBits c 16 0 4)) rejBusy
  app := justDo fun s c => s.wr .trigCfg (pBits c 16 0 4) (pBits c 17 0 4)

def execTrigConfig (c : HostCmd) (s : State) : Host.Outcome State Fault Refusal := command trigConfigSpec c s

/-! ## Events -/

/-- TRIGIN_EDGE (R68): where in the present cycle the edge lies, in sixteenths of a tick. -/
def execTriginEdge (trigin : Fin 16) (rising : Bool) (pos : Fin 512) (s : State) : Host.Outcome State Fault Refusal :=
  perform (fun s => s.trigEdge trigin rising pos) s

/-- TRIG_TS_X_READ (R69). -/
def execTrigTsXRead (trigin : Fin 16) (s : State) : Host.Outcome State Fault Refusal :=
  run (fun s => when (s.hostPage 1) (fun s => s.trigRead trigin) s) s

/-- SYNC_SEND_TIMER (R60). -/
def execSyncSendTimer (s : State) : Host.Outcome State Fault Refusal := run State.syncSend s

/-- SYNC_MESSAGE_RX (R63, R66). -/
def execSyncMessageRx (port : Fin 4) (stamp : BitVec 68) (replayed : Bool) (s : State) :
    Host.Outcome State Fault Refusal := run (fun s => s.syncRx port stamp.toNat replayed) s

/-- SYNC_TIMEOUT (R66). -/
def execSyncTimeout (s : State) : Host.Outcome State Fault Refusal := run State.syncLost s

/-- DELAY_REQ_TIMER (R64). -/
def execDelayReqTimer (port : Fin 4) (s : State) : Host.Outcome State Fault Refusal := run (fun s => s.delayTimer port) s

/-- DELAY_REQ_RX (R64). -/
def execDelayReqRx (port : Fin 4) (stamp : BitVec 68) (replayed : Bool) (s : State) :
    Host.Outcome State Fault Refusal := run (fun s => s.delayAnswer port stamp.toNat replayed) s

/-- DELAY_RESP_RX (R64). -/
def execDelayRespRx (port : Fin 4) (stamp : BitVec 68) (replayed : Bool) (s : State) :
    Host.Outcome State Fault Refusal := run (fun s => s.delayStore port stamp.toNat replayed) s

/-- PDELAY_TIMEOUT (R64). -/
def execPdelayTimeout (port : Fin 4) (s : State) : Host.Outcome State Fault Refusal := run (fun s => s.delayLost port) s

/-- REFCLK_LOST (R49). -/
def execRefclkLost (s : State) : Host.Outcome State Fault Refusal := run State.refLost s

/-- REFCLK_RETURN (R49). -/
def execRefclkReturn (s : State) : Host.Outcome State Fault Refusal := run State.refBack s

/-- PLL_LOCK_LOST (R50). -/
def execPllLockLost (s : State) : Host.Outcome State Fault Refusal := run State.lockLost s

/-- The instruction takes the timing I/O over. -/
def jtagHolds : JtagInstr → Bool
  | .extest => true
  | .highz => true
  | .clamp => true
  | _ => false

/-- JTAG_INSTRUCTION_UPDATE (R551, R556): what the chain gives MRK0 to MRK47. The TAP responds while the core rails are
on. -/
def execJtagInstructionUpdate (instr : JtagInstr) (chain : BitVec 48) (s : State) : Host.Outcome State Fault Refusal :=
  run (fun s => if s.power.pgood == 15 then { s with jtag := ⟨jtagHolds instr, chain⟩ } else s) s

end Sys2Proof.Machine
end

