-- ==== Sys2Proof/Machine/Access.lean ====
section
/-!
DEFINITION. Host access to BAR0 (spec/20, R518 to R524; spec/13, R361, R362): where a register lies, what a read of it
returns, what a write by its access code does (R20), the read latches and write holds of the 64-bit registers (R520), and
the snapshot latch (R422, R424).
-/

namespace Sys2Proof.Machine

/-! ## Places (R518, R519, R524) -/

/-- What lies at a word of BAR0: a register and its instance, whether the word is that of its snapshot copy, and whether it
is the high word of 64 bits. -/
structure Place where
  reg : Reg
  inst : Nat
  copy : Bool
  high : Bool
  deriving DecidableEq, Repr

/-- Instance i of a register has a word at offset o of page p: its high one or its low one. -/
def Reg.wordAt (r : Reg) (p o : Nat) : Option (Nat × Bool) :=
  let x := r.info
  let inner := max 1 x.inner
  let k := if x.stride = 0 then 0 else (o - x.off) / x.stride
  let i := (p - x.page) * inner + k
  let d := o - x.off - k * x.stride
  if decide (x.page ≤ p) && decide (x.off ≤ o) && decide (k < inner) && decide (i < x.count) then
    if d = 0 then some (i, false) else if d = 4 && x.wide then some (i, true) else none
  else none

/-- Where the offset of a snapshot copy has its register (R524). -/
def copyOffset (p o : Nat) : Nat :=
  if p = 0xE0 then (if o < 0xC0C then o - 0xC00 + 0x900 else o - 0xC0C + 0x918) else o - 0x800

/-- The register word at a 4-byte-aligned offset of BAR0. -/
def place? (offset : Nat) : Option Place :=
  let p := offset / 4096
  let o := offset % 4096
  let look := fun (l : List Reg) (o : Nat) (copy : Bool) =>
    l.findSome? fun r => (r.wordAt p o).map fun w => (⟨r, w.1, copy, w.2⟩ : Place)
  match look Reg.all o false with
  | some x => some x
  | none =>
    if (if p = 0xE0 then 0xC00 else 0x800) ≤ o then look (Reg.all.filter fun r => r.info.snap) (copyOffset p o) true
    else none

/-- The wrapping counters of the units of `Prior`. -/
def Reg.wraps (r : Reg) : Bool :=
  match r with
  | .glbDecProduced | .glbDecConsumed | .glbDecSuperseded | .glbDecStale | .evfChFired | .evfFired | .evfDelivered
  | .evfCoalesced | .evfSuppressed | .dmaBytesReq | .dmaBytesXfer | .dmaBytesFail | .jrnStarted | .jrnCommitted
  | .jrnRewound | .jrnDrained | .jrnLost | .blpBlSent | .blpBlAcked | .blpBlRxCopies | .blpBlDelivered | .blpBlDiscarded
  | .blpCredGrantedDec | .blpCredReturnedDec | .blpCredGrantedBulk | .blpCredReturnedBulk | .ochStrmSched
  | .ochStrmPlayed | .ochStrmZero => true
  | _ => false

namespace State

/-- The unit that a register belongs to is present (R5, R11, R535). -/
def regPresent (s : State) (r : Reg) (i : Nat) : Bool :=
  let p := r.info.page + i / max 1 r.info.inner
  if 0x180 ≤ p && p < 0x198 then s.hasRch (p - 0x180)
  else if 0x100 ≤ p && p < 0x160 then s.hasOch (p - 0x100)
  else if 0x40 ≤ p && p < 0x44 then s.hasDsp i
  else if 0x24 ≤ p && p < 0x34 then s.hasPort ((p - 0x24) / 4)
  else if 0x20 ≤ p && p < 0x24 then s.hasPort (p - 0x20)
  else if p = 0x1A0 && r.info.count = 24 then s.hasAcq i
  else if p = 0xE0 && r.info.count = 96 then s.hasOch i
  else if r = .timePdelay || r = .timePathAsym then s.hasPort i
  else true

/-- Dawn found the part retired (R508). -/
def retired (s : State) : Bool := s.dev == 7 && s.fld .glbDawnStatusStage == 5 && s.fuse.lc == 4

/-- A host access reaches the register (R519, R523, R508). -/
def regOpen (s : State) (r : Reg) (i : Nat) : Bool :=
  s.hostPage (r.info.page + i / max 1 r.info.inner) && s.regPresent r i &&
    (!s.retired || [Reg.glbCap0, .glbCap1, .glbCap2, .glbCap3, .glbDawnStatus, .scbStatus].contains r)

/-! ## What a register reads as (R20) -/

/-- Bits of a mask for which p holds. -/
def maskOf (n : Nat) (p : Nat → Bool) : Nat := (List.range n).foldl (fun m b => m + (ofBool (p b)) <<< b) 0

/-- Fields over what is stored: each (bit, width, value). -/
def over_ (v : Nat) (l : List (Nat × Nat × Nat)) : Nat := l.foldl (fun v f => place v f.1 f.2.1 f.2.2) v

/-- `GLB.DEC_WIN_DATA` and `GLB.DEC_WIN_AUX` (R274): a tone slot of an absent receive channel shows DATA as zeros, and its
stale count in AUX (R13, R17). -/
def decWindow (s : State) (aux : Bool) : Nat :=
  let k := s.fld .glbDecWinAddrSlot
  let x := s.slot k
  if aux then x.stale.toNat + (x.owner % 64) <<< 8 + (ofBool x.assigned) <<< 16
  else if k < 384 && !s.hasRch (k / 16) then 0
  else x.word.toNat + (ofBool x.counted) <<< 4 + s.slotEpoch k <<< 8 + x.tag.toNat <<< 16

/-- GLB (R525). -/
def glbView (s : State) (r : Reg) (i : Nat) : Nat :=
  match r with
  | .glbCap0 => s.variant.cap 0
  | .glbCap1 => s.variant.cap 1
  | .glbCap2 => s.variant.cap 2
  | .glbCap3 => s.variant.cap 3
  | .glbStrmAdmit => place (s.rd r i) 10 10 s.variant.streamBw
  | .glbBankPwr => over_ 0 ((List.range 16).map fun j => (2 * j, 2, if 16 * i + j < 158 then s.groupState (16 * i + j) else 0))
  | .glbRepairUsed => Config.repairUsed.toNat
  | .glbDecProduced => s.dec.produced.toNat
  | .glbDecConsumed => s.dec.consumed.toNat
  | .glbDecSuperseded => s.dec.superseded.toNat
  | .glbDecStale => s.dec.stale.toNat
  | .glbDecProducedBase => s.dec.producedBase.toNat
  | .glbDecConsumedBase => s.dec.consumedBase.toNat
  | .glbDecSupersededBase => s.dec.supersededBase.toNat
  | .glbDecStaleBase => s.dec.staleBase.toNat
  | .glbDecWinData => s.decWindow false
  | .glbDecWinAux => s.decWindow true
  | .glbSgWait => maskOf 32 s.waiting
  | r => s.rd r i

/-- TIME (R526): `ST` (R51), the slew left (R73), the oldest stamp (R69), and the marker pins (R164, R556). -/
def timeView (s : State) (r : Reg) (i : Nat) : Nat :=
  let stamp := match (s.trigOf i).fifo with | a :: _ => a.val | [] => 0
  let pin := fun m => if s.jtag.hold then bit s.jtag.chain.toNat m else s.pinLevel m
  match r with
  | .timeSt => s.st.toNat
  | .timeSlewRemain => unsgn 32 s.slewRemain
  | .timeStatus => place (s.rd r i) 6 1 (ofBool (s.slewRemain != 0))
  | .trigTsLo => slice stamp 0 32
  | .trigTsHi => slice stamp 32 32
  | .timeMrkLevel0 => maskOf 32 pin
  | .timeMrkLevel1 => maskOf 16 (fun m => pin (32 + m))
  | r => s.rd r i

/-- The unit that `CAL.UNIT_SEL` selects: its kind and number. -/
def calSel (s : State) : Nat × Nat := (s.fld .calUnitSelKind, s.fld .calUnitSelIndex)

def calUnitShown (s : State) : CalUnit :=
  if s.calPresent s.calSel.1 s.calSel.2 then s.calUnit s.calSel.1 s.calSel.2 else CalUnit.init

/-- THERM, HK and CAL (R527). -/
def envView (s : State) (r : Reg) (i : Nat) : Nat :=
  let u := s.calUnitShown
  let kinds := fun (p : CalUnit → Bool) => maskOf 6 fun k => (List.range (s.calCount k)).any fun j => p (s.calUnit k j)
  match r with
  | .thermPwrStatus => s.power.pwren % 16 + (s.power.pgood % 16) <<< 4 + (ofBool s.power.pwrfail) <<< 8
  | .hkInjStatus => place (s.rd r i) 0 1 (ofBool s.hk.inj.isSome)
  | .hkStatus => over_ (s.rd r i) [(0, 1, ofBool s.refReady), (1, 1, ofBool s.hkSlice)]
  | .calStatus => over_ (s.rd r i) [(0, 6, kinds (·.overdue)), (6, 1, ofBool (kinds (fun u => u.slice.isSome || u.restore) != 0)), (8, 6, kinds (·.due))]
  | .calUnitStatus =>
    if s.calPresent s.calSel.1 s.calSel.2 then
      ofBool u.due + (ofBool u.overdue) <<< 1 + (ofBool u.slice.isSome) <<< 2 + (ofBool u.lastFail) <<< 3
        + (s.calSensor s.calSel.1 s.calSel.2) <<< 8
    else 0
  | .calCount => u.count % 2 ^ 32
  | .calLastTemp => u.lastTemp.toNat
  | .calLastSt => u.lastSt.toNat
  | .calNvmWear => (s.nvm.wear.map (·.2)).foldl max 0
  | r => s.rd r i

/-- EVF (R528). -/
def evfView (s : State) (r : Reg) (i : Nat) : Nat :=
  let c := s.evf.cnt
  match r with
  | .evfChRoute => SMap.get 0x3FF s.evf.route (s.fld .evfChSelCh)
  | .evfChFired => SMap.get 0 s.evf.chFired (s.fld .evfChSelCh)
  | .evfProdMap => (SMap.get 0 s.evf.prodMap (s.fld .evfProdSelProd)).toNat
  | .evfFired => c.fired.toNat
  | .evfDelivered => c.delivered.toNat
  | .evfCoalesced => c.coalesced.toNat
  | .evfSuppressed => c.suppressed.toNat
  | .evfFiredBase => c.firedBase.toNat
  | .evfDeliveredBase => c.deliveredBase.toNat
  | .evfCoalescedBase => c.coalescedBase.toNat
  | .evfSuppressedBase => c.suppressedBase.toNat
  | r => s.rd r i

/-- DMA and JRN (R529). -/
def busView (s : State) (r : Reg) (i : Nat) : Nat :=
  let d := s.dmaOf i
  let c := s.jrn.cnt
  match r with
  | .dmaBytesReq => d.req.toNat
  | .dmaBytesXfer => d.xfer.toNat
  | .dmaBytesFail => d.fail.toNat
  | .dmaBytesReqBase => d.reqBase.toNat
  | .dmaBytesXferBase => d.xferBase.toNat
  | .dmaBytesFailBase => d.failBase.toNat
  | .jrnStatus => over_ (s.rd r i)
      [(0, 1, ofBool s.jrn.opened.isSome), (1, 7, s.jrn.head.length), (8, 7, s.jrn.tail.length)]
  | .jrnStarted => c.started.toNat
  | .jrnCommitted => c.committed.toNat
  | .jrnRewound => c.rewound.toNat
  | .jrnDrained => c.drained.toNat
  | .jrnResident => s.jrnResident
  | .jrnLost => c.lost.toNat
  | .jrnStartedBase => c.startedBase.toNat
  | .jrnCommittedBase => c.committedBase.toNat
  | .jrnRewoundBase => c.rewoundBase.toNat
  | .jrnDrainedBase => c.drainedBase.toNat
  | .jrnResidentBase => c.residentBase.toNat
  | .jrnLostBase => c.lostBase.toNat
  | r => s.rd r i

/-- BLP (R530). -/
def blpView (s : State) (r : Reg) (i : Nat) : Nat :=
  let x := s.port i
  let c := x.cnt
  match r with
  | .blpBlSent => c.sent.toNat
  | .blpBlAcked => c.acked.toNat
  | .blpBlUnacked => x.unacked.length
  | .blpBlRxCopies => c.rxCopies.toNat
  | .blpBlDelivered => c.delivered.toNat
  | .blpBlDiscarded => c.discarded.toNat
  | .blpBlSentBase => c.sentBase.toNat
  | .blpBlAckedBase => c.ackedBase.toNat
  | .blpBlUnackedBase => c.unackedBase.toNat
  | .blpBlRxCopiesBase => c.rxCopiesBase.toNat
  | .blpBlDeliveredBase => c.deliveredBase.toNat
  | .blpBlDiscardedBase => c.discardedBase.toNat
  | .blpCredGrantedDec => c.grantedDec.toNat
  | .blpCredReturnedDec => c.returnedDec.toNat
  | .blpCredOutstandingDec => c.outDec.toNat
  | .blpCredGrantedBulk => c.grantedBulk.toNat
  | .blpCredReturnedBulk => c.returnedBulk.toNat
  | .blpCredOutstandingBulk => c.outBulk.toNat
  | .blpCredGrantedDecBase => c.grantedDecBase.toNat
  | .blpCredReturnedDecBase => c.returnedDecBase.toNat
  | .blpCredOutstandingDecBase => c.outDecBase.toNat
  | .blpCredGrantedBulkBase => c.grantedBulkBase.toNat
  | .blpCredReturnedBulkBase => c.returnedBulkBase.toNat
  | .blpCredOutstandingBulkBase => c.outBulkBase.toNat
  | r => s.rd r i

/-- OCH (R532): the sequencer's state (R134), the stream's (R166) and the lanes' (R276). DESIGN CHOICE (log entry 12): the
cursor's blocks are those of DRAM. -/
def ochView (s : State) (r : Reg) (i : Nat) : Nat :=
  let o := s.chan i
  let v := fun k => s.voice i k
  let t := o.strm
  let x := s.openDesc i
  let spot := fun k => if s.strmOpen i then (descBase x + tapeBlock x k) % 2 ^ 28 else 0
  match r with
  | .ochSeqStatus =>
    maskOf 8 (fun k => s.shotOn && (v k).chain.isSome && !(v k).done) + maskOf 8 (fun k => (v k).done) <<< 8
      + maskOf 8 (fun k => keepAsync (v k)) <<< 16
      + (ofBool (s.shot.running && s.ochPart i)) <<< 24
  | .ochStrmStatus => over_ (s.rd r i) [(11, 1, ofBool (s.primed i)), (16, 10, if s.strmOpen i then s.bufLevel i else 0)]
  | .ochStrmCursor => spot (t.cursor / fmtPerBlock (descFormat x)) + spot t.to_ <<< 32
  | .ochStrmRemain => t.remain.toNat % 2 ^ 32
  | .ochStrmSched => t.sched.toNat
  | .ochStrmPlayed => t.played.toNat
  | .ochStrmZero => t.zero.toNat
  | .ochStrmSchedBase => t.schedBase.toNat
  | .ochStrmPlayedBase => t.playedBase.toNat
  | .ochStrmZeroBase => t.zeroBase.toNat
  | .ochFbStatus => over_ (s.rd r i)
      [(0, 4, s.lanesBusy i (s.cyc + 1)), (4, 1, ofBool (s.ochPart i && s.waiting (s.waitKey i)))]
  | r => s.rd r i

/-- ACQ, SCB and CE (R534). -/
def endView (s : State) (r : Reg) (i : Nat) : Nat :=
  let a := s.acqOf i
  match r with
  | .acqStatus =>
    let holding := s.acqOn i && (if s.flag .acqCfgHoldMode i then decide (0 < a.holdLeft)
      else (match a.s0 with | some z => decide (s.st.toNat < z + s.rd .acqHold i) | none => false))
    let full := s.acqOn i && decide (a.histFrom + s.fld .acqPrePre i ≤ s.st.toNat / 32)
    over_ (s.rd r i) [(2, 1, ofBool holding), (3, 1, ofBool full)]
  | .acqActive => maskOf 24 (fun u => s.hasAcq u && s.acqOn u)
  | .scbStatus => over_ (s.rd r i) [(0, 3, s.fuse.lc), (5, 1, ofBool s.nvm.guardKey.isSome), (6, 4, s.fuse.pairsLeft)]
  | .scbUnitId => bufNat unitIdBytes (4 * i) 4
  | .ceUcodeVer => s.ucodeVer
  | r => s.rd r i

/-- The value of a register as a read of it returns it, without the effects of a read. -/
def view (s : State) (r : Reg) (i : Nat) : Nat :=
  let p := r.info.page
  if p = 0 then s.glbView r i
  else if p = 1 then s.timeView r i
  else if p ≤ 4 then s.envView r i
  else if p ≤ 6 then s.evfView r i
  else if p ≤ 0x10 then s.busView r i
  else if p = 0x20 then s.blpView r i
  else if p = 0x100 then s.ochView r i
  else if 0x1A0 ≤ p then s.endView r i
  else s.rd r i

/-- What a register's snapshot copy latches (R424): the active copies of the shadow sets, and else the register. -/
def snapView (s : State) (r : Reg) (i : Nat) : Nat :=
  match r with
  | .ochShdVamp => s.shdAct (i / 8) (i % 8)
  | .ochShdLoop01 => s.shdAct i 8
  | .ochShdLoop23 => s.shdAct i 9
  | .ochShdCh => s.shdAct i 10
  | r => s.view r i

/-- The state with the units of `Prior` as the present cycle found them. -/
def before (s : State) : State :=
  { s with dec := s.prior.dec, evf := s.prior.evf, dma := s.prior.dma, jrn := s.prior.jrn, ports := s.prior.ports, och := s.prior.och }

/-- What the host reads of a register: a counter that the present cycle has increased shows its value before (R522). -/
def hostView (s : State) (r : Reg) (i : Nat) : Nat :=
  let k := SMap.get 0 s.counted (r.key i)
  if k ≠ 0 then k - 1 else if r.wraps then s.before.view r i else s.view r i

/-- What a place reads as; zero where the access reaches nothing (R521, R523). -/
def placeView (s : State) (x : Place) : Nat :=
  if !s.regOpen x.reg x.inst then 0 else if x.copy then s.snapRd x.reg x.inst else s.hostView x.reg x.inst

/-! ## Reads of 64-bit registers (R22, R520) -/

/-- Key of a place's latch or hold. -/
def placeKey (x : Place) : Nat := 2 * x.reg.key x.inst + ofBool x.copy

/-- A 32-bit read of a low word loads the latch with the high word of the same instant. -/
def lowRead (s : State) (x : Place) : State :=
  let v := s.placeView x
  let s : State := { s with latch := SMap.put 0 s.latch (placeKey x) (v / 2 ^ 32 + 1) }
  s.returns (v % 2 ^ 32)

/-- A 32-bit read of a high word returns and empties the latch, or returns the current high word. -/
def highRead (s : State) (x : Place) : State :=
  let k := SMap.get 0 s.latch (placeKey x)
  if k = 0 then s.returns (s.placeView x / 2 ^ 32)
  else ({ s with latch := SMap.put 0 s.latch (placeKey x) 0 }).returns (k - 1)

/-! ## Writes (R20, R520, R522) -/

/-- A 64-bit register takes a whole value, by the rules of its owner (R368, R385, R411, R420). -/
def store64 (s : State) (r : Reg) (i v : Nat) : State :=
  match r with
  | .evfProdMap => s.debugRoute true v
  | .timerStart => if s.flag .timerCtrlEn i then s else s.wr r i (v &&& r.info.rw)
  | .qpCmdBase => if s.qpEn i then s else s.wr r i (v &&& r.info.rw)
  | .qpRplBase => if s.qpEn i then s else s.wr r i (v &&& r.info.rw)
  | r => s.wr r i (v &&& r.info.rw)

/-- A 64-bit register that the host may write. -/
def writable64 (s : State) (x : Place) : Bool :=
  !x.copy && x.reg.info.wide && x.reg.info.rw != 0 && s.regOpen x.reg x.inst

def hold64 (s : State) (x : Place) (w : Nat) : State := { s with hold := SMap.put 0 s.hold (placeKey x) w }

/-- A 32-bit write to the low word is held. -/
def lowWrite (s : State) (x : Place) (v : Nat) : State :=
  if s.writable64 x then s.hold64 x (v % 2 ^ 32 + 1) else s

/-- A 32-bit write to the high word takes effect with the held low word, or alone. -/
def highWrite (s : State) (x : Place) (v : Nat) : State :=
  if s.writable64 x then
    let k := SMap.get 0 s.hold (placeKey x)
    let low := if k = 0 then s.view x.reg x.inst % 2 ^ 32 else k - 1
    (s.hold64 x 0).store64 x.reg x.inst (low + 2 ^ 32 * (v % 2 ^ 32))
  else s

/-- An 8-byte write takes effect at once and discards a held low word. -/
def wholeWrite (s : State) (x : Place) (v : Nat) : State :=
  if s.writable64 x then (s.hold64 x 0).store64 x.reg x.inst v else s

/-- A write by the access codes of a register's bits (R20): RW bits take the value, W1C ones clear, W1S ones set; all others
keep theirs, and a W1C bit that the block sets in the same cycle stays set (R522). -/
def plainWrite (s : State) (r : Reg) (i v : Nat) : State :=
  let x := r.info
  let all := 2 ^ r.bits - 1
  let kept := s.rd r i &&& (all - x.rw) &&& (all - (v &&& x.w1c) ||| s.raisedBits r i)
  s.wr r i (kept ||| (v &&& x.rw) ||| (v &&& x.w1s))

/-- A write to `BLL[n].SLEEP`: the bits that change act (R446). -/
def sleepWrite (s : State) (n v : Nat) : State :=
  let s := if bit v 0 == s.flag .bllSleepTxSleep n then s else if bit v 0 then s.txSleepSet n else s.txSleepClear n
  if bit v 1 == s.flag .bllSleepRxSleep n then s else if bit v 1 then s.rxSleepSet n else s.rxSleepClear n

/-- A 32-bit write to a register of the EVF, DMA, JRN, BLL, DSPX and CE pages that has behaviour of its own, or to a plain
one. -/
def engineWrite (s : State) (r : Reg) (i v : Nat) : State :=
  match r with
  | .evfCfg => s.stormConfig v
  | .evfChRoute => s.debugRoute false v
  | .evfFire => forEach (setBits v 32) (fun b s => s.fireChannel (32 * i + b)) s
  | .evfSupp => s.suppWrite i v
  | .timerPeriod => if s.flag .timerCtrlEn i then s else s.wr r i v
  | .timerCtrl => s.timerCtrl i v
  | .dmaCtrl => if bit v 0 then s.dmaRunSet i v else s.dmaRunClear i v
  | .dmaTail => s.dmaTail i v
  | .jrnHostRd => s.jrnHostRd (slice v 0 24)
  | .bllBitslip => if bit v 0 then s.bitslip i else s
  | .bllSleep => s.sleepWrite i v
  | .bllEyeCtrl => if bit v 31 then s.eyeStart i v else s.plainWrite r i v
  | .dspMbox => (s.updCore i fun c => { c with mboxIn := BitVec.ofNat 32 v }).coreLine i 6
  | .qpLen => if s.qpEn i then s else s.plainWrite r i v
  | .qpCtrl => if bit v 0 then s.qpEnable i else s.qpDisable i
  | r => s.plainWrite r i v

/-- A 32-bit write to a register that its unit lets through. -/
def store32 (s : State) (r : Reg) (i v : Nat) : State :=
  match r with
  | .glbIrqPend0 => s.irqClear 0 v
  | .glbIrqPend1 => s.irqClear 1 v
  | .bdacTarget => s.bdTarget i v
  | .hkInj => s.hkRequest (slice v 0 6)
  | .guardPeak => s.limitWrite .peak i v
  | .guardRms => s.limitWrite .rms i v
  | .guardDuty => s.limitWrite .duty i v
  | .guardBmin => s.limitWrite .bmin i v
  | .guardBmax => s.limitWrite .bmax i v
  | .guardBrate => s.limitWrite .brate i v
  | .guardTrip => forEach (s.wordChans i v) (fun n s => s.guardRelease n) s
  | .guardForce => forEach (s.wordChans i v) (fun n s =>
      (s.wr .guardForce (n / 32) (setBit (s.rd .guardForce (n / 32)) (n % 32) true)).guardTrip n 8) s
  | .guardBtrip => forEach (((setBits v 32).map (32 * i + ·)).filter fun k => decide (k < 48)) (fun k s => s.guardBrelease k) s
  | .ochTblData => s.tblDataWrite i (BitVec.ofNat 32 v)
  | .ochJumpReq => s.asyncPost i (slice v 0 8)
  | .ochShdCommit => s.shadowCommit i (slice v 0 16) (slice v 16 9)
  | .ochShdVamp => s.shadowWrite (i / 8) (i % 8) v
  | .ochShdLoop01 => s.shadowWrite i 8 v
  | .ochShdLoop23 => s.shadowWrite i 9 v
  | .ochShdCh => s.shadowWrite i 10 v
  | .acqSwtrig => forEach ((setBits v 24).filter s.hasAcq) (fun u s => s.acqTrigNow u 0) s
  | .acqRdPtr => s.acqRdPtr i (slice v 0 29)
  | r => s.engineWrite r i v

/-- A 4-byte host write at an aligned offset of BAR0. -/
def write4 (s : State) (offset v : Nat) : State :=
  match place? offset with
  | some x =>
    if x.copy then s
    else if x.reg.info.wide then (if x.high then s.highWrite x v else s.lowWrite x v)
    else if s.regOpen x.reg x.inst then s.store32 x.reg x.inst v
    else s
  | none => s

/-- An access of a size or alignment that BAR0 does not take is counted (R362). -/
def badAccess (s : State) : State := if s.pcie.linkUp && !s.pcie.d3hot && s.dev != 0 then s.bump .glbPcieBadacc else s

/-- A host write to BAR0 of 4 bytes, or of 8 (R362, R520). -/
def bar0Write (s : State) (offset : Nat) (wide : Bool) (v : Nat) : State :=
  if offset % (if wide then 8 else 4) ≠ 0 then s.badAccess
  else if wide then
    match place? offset with
    | some x =>
      if x.reg.info.wide then (if x.copy then s else s.wholeWrite x v)
      else (s.write4 offset (v % 2 ^ 32)).write4 (offset + 4) (v / 2 ^ 32)
    | none => s.write4 (offset + 4) (v / 2 ^ 32)
  else s.write4 offset (v % 2 ^ 32)

/-- BAR4 and configuration space answer (R359, R360, R365). -/
def pcieUp (s : State) : Bool := s.pcie.linkUp

/-! ## BAR4 (R365, R386) -/

/-- What lies at a word of BAR4. -/
inductive Bar4 where
  | cmdTail (q : Nat)
  | cmdHead (q : Nat)
  | rplHead (q : Nat)
  | rplTail (q : Nat)
  | dmaTail (i : Nat)
  | msixAddr (v : Nat) (high : Bool)
  | msixData (v : Nat)
  | msixMask (v : Nat)
  | msixPend (high : Bool)
  deriving DecidableEq, Repr

/-- The word at a 4-byte-aligned offset of BAR4; none where it is reserved. -/
def bar4At (o : Nat) : Option Bar4 :=
  if o < 0x400 then
    match o % 0x100 with
    | 0 => some (.cmdTail (o / 0x100))
    | 8 => some (.cmdHead (o / 0x100))
    | 0x10 => some (.rplHead (o / 0x100))
    | 0x18 => some (.rplTail (o / 0x100))
    | _ => none
  else if 0x1000 ≤ o ∧ o < 0x1100 then (if o % 8 = 0 then some (.dmaTail ((o - 0x1000) / 8)) else none)
  else if 0x2000 ≤ o ∧ o < 0x2400 then
    let v := (o - 0x2000) / 16
    match o % 16 with
    | 0 => some (.msixAddr v false)
    | 4 => some (.msixAddr v true)
    | 8 => some (.msixData v)
    | 12 => some (.msixMask v)
    | _ => none
  else if o = 0x3000 then some (.msixPend false)
  else if o = 0x3004 then some (.msixPend true)
  else none

/-- What a 4-byte read of BAR4 returns: it changes nothing. -/
def bar4View (s : State) (o : Nat) : Nat :=
  match bar4At o with
  | some (.cmdTail q) => (s.qp q).tail
  | some (.cmdHead q) => (s.qp q).head
  | some (.rplHead q) => (s.qp q).rplHead
  | some (.rplTail q) => (s.qp q).rplTail
  | some (.dmaTail i) => s.fld .dmaTailIndex i
  | some (.msixAddr v high) => slice (SMap.get 0 s.pcie.msgAddr v).toNat (if high then 32 else 0) 32
  | some (.msixData v) => (SMap.get 0 s.pcie.msgData v).toNat
  | some (.msixMask v) => ofBool (bit s.pcie.vmask.toNat v)
  | some (.msixPend high) => slice s.pcie.pba.toNat (if high then 32 else 0) 32
  | none => 0

/-- An MSI-X table entry's address or data, or its mask bit, takes a value (R365, R367). -/
def msixAddrWrite (s : State) (v : Nat) (x : Dword) : State :=
  { s with pcie := { s.pcie with msgAddr := SMap.put 0 s.pcie.msgAddr v x } }
def msixDataWrite (s : State) (v : Nat) (x : Word) : State :=
  { s with pcie := { s.pcie with msgData := SMap.put 0 s.pcie.msgData v x } }
def msixMaskWrite (s : State) (v : Fin 64) (b : Bool) : State :=
  if b then { s with pcie := { s.pcie with vmask := BitVec.ofNat 64 (setBit s.pcie.vmask.toNat v true) } }
  else s.msixUnmask (.vector v)

/-- A 4-byte host write to BAR4: pointers that the device owns, pending bits and reserved offsets take none. -/
def bar4Write4 (s : State) (o v : Nat) : State :=
  match bar4At o with
  | some (.cmdTail q) => s.cmdTail q v
  | some (.rplHead q) => s.rplHead q v
  | some (.dmaTail i) => when (s.hostDma i) (fun s => s.dmaTail i v) s
  | some (.msixAddr k high) =>
    s.msixAddrWrite k (BitVec.ofNat 64 (place (SMap.get 0 s.pcie.msgAddr k).toNat (if high then 32 else 0) 32
      (if high then v else v / 4 * 4)))
  | some (.msixData k) => s.msixDataWrite k (BitVec.ofNat 32 v)
  | some (.msixMask k) => s.msixMaskWrite (Fin.ofNat 64 k) (bit v 0)
  | _ => s

/-- A host write to BAR4 of 4 bytes, or of 8 as two of 4. -/
def bar4Write (s : State) (o : Nat) (wide : Bool) (v : Nat) : State :=
  if !s.hostBar4 then s
  else if wide then (s.bar4Write4 o (v % 2 ^ 32)).bar4Write4 (o + 4) (v / 2 ^ 32)
  else s.bar4Write4 o (v % 2 ^ 32)

/-- Size of a BAR in address bits (R361): BAR0 has 16 MiB, BAR2 64 GiB, BAR4 1 MiB. All three are of 64 bits; BAR2 alone is
prefetchable. -/
def barBits (k : Nat) : Nat := if k = 0 then 24 else if k = 1 then 36 else 20

/-- A base address register takes the address bits above its size. -/
def barWrite (s : State) (k v : Nat) : State :=
  let x := BitVec.ofNat 64 (v / 2 ^ barBits k * 2 ^ barBits k)
  { s with pcie := { s.pcie with bars := SMap.put 0 s.pcie.bars k x } }

/-- MSI-X Enable is written: once it is set, what no mask holds back leaves (R367). -/
def msixEnable (s : State) (b : Bool) : State :=
  forEach (List.range 64) (fun v s => s.msixFlush v) { s with pcie := { s.pcie with msixEn := b } }

/-- A host write. -/
def registerWrite (s : State) (t : RegTarget) (v : Nat) : State :=
  match t with
  | .bar0 offset wide => s.bar0Write offset.toNat wide v
  | .msixAddr k => when s.hostBar4 (fun s => s.msixAddrWrite k (BitVec.ofNat 64 v)) s
  | .msixData k => when s.hostBar4 (fun s => s.msixDataWrite k (BitVec.ofNat 32 v)) s
  | .msixMask k => when s.hostBar4 (fun s => s.msixMaskWrite k (bit v 0)) s
  | .bar4 offset wide => s.bar4Write offset.toNat wide v
  | .barBase k => when s.pcieUp (fun s => s.barWrite k v) s
  | .msixEnable => when s.pcieUp (fun s => s.msixEnable (bit v 0)) s
  | .functionMask => when s.pcieUp (fun s =>
      if bit v 0 then { s with pcie := { s.pcie with fmask := true } } else s.msixUnmask .function) s
  | .aerStatus => when s.pcieUp (fun s => { s with pcie := { s.pcie with aer := s.pcie.aer &&& ~~~(BitVec.ofNat 32 v) } }) s
  | .maxPayload => when (s.pcieUp && decide (7 ≤ v) && decide (v ≤ 9))
      (fun s => { s with pcie := { s.pcie with maxPayload := 2 ^ v } }) s
  | .maxRead => when (s.pcieUp && decide (7 ≤ v) && decide (v ≤ 12))
      (fun s => { s with pcie := { s.pcie with maxRead := 2 ^ v } }) s

/-! ## Host reads of registers (R362, R520, R521) -/

/-- A 4-byte read at an aligned offset of BAR0: a word of a 64-bit register by way of its latch, and with its effect where a
read has one; reserved offsets read as zero. -/
def read4 (s : State) (offset : Nat) : State :=
  match place? offset with
  | some x =>
    if !s.regOpen x.reg x.inst then s.returns 0
    else if x.reg.info.wide then (if x.high then s.highRead x else s.lowRead x)
    else if x.reg = .ochTblData && !x.copy then s.tblDataRead x.inst
    else if x.reg = .trigTsX && !x.copy then s.trigRead x.inst
    else s.returns (s.placeView x)
  | none => s.returns 0

/-- Two 4-byte reads, the lower address first, and what they return together. -/
def readTwo (s : State) (offset : Nat) : State :=
  let a := s.read4 offset
  let b := a.read4 (offset + 4)
  b.returns (a.readData.toNat % 2 ^ 32 + 2 ^ 32 * (b.readData.toNat % 2 ^ 32))

/-- An 8-byte read: a 64-bit register at one instant, its latch left as it is; else two 4-byte reads. -/
def read8 (s : State) (offset : Nat) : State :=
  match place? offset with
  | some x => if x.reg.info.wide then s.returns (s.placeView x) else s.readTwo offset
  | none => s.readTwo offset

/-- A host read of BAR0 or BAR4. -/
def registerRead (s : State) (t : ReadTarget) : State :=
  match t with
  | .bar0 offset wide => if wide then s.read8 offset.toNat else s.read4 offset.toNat
  | .bar4 offset wide =>
    if !s.hostBar4 then s.returns 0
    else s.returns (s.bar4View offset.toNat + (if wide then 2 ^ 32 * s.bar4View (offset.toNat + 4) else 0))

/-! ## The snapshot latch (R422, R424) -/

/-- Every copy of a register latches. -/
def snapReg (s : State) (r : Reg) (t : State) : State :=
  forEach ((List.range r.info.count).filter (s.regPresent r))
    (fun i t => { t with snaps := SMap.put 0 t.snaps (r.key i) (BitVec.ofNat 64 (s.snapView r i)) }) t

/-- Every copy as the blocks stand now, with ST of T. -/
def snapCopies (s : State) (t : Nat) : SMap Dword :=
  SMap.put 0 (forEach (Reg.all.filter fun r => r.info.snap) (fun r u => s.snapReg r u) s).snaps (Reg.key .timeSt 0)
    (BitVec.ofNat 64 t)

/-- At the end of cycle c + 7 of a pending snapshot, what every block holds is kept for the latch at T (R422). -/
def snapTake (s : State) : State :=
  match s.evf.snap with
  | some (c, t, _) => if s.cyc = c + 7 then s.setEvf { s.evf with snapAt := s.snapCopies t } else s
  | none => s

end State

/-! ## Rows -/

/-- REG64_LOW_READ (R520), and every other host read of a register that no row of its own stands for. -/
def execReg64LowRead (target : ReadTarget) (s : State) : Host.Outcome State Fault Refusal :=
  run (fun s => s.registerRead target) s

/-- REG64_HIGH_READ (R520): a 4-byte read at an offset 4 bytes past an 8-byte-aligned one. -/
def execReg64HighRead (offset : BitVec 24) (s : State) : Host.Outcome State Fault Refusal :=
  run (fun s => s.read4 offset.toNat) s

/-- REG64_LOW_WRITE (R520). -/
def execReg64LowWrite (offset : BitVec 24) (value : Word) (s : State) : Host.Outcome State Fault Refusal :=
  run (fun s =>
    match place? offset.toNat with
    | some x => if x.reg.info.wide && !x.high then s.lowWrite x value.toNat else s
    | none => s) s

/-- REG64_HIGH_WRITE (R520). -/
def execReg64HighWrite (offset : BitVec 24) (value : Word) (s : State) : Host.Outcome State Fault Refusal :=
  run (fun s =>
    match place? offset.toNat with
    | some x => if x.high then s.highWrite x value.toNat else s
    | none => s) s

/-- BAR0_BAD_ACCESS (R362): a read returns zero. -/
def execBar0BadAccess (write : Bool) (s : State) : Host.Outcome State Fault Refusal :=
  run (fun s => if write then s.badAccess else s.badAccess.returns 0) s

/-- REGISTER_WRITE (R20). -/
def execRegisterWrite (target : RegTarget) (value : Dword) (s : State) : Host.Outcome State Fault Refusal :=
  perform (fun s => s.registerWrite target value.toNat) s

/-- SNAPSHOT_LATCH (R422): snapshots work from the end of Dawn on (R423). -/
def execSnapshotLatch (s : State) : Host.Outcome State Fault Refusal :=
  run (fun s => when s.served State.snapLatch s) s

end Sys2Proof.Machine
end

