-- ==== Sys2Proof/Machine/Dispatch.lean ====
section
/-!
DEFINITION. One arm per command: the one call of its meaning.
-/

namespace Sys2Proof.Machine

def exec (i : Instr) (s : State) : Host.Outcome State Fault Refusal :=
  match i with
  | .nop c => Sys2Proof.Machine.execNop c s
  | .arm c => Sys2Proof.Machine.execArm c s
  | .disarm c => Sys2Proof.Machine.execDisarm c s
  | .shotSchedule c => Sys2Proof.Machine.execShotSchedule c s
  | .runStop c => Sys2Proof.Machine.execRunStop c s
  | .shotAbort c => Sys2Proof.Machine.execShotAbort c s
  | .dusk c => Sys2Proof.Machine.execDusk c s
  | .safeExit c => Sys2Proof.Machine.execSafeExit c s
  | .sysReset c => Sys2Proof.Machine.execSysReset c s
  | .evtRoute c => Sys2Proof.Machine.execEvtRoute c s
  | .evtCommit c => Sys2Proof.Machine.execEvtCommit c s
  | .snapshot c => Sys2Proof.Machine.execSnapshot c s
  | .thermConfig c => Sys2Proof.Machine.execThermConfig c s
  | .dspCtrl c => Sys2Proof.Machine.execDspCtrl c s
  | .dspLoad c => Sys2Proof.Machine.execDspLoad c s
  | .dspRead c => Sys2Proof.Machine.execDspRead c s
  | .dspFeed c => Sys2Proof.Machine.execDspFeed c s
  | .chRole c => Sys2Proof.Machine.execChRole c s
  | .chOutput c => Sys2Proof.Machine.execChOutput c s
  | .chFdelay c => Sys2Proof.Machine.execChFdelay c s
  | .synConfig c => Sys2Proof.Machine.execSynConfig c s
  | .frameWrite c => Sys2Proof.Machine.execFrameWrite c s
  | .frameVzAdd c => Sys2Proof.Machine.execFrameVzAdd c s
  | .frameRead c => Sys2Proof.Machine.execFrameRead c s
  | .tsetWrite c => Sys2Proof.Machine.execTsetWrite c s
  | .tsetRead c => Sys2Proof.Machine.execTsetRead c s
  | .mrkClaim c => Sys2Proof.Machine.execMrkClaim c s
  | .mrkRelease c => Sys2Proof.Machine.execMrkRelease c s
  | .bdacConfig c => Sys2Proof.Machine.execBdacConfig c s
  | .bdacSlew c => Sys2Proof.Machine.execBdacSlew c s
  | .bdacListWrite c => Sys2Proof.Machine.execBdacListWrite c s
  | .fbConfig c => Sys2Proof.Machine.execFbConfig c s
  | .seqConfig c => Sys2Proof.Machine.execSeqConfig c s
  | .seqWrite c => Sys2Proof.Machine.execSeqWrite c s
  | .condWrite c => Sys2Proof.Machine.execCondWrite c s
  | .streamDescWrite c => Sys2Proof.Machine.execStreamDescWrite c s
  | .streamOpen c => Sys2Proof.Machine.execStreamOpen c s
  | .streamClose c => Sys2Proof.Machine.execStreamClose c s
  | .decAssign c => Sys2Proof.Machine.execDecAssign c s
  | .decClear c => Sys2Proof.Machine.execDecClear c s
  | .rxConfig c => Sys2Proof.Machine.execRxConfig c s
  | .toneWrite c => Sys2Proof.Machine.execToneWrite c s
  | .kernelWrite c => Sys2Proof.Machine.execKernelWrite c s
  | .toneRead c => Sys2Proof.Machine.execToneRead c s
  | .acqConfig c => Sys2Proof.Machine.execAcqConfig c s
  | .acqStart c => Sys2Proof.Machine.execAcqStart c s
  | .acqStop c => Sys2Proof.Machine.execAcqStop c s
  | .timeStep c => Sys2Proof.Machine.execTimeStep c s
  | .timeUnlock c => Sys2Proof.Machine.execTimeUnlock c s
  | .timeSlew c => Sys2Proof.Machine.execTimeSlew c s
  | .timeSyncCfg c => Sys2Proof.Machine.execTimeSyncCfg c s
  | .timeSyncinArm c => Sys2Proof.Machine.execTimeSyncinArm c s
  | .trigConfig c => Sys2Proof.Machine.execTrigConfig c s
  | .linkUp c => Sys2Proof.Machine.execLinkUp c s
  | .linkDown c => Sys2Proof.Machine.execLinkDown c s
  | .mirrorExport c => Sys2Proof.Machine.execMirrorExport c s
  | .mirrorRoute c => Sys2Proof.Machine.execMirrorRoute c s
  | .calRun c => Sys2Proof.Machine.execCalRun c s
  | .calSave c => Sys2Proof.Machine.execCalSave c s
  | .calConfig c => Sys2Proof.Machine.execCalConfig c s
  | .hkConfig c => Sys2Proof.Machine.execHkConfig c s
  | .guardRaise c => Sys2Proof.Machine.execGuardRaise c s
  | .attest c => Sys2Proof.Machine.execAttest c s
  | .certRead c => Sys2Proof.Machine.execCertRead c s
  | .lifecycleSet c => Sys2Proof.Machine.execLifecycleSet c s
  | .ucodePatch c => Sys2Proof.Machine.execUcodePatch c s
  | .memPower c => Sys2Proof.Machine.execMemPower c s
  | .memTest c => Sys2Proof.Machine.execMemTest c s
  | .jrnConfig c => Sys2Proof.Machine.execJrnConfig c s
  | .calRunComplete => Sys2Proof.Machine.execCalRunComplete s
  | .calSaveComplete => Sys2Proof.Machine.execCalSaveComplete s
  | .lifecycleSetComplete => Sys2Proof.Machine.execLifecycleSetComplete s
  | .ucodePatchComplete => Sys2Proof.Machine.execUcodePatchComplete s
  | .memTestComplete bank fail => Sys2Proof.Machine.execMemTestComplete bank fail s
  | .linkUpComplete port peerOk => Sys2Proof.Machine.execLinkUpComplete port peerOk s
  | .guardRaiseComplete => Sys2Proof.Machine.execGuardRaiseComplete s
  | .attestComplete => Sys2Proof.Machine.execAttestComplete s
  | .memPowerDone group => Sys2Proof.Machine.execMemPowerDone group s
  | .completionReplyWrite qp => Sys2Proof.Machine.execCompletionReplyWrite qp s
  | .commandFetchFail qp => Sys2Proof.Machine.execCommandFetchFail qp s
  | .watchdogRestart => Sys2Proof.Machine.execWatchdogRestart s
  | .ucodeFaultRestart => Sys2Proof.Machine.execUcodeFaultRestart s
  | .ceRestartEnd => Sys2Proof.Machine.execCeRestartEnd s
  | .internalAnswer c => Sys2Proof.Machine.execInternalAnswer c s
  | .cmdTailWrite qp value => Sys2Proof.Machine.execCmdTailWrite qp value s
  | .rplHeadWrite qp value => Sys2Proof.Machine.execRplHeadWrite qp value s
  | .qpEnable qp => Sys2Proof.Machine.execQpEnable qp s
  | .qpDisable qp => Sys2Proof.Machine.execQpDisable qp s
  | .fetchErrClear qp => Sys2Proof.Machine.execFetchErrClear qp s
  | .irqPendClear word value => Sys2Proof.Machine.execIrqPendClear word value s
  | .tblDataWrite och value => Sys2Proof.Machine.execTblDataWrite och value s
  | .tblDataRead och => Sys2Proof.Machine.execTblDataRead och s
  | .jumpReqWrite och value => Sys2Proof.Machine.execJumpReqWrite och value s
  | .shdWrite och reg value => Sys2Proof.Machine.execShdWrite och reg value s
  | .shdCommit och value => Sys2Proof.Machine.execShdCommit och value s
  | .guardLimitWrite limit index value => Sys2Proof.Machine.execGuardLimitWrite limit index value s
  | .guardTripRelease word value => Sys2Proof.Machine.execGuardTripRelease word value s
  | .guardForce word value => Sys2Proof.Machine.execGuardForce word value s
  | .bdacTripRelease word value => Sys2Proof.Machine.execBdacTripRelease word value s
  | .guardLock value => Sys2Proof.Machine.execGuardLock value s
  | .bdacTargetWrite bdac value => Sys2Proof.Machine.execBdacTargetWrite bdac value s
  | .trigTsXRead trigin => Sys2Proof.Machine.execTrigTsXRead trigin s
  | .evfFire word value => Sys2Proof.Machine.execEvfFire word value s
  | .evfSuppRelease word value => Sys2Proof.Machine.execEvfSuppRelease word value s
  | .evfDebugRouteWrite map value => Sys2Proof.Machine.execEvfDebugRouteWrite map value s
  | .snapHeldRelease value => Sys2Proof.Machine.execSnapHeldRelease value s
  | .timerEnable timer value => Sys2Proof.Machine.execTimerEnable timer value s
  | .evfTimerFire timer => Sys2Proof.Machine.execEvfTimerFire timer s
  | .mboxWrite core value => Sys2Proof.Machine.execMboxWrite core value s
  | .acqSwtrig value => Sys2Proof.Machine.execAcqSwtrig value s
  | .acqRdPtrWrite unit value => Sys2Proof.Machine.execAcqRdPtrWrite unit value s
  | .jrnHostRdWrite value => Sys2Proof.Machine.execJrnHostRdWrite value s
  | .dmaTailWrite chan value => Sys2Proof.Machine.execDmaTailWrite chan value s
  | .dmaRunSet chan value => Sys2Proof.Machine.execDmaRunSet chan value s
  | .dmaRunClear chan value => Sys2Proof.Machine.execDmaRunClear chan value s
  | .hkInjWrite value => Sys2Proof.Machine.execHkInjWrite value s
  | .bitslip lane => Sys2Proof.Machine.execBitslip lane s
  | .txSleepSet lane => Sys2Proof.Machine.execTxSleepSet lane s
  | .txSleepClear lane => Sys2Proof.Machine.execTxSleepClear lane s
  | .rxSleepSet lane => Sys2Proof.Machine.execRxSleepSet lane s
  | .rxSleepClear lane => Sys2Proof.Machine.execRxSleepClear lane s
  | .laneWake lane rx => Sys2Proof.Machine.execLaneWake lane rx s
  | .eyeScanStart lane value => Sys2Proof.Machine.execEyeScanStart lane value s
  | .eyeScanDone lane errors => Sys2Proof.Machine.execEyeScanDone lane errors s
  | .reg64LowRead target => Sys2Proof.Machine.execReg64LowRead target s
  | .reg64HighRead offset => Sys2Proof.Machine.execReg64HighRead offset s
  | .reg64LowWrite offset value => Sys2Proof.Machine.execReg64LowWrite offset value s
  | .reg64HighWrite offset value => Sys2Proof.Machine.execReg64HighWrite offset value s
  | .bar0BadAccess write => Sys2Proof.Machine.execBar0BadAccess write s
  | .bar2Write addr data => Sys2Proof.Machine.execBar2Write addr data s
  | .bar2Read addr len ecc => Sys2Proof.Machine.execBar2Read addr len ecc s
  | .registerWrite target value => Sys2Proof.Machine.execRegisterWrite target value s
  | .startEvent => Sys2Proof.Machine.execStartEvent s
  | .scheduledStartDecision => Sys2Proof.Machine.execScheduledStartDecision s
  | .shotStartFetch => Sys2Proof.Machine.execShotStartFetch s
  | .shotStartTick => Sys2Proof.Machine.execShotStartTick s
  | .shotEnd jrnBad => Sys2Proof.Machine.execShotEnd jrnBad s
  | .abortStopLimit och => Sys2Proof.Machine.execAbortStopLimit och s
  | .segmentBoundary och voice lane ecc => Sys2Proof.Machine.execSegmentBoundary och voice lane ecc s
  | .specSelect och voice ecc => Sys2Proof.Machine.execSpecSelect och voice ecc s
  | .waitResume key => Sys2Proof.Machine.execWaitResume key s
  | .waitTimeout och voice => Sys2Proof.Machine.execWaitTimeout och voice s
  | .granuleBoundary och ecc => Sys2Proof.Machine.execGranuleBoundary och ecc s
  | .streamFetchArrival och blk ecc => Sys2Proof.Machine.execStreamFetchArrival och blk ecc s
  | .toneWindowOpen rch tone => Sys2Proof.Machine.execToneWindowOpen rch tone s
  | .toneWindowClose rch tone => Sys2Proof.Machine.execToneWindowClose rch tone s
  | .toneDecision rch tone jrnBad => Sys2Proof.Machine.execToneDecision rch tone jrnBad s
  | .rxOverrange rch clamp => Sys2Proof.Machine.execRxOverrange rch clamp s
  | .ovrHoldExpire rch => Sys2Proof.Machine.execOvrHoldExpire rch s
  | .rxSettleDone rch => Sys2Proof.Machine.execRxSettleDone rch s
  | .outputEnableDone och => Sys2Proof.Machine.execOutputEnableDone och s
  | .rangeMuteDone och => Sys2Proof.Machine.execRangeMuteDone och s
  | .tileOvertemp tile hot => Sys2Proof.Machine.execTileOvertemp tile hot s
  | .bdacOvertemp bdac hot => Sys2Proof.Machine.execBdacOvertemp bdac hot s
  | .bdacSlewStep bdac => Sys2Proof.Machine.execBdacSlewStep bdac s
  | .bdacHoldRelease bdac => Sys2Proof.Machine.execBdacHoldRelease bdac s
  | .deglitchEnd bdac => Sys2Proof.Machine.execDeglitchEnd bdac s
  | .bdacParkEnd bdac => Sys2Proof.Machine.execBdacParkEnd bdac s
  | .mrkPulseEnd mrk => Sys2Proof.Machine.execMrkPulseEnd mrk s
  | .triginEdge trigin rising pos => Sys2Proof.Machine.execTriginEdge trigin rising pos s
  | .syncinEdge => Sys2Proof.Machine.execSyncinEdge s
  | .snapinEdge => Sys2Proof.Machine.execSnapinEdge s
  | .snapshotLatch => Sys2Proof.Machine.execSnapshotLatch s
  | .evfParityError chan => Sys2Proof.Machine.execEvfParityError chan s
  | .refclkLost => Sys2Proof.Machine.execRefclkLost s
  | .refclkReturn => Sys2Proof.Machine.execRefclkReturn s
  | .pllLockLost => Sys2Proof.Machine.execPllLockLost s
  | .timeStepApply => Sys2Proof.Machine.execTimeStepApply s
  | .slewComplete => Sys2Proof.Machine.execSlewComplete s
  | .syncSendTimer => Sys2Proof.Machine.execSyncSendTimer s
  | .syncMessageRx port stamp replayed => Sys2Proof.Machine.execSyncMessageRx port stamp replayed s
  | .syncTimeout => Sys2Proof.Machine.execSyncTimeout s
  | .delayReqTimer port => Sys2Proof.Machine.execDelayReqTimer port s
  | .delayReqRx port stamp replayed => Sys2Proof.Machine.execDelayReqRx port stamp replayed s
  | .delayRespRx port stamp replayed => Sys2Proof.Machine.execDelayRespRx port stamp replayed s
  | .pdelayTimeout port => Sys2Proof.Machine.execPdelayTimeout port s
  | .decisionBlockRx port => Sys2Proof.Machine.execDecisionBlockRx port s
  | .mirrorEvent port => Sys2Proof.Machine.execMirrorEvent port s
  | .mirrorAsync port => Sys2Proof.Machine.execMirrorAsync port s
  | .mirrorFrame port => Sys2Proof.Machine.execMirrorFrame port s
  | .mirrorShadow port => Sys2Proof.Machine.execMirrorShadow port s
  | .checkWindow port lane blocks badLane seq crc => Sys2Proof.Machine.execCheckWindow port lane blocks badLane seq crc s
  | .replayRequestRx port bad => Sys2Proof.Machine.execReplayRequestRx port bad s
  | .replayStartRx port => Sys2Proof.Machine.execReplayStartRx port s
  | .replayTimeout port bad => Sys2Proof.Machine.execReplayTimeout port bad s
  | .creditRx port => Sys2Proof.Machine.execCreditRx port s
  | .laneStatusRx read => Sys2Proof.Machine.execLaneStatusRx read s
  | .auditRx port => Sys2Proof.Machine.execAuditRx port s
  | .portIdle port => Sys2Proof.Machine.execPortIdle port s
  | .laneLost lane => Sys2Proof.Machine.execLaneLost lane s
  | .linkTrainStage lane stage info pass => Sys2Proof.Machine.execLinkTrainStage lane stage info pass s
  | .keepaliveInsert lane => Sys2Proof.Machine.execKeepaliveInsert lane s
  | .adaptFreeze lane runs => Sys2Proof.Machine.execAdaptFreeze lane runs s
  | .dspAdd core ecc => Sys2Proof.Machine.execDspAdd core ecc s
  | .dspSub core ecc => Sys2Proof.Machine.execDspSub core ecc s
  | .dspAnd core ecc => Sys2Proof.Machine.execDspAnd core ecc s
  | .dspOr core ecc => Sys2Proof.Machine.execDspOr core ecc s
  | .dspXor core ecc => Sys2Proof.Machine.execDspXor core ecc s
  | .dspShl core ecc => Sys2Proof.Machine.execDspShl core ecc s
  | .dspShr core ecc => Sys2Proof.Machine.execDspShr core ecc s
  | .dspSar core ecc => Sys2Proof.Machine.execDspSar core ecc s
  | .dspMul core ecc => Sys2Proof.Machine.execDspMul core ecc s
  | .dspAddi core ecc => Sys2Proof.Machine.execDspAddi core ecc s
  | .dspMovi core ecc => Sys2Proof.Machine.execDspMovi core ecc s
  | .dspMovhi core ecc => Sys2Proof.Machine.execDspMovhi core ecc s
  | .dspCadds core ecc => Sys2Proof.Machine.execDspCadds core ecc s
  | .dspCsubs core ecc => Sys2Proof.Machine.execDspCsubs core ecc s
  | .dspCrotq core ecc => Sys2Proof.Machine.execDspCrotq core ecc s
  | .dspNorm core ecc => Sys2Proof.Machine.execDspNorm core ecc s
  | .dspExp core ecc => Sys2Proof.Machine.execDspExp core ecc s
  | .dspNormA core ecc => Sys2Proof.Machine.execDspNormA core ecc s
  | .dspExpA core ecc => Sys2Proof.Machine.execDspExpA core ecc s
  | .dspBexpL core ecc => Sys2Proof.Machine.execDspBexpL core ecc s
  | .dspCmul core ecc => Sys2Proof.Machine.execDspCmul core ecc s
  | .dspCmac core ecc => Sys2Proof.Machine.execDspCmac core ecc s
  | .dspCmul2 core ecc => Sys2Proof.Machine.execDspCmul2 core ecc s
  | .dspCmac2 core ecc => Sys2Proof.Machine.execDspCmac2 core ecc s
  | .dspCrnd core ecc => Sys2Proof.Machine.execDspCrnd core ecc s
  | .dspMva core ecc => Sys2Proof.Machine.execDspMva core ecc s
  | .dspMvah core ecc => Sys2Proof.Machine.execDspMvah core ecc s
  | .dspLdB core ecc => Sys2Proof.Machine.execDspLdB core ecc s
  | .dspLdH core ecc => Sys2Proof.Machine.execDspLdH core ecc s
  | .dspLdW core ecc => Sys2Proof.Machine.execDspLdW core ecc s
  | .dspLdD core second ecc => Sys2Proof.Machine.execDspLdD core second ecc s
  | .dspStB core ecc => Sys2Proof.Machine.execDspStB core ecc s
  | .dspStH core ecc => Sys2Proof.Machine.execDspStH core ecc s
  | .dspStW core ecc => Sys2Proof.Machine.execDspStW core ecc s
  | .dspStD core ecc => Sys2Proof.Machine.execDspStD core ecc s
  | .dspB core ecc => Sys2Proof.Machine.execDspB core ecc s
  | .dspBeqz core ecc => Sys2Proof.Machine.execDspBeqz core ecc s
  | .dspBnez core ecc => Sys2Proof.Machine.execDspBnez core ecc s
  | .dspBltz core ecc => Sys2Proof.Machine.execDspBltz core ecc s
  | .dspBgez core ecc => Sys2Proof.Machine.execDspBgez core ecc s
  | .dspDbnz core ecc => Sys2Proof.Machine.execDspDbnz core ecc s
  | .dspRepeat core ecc => Sys2Proof.Machine.execDspRepeat core ecc s
  | .dspMvc core ecc => Sys2Proof.Machine.execDspMvc core ecc s
  | .dspMvct core ecc => Sys2Proof.Machine.execDspMvct core ecc s
  | .dspReti core ecc => Sys2Proof.Machine.execDspReti core ecc s
  | .dspHalt core ecc => Sys2Proof.Machine.execDspHalt core ecc s
  | .dspWaiti core ecc => Sys2Proof.Machine.execDspWaiti core ecc s
  | .dspIen core ecc => Sys2Proof.Machine.execDspIen core ecc s
  | .dspIdis core ecc => Sys2Proof.Machine.execDspIdis core ecc s
  | .dspInterruptEntry core second => Sys2Proof.Machine.execDspInterruptEntry core second s
  | .dspTimerMatch core => Sys2Proof.Machine.execDspTimerMatch core s
  | .acqRecordCommit unit => Sys2Proof.Machine.execAcqRecordCommit unit s
  | .acqOverflow unit bandwidth => Sys2Proof.Machine.execAcqOverflow unit bandwidth s
  | .acqStreamLengthDone unit => Sys2Proof.Machine.execAcqStreamLengthDone unit s
  | .jrnSpillWrite bad => Sys2Proof.Machine.execJrnSpillWrite bad s
  | .jrnTailRefill bad => Sys2Proof.Machine.execJrnTailRefill bad s
  | .jrnDrain bad => Sys2Proof.Machine.execJrnDrain bad s
  | .jrnFlushTimeout => Sys2Proof.Machine.execJrnFlushTimeout s
  | .dmaDescriptorStart chan words => Sys2Proof.Machine.execDmaDescriptorStart chan words s
  | .dmaRequestIssue chan ecc => Sys2Proof.Machine.execDmaRequestIssue chan ecc s
  | .dmaCompletionRx chan off reply ecc => Sys2Proof.Machine.execDmaCompletionRx chan off reply ecc s
  | .dmaRetire chan => Sys2Proof.Machine.execDmaRetire chan s
  | .dmaPrefetchFail group kind => Sys2Proof.Machine.execDmaPrefetchFail group kind s
  | .pcieLinkDown => Sys2Proof.Machine.execPcieLinkDown s
  | .pcieD3hot => Sys2Proof.Machine.execPcieD3hot s
  | .scrubLine ecc => Sys2Proof.Machine.execScrubLine ecc s
  | .vauxPowerUp => Sys2Proof.Machine.execVauxPowerUp s
  | .railSequenceTimeout => Sys2Proof.Machine.execRailSequenceTimeout s
  | .perstAssert => Sys2Proof.Machine.execPerstAssert s
  | .perstRelease => Sys2Proof.Machine.execPerstRelease s
  | .dawnStageEnd what => Sys2Proof.Machine.execDawnStageEnd what s
  | .pgoodLoss group => Sys2Proof.Machine.execPgoodLoss group s
  | .trip sensor temp => Sys2Proof.Machine.execTrip sensor temp s
  | .coolDownEnd => Sys2Proof.Machine.execCoolDownEnd s
  | .coreRailsRemoved => Sys2Proof.Machine.execCoreRailsRemoved s
  | .thermReading temps => Sys2Proof.Machine.execThermReading temps s
  | .throttleEvaluate => Sys2Proof.Machine.execThrottleEvaluate s
  | .duskMaxExpire => Sys2Proof.Machine.execDuskMaxExpire s
  | .duskStepEnd => Sys2Proof.Machine.execDuskStepEnd s
  | .calSliceStart kind index => Sys2Proof.Machine.execCalSliceStart kind index s
  | .calSliceEnd kind index trims => Sys2Proof.Machine.execCalSliceEnd kind index trims s
  | .calOverdue kind index => Sys2Proof.Machine.execCalOverdue kind index s
  | .calAutosave => Sys2Proof.Machine.execCalAutosave s
  | .hkConversionEnd code => Sys2Proof.Machine.execHkConversionEnd code s
  | .tamperEvent cause => Sys2Proof.Machine.execTamperEvent cause s
  | .wipeDone => Sys2Proof.Machine.execWipeDone s
  | .rxGroup rch samples ecc => Sys2Proof.Machine.execRxGroup rch samples ecc s
  | .dmaCompletionTimeout chan off => Sys2Proof.Machine.execDmaCompletionTimeout chan off s
  | .msixUnmask target => Sys2Proof.Machine.execMsixUnmask target s
  | .vauxLoss => Sys2Proof.Machine.execVauxLoss s
  | .pgoodRise group => Sys2Proof.Machine.execPgoodRise group s
  | .pgoodGlitch group => Sys2Proof.Machine.execPgoodGlitch group s
  | .jtagInstructionUpdate instr chain => Sys2Proof.Machine.execJtagInstructionUpdate instr chain s
  | .pcieLinkReturn rate width => Sys2Proof.Machine.execPcieLinkReturn rate width s
  | .pcieD0Return => Sys2Proof.Machine.execPcieD0Return s

end Sys2Proof.Machine
end

