-- ==== Sys2Proof/Machine/Tick.lean ====
section
/-!
DEFINITION. What the clock does when no command waits: the end of the present FCLK cycle, and the first effects of the
next one. Effects that the spec places a number of cycles after their cause wait in `State.later`; those of the present
cycle's end (the windows that an abort closes, R228) come before the cycle number advances, all others as the first thing
of their cycle, so that the commands of that cycle meet them.
-/

namespace Sys2Proof.Machine.State

/-- A message to an output channel acts when its role epoch is the one in force, and is counted stale otherwise (R269,
R270). -/
def roleMsg (s : State) (ch role : Nat) (f : State → State) : State :=
  if role = s.fld .ochRoleEpochEpoch ch then f s else s.bump .ochStaleMsg ch

/-- An effect whose cycle has come. -/
def laterOne (s : State) (e : Later) : State :=
  match e with
  | .fire p => s.fire p
  | .fireLate p => s.fire p
  | .outOff n clearEn => s.outStopped n clearEn
  | .handOver n set => s.handOver n set
  | .rxRaw r => s.rxRaw r
  | .closeWindows => s.closeWindows
  | .bdacCode k code => s.bdSeqApply k code s.now10
  | .suppress ch => s.stormSuppress ch
  | .release ch => s.unsuppress ch
  | .snapIn => s.snapTrigger 1
  | .jrnCommit => s.jrnFinal
  | .decWrite q lo hi => s.decWrite q lo hi
  | .decBlock _ b => s.decisionArrives b
  | .frameMsg _ rx ch role epoch op => s.frameMsg rx ch role epoch op
  | .asyncMsg _ ch role mask => s.roleMsg ch role fun s => s.asyncPost ch mask
  | .shadowMsg _ ch role w v => s.roleMsg ch role fun s => s.shadowWrite ch w v
  | .commitMsg _ ch role token sets => s.roleMsg ch role fun s => s.shadowCommit ch token sets
  | .waitLimit n v => s.waitLimit n v
  | .railNext k => s.railNext k
  | .railOff k => s.railOff k
  | .pwrFail => s.setPower { s.power with pwrfail := true }
  | .duskStep n => s.duskEnter n

/-- The place of an effect among those of one cycle. Suppression and its release come before the firings (R420, R421); then
the messages of the DSP clusters, and those of the link ports (R87, R126); the limit of a wait after all decisions of its
cycle (R261). -/
def rank (e : Later) : Nat :=
  match e with
  | .suppress _ => 0
  | .release _ => 0
  | .decWrite q _ _ => 2 + q / 8
  | .decBlock p _ => 6 + p
  | .frameMsg r .. => 1 + r
  | .asyncMsg r .. => 1 + r
  | .shadowMsg r .. => 1 + r
  | .commitMsg r .. => 1 + r
  | .waitLimit _ _ => 10
  | .closeWindows => 10
  | .fireLate _ => 11
  | _ => 1

/-- Effects that belong to the end of their cycle. -/
def atEnd (e : Later) : Bool := decide (1 < rank e)

/-- The waiting effects for which p holds are performed in the order of their places, those of one place in the order in
which they were caused; then the firings they cause in this cycle. -/
def laterRun (p : Nat × Later → Bool) (s : State) : State :=
  let due := (s.later.filter p).map (·.2)
  let s := { s with later := s.later.filter fun e => !p e }
  (forEach ((List.range 12).flatMap fun r => due.filter fun e => rank e == r) (fun e s => s.laterOne e) s).settle

/-- The end of the present cycle: what remains due in it, the deadlines of speculations, the blocks that the ports send in
it, and what the memories take from the capture units. -/
def cycleEnd (s : State) : State :=
  (s.laterRun fun e => decide (e.1 ≤ s.cyc)).deadlines.linkTick.acqService

/-- The cycle count moves on, and ST by 32 ticks once FCLK runs (R47, R51); what the channels then use is active in the new
cycle (R130). -/
def advance (s : State) : State :=
  State.noteUses
    { s with
      cyc := s.cyc + 1
      st := if s.time.running then s.st + 32 else s.st
      raised := []
      counted := []
      prior := ⟨s.dec, s.evf, s.dma, s.jrn, s.ports, s.och⟩ }

/-- The first effects of a cycle. -/
def cycleStart (s : State) : State := (s.laterRun fun e => decide (e.1 ≤ s.cyc) && !atEnd e.2).startsDue

/-- One FCLK cycle passes. -/
def tick (s : State) : State := s.cycleEnd.snapTake.advance.cycleStart

end Sys2Proof.Machine.State
end

