-- ==== Sys2Proof/WellFormed.lean ====
section
/-!
DEFINITION. Which commands are well formed: what the host interface, the link and the sensors can send. A packet has its
sixteen words (R390), an access keeps to its BAR, a group has its sixteen samples (R204), a reading its 24 sensors. The
meanings take any operands; these checks say which of them stand for something outside.
-/

namespace Sys2Proof

/-- A packet of 64 bytes (R390). -/
def HostCmd.wf (c : HostCmd) : Bool := c.words.length == 16

/-- A row of the bank table (R330), its instances, and a word address. -/
def Ecc.rowWf (row inst addr : Nat) : Bool :=
  decide (inst < [1, 1, 96, 96, 96, 96, 24, 24, 24, 32, 4, 1, 2, 48, 1, 0, 2].getD row 0 ∨
    (row = 0 ∧ inst < 96) ∨ (row = 1 ∧ inst < 24)) && decide (addr < 2 ^ 32)

def Ecc.wf : Ecc → Bool
  | .clean => true
  | .correctable row inst addr => Ecc.rowWf row inst addr
  | .uncorrectable row inst addr => Ecc.rowWf row inst addr

/-- Returned data are not empty. -/
def HostReply.wf : HostReply → Bool
  | .data b => !b.isEmpty
  | .unsupported => true
  | .aborted => true
  | .poisoned => true

/-- A value that the field can be written with (R358). -/
def RegTarget.wf (t : RegTarget) (v : Dword) : Bool :=
  match t with
  | .bar0 _ wide => wide || decide (v.toNat < 2 ^ 32)
  | .msixAddr _ => v.toNat % 4 == 0
  | .msixData _ => decide (v.toNat < 2 ^ 32)
  | .msixMask _ => decide (v.toNat ≤ 1)
  | .bar4 o wide => o.toNat % (if wide then 8 else 4) == 0 && (wide || decide (v.toNat < 2 ^ 32))
  | .barBase _ => true
  | .msixEnable => decide (v.toNat ≤ 1)
  | .functionMask => decide (v.toNat ≤ 1)
  | .aerStatus => decide (v.toNat < 2 ^ 32)
  | .maxPayload => decide (7 ≤ v.toNat) && decide (v.toNat ≤ 9)
  | .maxRead => decide (7 ≤ v.toNat) && decide (v.toNat ≤ 12)

/-- Aligned reads; a 4-byte read of BAR0 at 4 bytes past such an offset comes with REG64_HIGH_READ. -/
def ReadTarget.wf (t : ReadTarget) : Bool :=
  match t with
  | .bar0 o _ => o.toNat % 8 == 0
  | .bar4 o wide => o.toNat % (if wide then 8 else 4) == 0

/-- A command that can come from outside. -/
def Instr.wf (i : Instr) : Bool :=
  match i with
  | .nop c => c.wf
  | .arm c => c.wf
  | .disarm c => c.wf
  | .shotSchedule c => c.wf
  | .runStop c => c.wf
  | .shotAbort c => c.wf
  | .dusk c => c.wf
  | .safeExit c => c.wf
  | .sysReset c => c.wf
  | .evtRoute c => c.wf
  | .evtCommit c => c.wf
  | .snapshot c => c.wf
  | .thermConfig c => c.wf
  | .dspCtrl c => c.wf
  | .dspLoad c => c.wf
  | .dspRead c => c.wf
  | .dspFeed c => c.wf
  | .chRole c => c.wf
  | .chOutput c => c.wf
  | .chFdelay c => c.wf
  | .synConfig c => c.wf
  | .frameWrite c => c.wf
  | .frameVzAdd c => c.wf
  | .frameRead c => c.wf
  | .tsetWrite c => c.wf
  | .tsetRead c => c.wf
  | .mrkClaim c => c.wf
  | .mrkRelease c => c.wf
  | .bdacConfig c => c.wf
  | .bdacSlew c => c.wf
  | .bdacListWrite c => c.wf
  | .fbConfig c => c.wf
  | .seqConfig c => c.wf
  | .seqWrite c => c.wf
  | .condWrite c => c.wf
  | .streamDescWrite c => c.wf
  | .streamOpen c => c.wf
  | .streamClose c => c.wf
  | .decAssign c => c.wf
  | .decClear c => c.wf
  | .rxConfig c => c.wf
  | .toneWrite c => c.wf
  | .kernelWrite c => c.wf
  | .toneRead c => c.wf
  | .acqConfig c => c.wf
  | .acqStart c => c.wf
  | .acqStop c => c.wf
  | .timeStep c => c.wf
  | .timeUnlock c => c.wf
  | .timeSlew c => c.wf
  | .timeSyncCfg c => c.wf
  | .timeSyncinArm c => c.wf
  | .trigConfig c => c.wf
  | .linkUp c => c.wf
  | .linkDown c => c.wf
  | .mirrorExport c => c.wf
  | .mirrorRoute c => c.wf
  | .calRun c => c.wf
  | .calSave c => c.wf
  | .calConfig c => c.wf
  | .hkConfig c => c.wf
  | .guardRaise c => c.wf
  | .attest c => c.wf
  | .certRead c => c.wf
  | .lifecycleSet c => c.wf
  | .ucodePatch c => c.wf
  | .memPower c => c.wf
  | .memTest c => c.wf
  | .jrnConfig c => c.wf
  | .calRunComplete => true
  | .calSaveComplete => true
  | .lifecycleSetComplete => true
  | .ucodePatchComplete => true
  | .memTestComplete _ _ => true
  | .linkUpComplete _ _ => true
  | .guardRaiseComplete => true
  | .attestComplete => true
  | .memPowerDone _ => true
  | .completionReplyWrite _ => true
  | .commandFetchFail _ => true
  | .watchdogRestart => true
  | .ucodeFaultRestart => true
  | .ceRestartEnd => true
  | .internalAnswer c => c.wf
  | .cmdTailWrite _ _ => true
  | .rplHeadWrite _ _ => true
  | .qpEnable _ => true
  | .qpDisable _ => true
  | .fetchErrClear _ => true
  | .irqPendClear _ _ => true
  | .tblDataWrite _ _ => true
  | .tblDataRead _ => true
  | .jumpReqWrite _ _ => true
  | .shdWrite _ _ _ => true
  | .shdCommit _ _ => true
  | .guardLimitWrite _ _ _ => true
  | .guardTripRelease _ _ => true
  | .guardForce _ _ => true
  | .bdacTripRelease _ _ => true
  | .guardLock _ => true
  | .bdacTargetWrite _ _ => true
  | .trigTsXRead _ => true
  | .evfFire _ _ => true
  | .evfSuppRelease _ _ => true
  | .evfDebugRouteWrite _ _ => true
  | .snapHeldRelease _ => true
  | .timerEnable _ _ => true
  | .evfTimerFire _ => true
  | .mboxWrite _ _ => true
  | .acqSwtrig _ => true
  | .acqRdPtrWrite _ _ => true
  | .jrnHostRdWrite _ => true
  | .dmaTailWrite _ _ => true
  | .dmaRunSet _ _ => true
  | .dmaRunClear _ _ => true
  | .hkInjWrite _ => true
  | .bitslip _ => true
  | .txSleepSet _ => true
  | .txSleepClear _ => true
  | .rxSleepSet _ => true
  | .rxSleepClear _ => true
  | .laneWake _ _ => true
  | .eyeScanStart _ _ => true
  | .eyeScanDone _ _ => true
  | .reg64LowRead target => target.wf
  | .reg64HighRead offset => offset.toNat % 8 == 4
  | .reg64LowWrite offset _ => offset.toNat % 8 == 0
  | .reg64HighWrite offset _ => offset.toNat % 8 == 4
  | .bar0BadAccess _ => true
  | .bar2Write addr data => !data.isEmpty && decide (addr.toNat + data.length ≤ 2 ^ 36)
  | .bar2Read addr len ecc => decide (0 < len) && decide (addr.toNat + len ≤ 2 ^ 36) && ecc.wf
  | .registerWrite target value => target.wf value
  | .startEvent => true
  | .scheduledStartDecision => true
  | .shotStartFetch => true
  | .shotStartTick => true
  | .shotEnd _ => true
  | .abortStopLimit _ => true
  | .segmentBoundary _ _ _ ecc => ecc.wf
  | .specSelect _ _ ecc => ecc.wf
  | .waitResume _ => true
  | .waitTimeout _ _ => true
  | .granuleBoundary _ ecc => ecc.wf
  | .streamFetchArrival _ _ ecc => ecc.wf
  | .toneWindowOpen _ _ => true
  | .toneWindowClose _ _ => true
  | .toneDecision _ _ _ => true
  | .rxOverrange _ _ => true
  | .ovrHoldExpire _ => true
  | .rxSettleDone _ => true
  | .outputEnableDone _ => true
  | .rangeMuteDone _ => true
  | .tileOvertemp _ _ => true
  | .bdacOvertemp _ _ => true
  | .bdacSlewStep _ => true
  | .bdacHoldRelease _ => true
  | .deglitchEnd _ => true
  | .bdacParkEnd _ => true
  | .mrkPulseEnd _ => true
  | .triginEdge _ _ _ => true
  | .syncinEdge => true
  | .snapinEdge => true
  | .snapshotLatch => true
  | .evfParityError _ => true
  | .refclkLost => true
  | .refclkReturn => true
  | .pllLockLost => true
  | .timeStepApply => true
  | .slewComplete => true
  | .syncSendTimer => true
  | .syncMessageRx _ _ _ => true
  | .syncTimeout => true
  | .delayReqTimer _ => true
  | .delayReqRx _ _ _ => true
  | .delayRespRx _ _ _ => true
  | .pdelayTimeout _ => true
  | .decisionBlockRx _ => true
  | .mirrorEvent _ => true
  | .mirrorAsync _ => true
  | .mirrorFrame _ => true
  | .mirrorShadow _ => true
  | .checkWindow _ _ blocks _ _ _ => decide (blocks.length ≤ 28)
  | .replayRequestRx _ _ => true
  | .replayStartRx _ => true
  | .replayTimeout _ _ => true
  | .creditRx _ => true
  | .laneStatusRx _ => true
  | .auditRx _ => true
  | .portIdle _ => true
  | .laneLost _ => true
  | .linkTrainStage _ _ _ _ => true
  | .keepaliveInsert _ => true
  | .adaptFreeze _ _ => true
  | .dspAdd _ ecc => ecc.wf
  | .dspSub _ ecc => ecc.wf
  | .dspAnd _ ecc => ecc.wf
  | .dspOr _ ecc => ecc.wf
  | .dspXor _ ecc => ecc.wf
  | .dspShl _ ecc => ecc.wf
  | .dspShr _ ecc => ecc.wf
  | .dspSar _ ecc => ecc.wf
  | .dspMul _ ecc => ecc.wf
  | .dspAddi _ ecc => ecc.wf
  | .dspMovi _ ecc => ecc.wf
  | .dspMovhi _ ecc => ecc.wf
  | .dspCadds _ ecc => ecc.wf
  | .dspCsubs _ ecc => ecc.wf
  | .dspCrotq _ ecc => ecc.wf
  | .dspNorm _ ecc => ecc.wf
  | .dspExp _ ecc => ecc.wf
  | .dspNormA _ ecc => ecc.wf
  | .dspExpA _ ecc => ecc.wf
  | .dspBexpL _ ecc => ecc.wf
  | .dspCmul _ ecc => ecc.wf
  | .dspCmac _ ecc => ecc.wf
  | .dspCmul2 _ ecc => ecc.wf
  | .dspCmac2 _ ecc => ecc.wf
  | .dspCrnd _ ecc => ecc.wf
  | .dspMva _ ecc => ecc.wf
  | .dspMvah _ ecc => ecc.wf
  | .dspLdB _ ecc => ecc.wf
  | .dspLdH _ ecc => ecc.wf
  | .dspLdW _ ecc => ecc.wf
  | .dspLdD _ _ ecc => ecc.wf
  | .dspStB _ ecc => ecc.wf
  | .dspStH _ ecc => ecc.wf
  | .dspStW _ ecc => ecc.wf
  | .dspStD _ ecc => ecc.wf
  | .dspB _ ecc => ecc.wf
  | .dspBeqz _ ecc => ecc.wf
  | .dspBnez _ ecc => ecc.wf
  | .dspBltz _ ecc => ecc.wf
  | .dspBgez _ ecc => ecc.wf
  | .dspDbnz _ ecc => ecc.wf
  | .dspRepeat _ ecc => ecc.wf
  | .dspMvc _ ecc => ecc.wf
  | .dspMvct _ ecc => ecc.wf
  | .dspReti _ ecc => ecc.wf
  | .dspHalt _ ecc => ecc.wf
  | .dspWaiti _ ecc => ecc.wf
  | .dspIen _ ecc => ecc.wf
  | .dspIdis _ ecc => ecc.wf
  | .dspInterruptEntry _ _ => true
  | .dspTimerMatch _ => true
  | .acqRecordCommit _ => true
  | .acqOverflow _ _ => true
  | .acqStreamLengthDone _ => true
  | .jrnSpillWrite _ => true
  | .jrnTailRefill _ => true
  | .jrnDrain _ => true
  | .jrnFlushTimeout => true
  | .dmaDescriptorStart _ words => words.length % 8 == 0 && decide (words.length ≤ 40)
  | .dmaRequestIssue _ ecc => ecc.wf
  | .dmaCompletionRx _ _ reply ecc => reply.wf && ecc.wf
  | .dmaRetire _ => true
  | .dmaPrefetchFail _ kind => [1, 2, 3, 4, 10].contains kind.val
  | .pcieLinkDown => true
  | .pcieD3hot => true
  | .scrubLine ecc => ecc.wf
  | .vauxPowerUp => true
  | .railSequenceTimeout => true
  | .perstAssert => true
  | .perstRelease => true
  | .dawnStageEnd _ => true
  | .pgoodLoss _ => true
  | .trip _ _ => true
  | .coolDownEnd => true
  | .coreRailsRemoved => true
  | .thermReading temps => temps.length == 24
  | .throttleEvaluate => true
  | .duskMaxExpire => true
  | .duskStepEnd => true
  | .calSliceStart _ _ => true
  | .calSliceEnd _ _ trims => decide (trims.length ≤ 17)
  | .calOverdue _ _ => true
  | .calAutosave => true
  | .hkConversionEnd _ => true
  | .tamperEvent _ => true
  | .wipeDone => true
  | .rxGroup _ samples ecc => samples.length == 16 && ecc.wf
  | .dmaCompletionTimeout _ _ => true
  | .msixUnmask _ => true
  | .vauxLoss => true
  | .pgoodRise _ => true
  | .pgoodGlitch _ => true
  | .jtagInstructionUpdate _ _ => true
  | .pcieLinkReturn rate width => [25, 50, 80, 160, 320].contains rate && [1, 2, 4, 8, 16].contains width
  | .pcieD0Return => true

end Sys2Proof
end

