-- ==== Sys2Proof/Safety.lean ====
section
/-!
DEFINITION. What counts as a safe run of the block, in the terms the claims use: a step that answers a next state, and the
equations between counters that the spec states as conservation invariants (R41 to R43).
-/

namespace Sys2Proof.Machine

/-- The step of a state answers a next state. -/
def Steps (s : State) : Prop := ∃ t, step s = .next t

/-- k steps in a row answer next states. -/
def Runs : Nat → State → Prop
  | 0, _ => True
  | k + 1, s => ∃ t, step s = .next t ∧ Runs k t

/-- Every waiting command can come from outside. -/
def PendingWf (s : State) : Prop := s.pending.all Instr.wf = true

/-- FIRED = DELIVERED + COALESCED + SUPPRESSED for the differences since the last re-base (R41, R415). -/
def EvBalanced (c : EvCounters) : Prop :=
  c.fired - c.firedBase =
    (c.delivered - c.deliveredBase) + (c.coalesced - c.coalescedBase) + (c.suppressed - c.suppressedBase)

/-! ## The words of the claims about commands -/

/-- A host command that applies: it is able to start (R387), its packet carries the row's opcode, and no check of R395
refuses it. -/
def Accepted (sp : CmdSpec) (c : HostCmd) (s : State) : Prop :=
  s.canStart c = true ∧ opcodeOf c = sp.opcode ∧ s.check sp c = none

/-- What an applied command leaves: its ring slot passed, its effect f, and one `OK` reply with INFO0, INFO1 and RESULT
(R387, R393). -/
def State.doneWith (c : HostCmd) (info0 info1 result : Nat) (f : State → State) (s : State) : State :=
  (f (s.passHead c.qp)).answer c 0 0 info0 info1 s.st.toNat result

/-- The same with nothing to report. -/
def State.done (c : HostCmd) (f : State → State) (s : State) : State := s.doneWith c 0 0 0 f

/-- What an accepted long command leaves: its ring slot passed, its first effect f, and one `ACCEPTED` reply (R400). -/
def State.begun (c : HostCmd) (f : State → State) (s : State) : State :=
  (f (s.passHead c.qp)).answer c 1 0 0 0 s.st.toNat 0

/-- The firings of the present cycle are performed after f (R413). -/
def State.fires (f : State → State) (s : State) : State := (f s).settle

/-- Producer p drives no channel, and no firing of the present cycle waits. -/
def State.Quiet (p : Nat) (s : State) : Prop :=
  s.drives p = [] ∧ ∀ e ∈ s.later, ∀ q, e.2 = .fire q → e.1 ≠ s.cyc

/-- Core q issues w, the correct word at its PC, and w stands for op (R286, R298). -/
def State.Issues (s : State) (q w : Nat) (op : DspOp) : Prop :=
  s.coreIssues q = true ∧ s.badIn 9 q (s.pcOf q / 2) (s.pcOf q / 2 + 1) = false ∧ s.imemWord q (s.pcOf q) = w ∧
    dspOp w = some op

/-- Core q issues an instruction whose effect is f and that goes on at pc: it is awake, its DSP cycles are taken, and the
firings of the cycle are performed (R279, R286, R288, R413). -/
def State.issued (q pc : Nat) (f : State → State) (s : State) (second : Bool := false) : State :=
  ((f (s.wake q (s.imemWord q (s.pcOf q)) second)).coreNext q pc).settle

/-- Every register but those listed reads as before. -/
def RegsKept (l : List Reg) (s t : State) : Prop := ∀ r i, r ∉ l → t.rd r i = s.rd r i

end Sys2Proof.Machine
end

