-- ==== Sys2Proof/Certificates/Slice0/Obligations.lean ====
section
/-!
DEFINITION. The statements about the model.
-/

open Sys2Proof Sys2Proof.Machine Sys2Proof.Machine.State

/-- For every command c and state s, a step of s with c at the front of its queue is exec of c on s with the queue's rest
(the model's own queue: log entry 1). On the word of State.withFetchWord: no row of the opcode table has bits, so a
fetched word spells no command and leaves the state alone. -/
def Obligations.StepTakesTheFrontCommand : Prop :=
  (∀ (c : Instr) (rest : List Instr) (s : State), s.pending = c :: rest → step s = exec c { s with pending := rest }) ∧
  (∀ (c : Instr) (s : State), step (s.push c) = exec c s) ∧
  (∀ (nbits w : Nat) (s : State), s.withFetchWord nbits w = s)

/-- On an empty queue a step is one FCLK cycle (the model's choice: log entry 1). Where no effect waits, no shot or
snapshot is under way, no capture unit has entries for DRAM, no channel changes what it uses and no link port is up or
in training, nothing but the cycle count and, once FCLK runs, ST moves: ST advances by 32 ticks, otherwise it stands
still. What the host's reads and W1C writes remember of the cycle (R522) starts afresh. -/
def Obligations.EmptyQueuePassesACycle : Prop :=
  (∀ s : State, s.pending = [] → step s = .next (s.act State.tick)) ∧
  (∀ s t : State, s.pending = [] → s.later = [] → s.shotChans = [] → s.evf.snap = none →
    (∀ u, (s.acqOf u).fifo = []) → (∀ p < 4, s.portUp p = false ∧ (s.port p).train = 0) →
    t = { s with
      cyc := s.cyc + 1
      st := if s.time.running then s.st + 32 else s.st
      raised := []
      counted := []
      prior := ⟨s.dec, s.evf, s.dma, s.jrn, s.ports, s.och⟩ } →
    (∀ n ∈ s.och.map (·.1), t.uses n = (s.chan n).was) → step s = .next t)

/-- Whatever a command does, the commands that wait behind it and the part's fused variant are afterwards as they were
before it. -/
def Obligations.CommandsLeaveTheQueue : Prop :=
  ∀ (i : Instr) (s t : State), exec i s = .next t → t.pending = s.pending ∧ t.variant = s.variant

/-- Every command is answered by a next state in every state: the spec gives each row an effect, a refusal by reply or no
effect, and never a stop of the block. So every run goes on for any number of steps, from any state. -/
def Obligations.NoRunStops : Prop :=
  (∀ (i : Instr) (s : State), ∃ t, exec i s = .next t) ∧ ∀ (k : Nat) (s : State), Runs k s

/-- A host command that may start and that a check of R395 refuses with anything but LOCKED (whose trace R127 and R135
add) leaves every part of the block as it was, but for its queue pair's pointers, the reply it writes, vector 0, what
the cycle's host accesses remember of these, and the two counters of answers: CMD_CNT and REFUSED_CNT each count one
more, up to their last value. NOP, ARM, SHOT_ABORT, MEM_POWER and ACQ_START stand for the families of host commands;
all of them go through the one check. -/
def Obligations.RefusedCommandChangesNothing : Prop :=
  ∀ (s : State) (c : HostCmd) (p : Instr × CmdSpec) (r : Reject),
    p ∈ [(Instr.nop c, nopSpec), (.arm c, armSpec), (.shotAbort c, shotAbortSpec), (.memPower c, memPowerSpec),
      (.acqStart c, acqStartSpec)] →
    s.canStart c = true → opcodeOf c = p.2.opcode → s.check p.2 c = some r → r.status ≠ 6 → 2 ≤ r.status →
    ∃ t, exec p.1 s = .next t ∧
      t = { s with ce := { s.ce with qps := t.ce.qps, lastServed := t.ce.lastServed }, regs := t.regs, egress := t.egress,
                   raised := t.raised, counted := t.counted, pcie := { s.pcie with pba := t.pcie.pba } } ∧
      RegsKept [.ceCmdCnt, .ceRefusedCnt, .glbIrqPend0] s t ∧
      t.rd .ceCmdCnt = satAdd32 (s.rd .ceCmdCnt) 1 ∧ t.rd .ceRefusedCnt = satAdd32 (s.rd .ceRefusedCnt) 1 ∧
      (t.qp c.qp).head = ((s.qp c.qp).head + 1) % s.cmdLen c.qp ∧
      (t.qp c.qp).rplTail = ((s.qp c.qp).rplTail + 1) % s.rplLen c.qp ∧
      ∃ m, t.egress = s.egress ++ .hostWrite (BitVec.ofNat 64 (s.rd .qpRplBase c.qp + 32 * (s.qp c.qp).rplTail))
        (wordBytes ((s.replyWords (opcodeOf c) (tagOf c) r.status 0 (if r.status = 3 then p.2.states else 0) r.info0 r.info1
          s.st.toNat 0).modify 1 (fun b => BitVec.ofNat 32 (setBit b.toNat 8 (s.qp c.qp).phase)))) :: m ∧
        ∀ e ∈ m, ∃ v a d, e = .msix v a d

/-- While its queue pair is disabled, empty, stopped on a fetch error or short of reply room, while a completion of the
pair waits, or during a restart of the engine, a host command changes nothing at all; it goes on waiting in its ring.
A command whose turn it is and whose FENCE is closed is held as its pair's next command, so that no other packet of
the pair can start in its place, and changes nothing else. NOP, DISARM, DEC_ASSIGN, LINK_UP and GUARD_RAISE stand for
the families. -/
def Obligations.CommandNotAbleToStart : Prop :=
  (∀ (s : State) (c : HostCmd) (i : Instr),
    i ∈ [Instr.nop c, .disarm c, .decAssign c, .linkUp c, .guardRaise c] → s.canStart c = false → s.fenceWaits c = false →
    exec i s = .next s) ∧
  (∀ (s : State) (c : HostCmd) (p : Instr × CmdSpec),
    p ∈ [(Instr.nop c, nopSpec), (.disarm c, disarmSpec), (.decAssign c, decAssignSpec), (.linkUp c, linkUpSpec),
      (.guardRaise c, guardRaiseSpec)] → opcodeOf c = p.2.opcode → s.fenceWaits c = true →
    exec p.1 s = .next (s.setQp c.qp { s.qp c.qp with fenced := some c.words })) ∧
  (∀ (s : State) (c : HostCmd) (ws : List Word), (s.qp c.qp).fenced = some ws → c.words ≠ ws → s.canStart c = false)

/-- Each command, accepted, answers OK and has its whole effect and no other: NOP returns CE_UCODE_VER. ARM takes the
participation block, binds START_EVT to the shot controller, loads SHOT_NUM less 1 and enters ARMED. DISARM discards
the program and enters IDLE. SHOT_SCHEDULE stores its tick. RUN_STOP stops further starts, or enters IDLE at once when
no shot runs. SHOT_ABORT aborts a running shot, leaves an accepted one to abort at its start tick, and with STOP
enters IDLE when there is none. -/
def Obligations.ShotCommandsApply : Prop :=
  (∀ s c, Accepted nopSpec c s → exec (.nop c) s = .next (s.act (doneWith c 0 0 s.ucodeVer id))) ∧
  (∀ s c, Accepted armSpec c s → exec (.arm c) s = .next (s.act (done c fun s =>
    ((({ s with shot := { s.shot with
        part := ⟨BitVec.ofNat 96 (bufNat (bufOf c) 0 12), BitVec.ofNat 384 (bufNat (bufOf c) 12 48),
          BitVec.ofNat 32 (bufNat (bufOf c) 60 4)⟩
        startEvt := some (pByte c 16), sched := none, count := pNum c 32 4, started := 0, stopping := false,
        abortAtTick := 0 } } : State).setF .glbShotNumNum 0 (prev48 (pNum c 24 6))).bindChannel
          (pByte c 16) 0).setDev 3))) ∧
  (∀ s c, Accepted disarmSpec c s → exec (.disarm c) s = .next (s.act (done c toIdle))) ∧
  (∀ s c, Accepted shotScheduleSpec c s → exec (.shotSchedule c) s = .next (s.act (done c fun s =>
    { s with shot := { s.shot with sched := some (pNum c 16 8) } }))) ∧
  (∀ s c, Accepted runStopSpec c s → s.shotOn = true → exec (.runStop c) s = .next (s.act (done c fun s =>
    { s with shot := { s.shot with stopping := true, sched := none } }))) ∧
  (∀ s c, Accepted runStopSpec c s → s.shotOn = false → exec (.runStop c) s = .next (s.act (done c toIdle))) ∧
  (∀ s c, Accepted shotAbortSpec c s → s.shot.running = true → bit (pByte c 16) 0 = false →
    exec (.shotAbort c) s = .next (s.act (done c fun s => s.abortShot 2))) ∧
  (∀ s c, Accepted shotAbortSpec c s → s.shot.running = true → bit (pByte c 16) 0 = true →
    exec (.shotAbort c) s = .next (s.act (done c fun s =>
      State.abortShot { s with shot := { s.shot with stopping := true, sched := none } } 2))) ∧
  (∀ s c, Accepted shotAbortSpec c s → s.shot.running = false → s.shot.accepted ≠ none →
    bit (pByte c 16) 0 = false →
    exec (.shotAbort c) s = .next (s.act (done c fun s => { s with shot := { s.shot with abortAtTick := 2 } }))) ∧
  (∀ s c, Accepted shotAbortSpec c s → s.shotOn = false → bit (pByte c 16) 0 = true →
    exec (.shotAbort c) s = .next (s.act (done c toIdle))) ∧
  (∀ s c, Accepted shotAbortSpec c s → s.shotOn = false → bit (pByte c 16) 0 = false →
    exec (.shotAbort c) s = .next (s.act (done c id)))

/-- A CMD_TAIL or RPL_HEAD write inside its span stores the pointer and outside it sets PTR_ERR. Setting EN with good ring
fields zeroes the pointers and serves the pair, with bad ones sets CFG_ERR; clearing EN stops service. A packet that
cannot be read sets FETCH_ERR and stops the pair, and clearing FETCH_ERR lets it go on, unless the block set it in the
same cycle. A waiting completion is written when there is room. Each leaves everything else as it was. -/
def Obligations.QueuePairRows : Prop :=
  (∀ s (q : Fin 4) (v : Word), s.hostBar4 = true →
    inSpan (s.cmdLen q) (s.qp q).tail ((s.qp q).head + s.cmdLen q - 1) v.toNat = true →
    exec (.cmdTailWrite q v) s = .next (s.setQp q { s.qp q with tail := v.toNat })) ∧
  (∀ s (q : Fin 4) (v : Word), s.hostBar4 = true →
    inSpan (s.cmdLen q) (s.qp q).tail ((s.qp q).head + s.cmdLen q - 1) v.toNat = false →
    exec (.cmdTailWrite q v) s = .next (s.setB .qpStatusPtrErr q true)) ∧
  (∀ s (q : Fin 4) (v : Word), s.hostBar4 = true → inSpan (s.rplLen q) (s.qp q).rplHead (s.qp q).rplTail v.toNat = true →
    exec (.rplHeadWrite q v) s = .next (s.setQp q { s.qp q with rplHead := v.toNat })) ∧
  (∀ s (q : Fin 4) (v : Word), s.hostBar4 = true → inSpan (s.rplLen q) (s.qp q).rplHead (s.qp q).rplTail v.toNat = false →
    exec (.rplHeadWrite q v) s = .next (s.setB .qpStatusPtrErr q true)) ∧
  (∀ s (q : Fin 4), s.hostCe = true → s.qpEn q = false → s.qpFieldsOk q = true → (s.qp q).held = [] →
    exec (.qpEnable q) s = .next (((s.setB .qpCtrlEn q true).setQp q Qp.init).setB .qpStatusCplHeld q false)) ∧
  (∀ s (q : Fin 4), s.hostCe = true → s.qpEn q = false → s.qpFieldsOk q = false →
    exec (.qpEnable q) s = .next (s.setB .qpStatusCfgErr q true)) ∧
  (∀ s (q : Fin 4), s.hostCe = true → s.qpEn q = true →
    exec (.qpDisable q) s = .next ((s.setB .qpCtrlEn q false).setB .qpStatusCplHeld q (!(s.qp q).held.isEmpty))) ∧
  (∀ s (q : Fin 4), s.canServe q = true → exec (.commandFetchFail q) s = .next (s.setB .qpStatusFetchErr q true)) ∧
  (∀ s (q : Fin 4), s.hostCe = true → bit (s.raisedBits .qpStatus q) 2 = false →
    exec (.fetchErrClear q) s = .next (s.setB .qpStatusFetchErr q false)) ∧
  (∀ s (q : Fin 4), bit (s.raisedBits .qpStatus q) 2 = true → exec (.fetchErrClear q) s = .next s) ∧
  (∀ s (q : Fin 4) ws rest, (s.qp q).held = ws :: rest → s.qpEn q = true → s.served = true → s.pcie.linkUp = true →
    0 < s.rplFree q →
    exec (.completionReplyWrite q) s = .next (s.act fun s => (s.setQp q { s.qp q with held := rest }).writeReply q ws true))

/-- Once the device serves commands, a watchdog restart counts in WDOG_CNT, raises RESTART, ends every long command
INTERNAL (a CAL_RUN's slices are abandoned, a CAL_SAVE and a store of a guard key or a patch are cut), empties the
micro-stack and loads the stored patch where the engine had one; a microcode fault (a ninth nested call, a return with
no call, an uncorrectable control word) does the same and counts in UFAULT_CNT as well. A call and its return move the
micro-stack. What the micro-engine does at the row is a free value of the model (log entry 13). During the restart the
responder passes the command at a ring's head and answers it INTERNAL with ST_ACCEPT 0. When the engine is back
RESTART falls. -/
def Obligations.EngineRestartRows : Prop :=
  (∀ s, s.served = true → exec .watchdogRestart s = .next (s.act State.ceRestart)) ∧
  (∀ s : State, s.ceRestart =
    let t := ((s.bump .ceWdogCnt).setB .ceStatusRestart 0 true).ceCut
    ({ t with ce := { t.ce with ustack := [] } } : State).loadPatch (t.flag .ceUcodeVerPatched)) ∧
  (∀ s (b : BitVec 14), s.served = true → s.ce.micro = .call b → s.ce.ustack.length < 8 →
    exec .ucodeFaultRestart s = .next { s.microNext with ce := { s.microNext.ce with ustack := b :: s.ce.ustack } }) ∧
  (∀ s (b : BitVec 14) l, s.served = true → s.ce.micro = .ret → s.ce.ustack = b :: l →
    exec .ucodeFaultRestart s = .next { s.microNext with ce := { s.microNext.ce with ustack := l } }) ∧
  (∀ s, s.served = true → (s.ce.micro = .fetch true ∨ (s.ce.micro = .ret ∧ s.ce.ustack = []) ∨
      (∃ b, s.ce.micro = .call b ∧ 8 ≤ s.ce.ustack.length)) →
    exec .ucodeFaultRestart s = .next (s.act fun s => (s.microNext.bump .ceUfaultCnt).ceRestart)) ∧
  (∀ s, s.served = true → s.ce.micro = .fetch false → exec .ucodeFaultRestart s = .next s.microNext) ∧
  (∀ s : State, s.microNext = { s with
    fresh := s.fresh + 1
    ce := { s.ce with micro := microOp (Config.microNext s.fresh) } }) ∧
  (∀ s, s.served = false → exec .ucodeFaultRestart s = .next s) ∧
  (∀ s, s.flag .ceStatusRestart = true → (∀ l ∈ s.ce.longs, l.opcode ≠ 0x804) →
    exec .ceRestartEnd s = .next (s.setB .ceStatusRestart 0 false)) ∧
  (∀ s : State, (∀ l ∈ s.ce.longs, l.opcode ∉ [0x700, 0x701, 0x803, 0x804]) → s.ceCut = s.cutLongs 0xB) ∧
  (∀ s c, s.flag .ceStatusRestart = true → s.canServe c.qp = true →
    exec (.internalAnswer c) s = .next (s.act fun s =>
      (s.setQp c.qp { s.qp c.qp with
        head := ((s.qp c.qp).head + 1) % s.cmdLen c.qp
        fenced := none }).answer c 0xB 0 0 0 0 0))

/-- A start event accepts a start when the device is ARMED or RUNNING, no shot runs or is accepted, no start hold is in
force, 281 cycles have passed since the last start tick, the run is not stopped and SHOT_COUNT is not reached: the
tick is 32 cycles away, the start is counted, the device runs, and SHOT_SCHEDULE's tick goes with the last start of
the count. Otherwise STARTS_IGNORED counts, with THROTTLE_HOLD where the hold is the cause. A scheduled start decides
likewise 32 cycles before its tick. The start fetch, 31 cycles before the tick, clears the taint, the abort and the
record of the last shot's ends. The shadow sets committed before it are handed over, and the channels and tones that
take part are started for that tick. The start tick loads ST as the shot's time, counts SHOT_NUM, opens the shot's
journal packet, fires SHOT_START, and tells the DSP cores, the ACQ streams and the bias DACs; a trip still latched on
a part of the shot taints it, and an abort that met the accepted start takes effect there. -/
def Obligations.StartRows : Prop :=
  (∀ s, s.mayStart = true → exec .startEvent s = .next (s.act fun s => s.startMade)) ∧
  (∀ s : State, s.mayStart = true → s.startMade.dev = 4 ∧ s.startMade.shot.accepted = some (s.cyc + 32) ∧
    s.startMade.shot.started = s.shot.started + 1 ∧
    (s.shot.count = s.shot.started + 1 → s.startMade.shot.sched = none) ∧
    (s.shot.count ≠ s.shot.started + 1 → s.startMade.shot.sched = s.shot.sched)) ∧
  (∀ s, s.mayStart = false → s.startHeld = false → s.served = true →
    exec .startEvent s = .next (s.act fun s => s.bump .glbStartIgnored)) ∧
  (∀ s, s.mayStart = false → s.startHeld = true → s.dev = 3 ∨ s.dev = 4 →
    exec .startEvent s = .next (s.act fun s => (s.bump .glbStartIgnored).bump .thermThrottleHold)) ∧
  (∀ s t, s.shot.sched = some t → t = s.stIn 32 → s.mayStart = true →
    exec .scheduledStartDecision s = .next (s.act fun s =>
      State.startMade { s with shot := { s.shot with sched := none } })) ∧
  (∀ s t, s.shot.sched = some t → t = s.stIn 32 → s.mayStart = false → s.startHeld = false →
    exec .scheduledStartDecision s = .next (s.act fun s =>
      State.bump { s with shot := { s.shot with sched := none } } .glbStartIgnored)) ∧
  (∀ s, s.shot.accepted = some (s.cyc + 31) → exec .shotStartFetch s = .next (s.act (fires fun s =>
    let t : State := { s with shot := { s.shot with taint := 0, abort := none, ended := [], winEnd := 0 } }
    let tag := (t.fld .glbShotNumNum + 1) % 65536
    let t := forEach (t.och.map (·.1)) (fun n u => u.handOverFirst n) t
    let t := forEach t.shotChans (fun n u => u.startChan n (s.cyc + 31) tag) t
    forEach t.allTones (fun p u => u.startTone p.1 p.2 (s.cyc + 31)) t))) ∧
  (∀ s, s.shot.accepted = some s.cyc → exec .shotStartTick s = .next (s.act (fires fun s =>
    let s : State := { s with shot := { s.shot with
      accepted := none, running := true, startCyc := s.cyc, startSt := s.st.toNat, lastStart := some s.cyc } }
    let s := s.setF .glbShotNumNum 0 ((s.fld .glbShotNumNum + 1) % 2 ^ 48)
    let s := s.jrnStart (s.shotPacket 0)
    (s.signal prodShotStart).coreShotStart.acqShotStart.bdShotStart.guardShotStart.abortAtStart)))

/-- When every participating channel has finished and every window has closed, the shot ends: no shot runs, no abort and
no wait remains, the cycle of the end and the shot's length are recorded. A run that has had all its shots, or that
was stopped, returns to IDLE with its participation block discarded; another run stays RUNNING. Without an end due the
row changes nothing but the firings of the cycle. -/
def Obligations.ShotEnds : Prop :=
  (∀ s, s.shotOver = true → s.shotEndCyc ≤ s.cyc → ∃ t, exec (.shotEnd false) s = .next t ∧
    t.shot.running = false ∧ t.shot.abort = none ∧ t.waits = [] ∧
    t.shot.lastEnd = some s.shotEndCyc ∧ t.shot.length = s.shotEndCyc - s.shot.startCyc ∧
    (s.dev = 4 → s.runOver = true → t.dev = 2 ∧ t.shot.part = ⟨0, 0, 0⟩ ∧ t.shot.startEvt = none) ∧
    (s.dev = 4 → s.runOver = false → t.dev = 4 ∧ t.shot.part = s.shot.part)) ∧
  (∀ s, s.shotOver = false → exec (.shotEnd false) s = .next (s.act (fires id)))

/-- CH_OUTPUT, accepted, stores EN, MODE and FS_CODE and makes the output path follow, or stops the channel. CH_FDELAY
stores USER. SYN_CONFIG stores DIRECT and DIRECT_FMT. CH_ROLE stores the role and counts the role epoch; FLUX on an
output channel also sets BASEBAND and direct mode. BDAC_CONFIG stores its fields; a change of RANGE ramps the bias DAC
to code 0 on its way to the new range, with ACTIVE or without; else, without ACTIVE, it ramps to code 0 and parks, or
goes on with the ramp or park of a range change in progress, and sequencer mode unparks a bias DAC that is parked
outside a range change. BDAC_SLEW stores STEP and INTERVAL. BDAC_LIST_WRITE stores its codes in the list, whose words
are then good. -/
def Obligations.OutputCommandsApply : Prop :=
  (∀ s c, Accepted chOutputSpec c s → bit (pByte c 16) 0 = true → exec (.chOutput c) s = .next (s.act (done c fun s =>
    let n := indexOf c
    State.outChange (s.wr .ochOutCfg n (pBits c 16 1 2 + 4 + 256 * pByte c 17)) n
      (s.fld .ochOutCfgMode n != pBits c 16 1 2) (s.fld .ochOutCfgFsCode n != pByte c 17)))) ∧
  (∀ s c, Accepted chOutputSpec c s → bit (pByte c 16) 0 = false → exec (.chOutput c) s = .next (s.act (done c fun s =>
    (s.wr .ochOutCfg (indexOf c) (pBits c 16 1 2 + 256 * pByte c 17)).outStop (indexOf c) false))) ∧
  (∀ s c, Accepted chFdelaySpec c s → exec (.chFdelay c) s = .next (s.act (done c fun s =>
    s.setF .ochFdelayUser (indexOf c) (pNum c 16 2)))) ∧
  (∀ s c, Accepted synConfigSpec c s → exec (.synConfig c) s = .next (s.act (done c fun s =>
    s.wr .ochSynCfg (indexOf c) (pBits c 16 0 2)))) ∧
  (∀ s c, Accepted chRoleSpec c s → kindOf c = 1 → pBits c 16 0 3 ≠ 3 → exec (.chRole c) s =
    .next (s.act (done c fun s =>
      (s.setF .ochRoleEpochEpoch (indexOf c) (s.fld .ochRoleEpochEpoch (indexOf c) + 1)).setF
        .ochRoleEpochRole (indexOf c) (pBits c 16 0 3)))) ∧
  (∀ s c, Accepted chRoleSpec c s → kindOf c ≠ 1 → exec (.chRole c) s = .next (s.act (done c fun s =>
    (s.setF .rchRoleEpochEpoch (indexOf c) (s.fld .rchRoleEpochEpoch (indexOf c) + 1)).setF
      .rchRoleEpochRole (indexOf c) (pBits c 16 0 3)))) ∧
  (∀ s c, Accepted chRoleSpec c s → kindOf c = 1 → pBits c 16 0 3 = 3 → ∃ t, exec (.chRole c) s = .next t ∧
    t.fld .ochRoleEpochRole (indexOf c) = 3 ∧ t.fld .ochOutCfgMode (indexOf c) = 2 ∧
    t.flag .ochSynCfgDirect (indexOf c) = true) ∧
  (∀ s c, Accepted bdacConfigSpec c s → s.fld .bdacCfgRange (indexOf c) ≠ pBits c 16 0 1 → exec (.bdacConfig c) s =
    .next (s.act (done c fun s =>
      ((s.wr .bdacCfg (indexOf c) (pBits c 16 0 3)).wr .bdacSeq (indexOf c)
        (pBits c 24 0 7 + 256 * pBits c 25 0 2 + 65536 * pByte c 26 + 16777216 * pByte c 27)).bdRangeChange (indexOf c)
          (sgn 20 (pNum c 20 3))))) ∧
  (∀ s c, Accepted bdacConfigSpec c s → s.fld .bdacCfgRange (indexOf c) = pBits c 16 0 1 → bit (pByte c 16) 2 = false →
    exec (.bdacConfig c) s = .next (s.act (done c fun s =>
      let u := (s.wr .bdacCfg (indexOf c) (pBits c 16 0 3)).wr .bdacSeq (indexOf c)
        (pBits c 24 0 7 + 256 * pBits c 25 0 2 + 65536 * pByte c 26 + 16777216 * pByte c 27)
      if u.flag .bdacStatusRangeChange (indexOf c) = true ∧ (u.bd (indexOf c)).phase ≠ 3 then u
      else (u.bdNoChange (indexOf c)).bdRampPark (indexOf c)))) ∧
  (∀ s c, Accepted bdacConfigSpec c s → s.fld .bdacCfgRange (indexOf c) = pBits c 16 0 1 → bit (pByte c 16) 2 = true →
    exec (.bdacConfig c) s = .next (s.act (done c fun s =>
      let u := (s.wr .bdacCfg (indexOf c) (pBits c 16 0 3)).wr .bdacSeq (indexOf c)
        (pBits c 24 0 7 + 256 * pBits c 25 0 2 + 65536 * pByte c 26 + 16777216 * pByte c 27)
      if s.flag .bdacStatusParked (indexOf c) = true ∧ bit (pByte c 16) 1 = true ∧
          u.flag .bdacStatusRangeChange (indexOf c) = false then u.bdUnpark (indexOf c)
      else u))) ∧
  (∀ s c, Accepted bdacSlewSpec c s → exec (.bdacSlew c) s = .next (s.act (done c fun s =>
    s.wr .bdacSlew (indexOf c) (pNum c 16 4)))) ∧
  (∀ s c, Accepted bdacListWriteSpec c s → exec (.bdacListWrite c) s = .next (s.act (done c fun s =>
    (forEach (List.range (pNum c 18 2)) (fun i s => s.setBd (indexOf c) { s.bd (indexOf c) with
      list := SMap.put 0 (s.bd (indexOf c)).list (pByte c 16 + i) (BitVec.ofNat 20 (bufNat (bufOf c) (4 * i) 4)) })
        s).cleanBank 13 (indexOf c) (pByte c 16) (pByte c 16 + pNum c 18 2))))

/-- An ENABLING channel that is in no calibration slice, and whose mute has passed, becomes LIVE; a RANGE_MUTE one becomes
LIVE after its 2 µs. A tile that is hot shows TILE_OT on its channels and latches TILE_OT_SEEN; cool again, TILE_OT
falls and the latch stays. A write of TARGET that the bias DAC takes stores it, abandons a calibration slice, unparks
and ramps there; one it does not take counts IGNORED, also in OFF, in DAWN and in FAULT where the page takes no write.
A step of the slew limiter is made when it is due, and not while tripped. A held update and a deglitched code reach
the output when their time has come. After 50 µs a range change unparks and ramps to its code, or stays parked without
ACTIVE. A bias stage that turns hot gives up a range change, parks and trips. -/
def Obligations.OutputRows : Prop :=
  (∀ s (n : Fin 96), s.outState n = 1 → (s.chan n).enableFrom ≤ s.cyc → s.inSlice 0 n = false → s.inSlice 1 n = false →
    ∃ t, exec (.outputEnableDone n) s = .next t ∧ t.outState n = 2 ∧ (t.calUnit 0 n).restore = false ∧
      (t.calUnit 1 n).restore = false ∧ RegsKept [.ochOutStatus] s t) ∧
  (∀ s (n : Fin 96), s.outState n = 3 → (s.chan n).rangeMute ≤ s.cyc →
    exec (.rangeMuteDone n) s = .next (s.act fun s =>
      (s.setF .ochOutStatusState n 2).updChan n fun o => { o with enabling := s.cyc })) ∧
  (∀ s (tile : Fin 24) (hot : Bool), exec (.tileOvertemp tile hot) s = .next (s.act fun s =>
    forEach (((List.range 4).map (4 * tile.val + ·)).filter s.hasOch) (fun n s =>
      if hot then (s.setB .ochOutStatusTileOt n true).setB .ochOutStatusTileOtSeen n true
      else s.setB .ochOutStatusTileOt n false) s)) ∧
  (∀ s (k : Fin 48) (v : Word), s.hostPage 3 = true → s.bdTargetOk k = true →
    exec (.bdacTargetWrite k v) s = .next (s.act fun s =>
      let u := (s.wr .bdacTarget k (v.toNat % 2 ^ 20)).sliceAbandon 3 k
      let w := (u.bdUnpark k).setBd k { u.bd k with parkAfter := false }
      w.bdRamp k (sgn 20 v.toNat) (w.now10 + (if u.flag .bdacStatusParked k then 200000 else 0) + w.bdInterval k))) ∧
  (∀ s (k : Fin 48) (v : Word), s.hostPage 3 = true → s.bdTargetOk k = false →
    exec (.bdacTargetWrite k v) s = .next (s.bump .bdacIgnored k)) ∧
  (∀ s (k : Fin 48) (v : Word), s.hostPage 3 = false → s.dev = 0 ∨ s.dev = 1 ∨ s.dev = 7 →
    exec (.bdacTargetWrite k v) s = .next (s.bump .bdacIgnored k)) ∧
  (∀ s (k : Fin 48) (t : Nat), (s.bd k).nextStep = some t → t ≤ s.now10 + 15 → s.bdTripped k = false →
    (s.bd k).parkAfter = false → (s.bd k).phase = 0 → (s.bd k).fastStep = 0 → s.bdCode k < (s.bd k).goal →
    (s.setBd k { s.bd k with nextStep := some (t + s.bdInterval k) }).bdBreach k
      (min (s.bd k).goal (s.bdCode k + (s.fld .bdacSlewStep k : Int))) t = 0 →
    s.bdCode k + (s.fld .bdacSlewStep k : Int) < (s.bd k).goal →
    exec (.bdacSlewStep k) s = .next (s.act (fires fun s =>
      (s.setBd k { s.bd k with nextStep := some (t + s.bdInterval k) }).bdApply k
        (s.bdCode k + (s.fld .bdacSlewStep k : Int)) t))) ∧
  (∀ s (k : Fin 48) (code : Int) (t : Nat) (rest : List (Nat × Int)), (s.bd k).held = (t, code) :: rest →
    t ≤ s.now10 + 15 → exec (.bdacHoldRelease k) s = .next (s.act (fires fun s =>
      (s.setBd k { s.bd k with held := rest }).bdSeqApply k code t))) ∧
  (∀ s (k : Fin 48) (code : Int) (t : Nat), (s.bd k).degl = some (code, t) → t ≤ s.now10 + 15 →
    (s.bd k).parkAfter = false → exec (.deglitchEnd k) s = .next (s.act fun s =>
      ((s.setBd k { s.bd k with degl := none }).setB .bdacStatusDeglitch k false).bdApply k code t)) ∧
  (∀ s (k : Fin 48), (s.bd k).phase = 2 → (s.bd k).parkEnd ≤ s.now10 + 15 → (s.bd k).rampCode ≠ 0 →
    s.flag .bdacCfgActive k = true → exec (.bdacParkEnd k) s = .next (s.act fun s =>
      let u := ((s.setBd k { s.bd k with phase := 3 }).sliceAbandon 3 k).bdUnpark k
      u.bdRamp k (s.bd k).rampCode (u.now10 + 200000 + u.bdInterval k))) ∧
  (∀ s (k : Fin 48), (s.bd k).phase = 2 → (s.bd k).parkEnd ≤ s.now10 + 15 → s.flag .bdacCfgActive k = false →
    exec (.bdacParkEnd k) s = .next (s.act fun s => s.bdNoChange k)) ∧
  (∀ s (k : Fin 48), s.flag .bdacStatusOt k = false → exec (.bdacOvertemp k true) s = .next (s.act (fires fun s =>
    ((((s.setB .bdacStatusOt k true).bdNoChange k).bdPark k).setB .bdacStatusOtSeen k true).bdTrip k 4))) ∧
  (∀ s (k : Fin 48), exec (.bdacOvertemp k false) s = .next (s.act (fires fun s => s.setB .bdacStatusOt k false)))

/-- A write of a limit stores its field bits; on a locked Guard one that would loosen a limit changes nothing and counts
RAISE_REFUSED. A write of LOCK with bit 0 locks. A write of FORCE trips each named channel of the device with cause
FORCE. A write of TRIP or BTRIP asks for the release of each named trip. -/
def Obligations.GuardRowsAct : Prop :=
  (∀ s (l : Fin 6) (i : Fin 96) (v : Word), s.hostGuard = true → s.limitPresent (Limit.ofFin l) i = true →
    s.flag .guardLockLocked = false ∨
      (Limit.ofFin l).loosens (s.rd (Limit.ofFin l).reg i) (v.toNat &&& (Limit.ofFin l).mask) = false →
    exec (.guardLimitWrite l i v) s = .next (s.wr (Limit.ofFin l).reg i (v.toNat &&& (Limit.ofFin l).mask))) ∧
  (∀ s (l : Fin 6) (i : Fin 96) (v : Word), s.hostGuard = true → s.limitPresent (Limit.ofFin l) i = true →
    s.flag .guardLockLocked = true →
    (Limit.ofFin l).loosens (s.rd (Limit.ofFin l).reg i) (v.toNat &&& (Limit.ofFin l).mask) = true →
    exec (.guardLimitWrite l i v) s = .next (s.bump .guardRaiseRefused)) ∧
  (∀ s (v : Word), s.hostGuard = true → bit v.toNat 0 = true →
    exec (.guardLock v) s = .next (s.setB .guardLockLocked 0 true)) ∧
  (∀ s (w : Fin 3) (v : Word), s.hostGuard = true → exec (.guardForce w v) s = .next (s.act (fires fun s =>
    forEach (((setBits v.toNat 32).map (32 * w.val + ·)).filter s.hasOch) (fun n s =>
      (s.wr .guardForce (n / 32) (setBit (s.rd .guardForce (n / 32)) (n % 32) true)).guardTrip n 8) s))) ∧
  (∀ s (w : Fin 3) (v : Word), s.hostGuard = true → exec (.guardTripRelease w v) s = .next (s.act fun s =>
    forEach (((setBits v.toNat 32).map (32 * w.val + ·)).filter s.hasOch) (fun n s => s.guardRelease n) s)) ∧
  (∀ s (w : Fin 2) (v : Word), s.hostGuard = true → exec (.bdacTripRelease w v) s = .next (s.act fun s =>
    forEach (((setBits v.toNat 32).map (32 * w.val + ·)).filter (fun k => decide (k < 48)))
      (fun k s => s.guardBrelease k) s))

/-- A trip of an output channel that is not tripped latches its TRIP bit and its causes, mutes the channel in the same
cycle, and counts in TRIP_CNT up to the counter's last value; on a channel that is already tripped it only adds
causes. A release of a latched trip, later than the cycle of the trip, clears the TRIP bit, the FORCE bit and the
causes and unmutes; while the RMS or the duty window is still above its limit it counts CLEAR_REFUSED and the trip
stays. -/
def Obligations.TripLatches : Prop :=
  (∀ (s : State) (n causes : Nat), n < 96 → causes < 16 → s.guardTripped n = false →
    (s.guardTrip n causes).guardTripped n = true ∧ (s.guardTrip n causes).flag .ochOutStatusGuardMuted n = true ∧
    (s.guardTrip n causes).rd .guardCause n = (s.rd .guardCause n ||| causes) % 2 ^ 32 ∧
    (s.guardTrip n causes).rd .guardTripCnt = satAdd32 (s.rd .guardTripCnt) 1) ∧
  (∀ (s : State) (n causes : Nat), n < 96 → causes < 16 → s.guardTripped n = true →
    s.guardTrip n causes = s.wr .guardCause n (s.rd .guardCause n ||| causes)) ∧
  (∀ (s : State) (n : Nat), n < 96 → s.guardTripped n = true → SMap.get 0 s.tripAt n ≠ s.cyc + 1 →
    s.rmsBreach n = false → s.dutyBreach n = false →
    (s.guardRelease n).guardTripped n = false ∧ (s.guardRelease n).flag .ochOutStatusGuardMuted n = false ∧
    (s.guardRelease n).rd .guardCause n = 0 ∧ bit ((s.guardRelease n).rd .guardForce (n / 32)) (n % 32) = false) ∧
  (∀ (s : State) (n : Nat), s.guardTripped n = true → SMap.get 0 s.tripAt n ≠ s.cyc + 1 →
    (s.rmsBreach n = true ∨ s.dutyBreach n = true) → s.guardRelease n = s.bump .guardClearRefused)

/-- FRAME_WRITE and FRAME_VZ_ADD, accepted, put one operation at the end of the frame's pending queue: fields named by a
mask, or a delta for VZ, at once or at an ST. FRAME_READ and TSET_READ return the stored words and change nothing.
TSET_WRITE stores the three words of a set. MRK_CLAIM stores the pin's settings, starts it inactive, and a claim for
an event channel binds that channel to the pin. MRK_RELEASE frees an owned pin. A pulse that has ended leaves the pin
inactive. -/
def Obligations.FrameAndMarkerCommands : Prop :=
  (∀ s c, Accepted frameWriteSpec c s → exec (.frameWrite c) s = .next (s.act (done c fun s =>
    s.frameEnter (kindOf c == 2) (indexOf c)
      ⟨slice (pNum c 16 2) 0 9, false, pBits c 18 0 5, BitVec.ofNat 128 (pNum c 32 16), 0, frameAt c, s.cyc⟩))) ∧
  (∀ s c, Accepted frameVzAddSpec c s → exec (.frameVzAdd c) s = .next (s.act (done c fun s =>
    s.frameEnter (kindOf c == 2) (indexOf c) ⟨slice (pNum c 16 2) 0 9, true, 0, 0, pNum c 32 4, frameAt c, s.cyc⟩))) ∧
  (∀ s c, Accepted frameReadSpec c s → exec (.frameRead c) s = .next (s.act (
    let x := (s.frame (kindOf c == 2) (indexOf c) (slice (pNum c 16 2) 0 9)).toNat
    doneWith c (slice x 0 32) (slice x 32 32) (slice x 64 64) id))) ∧
  (∀ s c, Accepted tsetWriteSpec c s → exec (.tsetWrite c) s = .next (s.act (done c fun s =>
    forEach [0, 1, 2] (fun w s => s.updChan (indexOf c) fun o =>
      { o with tsets := SMap.put 0 o.tsets (3 * pBits c 16 0 3 + w) (BitVec.ofNat 32 (pNum c (20 + 4 * w) 4)) }) s))) ∧
  (∀ s c, Accepted tsetReadSpec c s → exec (.tsetRead c) s = .next (s.act (
    let w := fun k => (SMap.get 0 (s.chan (indexOf c)).tsets (3 * pBits c 16 0 3 + k)).toNat
    doneWith c (w 0) (w 1) (w 2) id))) ∧
  (∀ s c, Accepted mrkClaimSpec c s → pBits c 16 0 2 ≠ 2 → exec (.mrkClaim c) s = .next (s.act (done c fun s =>
    (s.wr .mrkCfg (indexOf c) (pBits c 16 0 2 + 4 * pBits c 17 0 1 + 16 * slice (pNum c 18 2) 0 8 +
      4096 * pBits c 20 0 2 + 65536 * pByte c 21 + 16777216 * pByte c 22)).setPin (indexOf c) Pin.init))) ∧
  (∀ s c, Accepted mrkClaimSpec c s → pBits c 16 0 2 = 2 → exec (.mrkClaim c) s = .next (s.act (done c fun s =>
    ((s.wr .mrkCfg (indexOf c) (2 + 4 * pBits c 17 0 1 + 16 * slice (pNum c 18 2) 0 8 +
      4096 * pBits c 20 0 2 + 65536 * pByte c 21 + 16777216 * pByte c 22)).setPin (indexOf c) Pin.init).bindChannel
        (pNum c 18 2) (0x320 + indexOf c)))) ∧
  (∀ s c, Accepted mrkReleaseSpec c s → exec (.mrkRelease c) s = .next (s.act (done c fun s =>
    if s.fld .mrkCfgKind (indexOf c) = 0 then s else s.pinFree (indexOf c)))) ∧
  (∀ s (m : Fin 48) u, (s.pin m).pulseEnd = some u → u / 256 ≤ s.cyc → exec (.mrkPulseEnd m) s = .next (s.act fun s =>
    let s := s.pinEdge m u false
    s.setPin m { s.pin m with pulseEnd := none })) ∧
  (∀ s (m : Fin 48), (s.pin m).pulseEnd = none → exec (.mrkPulseEnd m) s = .next s)

/-- DEC_CLEAR, accepted, clears VALID of each slot of its span, and counts each decision that no counter had counted as
superseded. DEC_ASSIGN does the same and gives each slot its owner and a new assignment epoch; a write of the old
epoch that arrives in the same cycle meets the new one at the cycle's end, and is stale. FB_CONFIG stores the sync
group, and for an output channel also the lanes and WAIT_MAX. -/
def Obligations.DecisionFileCommands : Prop :=
  (∀ s c, Accepted decClearSpec c s → exec (.decClear c) s = .next (s.act (done c fun s =>
    forEach ((List.range (pNum c 16 2)).map (indexOf c + ·)) (fun k s => s.decRemove k) s))) ∧
  (∀ s c, Accepted decAssignSpec c s → exec (.decAssign c) s = .next (s.act (done c fun s =>
    forEach ((List.range (pNum c 16 2)).map (indexOf c + ·)) (fun k s =>
      let s := s.decRemove k
      s.setSlot k { s.slot k with
        epoch := (s.slot k).epoch + 1, owner := slice (pByte c 18) 0 6, assigned := true }) s))) ∧
  (∀ s c, Accepted fbConfigSpec c s → kindOf c = 1 → exec (.fbConfig c) s = .next (s.act (done c fun s =>
    s.wr .ochFbCfg (indexOf c) (pBits c 16 0 5 + 32 * pBits c 17 0 1 + 256 * pBits c 18 0 4 +
      65536 * slice (pNum c 20 2) 0 13)))) ∧
  (∀ s c, Accepted fbConfigSpec c s → kindOf c ≠ 1 → exec (.fbConfig c) s = .next (s.act (done c fun s =>
    s.wr .rchFbCfg (indexOf c) (pBits c 16 0 5 + 32 * pBits c 17 0 1))))

/-- SEQ_CONFIG, accepted, stores the settings and the start entries of the eight voices. SEQ_WRITE and COND_WRITE write
the entries of their span, in order. STREAM_DESC_WRITE stores the descriptor. STREAM_OPEN opens the stream at its
start and adds its rate to RESERVED and one to OPEN; STREAM_CLOSE of an open stream takes them back, and of none
changes nothing. -/
def Obligations.TableCommandsApply : Prop :=
  (∀ s c, Accepted seqConfigSpec c s → exec (.seqConfig c) s = .next (s.act (done c fun s =>
    ((((s.wr .ochSeqCfg (indexOf c) (pNum c 16 4)).wr .ochVstart01 (indexOf c) (pNum c 20 4)).wr
      .ochVstart23 (indexOf c) (pNum c 24 4)).wr .ochVstart45 (indexOf c) (pNum c 28 4)).wr
        .ochVstart67 (indexOf c) (pNum c 32 4)))) ∧
  (∀ s c, Accepted seqWriteSpec c s → exec (.seqWrite c) s = .next (s.act (done c fun s =>
    forEach (List.range (pNum c 18 2)) (fun i s =>
      s.tblWrite (indexOf c) 0 (pNum c 16 2 + i) (bufNat (bufOf c) (16 * i) 16)) s))) ∧
  (∀ s c, Accepted condWriteSpec c s → exec (.condWrite c) s = .next (s.act (done c fun s =>
    forEach (List.range (pNum c 18 2)) (fun i s =>
      s.tblWrite (indexOf c) 1 (pNum c 16 2 + i) (bufNat (bufOf c) (64 * i) 64)) s))) ∧
  (∀ s c, Accepted streamDescWriteSpec c s → exec (.streamDescWrite c) s = .next (s.act (done c fun s =>
    State.cleanBank { s with descs := SMap.put 0 s.descs (indexOf c) (BitVec.ofNat 256 (pNum c 16 32)) }
      12 0 (4 * indexOf c) (4 * indexOf c + 4)))) ∧
  (∀ s c, Accepted streamOpenSpec c s → exec (.streamOpen c) s = .next (s.act (done c fun s =>
    let rate := fmtRate (State.descFormat (s.desc (pNum c 16 2)))
    let s := (s.setF .ochStrmStatusDesc (indexOf c) (pNum c 16 2)).setB .ochStrmStatusOpen (indexOf c) true
    let s := s.setF .glbStrmAdmitReserved 0 (s.fld .glbStrmAdmitReserved + rate)
    (s.setF .glbStrmAdmitOpen 0 (s.fld .glbStrmAdmitOpen + 1)).strmRewind (indexOf c)))) ∧
  (∀ s c, Accepted streamCloseSpec c s → s.strmOpen (indexOf c) = true →
    exec (.streamClose c) s = .next (s.act (done c fun s =>
      let rate := fmtRate (State.descFormat (s.openDesc (indexOf c)))
      let s := (s.strmRewind (indexOf c)).setB .ochStrmStatusOpen (indexOf c) false
      let s := s.setF .glbStrmAdmitReserved 0 (s.fld .glbStrmAdmitReserved - rate)
      s.setF .glbStrmAdmitOpen 0 (s.fld .glbStrmAdmitOpen - 1)))) ∧
  (∀ s c, Accepted streamCloseSpec c s → s.strmOpen (indexOf c) = false →
    exec (.streamClose c) s = .next (s.act (done c id)))

/-- A write of TBL_DATA short of an entry's last word is staged; the last word writes the whole entry, unless the entry is
active, which refuses the write and records it. A void access writes nothing and reads zero; a read returns the
addressed word, or zero while the channel's group is off. AUTOINC moves the address on. A write of JUMP_REQ posts a
request to each named voice. A shadow write stores the register. A commit marks each named set with its token; outside
a shot the hand-over comes in the next cycle. -/
def Obligations.SequencerWindowRows : Prop :=
  (∀ s (n : Fin 96) (v : Word), s.hostOch n = true → s.tblVoid n = true → exec (.tblDataWrite n v) s = .next s) ∧
  (∀ s (n : Fin 96) (v : Word), s.hostOch n = true → s.tblVoid n = false →
    s.fld .ochTblAddrWord n ≠ tblLast (s.fld .ochTblAddrTable n) →
    exec (.tblDataWrite n v) s = .next (s.act fun s =>
      (s.updChan n fun o => { o with stage := SMap.put 0 o.stage (s.fld .ochTblAddrWord n) v }).tblAdvance n)) ∧
  (∀ s (n : Fin 96) (v : Word), s.hostOch n = true → s.tblVoid n = false →
    s.fld .ochTblAddrTable n = 0 → s.fld .ochTblAddrWord n = 3 → s.groupOn n = true →
    exec (.tblDataWrite n v) s = .next (s.act fun s =>
      let i := s.fld .ochTblAddrIndex n
      let t := s.updChan n fun o => { o with stage := SMap.put 0 o.stage 3 v }
      let words := (List.range 4).map (fun k => (SMap.get 0 (t.chan n).stage k).toNat)
      let t := t.updChan n fun o => { o with stage := [] }
      State.tblAdvance (if t.targetActive n 0 i then t.writeRefused n i 0 0
        else t.tblWrite n 0 i (words.foldr (fun x a => x + 2 ^ 32 * a) 0)) n)) ∧
  (∀ s (n : Fin 96), s.hostOch n = true → s.tblVoid n = true → exec (.tblDataRead n) s = .next (s.returns 0)) ∧
  (∀ s (n : Fin 96), s.hostOch n = true → s.tblVoid n = false → s.groupOn n = true →
    exec (.tblDataRead n) s = .next (s.act fun s => (s.tblAdvance n).returns
      (slice (s.tblEntry n (s.fld .ochTblAddrTable n) (s.fld .ochTblAddrIndex n)) (32 * s.fld .ochTblAddrWord n) 32))) ∧
  (∀ s (n : Fin 96), s.hostOch n = true → s.tblVoid n = false → s.groupOn n = false →
    exec (.tblDataRead n) s = .next (s.act fun s => (s.tblAdvance n).returns 0)) ∧
  (∀ s (n : Fin 96) (v : Word), s.hostOch n = true → exec (.jumpReqWrite n v) s = .next (s.act fun s =>
    forEach (setBits (slice v.toNat 0 8) 8) (fun v s => s.asyncOne n v) s)) ∧
  (∀ s (n : Fin 96) (w : Fin 11) (v : Word), s.hostOch n = true →
    exec (.shdWrite n w v) s = .next (s.act fun s => s.shadowWrite n w v.toNat)) ∧
  (∀ s (n : Fin 96) (v : Word), s.hostOch n = true → exec (.shdCommit n v) s = .next (s.act fun s =>
    forEach (setBits (slice v.toNat 16 9) 9) (fun set s =>
      let again := s.committedNow n set
      let merged := s.committed n set && (!s.handedNow n set || again)
      let s := if merged then s.bumpHeld .ochShdMerged n else s
      let s := s.updChan n fun o => { o with
        token := SMap.put 0 o.token set (slice v.toNat 0 16)
        tokenOld := if again then o.tokenOld else SMap.put 0 o.tokenOld set (SMap.get 0 o.token set)
        commitAt := if merged then o.commitAt else SMap.put 0 o.commitAt set s.cyc
        lastAt := SMap.put 0 o.lastAt set (s.cyc + 1) }
      let s := s.setCommitted n set true
      if s.shotOn then s else s.after (s.cyc + 1) (.handOver n set)) s))

/-- A segment boundary of a voice hands over its committed shadow set, and the lead voice the channel's as well, and then
makes the voice's choice; a boundary of its Mayfly lane makes the lane's choice. The end of an END_SHOT segment hands
nothing over. The boundary at which a speculation resolves makes the selected rendering the voice's and frees the
other's datapath. A wait whose conditions have been resolved for four cycles ends. A condition that waits at its limit
is looked at once more at the end of the limit's cycle: with its inputs still not ready it takes the default, counts
in WAIT_TIMEOUT and is late. At a granule boundary the frame operations apply, the voices render, and the granule
passes the multiplexer. A stream block that the fetch awaits is buffered as DRAM holds it. A channel still playing 10
µs after a host or Dusk abort stops. -/
def Obligations.SequencerRows : Prop :=
  (∀ s (n : Fin 96) (v : Fin 8) c, (s.voice n v).chain = some c → c.stop = s.cyc → c.ended = false → c.held = false →
    s.frozenAt n = none → segMode c.seg ≠ 4 → exec (.segmentBoundary n v false .clean) s = .next (s.act (fires fun s =>
      let s := s.handOverAt n v
      let s := if s.leadVoice n = v then s.handOverAt n 8 else s
      (s.pushHist n v false c).boundary n v false c))) ∧
  (∀ s (n : Fin 96) (v : Fin 8) c, (s.voice n v).chain = some c → c.stop = s.cyc → c.ended = false → c.held = false →
    s.frozenAt n = none → segMode c.seg = 4 → exec (.segmentBoundary n v false .clean) s = .next (s.act (fires fun s =>
      (s.pushHist n v false c).setChain n v false { c with ended := true }))) ∧
  (∀ s (n : Fin 96) (v : Fin 8) p, (s.voice n v).spec = some p → p.lane.stop = s.cyc → p.lane.ended = false →
    p.lane.held = false → s.frozenAt n = none → exec (.segmentBoundary n v true .clean) s = .next (s.act (fires fun s =>
      (s.pushHist n v true p.lane).boundary n v true p.lane))) ∧
  (∀ s (n : Fin 96) (v : Fin 8) p, (s.voice n v).spec = some p → p.bound = s.cyc → p.result = some (some true) →
    exec (.specSelect n v .clean) s = .next (s.act (fires fun s =>
      let s := s.setVoice n v { s.voice n v with
        chain := some { p.lane with lates := p.lane.lates.filter (fun l => l.pol == 2) }
        granules := (s.voice n v).granules.filter (fun g => decide (g.mux < s.cyc)) ++ p.granules
        hist := p.hist, spec := none }
      let s := s.updChan n fun o => { o with freed := s.cyc :: o.freed.filter (fun c => decide (s.cyc ≤ c)) }
      s.actLates n v p.lane.lates))) ∧
  (∀ s (n : Fin 96) (v : Fin 8) p c, (s.voice n v).spec = some p → p.bound = s.cyc → p.result = some (some false) →
    (s.voice n v).chain = some c →
    exec (.specSelect n v .clean) s = .next (s.act (fires fun s =>
      let s := s.setVoice n v { s.voice n v with
        chain := some { c with lates := c.lates.filter (fun l => l.pol == 2) }, spec := none }
      let s := s.updChan n fun o => { o with freed := s.cyc :: o.freed.filter (fun c => decide (s.cyc ≤ c)) }
      s.actLates n v c.lates))) ∧
  (∀ s (n : Fin 96) (v : Fin 8) p c, (s.voice n v).spec = some p → p.bound = s.cyc → p.result = some none →
    p.late ≠ 2 → (s.voice n v).chain = some c →
    exec (.specSelect n v .clean) s = .next (s.act (fires fun s =>
      let s := s.setVoice n v { s.voice n v with
        chain := some { c with lates := c.lates.filter (fun l => l.pol == 2) }, spec := none }
      let s := s.updChan n fun o => { o with freed := s.cyc :: o.freed.filter (fun c => decide (s.cyc ≤ c)) }
      (s.lateDefault n p.late).actLates n v c.lates))) ∧
  (∀ s (k : Fin 128) w c, (∀ n ∈ s.waitMembers k, ∀ x, s.waitOf (s.waitKey n) = some x → x.conds.all
      (fun q => q.result.isSome) = true) → s.waitOf k = some w → waitReady w = some c → w.resume = none →
    max (c + 4) (w.entered + 1) = s.cyc → exec (.waitResume k) s = .next (s.act (fires fun s => s.resumeWait k w))) ∧
  (∀ s (n : Fin 96) (v : Fin 8) q, s.atWaitLimit n v = some q →
    exec (.waitTimeout n v) s = .next (s.act (fires fun s => s.after s.cyc (.waitLimit n v)))) ∧
  (∀ s (n : Fin 96) (v : Fin 8), s.atWaitLimit n v = none → exec (.waitTimeout n v) s = .next (s.act (fires id))) ∧
  (∀ (s : State) (n v : Nat) q, (s.resolveReady n).atWaitLimit n v = some q → s.laterOne (.waitLimit n v) =
    ((((s.resolveReady n).resolve ((s.resolveReady n).waitKey n) q false
      (min (s.resolveReady n).cyc ((s.resolveReady n).waitBound n))).lateDefault n 1).bump .ochWaitTimeout n)) ∧
  (∀ s (n : Fin 96), s.hasOch n = true → (s.chan n).lastGran ≠ s.cyc + 1 →
    exec (.granuleBoundary n .clean) s = .next (s.act (fires fun s =>
      let s := s.updChan n fun o => { o with lastGran := s.cyc + 1 }
      let s := (s.frameApply false n (s.stIn 31)).resolveReady n
      let s := forEach (List.range 8) (fun v s => s.renderVoice n v) s
      let s := forEach (List.range 8) (fun v s => s.lateAbort n v) s
      (s.stopHere n).passMux n))) ∧
  (∀ s (n : Fin 96), (s.chan n).lastGran = s.cyc + 1 →
    exec (.granuleBoundary n .clean) s = .next (s.act (fires id))) ∧
  (∀ s (n : Fin 96) (k : Nat), s.strmOpen n = true → k = (s.chan n).strm.to_ → s.bufLevel n < 512 →
    tapeOver (s.openDesc n) (k * fmtPerBlock (descFormat (s.openDesc n))) = false →
    s.bar2On (dramAddr (64 * (descBase (s.openDesc n) + tapeBlock (s.openDesc n) k))) = true → s.groupOn n = true →
    s.bar2Bad (dramAddr (64 * (descBase (s.openDesc n) + tapeBlock (s.openDesc n) k))) 64 = false →
    exec (.streamFetchArrival n k .clean) s = .next (s.act (fires fun s => State.cleanBank (row := 5) (inst := n) (lo := 8 * (k % 512)) (hi := 8 * (k % 512) + 8) (s.setStrm n { (s.chan n).strm with
      to_ := k + 1
      data := SMap.put 0 (s.chan n).strm.data k (BitVec.ofNat 512 (leNat (Memory.readBytes s.mem.bytes
        (dramAddr (64 * (descBase (s.openDesc n) + tapeBlock (s.openDesc n) k))) 64))) })))) ∧
  (∀ s (n : Fin 96) cause c, s.shot.abort = some (cause, c) → cause = 2 ∨ cause = 3 → (s.chan n).stopping = true →
    c + 6250 < s.cyc → exec (.abortStopLimit n) s = .next (s.act (fires fun s => s.stopChan n)))

/-- At a sequencer boundary a SEQ segment goes to NEXT. A sampled async request sends an ASYNC segment to ALT and is used
up; without one it goes to NEXT. A loop counter at zero is reloaded and the voice goes to NEXT; otherwise it counts
down and goes to ALT. A sampled event sends a WAIT_EVENT segment to NEXT; without one it plays again while plays
remain, and goes to ALT after the last, counting an event that came too late. END_SHOT ends the chain, and fetches
nothing more. -/
def Obligations.SuccessorRule : Prop :=
  ∀ (s : State) (n v : Nat) (lane : Bool) (c : Chain),
    (segMode c.seg = 0 → s.boundary n v lane c = s.goTo n v lane c (segNext c.seg)) ∧
    (segMode c.seg = 2 → s.sampled c.async = true →
      s.boundary n v lane c = s.goTo n v lane { c with async := none } (segAlt c.seg)) ∧
    (segMode c.seg = 2 → s.sampled c.async = false → s.boundary n v lane c = s.goTo n v lane c (segNext c.seg)) ∧
    (segMode c.seg = 3 → c.loops.getD (segLctr c.seg) 0 = 0 → s.boundary n v lane c =
      s.goTo n v lane { c with loops := c.loops.set (segLctr c.seg) (s.actLoad n (segLctr c.seg)) } (segNext c.seg)) ∧
    (segMode c.seg = 3 → c.loops.getD (segLctr c.seg) 0 ≠ 0 → s.boundary n v lane c =
      s.goTo n v lane { c with loops := c.loops.set (segLctr c.seg) (c.loops.getD (segLctr c.seg) 0 - 1) }
        (segAlt c.seg)) ∧
    (segMode c.seg = 5 → s.sampled c.event = true → s.boundary n v lane c = s.goTo n v lane c (segNext c.seg)) ∧
    (segMode c.seg = 5 → s.sampled c.event = false → c.plays < segRepeat c.seg → s.boundary n v lane c =
      s.setChain n v lane { c with
        start := s.cyc, pos := 0, stop := s.cyc + segLen c.seg, plays := c.plays + 1, spos := c.sposAt c.stop, part := s.cyc }) ∧
    (segMode c.seg = 5 → s.sampled c.event = false → segRepeat c.seg ≤ c.plays → s.boundary n v lane c =
      (if c.event.isSome then s.bump .ochReqDrop n else s).goTo n v lane c (segAlt c.seg)) ∧
    (segMode c.seg = 4 → s.boundary n v lane c = s.setChain n v lane { c with ended := true })

/-- RX_CONFIG, accepted, stores EN, MODE and OVR_HOLD; cleared EN turns the channel OFF, set EN of an OFF channel starts
20 µs of settling, and a change of MODE settles a LIVE channel 5 µs. TONE_WRITE stores its descriptors, and counts the
tones' epochs where it is told to. KERNEL_WRITE stores its taps. TONE_READ writes the descriptor's 64 bytes to the
host. ACQ_CONFIG stores its eight words and marks the unit configured. ACQ_START lets each named unit leave STOPPED
with an empty ring; ACQ_STOP stops each with cause 1. -/
def Obligations.ReceiveCommandsApply : Prop :=
  (∀ s c, Accepted rxConfigSpec c s → bit (pByte c 16) 0 = false → exec (.rxConfig c) s = .next (s.act (done c fun s =>
    (s.wr .rchRxCfg (indexOf c) (2 * ofBool (bit (pByte c 16) 1) + 256 * pBits c 17 0 6)).setF
      .rchRxStatusState (indexOf c) 0))) ∧
  (∀ s c, Accepted rxConfigSpec c s → bit (pByte c 16) 0 = true → s.rxState (indexOf c) = 0 →
    exec (.rxConfig c) s = .next (s.act (done c fun s =>
      ((s.wr .rchRxCfg (indexOf c) (1 + 2 * ofBool (bit (pByte c 16) 1) + 256 * pBits c 17 0 6)).setF
        .rchRxStatusState (indexOf c) 1).updRchan (indexOf c) fun q => { q with settle := s.cyc + 12500 }))) ∧
  (∀ s c, Accepted rxConfigSpec c s → bit (pByte c 16) 0 = true → s.rxState (indexOf c) = 2 →
    s.flag .rchRxCfgMode (indexOf c) ≠ bit (pByte c 16) 1 →
    exec (.rxConfig c) s = .next (s.act (done c fun s =>
      ((s.wr .rchRxCfg (indexOf c) (1 + 2 * ofBool (bit (pByte c 16) 1) + 256 * pBits c 17 0 6)).setF
        .rchRxStatusState (indexOf c) 1).updRchan (indexOf c) fun q => { q with settle := s.cyc + 3125 }))) ∧
  (∀ s c, Accepted toneWriteSpec c s → bit (pByte c 18) 0 = false →
    exec (.toneWrite c) s = .next (s.act (done c fun s =>
      forEach (List.range (pByte c 17)) (fun i s =>
        (s.updRchan (indexOf c) fun q => { q with
          descs := SMap.put 0 q.descs (pByte c 16 + i) (BitVec.ofNat 512 (bufNat (bufOf c) (64 * i) 64)) }).cleanBank
            7 (indexOf c) (8 * (pByte c 16 + i)) (8 * (pByte c 16 + i) + 8)) s))) ∧
  (∀ s c, Accepted kernelWriteSpec c s → exec (.kernelWrite c) s = .next (s.act (done c fun s =>
    (forEach (List.range (pNum c 18 2)) (fun i s => s.updRchan (indexOf c) fun q => { q with
      kernel := SMap.put 0 q.kernel (pNum c 16 2 + i) (BitVec.ofNat 32 (bufNat (bufOf c) (4 * i) 4)) }) s).cleanBank
        8 (indexOf c) (pNum c 16 2 / 2) ((pNum c 16 2 + pNum c 18 2 + 1) / 2)))) ∧
  (∀ s c, Accepted toneReadSpec c s → exec (.toneRead c) s = .next (s.act (done c fun s =>
    s.emit (.hostWrite (BitVec.ofNat 64 (pNum c 24 8))
      (leBytes 64 (s.toneDesc (indexOf c / 16) (indexOf c % 16)).toNat))))) ∧
  (∀ s c, Accepted acqConfigSpec c s → exec (.acqConfig c) s = .next (s.act (done c fun s =>
    let regs : List Reg := [.acqCfg, .acqPre, .acqPost, .acqDelay, .acqHold, .acqAvg, .acqPartBase, .acqPartLen]
    let s := forEach (List.range 8) (fun k s => s.wr (regs.getD k .acqCfg) (indexOf c) (pNum c (16 + 4 * k) 4)) s
    s.updAcq (indexOf c) fun a => { a with configured := true }))) ∧
  (∀ s c, Accepted acqStartSpec c s → exec (.acqStart c) s = .next (s.act (done c fun s =>
    forEach (setBits (pNum c 16 3) 24) (fun u s => s.acqBegin u) s))) ∧
  (∀ s c, Accepted acqStopSpec c s → exec (.acqStop c) s = .next (s.act (fires (done c fun s =>
    forEach (setBits (pNum c 16 3) 24) (fun u s => s.acqStop u 1) s))))

/-- A settling channel becomes LIVE. An over-range marks the group that is at the UNCORR tap as OWN, and one with the
clamp marks it as CLAMP too; on a channel whose groups carry no samples only the clamp is noted. OVR_NOW falls when
the extension has ended. A group without samples, or of a channel that is not LIVE, is INVALID and takes back the
marks of an over-range. A group reaches the UNCORR tap, and in the next cycle the RAW tap: there an OWN group counts,
sets OVERLOAD, records ST of its pin cycle and, when it follows no OWN group, fires OVERLOAD, and the group passes its
flags, its frame operations and its sixteen tones. A due window that no wait holds opens for KLEN groups with the tag
of its shot, and closes at its end. A tone whose decision cycle this is decides, and a decision that the device
exports goes to the links as well; any other row changes nothing but the cycle's firings. -/
def Obligations.ReceiveRows : Prop :=
  (∀ s (r : Fin 24), s.rxState r = 1 → s.cyc ≤ (s.rchan r).settle → exec (.rxSettleDone r) s = .next (s.act fun s =>
    (s.setF .rchRxStatusState r 2).updRchan r fun q => { q with settle := s.cyc })) ∧
  (∀ s (r : Fin 24), s.hasRch r = true → s.rxValid r = true → (s.rchan r).lastOwn ≠ some (s.cyc + 1) →
    exec (.rxOverrange r false) s = .next (s.act (fires fun s => s.setRchan r { s.rchan r with
      lastOwn := some (s.cyc + 1), newOwn := (s.rchan r).lastOwn != some s.cyc }))) ∧
  (∀ s (r : Fin 24), s.hasRch r = true → s.rxValid r = true → (s.rchan r).lastOwn ≠ some (s.cyc + 1) →
    (s.rchan r).lastClamp ≠ some (s.cyc + 1) →
    exec (.rxOverrange r true) s = .next (s.act (fires fun s => s.setRchan r { s.rchan r with
      lastOwn := some (s.cyc + 1), newOwn := (s.rchan r).lastOwn != some s.cyc, clampAt := s.cyc + 2
      lastClamp := some (s.cyc + 1), newClamp := (s.rchan r).lastClamp != some s.cyc }))) ∧
  (∀ s (r : Fin 24), s.hasRch r = true → s.rxValid r = false →
    exec (.rxOverrange r true) s = .next (s.act (fires fun s =>
      s.setRchan r { s.rchan r with clampAt := s.cyc + 2 }))) ∧
  (∀ (s : State) (r : Fin 24), (s.rchan r).lastOwn = some s.cyc → (s.rchan r).newOwn = true → (s.rchan r).lastClamp ≠ some s.cyc →
    s.rxTraces r = (((s.bump .rchOvrGroups r).setB .rchRxStatusOverload r true).wr .rchOvrLastSt r
      (s.stOf (s.cyc - 7))).signal (prodOverload r)) ∧
  (∀ s (r : Fin 24), (s.rxValid r && bit (s.rxMarks r s.cyc).toNat 0) = false →
    exec (.ovrHoldExpire r) s = .next (s.setB .rchRxStatusOvrNow r false)) ∧
  (∀ s (r : Fin 24) (xs : List (BitVec 12)), s.hasRch r = true → s.rxValid r = true → (s.rchan r).next = none → xs ≠ [] →
    exec (.rxGroup r xs .clean) s = .next (s.act (fires fun s =>
      let c := s.stOf (s.cyc - 6) / 32
      let t := (s.updRchan r fun q => { q with next := some xs }).after (s.cyc + 1) (.rxRaw r)
      t.acqUncorr r c (groupWord xs (uncorrFlags (t.rxFlags r (t.cyc + 1) xs) xs) c)))) ∧
  (∀ s (r : Fin 24) (xs : List (BitVec 12)), s.hasRch r = true → s.rxValid r = false ∨ xs = [] → (s.rchan r).next = none →
    exec (.rxGroup r xs .clean) s = .next (s.act (fires fun s =>
      let c := s.stOf (s.cyc - 6) / 32
      let t := ((s.rxUnexamined r).updRchan r fun q => { q with next := some [] }).after (s.cyc + 1) (.rxRaw r)
      t.acqUncorr r c (groupWord [] (uncorrFlags 16 []) c)))) ∧
  (∀ (s : State) (r : Nat), s.rxUnexamined r = s.updRchan r fun q => { q with
      lastOwn := if q.lastOwn = some (s.cyc + 1) then none else q.lastOwn
      lastClamp := if q.lastClamp = some (s.cyc + 1) then none else q.lastClamp }) ∧
  (∀ (s : State) (r : Nat) (xs : List (BitVec 12)), (s.rchan r).next = some xs → xs ≠ [] → s.laterOne (.rxRaw r) =
    (let fl := s.rxMarks r s.cyc
     let gst := s.stOf (s.cyc - 7)
     let raw := (List.range 16).map fun i => s.rxCorrect r xs i
     let t := (s.updRchan r fun q => { q with next := none }).rxTraces r
     let t := (t.rxStatusNow r fl).acqRaw r (gst / 32) (groupWord raw fl (gst / 32))
     let ops := ((t.frames true r).queue.filter (t.frameDue gst)).map (·.frame)
     let t := t.frameApply true r gst
     let bad := ((List.range 16).map fun k => tdFrame (t.toneDesc r k)).any fun k => t.badIn 6 r (2 * k) (2 * k + 2)
     let t := when (bad && t.activeTones.any (fun p => p.1 == r)) State.taintTone t
     let old := (t.rchan r).groups
     let t := forEach (List.range 16) (fun k t =>
       t.toneGroup r k (t.cyc - 7) gst ((List.range 16).map fun i => (raw.getD i 0).toInt) fl old ops) t
     t.updRchan r fun q => { q with groups := (fl :: q.groups).take 3 })) ∧
  (∀ s (r : Fin 24) (t : Fin 16), (s.tone r t).active = true → (s.tone r t).due = some s.cyc →
    s.windowHeld r s.cyc = false → exec (.toneWindowOpen r t) s = .next (s.act fun s =>
      (s.setTone r t { s.tone r t with
        due := none
        opened := some s.cyc
        isOpen := true
        endCyc := some (s.cyc + tdKlen (s.toneDesc r t))
        tag := BitVec.ofNat 16 s.runTag }).toneOpen r t true)) ∧
  (∀ s (r : Fin 24) (t : Fin 16) e, (s.tone r t).endCyc = some e → (s.tone r t).isOpen = true → e ≤ s.cyc →
    exec (.toneWindowClose r t) s = .next (s.act fun s =>
      (s.setTone r t { s.tone r t with isOpen := false }).toneOpen r t false)) ∧
  (∀ s (r : Fin 24) (t : Fin 16), s.toneDue r t = true →
    tdMode (s.toneDesc r t) = 3 →
    exec (.toneDecision r t false) s = .next (s.act (fires fun s => s.toneDecision r t))) ∧
  (∀ s (r : Fin 24) (t : Fin 16), s.toneDue r t = true → tdMode (s.toneDesc r t) ≠ 3 →
    exec (.toneDecision r t false) s = .next (s.act (fires fun s =>
      (s.toneDecision r t).exportDecision (16 * r.val + t.val)))) ∧
  (∀ s (r : Fin 24) (t : Fin 16), s.toneDue r t = false → exec (.toneDecision r t false) s =
    .next (s.act (fires id)))

/-- The 128-bit record of a closed window holds the shot tag, the tone's slot, the state, EARLY, GUESS, I, Q, the window's
ticks, CONF, FLAGS and the epoch in the places that the spec gives them, each as it was decided: no field runs into
another, whatever the descriptor and the accumulators. -/
def Obligations.ResultRecordReadsBack : Prop :=
  ∀ (e : BitVec 512) (y : Tone) (tag slot ticks epoch : Nat), tag < 2 ^ 16 → slot < 2 ^ 12 → ticks < 2 ^ 16 →
    epoch < 2 ^ 8 →
    let v := verdict e y
    let x := (resultRecord v tag slot ticks epoch).toNat
    slice x 0 16 = tag ∧ slice x 16 12 = slot ∧ slice x 28 2 = v.state ∧ bit x 30 = v.early ∧ bit x 31 = v.guess ∧
    sgn 24 (slice x 32 24) = v.i ∧ sgn 24 (slice x 56 24) = v.q ∧ slice x 80 16 = ticks ∧ slice x 96 8 = v.conf ∧
    slice x 104 16 = v.flags ∧ slice x 120 8 = epoch

/-- A write of SWTRIG triggers each named unit. A write of RD_PTR that lies between the pointers is stored; any other sets
PTR_ERR. The oldest complete record of a running unit is committed, and a unit without another record waits for a
trigger. A ring that found no room, or a write FIFO that DRAM left full, has lost an entry and stops the unit as an
overflow. A stream that has captured POST cycles stores its last, partly filled entry, ends with its STOP mark and
stops with cause 2; where that entry finds no room it ends as an overflow. -/
def Obligations.AcqRowsAct : Prop :=
  (∀ s (v : Word), s.hostPage 0x1A0 = true → exec (.acqSwtrig v) s = .next (s.act (fires fun s =>
    forEach ((setBits v.toNat 24).filter s.hasAcq) (fun u s => s.acqTrigNow u 0) s))) ∧
  (∀ s (u : Fin 24) (v : Word), s.hostPage 0x1A0 = true → s.hasAcq u = true → slice v.toNat 0 29 < s.acqLen u →
    (slice v.toNat 0 29 + s.acqLen u - s.fld .acqRdPtrPtr u) % s.acqLen u ≤
      (s.fld .acqWrPtrPtr u + s.acqLen u - s.fld .acqRdPtrPtr u) % s.acqLen u →
    exec (.acqRdPtrWrite u v) s = .next (s.setF .acqRdPtrPtr u (slice v.toNat 0 29))) ∧
  (∀ s (u : Fin 24) (v : Word), s.hostPage 0x1A0 = true → s.hasAcq u = true → s.acqLen u ≤ slice v.toNat 0 29 →
    exec (.acqRdPtrWrite u v) s = .next (s.setB .acqStatusPtrErr u true)) ∧
  (∀ s (u : Fin 24) r, s.acqOn u = true → (s.acqOf u).recs = [r] → r.full = true → s.acqWritten u r = true →
    exec (.acqRecordCommit u) s = .next (s.act (fires fun s =>
      ((s.acqCommit u r false).updAcq u fun a => { a with recs := [] }).setF .acqStatusState u 1))) ∧
  (∀ s (u : Fin 24) r r2 rest, s.acqOn u = true → (s.acqOf u).recs = r :: r2 :: rest → r.full = true → s.acqWritten u r = true →
    exec (.acqRecordCommit u) s = .next (s.act (fires fun s =>
      (s.acqCommit u r false).updAcq u fun a => { a with recs := r2 :: rest }))) ∧
  (∀ s (u : Fin 24) (c : Nat) (b : Bool), s.acqOn u = true → (s.acqOf u).lost = some (c, b) →
    exec (.acqOverflow u b) s = .next (s.act (fires fun s => s.acqOverflow u c b))) ∧
  (∀ s (u : Fin 24) (b : Bool), (s.acqOf u).lost = none → exec (.acqOverflow u b) s = .next (s.act (fires id))) ∧
  (∀ s (u : Fin 24), s.acqOn u = true → (s.acqOf u).done = true → exec (.acqStreamLengthDone u) s =
    .next (s.act (fires fun s => s.acqFinish u 2))) ∧
  (∀ (s : State) (u cause : Nat), s.acqTailLost u = none → s.flag .acqCfgMode u = true → s.acqFinish u cause =
    (((forEach (packFlush (s.acqSource u) (s.acqOf u).pack)
      (fun e t => t.acqWithMarks u (s.acqNext u - 1) e) s).acqEndMark u 12 (s.acqNext u) cause).acqHalt u cause)) ∧
  (∀ (s : State) (u cause c : Nat) (b : Bool), s.acqTailLost u = some (c, b) →
    s.acqFinish u cause = s.acqOverflow u c b) ∧
  (∀ s (u : Fin 24), (s.acqOf u).done = false → exec (.acqStreamLengthDone u) s = .next (s.act (fires id)))

/-- EVT_ROUTE, accepted, stages the consumer and producers it names for its channel, or with APPEND adds producers to
those staged, and raises STAGED.PENDING; a LINK_OUT consumer also stages its destination device, in place of what an
earlier EVT_ROUTE of the channel staged for its own. EVT_COMMIT applies every staged change. SNAPSHOT with no snapshot
pending and none held makes its own cycle the trigger cycle and returns T, ST of eight cycles later; with one pending
it joins it and returns its T. -/
def Obligations.EventCommandsApply : Prop :=
  (∀ s c, Accepted evtRouteSpec c s → evrAppend c = false → isLinkOut (evrCons c) = false →
    isLinkOut (s.stagedOf (indexOf c)) = false →
    exec (.evtRoute c) s = .next (s.act (done c fun s =>
      (s.setEvf { s.evf with
        staged := SMap.put none s.evf.staged (indexOf c) (some ⟨evrCons c, (evrProds c).dedup⟩) }).setB .evfStagedPending 0 true))) ∧
  (∀ s c, Accepted evtRouteSpec c s → evrAppend c = false → isLinkOut (evrCons c) = true →
    isLinkOut (s.stagedOf (indexOf c)) = false →
    exec (.evtRoute c) s = .next (s.act (done c fun s =>
      (s.setEvf { s.evf with
        staged := SMap.put none s.evf.staged (indexOf c) (some ⟨evrCons c, (evrProds c).dedup⟩)
        stagedDest := SMap.put 0 s.evf.stagedDest (evrCons c - 0x350) (pBits c 50 0 6 + 1) }).setB
          .evfStagedPending 0 true))) ∧
  (∀ s c, Accepted evtRouteSpec c s → evrAppend c = false → isLinkOut (evrCons c) = false →
    isLinkOut (s.stagedOf (indexOf c)) = true →
    exec (.evtRoute c) s = .next (s.act (done c fun s =>
      (s.setEvf { s.evf with
        staged := SMap.put none s.evf.staged (indexOf c) (some ⟨evrCons c, (evrProds c).dedup⟩)
        stagedDest := SMap.put 0 s.evf.stagedDest (s.stagedOf (indexOf c) - 0x350) 0 }).setB .evfStagedPending 0 true))) ∧
  (∀ s c, Accepted evtRouteSpec c s → evrAppend c = true →
    exec (.evtRoute c) s = .next (s.act (done c fun s =>
      (s.setEvf { s.evf with
        staged := SMap.put none s.evf.staged (indexOf c) (some ⟨s.stagedOf (indexOf c), (s.prodsNew (indexOf c) ++ evrProds c).dedup⟩) }).setB .evfStagedPending 0 true))) ∧
  (∀ s c, Accepted evtCommitSpec c s → exec (.evtCommit c) s = .next (s.act (done c commitRoutes))) ∧
  (∀ s c, Accepted snapshotSpec c s → s.evf.snap = none → s.flag .evfSnapStatusHeld = false →
    s.flag .evfSnapCfgHold = false →
    exec (.snapshot c) s = .next (s.act (doneWith c 0 0 (s.stIn 8) fun s =>
      s.setEvf { s.evf with snap := some (s.cyc, s.stIn 8, 3) }))) ∧
  (∀ s c c0 t src, Accepted snapshotSpec c s → s.evf.snap = some (c0, t, src) → s.cyc < c0 + 8 →
    exec (.snapshot c) s = .next (s.act (doneWith c 0 0 t fun s => s.bump .evfSnapMerged)))

/-- A write of FIRE fires each named channel once. A write of SUPP releases each named suppressed channel from the next
cycle, one with a parity error only once its route has been rewritten. With DBG.EN a write of CH_ROUTE or PROD_MAP
acts at once, and is such a rewriting. Writing HELD releases a held snapshot, but not one that took hold in this
cycle. A SNAPIN edge is a trigger three cycles later. Setting a timer's EN starts its series; a timer fires when ST
reaches its tick, and goes on by its period until its count is made. A parity error suppresses the channel and re-
bases the invariant. At the end of the seventh cycle after the trigger a pending snapshot takes every block's copies
as they then stand, and in the cycle of its T they become the snapshot. -/
def Obligations.EventRows : Prop :=
  (∀ s (w : Fin 8) (v : Word), s.hostPage 5 = true → exec (.evfFire w v) s = .next (s.act (fires fun s =>
    forEach (setBits v.toNat 32) (fun b s => s.fireChannel (32 * w + b)) s))) ∧
  (∀ s (w : Fin 8) (v : Word), s.hostPage 5 = true → exec (.evfSuppRelease w v) s = .next (s.act fun s =>
    forEach ((setBits v.toNat 32).filter fun b => s.suppressed (32 * w + b) && !s.evf.parity.contains (32 * w + b))
      (fun b s => s.after (s.cyc + 1) (.release (32 * w + b))) s)) ∧
  (∀ s (v : Dword), s.hostPage 5 = true → s.flag .evfDbgEn = true → exec (.evfDebugRouteWrite false v) s =
    .next (s.setEvf { s.evf with
      route := SMap.put 0x3FF s.evf.route (s.fld .evfChSelCh) (slice v.toNat 0 10)
      parity := s.evf.parity.filter (· != s.fld .evfChSelCh) })) ∧
  (∀ s (v : Dword), s.hostPage 5 = true → s.flag .evfDbgEn = true → exec (.evfDebugRouteWrite true v) s =
    .next (let t := s.setEvf { s.evf with
        prodMap := SMap.put 0 s.evf.prodMap (s.fld .evfProdSelProd) (BitVec.ofNat 64 (prodMapBits v.toNat)) }
      t.setEvf { t.evf with parity := t.evf.parity.filter fun ch =>
        !((s.drives (s.fld .evfProdSelProd)).contains ch || (t.drives (s.fld .evfProdSelProd)).contains ch) })) ∧
  (∀ s (m : Bool) (v : Dword), s.flag .evfDbgEn = false → exec (.evfDebugRouteWrite m v) s = .next s) ∧
  (∀ s (v : Word), s.hostPage 5 = true → bit v.toNat 0 = true →
    bit (s.raisedBits .evfSnapStatus 0) 0 = false → exec (.snapHeldRelease v) s = .next (s.setB .evfSnapStatusHeld 0 false)) ∧
  (∀ s, s.flag .evfSnapCfgSnapinEn = true → s.jtag.hold = false →
    exec .snapinEdge s = .next (s.after (s.cyc + 3) .snapIn)) ∧
  (∀ s (k : Fin 8) (v : Word), s.hostPage 5 = true → s.flag .timerCtrlEn k = false → bit v.toNat 0 = true →
    exec (.timerEnable k v) s = .next (s.act fun s =>
      let t := s.wr .timerCtrl k (1 + 256 * slice v.toNat 8 24)
      t.setTimer k (some (t.timerFirst k)) 0)) ∧
  (∀ s (k : Fin 8) t, s.timerNext k = some t → t = s.st.toNat →
    exec (.evfTimerFire k) s = .next (s.act (fires fun s =>
      (s.setTimer k (if s.rd .timerPeriod k == 0 || (s.fld .timerCtrlCount k != 0 &&
          decide (s.fld .timerCtrlCount k ≤ SMap.get 0 s.evf.timerDone k + 1)) then none
        else some (t + 32 * s.rd .timerPeriod k)) (SMap.get 0 s.evf.timerDone k + 1)).signal (prodTimer k)))) ∧
  (∀ s (ch : Fin 256), exec (.evfParityError ch) s = .next (s.act fun s =>
    ((s.setEvf { s.evf with parity := ch.val :: s.evf.parity.filter (· != ch.val) }).setSuppressed ch true).evRebase)) ∧
  (∀ (s : State) c t src, s.evf.snap = some (c, t, src) → s.cyc = c + 7 → s.snapTake =
    (let m := (forEach (Reg.all.filter fun r => r.info.snap) (fun r u => s.snapReg r u) s).snaps
     s.setEvf { s.evf with snapAt := SMap.put 0 m (Reg.key .timeSt 0) (BitVec.ofNat 64 t) })) ∧
  (∀ s c t src, s.served = true → s.evf.snap = some (c, t, src) → s.cyc = c + 8 →
    exec .snapshotLatch s = .next (s.act fun s =>
      let u : State := { s with snaps := s.evf.snapAt }
      let u := (u.wr .evfSnapSt 0 t).setF .evfSnapStatusSource 0 src
      let u := u.wr .evfSnapSeq 0 (satAdd32 (u.rd .evfSnapSeq) 1)
      { u with evf := { u.evf with snap := none, snapAt := [] } }))

/-- A firing of a producer counts one in FIRED for each channel it drives. A firing of a channel counts one in FIRED, and
one in exactly one of DELIVERED, COALESCED and SUPPRESSED: SUPPRESSED where the channel is suppressed, COALESCED where
it has already delivered in this cycle, and otherwise DELIVERED. -/
def Obligations.OneFiringOfOneChannel : Prop :=
  (∀ (s : State) (p : Nat), (s.fire p).evf.cnt.fired = s.evf.cnt.fired + BitVec.ofNat 48 (s.drives p).length) ∧
  ∀ (s : State) (ch : Nat),
    (s.fireChannel ch).evf.cnt.fired = s.evf.cnt.fired + 1 ∧
    (s.suppressed ch = true → (s.fireChannel ch).evf.cnt.suppressed = s.evf.cnt.suppressed + 1 ∧
      (s.fireChannel ch).evf.cnt.delivered = s.evf.cnt.delivered ∧
      (s.fireChannel ch).evf.cnt.coalesced = s.evf.cnt.coalesced) ∧
    (s.suppressed ch = false → SMap.get 0 s.evf.lastDeliv ch = s.cyc + 1 →
      (s.fireChannel ch).evf.cnt.coalesced = s.evf.cnt.coalesced + 1 ∧
      (s.fireChannel ch).evf.cnt.delivered = s.evf.cnt.delivered ∧
      (s.fireChannel ch).evf.cnt.suppressed = s.evf.cnt.suppressed) ∧
    (s.suppressed ch = false → SMap.get 0 s.evf.lastDeliv ch ≠ s.cyc + 1 →
      (s.fireChannel ch).evf.cnt.delivered = s.evf.cnt.delivered + 1 ∧
      (s.fireChannel ch).evf.cnt.coalesced = s.evf.cnt.coalesced ∧
      (s.fireChannel ch).evf.cnt.suppressed = s.evf.cnt.suppressed)

/-- From every state in which the event invariant holds for the differences between counters and base registers, modulo
2^48, every step, whatever the command or the cycle, answers a state in which it holds. -/
def Obligations.EventInvariantKept : Prop :=
  ∀ s t : State, EvBalanced s.evf.cnt → step s = .next t → EvBalanced t.evf.cnt

/-- MEM_POWER, accepted, sends the group on its way to its new state, or does nothing where it is there already. At the
end of the transition the group has its state, and is all zero where it enters or leaves OFF. MEM_TEST answers
ACCEPTED; a completed destructive test leaves zeros, a kept one what was there, and a failure gives its word's
address. A step of the scrubber moves it to the next line, and one beyond the last counts a pass. A host write of one
page of an open memory stores its bytes. A read of one that is OFF returns zeros and counts in MEM_PWR_BLOCKED; a
write to an active envelope block is refused and recorded. -/
def Obligations.MemoryCommandsApply : Prop :=
  (∀ s c, Accepted memPowerSpec c s → s.groupState (indexOf c) = pBits c 16 0 2 →
    exec (.memPower c) s = .next (s.act (done c id))) ∧
  (∀ s c, Accepted memPowerSpec c s → s.groupState (indexOf c) ≠ pBits c 16 0 2 →
    exec (.memPower c) s = .next (s.act (done c fun s =>
      let m := SMap.put none s.mem.moving (indexOf c) (some (pBits c 16 0 2))
      State.setBankBusy { s with mem := { s.mem with moving := m } } (indexOf c) true))) ∧
  (∀ s (g : Fin 158) t, SMap.get none s.mem.moving g = some t → t ≠ 2 → s.groupState g ≠ 2 →
    exec (.memPowerDone g) s = .next (s.act fun s =>
      let s := s.wr .glbBankPwr (g / 16) (place (s.rd .glbBankPwr (g / 16)) (2 * (g % 16)) 2 t)
      State.setBankBusy { s with mem := { s.mem with moving := SMap.put none s.mem.moving g none } } g false)) ∧
  (∀ s (g : Fin 158), SMap.get none s.mem.moving g = some 2 →
    exec (.memPowerDone g) s = .next (s.act fun s =>
      let s := s.wr .glbBankPwr (g / 16) (place (s.rd .glbBankPwr (g / 16)) (2 * (g % 16)) 2 2)
      (State.setBankBusy { s with mem := { s.mem with moving := SMap.put none s.mem.moving g none } }
        g false).clearGroup g)) ∧
  (∀ s c (keep : Bool), Accepted (memTestSpec keep) c s → bit (pByte c 16) 0 = keep → indexOf c < 158 →
    exec (.memTest c) s = .next (s.act (begun c fun s =>
      (s.setBankBusy (indexOf c) true).startLong c .test (indexOf c) (ofBool keep) 0 []))) ∧
  (∀ s (g : Fin 165) l, s.findLong 0x901 (some g.val) = some l → l.arg = 0 → g.val < 158 →
    exec (.memTestComplete g none) s = .next (s.act fun s =>
      ((s.setBankBusy g false).zeroBanks g).completeAs l 0 0 0 0)) ∧
  (∀ s (g : Fin 165) l, s.findLong 0x901 (some g.val) = some l → l.arg ≠ 0 → 158 ≤ g.val →
    exec (.memTestComplete g none) s = .next (s.act fun s => s.completeAs l 0 0 0 0)) ∧
  (∀ s l n, s.fld .glbScrubCfgRate ≠ 0 → s.scrubFrom s.mem.scrubAt = some l → s.scrubFrom (l + 1) = some n →
    exec (.scrubLine .clean) s = .next (s.act (fires fun s => { s with mem := { s.mem with scrubAt := n } }))) ∧
  (∀ s l, s.fld .glbScrubCfgRate ≠ 0 → s.scrubFrom s.mem.scrubAt = some l → s.scrubFrom (l + 1) = none →
    exec (.scrubLine .clean) s = .next (s.act (fires fun s =>
      { s.bump .glbScrubPass with mem := { s.mem with scrubAt := (s.scrubFrom 0).getD 0 } }))) ∧
  (∀ s (a : BitVec 36) (b : List Byte), s.hostMem = true → b ≠ [] → b.length ≤ 0x1000 - a.toNat % 0x1000 →
    s.bar2No a.toNat b.length true = none → exec (.bar2Write a b) s = .next (s.act fun s => s.bar2Store a.toNat b)) ∧
  (∀ s (a : BitVec 36) (b : List Byte) n k, s.hostMem = true → b ≠ [] → b.length ≤ 0x1000 - a.toNat % 0x1000 →
    s.bar2No a.toNat b.length true = some (.envelope n k) →
    exec (.bar2Write a b) s = .next (s.act fun s => s.writeRefused n k 2 1)) ∧
  (∀ s (a : BitVec 36) (n : Nat), s.hostMem = true → 0 < n → n ≤ 0x1000 - a.toNat % 0x1000 →
    s.bar2No a.toNat n false = some .off → exec (.bar2Read a n .clean) s = .next (s.act (fires fun s =>
      { (s.bump .glbMemPwrBlocked) with
        readBytes := List.replicate n 0, poisoned := false }))) ∧
  (∀ s (a : BitVec 36) (n : Nat), s.hostMem = false → exec (.bar2Read a n .clean) s = .next (s.act (fires fun s =>
    { s with readBytes := List.replicate n 0, poisoned := false })))

/-- After a host write of up to a page of an open memory, a host read of the same bytes returns them, not poisoned, and
every byte outside the written ones reads as before the write; the write changes nothing but the memory's bytes and
which of its words are uncorrectable. -/
def Obligations.HostMemoryReadsBack : Prop :=
  ∀ (s : State) (a : BitVec 36) (b : List Byte), s.hostMem = true → b ≠ [] →
    b.length ≤ 0x1000 - a.toNat % 0x1000 → s.bar2No a.toNat b.length true = none →
    ∃ t u, exec (.bar2Write a b) s = .next t ∧ exec (.bar2Read a b.length .clean) t = .next u ∧
      u.readBytes = b ∧ u.poisoned = false ∧
      t = { s with mem := { s.mem with bytes := t.mem.bytes, bad := t.mem.bad } } ∧
      ∀ k, k < a.toNat ∨ a.toNat + b.length ≤ k → Memory.read t.mem.bytes k = Memory.read s.mem.bytes k

/-- A memory in the model's canonical form, its addresses strictly rising and no listed byte zero (log entry 5: an
unlisted byte reads as zero), is in that form after every host write of BAR2, every end of a power transition and
every completed test; and reset memory has the form. So equal memories are equal data. -/
def Obligations.MemoryKeepsItsForm : Prop :=
  Memory.wf State.reset.mem.bytes = true ∧
  ∀ (s t : State) (i : Instr),
    (∃ a b, i = .bar2Write a b) ∨ (∃ g, i = .memPowerDone g) ∨ (∃ g f, i = .memTestComplete g f) →
    Memory.wf s.mem.bytes = true → exec i s = .next t → Memory.wf t.mem.bytes = true

/-- JRN_CONFIG, accepted, loses the packets still resident, stores the rings and the watermark, and sets both ring
pointers to 0. The oldest packet of the head buffer moves to the spill ring when there is cause and room, and packets
move to the tail buffer while it has room; an uncorrectable one is discarded, reported as a memory error, counted, and
re-bases the journal. The oldest packet of the tail buffer is written to the host ring, with padding to the ring's end
where it does not fit, and then its write-pointer word. HOST_RD takes a value between the pointers, which frees space
from the next cycle on, and any other sets PTR_ERR. -/
def Obligations.JournalCommandsApply : Prop :=
  (∀ s c, Accepted jrnConfigSpec c s → exec (.jrnConfig c) s = .next (s.act (done c fun s =>
    let s := (s.setJrn { s.jrn with head := [], spill := [], tail := [] }).jrnCount 0 0 0 0 s.jrnResident
    let s := s.wr .jrnCfg 0 (ofBool (pByte c 46 != 0) + 256 * pByte c 17)
    let s := (s.wr .jrnWm 0 (pNum c 20 3)).wr .jrnHostBase 0 (pNum c 24 8)
    let s := (s.wr .jrnWpAddr 0 (pNum c 32 8)).wr .jrnHostLen 0 (pNum c 40 4)
    let s := (s.wr .jrnSpillBase 0 (if s.variant.dram = true then slice (pNum c 44 2) 0 14 else 0)).wr .jrnSpillLen 0 (pByte c 46)
    (s.wr .jrnHostWr 0 0).wr .jrnHostRd 0 0))) ∧
  (∀ s p rest, s.jrn.head = p :: rest → s.headToSpill = true → exec (.jrnSpillWrite false) s = .next (s.act (fires fun s =>
    s.setJrn { s.jrn with head := rest, spill := s.jrn.spill ++ [p] }))) ∧
  (∀ s, s.headToSpill = true → exec (.jrnSpillWrite true) s = .next (s.act (fires fun s =>
    ((s.setJrn { s.jrn with head := s.jrn.head.drop 1 }).jrnEcc false).jrnUncorr))) ∧
  (∀ s p rest, s.jrn.tail.length < 64 → s.jrn.spill = p :: rest → exec (.jrnTailRefill true) s =
    .next (s.act (fires fun s => ((s.setJrn { s.jrn with spill := rest }).jrnEcc true).jrnUncorr))) ∧
  (∀ s p rest, s.jrn.tail.length < 64 → s.jrn.spill = p :: rest → exec (.jrnTailRefill false) s = .next (s.act (fires fun s =>
    s.setJrn { s.jrn with spill := rest, tail := s.jrn.tail ++ [p] }))) ∧
  (∀ s p rest, s.jrn.tail.length < 64 → s.jrn.spill = [] → s.jrn.head = p :: rest →
    exec (.jrnTailRefill false) s = .next (s.act (fires fun s =>
      s.setJrn { s.jrn with head := rest, tail := s.jrn.tail ++ [p] }))) ∧
  (∀ s p rest, s.jrn.tail = p :: rest → p.blocks ≤ s.hostBlocks - s.fld .jrnHostWrBlk → s.hostBlocks ≠ 0 →
    p.blocks ≤ s.hostFree → s.pcie.linkUp = true →
    exec (.jrnDrain false) s = .next (s.act (fires fun s =>
      let q := { p with gap := s.jrn.gap }
      let s := s.hostRing q.bytes q.blocks
      let s := s.emit (.hostWrite (BitVec.ofNat 64 (s.rd .jrnWpAddr)) (leBytes 8 (s.fld .jrnHostWrBlk + 2 ^ 32 * q.seq)))
      let s := (s.setJrn { s.jrn with tail := rest, gap := false }).jrnCount 0 0 0 1 0
      if s.jrnAtMark then s.irq 1 else s))) ∧
  (∀ s (b : Bool), s.jrn.tail = [] → exec (.jrnDrain b) s = .next (s.act (fires id))) ∧
  (∀ s (v : Word), s.hostPage 0x010 = true → slice v.toNat 0 24 < max 1 s.hostBlocks →
    (slice v.toNat 0 24 + max 1 s.hostBlocks - s.fld .jrnHostRdBlk) % max 1 s.hostBlocks ≤ s.hostHeld →
    s.jrn.rdAt ≠ s.cyc + 1 → exec (.jrnHostRdWrite v) s = .next (s.act fun s =>
      (s.setJrn { s.jrn with rdOld := s.fld .jrnHostRdBlk, rdAt := s.cyc + 1 }).setF .jrnHostRdBlk 0 (slice v.toNat 0 24))) ∧
  (∀ s (v : Word), s.hostPage 0x010 = true → slice v.toNat 0 24 < max 1 s.hostBlocks →
    (slice v.toNat 0 24 + max 1 s.hostBlocks - s.fld .jrnHostRdBlk) % max 1 s.hostBlocks ≤ s.hostHeld →
    s.jrn.rdAt = s.cyc + 1 → exec (.jrnHostRdWrite v) s = .next (s.setF .jrnHostRdBlk 0 (slice v.toNat 0 24))) ∧
  (∀ s (v : Word), s.hostPage 0x010 = true → max 1 s.hostBlocks ≤ slice v.toNat 0 24 →
    exec (.jrnHostRdWrite v) s = .next (s.setB .jrnStatusPtrErr 0 true))

/-- TIME_STEP, accepted, holds a step to an absolute ST, by a signed amount, or by the measured offset to the nearest
multiple of 32 ticks. TIME_UNLOCK clears MIDNIGHT_SET. TIME_SLEW replaces the slew in progress. TIME_SYNC_CFG stores
its fields, forgets the measured offset and the lock, and times the first SYNC one interval later. TIME_SYNCIN_ARM
stores VALUE and arms, or cancels. TRIG_CONFIG stores the input's EN, EDGE and EVT_EN. -/
def Obligations.TimeCommandsApply : Prop :=
  (∀ s c, Accepted timeStepSpec c s → pBits c 16 0 2 = 0 → exec (.timeStep c) s = .next (s.act (done c fun s =>
    { s with time := { s.time with step := some (.abs (pNum c 24 8), s.cyc) } }))) ∧
  (∀ s c, Accepted timeStepSpec c s → pBits c 16 0 2 = 1 → exec (.timeStep c) s = .next (s.act (done c fun s =>
    { s with time := { s.time with step := some (.rel (sgn 64 (pNum c 24 8)), s.cyc) } }))) ∧
  (∀ s c, Accepted timeStepSpec c s → pBits c 16 0 2 = 2 → exec (.timeStep c) s = .next (s.act (done c fun s =>
    { s with time := { s.time with step := some (.rel s.syncStep, s.cyc) } }))) ∧
  (∀ s c, Accepted timeUnlockSpec c s →
    exec (.timeUnlock c) s = .next (s.act (done c fun s => s.setB .timeStatusMidnightSet 0 false))) ∧
  (∀ s c, Accepted (timeSlewSpec (s.flag .timeStatusPllLock)) c s → exec (.timeSlew c) s = .next (s.act (done c fun s =>
    { s with time := { s.time with slewAmt := sgn 32 (pNum c 16 4), slewRate := pNum c 20 2, slewFrom := s.cyc } }))) ∧
  (∀ s c, Accepted timeSyncCfgSpec c s → exec (.timeSyncCfg c) s = .next (s.act (done c fun s =>
    let s := (s.wr .timeSyncCfg 0 (pNum c 16 4)).setF .timeSlewRateRate 0 (pNum c 20 2)
    let s := forEach (List.range 4) (fun p s => s.setF .timePathAsymAsym p (pNum c (24 + 2 * p) 2)) s
    State.setB { s with time := { s.time with
      offsetValid := false, lastSeq := none, inBound := 0, lastSync := s.cyc, syncNext := s.cyc + s.syncEvery } }
        .timeStatusSyncLocked 0 false))) ∧
  (∀ s c, Accepted timeSyncinArmSpec c s → bit (pByte c 16) 0 = false →
    exec (.timeSyncinArm c) s = .next (s.act (done c fun s =>
      (s.wr .timeSyncinValue 0 (pNum c 24 8)).setB .timeStatusSyncinArmed 0 true))) ∧
  (∀ s c, Accepted timeSyncinArmSpec c s → bit (pByte c 16) 0 = true →
    exec (.timeSyncinArm c) s = .next (s.act (done c fun s => s.setB .timeStatusSyncinArmed 0 false))) ∧
  (∀ s c, Accepted trigConfigSpec c s →
    exec (.trigConfig c) s = .next (s.act (done c fun s => s.wr .trigCfg (pBits c 16 0 4) (pBits c 17 0 4))))

/-- Where no shot is on and nothing waits for an ST, a step that is due, absolute or relative, and a SYNCIN edge at an
armed device place Midnight: ST is the stepped value, the sum modulo 2^64, or VALUE; MIDNIGHT_SET reads 1; STEP_ST
holds the new ST; every stamp that waits in a TRIGIN FIFO is marked as of the scale before, and no stamp is lost. A
step also cancels the slew, a SYNCIN edge the arm and a step that waits. Where a shot is on or something else waits
for an ST, the step goes on waiting and the device stays armed; a step waits as long as SYNCIN is armed too (the
model's choices, log entry 15). Every register but the three that are named, and everything outside the clocks, stays
as it was. -/
def Obligations.MidnightIsPlaced : Prop :=
  (∀ s x c0, s.time.step = some (x, c0) → s.midnightOk = true → s.flag .timeStatusSyncinArmed = false →
    ∃ t, exec .timeStepApply s = .next t ∧
      t = { s with st := t.st, regs := t.regs, raised := t.raised, time := { s.time with step := none, slewAmt := 0, trig := t.time.trig } } ∧
      t.st = (match x with
        | .abs v => BitVec.ofNat 64 v
        | .rel d => BitVec.ofInt 64 (s.st.toNat + d)) ∧
      t.flag .timeStatusMidnightSet = true ∧ t.rd .timeStepSt = t.st.toNat ∧
      RegsKept [.timeStatus, .timeStepSt] s t ∧
      ∀ n, ((t.trigOf n).fifo = (s.trigOf n).fifo.map fun y => { y with pre := true })) ∧
  (∀ s, s.flag .timeStatusSyncinArmed = true → s.midnightOk = true →
    ∃ t, exec .syncinEdge s = .next t ∧
      t = { s with st := t.st, regs := t.regs, raised := t.raised, time := { s.time with step := none, trig := t.time.trig } } ∧
      t.st.toNat = s.rd .timeSyncinValue ∧ t.flag .timeStatusSyncinArmed = false ∧
      t.flag .timeStatusMidnightSet = true ∧ t.rd .timeStepSt = t.st.toNat ∧ RegsKept [.timeStatus, .timeStepSt] s t) ∧
  (∀ s, s.time.step = none ∨ s.midnightOk = false ∨ s.flag .timeStatusSyncinArmed = true → exec .timeStepApply s = .next s) ∧
  (∀ s, s.flag .timeStatusSyncinArmed = false ∨ s.midnightOk = false → exec .syncinEdge s = .next s)

/-- A slew whose amount is used up ends. The reference lost: REF_PRESENT falls, REF_LOST sets, SYNCIN is disarmed and
HOLDOVER sets; a reference that is not there cannot be lost. Back, at a measured frequency, REF_PRESENT sets, and with
lock holdover ends. Lock lost with a reference present: LOCK_LOST sets and the protection path runs. An edge at a
TRIGIN ball, with the input enabled and the edge selected, is stamped and fires; in a calibration slice it only counts
lost. TS_X returns the oldest stamp's flags and removes it; with no stamp it returns zero. A JTAG instruction takes
the timing I/O over or gives it back. -/
def Obligations.ClockRows : Prop :=
  (∀ s, s.slewRemain = 0 → exec .slewComplete s = .next { s with time := { s.time with slewAmt := 0 } }) ∧
  (∀ s, s.flag .timeStatusRefPresent = true → exec .refclkLost s =
    .next ((((s.setB .timeStatusRefPresent 0 false).setB .timeStatusRefLost 0 true).setB .timeStatusSyncinArmed 0 false).setB
      .timeStatusHoldover 0 true)) ∧
  (∀ s, s.flag .timeStatusRefPresent = false → exec .refclkLost s = .next s) ∧
  (∀ s, (s.fld .timeStatusRefFreq == 1 || s.fld .timeStatusRefFreq == 2) = true → s.flag .timeStatusPllLock = true →
    exec .refclkReturn s = .next ((s.setB .timeStatusRefPresent 0 true).setB .timeStatusHoldover 0 false)) ∧
  (∀ s, (s.fld .timeStatusRefFreq == 1 || s.fld .timeStatusRefFreq == 2) = true → s.flag .timeStatusPllLock = false →
    exec .refclkReturn s = .next (s.setB .timeStatusRefPresent 0 true)) ∧
  (∀ s, s.flag .timeStatusPllLock = true → s.flag .timeStatusRefPresent = true → exec .pllLockLost s =
    .next (s.act fun s => ((s.setB .timeStatusPllLock 0 false).setB .timeStatusLockLost 0 true).protect)) ∧
  (∀ s (n : Fin 16) (up : Bool) (pos : Fin 512), s.jtag.hold = false → s.inSlice 4 n = true →
    exec (.triginEdge n up pos) s = .next (s.act (fires fun s =>
      (s.setTrig n { s.trigOf n with edgeAt := s.cyc + 1 }).bump .calTrigLost))) ∧
  (∀ s (n : Fin 16) (up : Bool) (pos : Fin 512), s.jtag.hold = false → s.inSlice 4 n = false →
    s.flag .trigCfgEn n = true → s.edgeWanted n up = true →
    exec (.triginEdge n up pos) s = .next (s.act (fires fun s =>
      ((s.setTrig n { s.trigOf n with edgeAt := s.cyc + 1 }).trigStamp n pos).trigFire n))) ∧
  (∀ s (n : Fin 16) a rest, s.hostPage 1 = true → (s.trigOf n).fifo = a :: rest →
    exec (.trigTsXRead n) s = .next (s.act fun s => (s.setTrig n { s.trigOf n with fifo := rest }).returns
      (slice a.val 64 4 + 16 * ofBool a.pre + 32 + 256 * rest.length))) ∧
  (∀ s (n : Fin 16), s.hostPage 1 = true → (s.trigOf n).fifo = [] → exec (.trigTsXRead n) s = .next (s.returns 0)) ∧
  (∀ s (i : JtagInstr) (ch : BitVec 48), s.power.pgood = 15 → exec (.jtagInstructionUpdate i ch) s =
    .next { s with jtag := ⟨i == .extest || i == .highz || i == .clamp, ch⟩ })

/-- A master whose interval has passed queues a SYNC on its forwarding ports and counts it. A SYNC that a slave may not
take, or a message that came by replay, is discarded and counted; one it may take, newer than the last and from a
measured upstream port, is counted, gives the offset and goes on. Four intervals without one lose the lock. A
DELAY_REQ is due on each ACTIVE port every interval, is answered with its path time, and its answer, matched by SEQ,
gives the path delay; without one in 65,536 cycles it is lost. -/
def Obligations.NetworkTimeRows : Prop :=
  (∀ s, s.syncRole = 1 → s.time.syncNext ≤ s.cyc → exec .syncSendTimer s = .next (s.act fun s =>
    let t := s.syncForward ⟨0, s.time.seqOut, s.deviceId, 0, none, none⟩
    { t with time := { t.time with
      seqOut := (s.time.seqOut + 1) % 65536, syncNext := s.time.syncNext + t.syncEvery } })) ∧
  (∀ s (p : Fin 4) (st : BitVec 68) m bs, timeMsg (s.port p) = some (m, bs) → m.kind = 0 →
    exec (.syncMessageRx p st true) s = .next (s.act fun s =>
      (s.setPort p { s.port p with inbox := bs.foldl (fun l b => l.erase b) (s.port p).inbox }).bump .timeSyncDiscard)) ∧
  (∀ s (p : Fin 4) (st : BitVec 68) m bs, timeMsg (s.port p) = some (m, bs) → m.kind = 0 → s.syncRole = 2 →
    s.upPort = p.val → s.seqNewer m.seq = true → bit s.time.anew p = false → s.flag .timePdelayValid p = true →
    exec (.syncMessageRx p st false) s = .next (s.act fun s =>
      let s := s.setPort p { s.port p with inbox := bs.foldl (fun l b => l.erase b) (s.port p).inbox }
      let s : State := { s with time := { s.time with lastSeq := some m.seq, lastSync := s.cyc } }
      let s := s.bump .timeSyncRx
      let s := s.syncOffset ((st.toNat : Int) - (16 * (m.origin : Int) + m.corr + s.upPath))
      s.syncOn m st.toNat s.upPath)) ∧
  (∀ s, s.syncRole = 2 → s.time.lastSync + 4 * s.syncEvery ≤ s.cyc → exec .syncTimeout s = .next (s.act fun s =>
    (State.setB { s with time := { s.time with
      lastSync := s.cyc, inBound := 0, slewAmt := if s.flag .timeSyncCfgServoEn then 0 else s.time.slewAmt } }
        .timeStatusSyncTimeout 0 true).setB .timeStatusSyncLocked 0 false)) ∧
  (∀ s (p : Fin 4), s.portUp p = true → SMap.get 0 s.time.reqNext p ≤ s.cyc →
    exec (.delayReqTimer p) s = .next (s.act fun s => State.delayReq { s with time := { s.time with
      reqNext := SMap.put 0 s.time.reqNext p (s.cyc + 2 ^ s.fld .timeSyncCfgPdelayInterval) } } p)) ∧
  (∀ s (p : Fin 4) (st : BitVec 68) m bs, timeMsg (s.port p) = some (m, bs) → m.kind = 1 →
    exec (.delayReqRx p st false) s = .next (s.act fun s =>
      (s.setPort p { s.port p with inbox := bs.foldl (fun l b => l.erase b) (s.port p).inbox }).updPort p fun x =>
        { x with syncQ := x.syncQ ++ [⟨2, m.seq, s.deviceId, 0, none, some (-(st.toNat : Int))⟩] })) ∧
  (∀ s (p : Fin 4) (st : BitVec 68) m bs q, timeMsg (s.port p) = some (m, bs) → m.kind = 2 →
    (SMap.get [] s.time.req p).find? (·.seq == m.seq) = some q → 2 ∣ ((st.toNat : Int) - q.t1 - m.corr) →
    exec (.delayRespRx p st false) s = .next (s.act fun s =>
      let s := s.setPort p { s.port p with inbox := bs.foldl (fun l b => l.erase b) (s.port p).inbox }
      let s : State := { s with time := { s.time with
        req := SMap.put [] s.time.req p ((SMap.get [] s.time.req p).erase q),
        anew := if q.old then s.time.anew else setBit s.time.anew p false } }
      s.wr .timePdelay p (unsgn 31 (((st.toNat : Int) - q.t1 - m.corr) / 2) + 2 ^ 31))) ∧
  (∀ s (p : Fin 4) q rest, SMap.get [] s.time.req p = q :: rest → q.sent + 65536 ≤ s.cyc →
    exec (.pdelayTimeout p) s = .next (s.act fun s =>
      State.bump { s with time := { s.time with req := SMap.put [] s.time.req p rest } } .timePdelayLost))

/-- LINK_UP of a DOWN port, accepted, stores its fields, puts the port and the lanes of its mask in training, latches
vector 6 and answers ACCEPTED. LINK_DOWN brings the port DOWN. MIRROR_EXPORT stores its export entries. MIRROR_ROUTE
stores a device's port and whether the route is valid. LINK_UP completes as OK with stage 7 and the lane map when the
port becomes ACTIVE, and with bit 31 and the stage when LINK_TIMEOUT expires, the port DOWN again. -/
def Obligations.LinkCommandsApply : Prop :=
  (∀ s c, Accepted linkUpSpec c s → bit (pByte c 16) 5 = false → exec (.linkUp c) s = .next (s.act (begun c fun s =>
    let p := indexOf c
    let train := lanesOf (pBits c 16 0 4)
    let mask := (train.map (fun l => 2 ^ l)).foldl (· + ·) 0
    let s := s.wr .blpCfg p (pBits c 16 0 5 + pNum c 18 2 <<< 16)
    let s := s.updPort p fun x => { Port.init with cnt := x.cnt, slip := x.slip, line := x.line, train := mask, txLive := mask }
    let s := (s.setF .blpStatusState p 1).irq 6
    let s := if mask != 0 then s.setF .blpStatusStage p 1 else s
    let s := forEach train (fun l s => s.setF .bllStatusState (4 * p + l) 1) s
    s.startLong c .link p 0 0 []))) ∧
  (∀ s c, Accepted linkDownSpec c s → exec (.linkDown c) s = .next (s.act (done c fun s => s.portDown (indexOf c)))) ∧
  (∀ s c, Accepted mirrorExportSpec c s → exec (.mirrorExport c) s = .next (s.act (done c fun s =>
    let s := s.cleanBank 12 1 (pNum c 16 2) (pNum c 16 2 + pNum c 18 2)
    { s with dec := { s.dec with
      export_ := (List.range (pNum c 18 2)).foldl
        (fun m i => SMap.put 0 m (pNum c 16 2 + i) (BitVec.ofNat 64 (bufNat (bufOf c) (8 * i) 8))) s.dec.export_ } }))) ∧
  (∀ s c, Accepted mirrorRouteSpec c s → exec (.mirrorRoute c) s = .next (s.act (done c fun s =>
    let d := pBits c 16 0 6
    s.wr .glbRoute (d / 8) (place (s.rd .glbRoute (d / 8)) (4 * (d % 8)) 3 (pBits c 17 0 2 + 4 * pBits c 18 0 1))))) ∧
  (∀ s (p : Fin 4) (ok : BitVec 4) l, s.findLong 0x606 (some p.val) = some l → l.arg ≠ 1 → s.portState p = 1 →
    (s.port p).credInit = true → ((s.port p).rxOk &&& (s.port p).train) &&& ok.toNat ≠ 0 →
    exec (.linkUpComplete p ok) s = .next (s.act fun s =>
      (s.linkActive p (((s.port p).rxOk &&& (s.port p).train) &&& ok.toNat)).completeAs l 0 7
        (((s.port p).rxOk &&& (s.port p).train) &&& ok.toNat) 0)) ∧
  (∀ s (p : Fin 4) (ok : BitVec 4) l, s.findLong 0x606 (some p.val) = some l → l.arg ≠ 1 →
    (s.port p).credInit = false → l.accCyc + 625000 * s.fld .blpCfgLinkTimeout p ≤ s.cyc →
    exec (.linkUpComplete p ok) s = .next (s.act fun s =>
      (s.portDown p).completeAs l 0 (2 ^ 31 + max 1 (s.fld .blpStatusStage p)) 0 0)) ∧
  (∀ s (p : Fin 4) (ok : BitVec 4), s.findLong 0x606 (some p.val) = none →
    exec (.linkUpComplete p ok) s = .next s)

/-- A window whose CHECK agrees delivers its blocks in order; one that fails counts in CHECK_FAIL of the lane of its first
bad block (of the CHECK's lane where the CHECK itself fails), counts its protected copies received and discarded, asks
for a replay and stalls the receiver. CREDIT acknowledges the blocks up to its SEQ and returns credits. A REPLAY
REQUEST leads to a START at its SEQ. 256 cycles without an advance replay the oldest unacknowledged block, and after
16 tries the port goes DOWN with REPLAY_FAIL. LANE_STATUS stores what the peer receives: without one lane of the map
it brings the port DOWN, with some lost it begins a re-stripe that a START on the lanes left ends, unless a block to
send again cannot be read: then the port goes DOWN with REPLAY_FAIL, and with none lost it only plans the map. An
AUDIT that agrees with the acknowledged count changes nothing more, one that does not re-bases and sets AUDIT_FAIL. An
idle port sends one AUDIT. -/
def Obligations.LinkReceiverRows : Prop :=
  (∀ s (p lane : Fin 4) (bs : List (Fin 4 × Dword)) (q : BitVec 16) (crc : Word), s.portUp p = true →
    (bs.map (·.2)).all blkKnown = true → crc.toNat = linkCrc (bs.map (·.2)) →
    ((bs.map (·.2)).filter blkProtected).length ≠ 0 →
    seqWanted { s.port p with busyAt := s.cyc, audited := false } (bs.map (·.2)) = q.toNat →
    exec (.checkWindow p lane bs none q (some crc)) s = .next (s.act fun s =>
      s.setPort p (recvWindow { s.port p with busyAt := s.cyc, audited := false } (bs.map (·.2))))) ∧
  (∀ (x : Port) (l : List Dword), l.any blkProtected = true → seqWanted x l = if x.stall then x.rxNext else x.rxSeq) ∧
  (∀ (x : Port) (l : List Dword), l.any blkStart = false → recvWindow x l = l.foldl recvBlock x) ∧
  (∀ s (p lane : Fin 4) (bs : List (Fin 4 × Dword)) (k : Fin 4) (b : Dword) (q : BitVec 16) (crc : Word), s.portUp p = true →
    bs.find? (fun b => !blkKnown b.2) = some (k, b) →
    ∃ t, exec (.checkWindow p lane bs none q (some crc)) s = .next t ∧
      t.rd .bllCheckFail (4 * p + k) = satAdd32 (s.rd .bllCheckFail (4 * p + k)) 1 ∧
      (t.port p).reqDue = true ∧ (t.port p).stall = true) ∧
  (∀ s (p lane : Fin 4) (bs : List (Fin 4 × Dword)) (q : BitVec 16), s.portUp p = true →
    (bs.map (·.2)).all blkKnown = true → ((bs.map (·.2)).filter blkProtected).length ≠ 0 →
    exec (.checkWindow p lane bs none q none) s = .next (s.act fun s =>
      let c := (s.port p).cnt
      let n := BitVec.ofNat 48 ((bs.map (·.2)).filter blkProtected).length
      (s.bump .bllCheckFail (4 * p.val + lane.val)).setPort p { s.port p with
        busyAt := s.cyc, audited := false
        cnt := { c with rxCopies := c.rxCopies + n, discarded := c.discarded + n }, reqDue := true, stall := true })) ∧
  (∀ s (p : Fin 4) b, s.portUp p = true → (s.port p).ctl.find? (fun b => blkType b == 4) = some b →
    bit b.toNat 15 = true → exec (.creditRx p) s = .next (s.act fun s =>
      let s := s.setPort p { s.port p with ctl := (s.port p).ctl.erase b }
      s.setPort p { s.port p with gotDec := blkField b 28 12, gotBulk := blkField b 16 12 })) ∧
  (∀ s (p : Fin 4) b, s.portUp p = true →
    (s.port p).ctl.find? (fun b => blkType b == 5 && blkField b 52 4 == 0) = some b →
    exec (.replayRequestRx p false) s = .next (s.act fun s =>
      (s.setPort p { s.port p with ctl := (s.port p).ctl.erase b }).replayFromSeq p (blkField b 36 16))) ∧
  (∀ s (p : Fin 4) b, s.portUp p = true →
    (s.port p).ctl.find? (fun b => blkType b == 5 && blkField b 52 4 == 1) = some b →
    ∃ t, exec (.replayStartRx p) s = .next t ∧ t.fld .blpStatusRxMap p = blkField b 32 4) ∧
  (∀ s (p : Fin 4) q u rest, (s.port p).unacked = (q, u) :: rest → s.portUp p = true → (s.port p).ackAt + 256 ≤ s.cyc →
    (s.port p).tries < 16 → exec (.replayTimeout p false) s = .next (s.act fun s =>
      (s.setPort p { s.port p with tries := (s.port p).tries + 1, ackAt := s.cyc }).replayFromSeq p q)) ∧
  (∀ s (p : Fin 4) q u rest, (s.port p).unacked = (q, u) :: rest → s.portUp p = true → (s.port p).ackAt + 256 ≤ s.cyc →
    16 ≤ (s.port p).tries → exec (.replayTimeout p false) s = .next (s.act fun s =>
      (s.setB .blpStatusReplayFail p true).portDown p)) ∧
  (∀ s (p : Fin 4) bad b, s.portUp p = true →
    (s.port p).ctl.find? (fun b => blkType b == 6 && blkField b 52 4 == 3) = some b →
    s.txMap p &&& blkField b 48 4 = 0 → exec (.laneStatusRx ⟨p, bad⟩) s = .next (s.act fun s =>
      let s := s.setPort p { s.port p with ctl := (s.port p).ctl.erase b }
      (s.updPort p fun x => { x with peerOk := blkField b 48 4 &&& x.txLive }).portDown p)) ∧
  (∀ s (p : Fin 4) bad b, s.portUp p = true →
    (s.port p).ctl.find? (fun b => blkType b == 6 && blkField b 52 4 == 3) = some b →
    s.txMap p &&& blkField b 48 4 ≠ 0 → s.txMap p &&& (15 - blkField b 48 4) = 0 →
    exec (.laneStatusRx ⟨p, bad⟩) s = .next (s.act fun s =>
      let s := s.setPort p { s.port p with ctl := (s.port p).ctl.erase b }
      (s.updPort p fun x => { x with peerOk := blkField b 48 4 &&& x.txLive }).planMap p)) ∧
  (∀ s (p : Fin 4) bad b, s.portUp p = true →
    (s.port p).ctl.find? (fun b => blkType b == 6 && blkField b 52 4 == 3) = some b →
    s.txMap p &&& blkField b 48 4 ≠ 0 → s.txMap p &&& (15 - blkField b 48 4) ≠ 0 →
    (bad = false ∨ (s.port p).unacked = []) → exec (.laneStatusRx ⟨p, bad⟩) s = .next (s.act fun s =>
      let s := s.setPort p { s.port p with ctl := (s.port p).ctl.erase b }
      let s := s.updPort p fun x => { x with peerOk := blkField b 48 4 &&& x.txLive }
      let q := match (s.port p).unacked with
        | (q, _) :: _ => q
        | [] => (s.port p).txSeq
      let t := if s.portState p ≠ 3 then (s.setF .blpStatusState p 3).irq 6 else s
      t.setPort p { s.port p with
        txStripe := true
        startDue := some (some q, s.txMap p &&& blkField b 48 4) })) ∧
  (∀ s (p : Fin 4) b, s.portUp p = true →
    (s.port p).ctl.find? (fun b => blkType b == 6 && blkField b 52 4 == 3) = some b →
    s.txMap p &&& blkField b 48 4 ≠ 0 → s.txMap p &&& (15 - blkField b 48 4) ≠ 0 → (s.port p).unacked ≠ [] →
    exec (.laneStatusRx ⟨p, true⟩) s = .next (s.act fun s =>
      let s := s.setPort p { s.port p with ctl := (s.port p).ctl.erase b }
      (s.updPort p fun x => { x with peerOk := blkField b 48 4 &&& x.txLive }).replayFail p)) ∧
  (∀ s (p : Fin 4) bad, (s.port p).ctl.find? (fun b => blkType b == 6 && blkField b 52 4 == 3) = none →
    exec (.laneStatusRx ⟨p, bad⟩) s = .next s) ∧
  (∀ s (p : Fin 4) b, s.portUp p = true →
    (s.port p).ctl.find? (fun b => blkType b == 6 && blkField b 52 4 == 4) = some b →
    BitVec.ofNat 48 (blkField b 0 48) = (s.port p).cnt.acked → exec (.auditRx p) s = .next (s.act fun s =>
      s.setPort p { s.port p with ctl := (s.port p).ctl.erase b })) ∧
  (∀ s (p : Fin 4), s.portUp p = true → (s.port p).unacked = [] → (s.port p).audited = false →
    (s.port p).busyAt + 64 ≤ s.cyc → (s.port p).cnt.outDec = 0 → (s.port p).cnt.outBulk = 0 →
    exec (.portIdle p) s = .next (s.act fun s =>
      (s.setPort p { s.port p with audited := true, auditDue := true }).bump .blpAuditCnt p))

/-- A lane in training that passes stage 1 has CDR lock; one that fails it has failed, and STAGE shows the port's least
stage while a lane trains. A lost lane is LOST and counted: where the map holds it the port re-stripes on the lanes
left, with LATENCY_EXCURSION where DECISION blocks use it, and the last one of the map brings the port DOWN. TX_SLEEP
is refused with SLEEP_ERR on the last lane of the map, and otherwise leads to a planned re-map; cleared, the re-map
may take the lane back. RX_SLEEP is pending while the map holds the lane. A woken receiver is up and its lane is
reported. A KEEPALIVE is due on every 1,024th idle block, and at the end of the cycle a live lane that carries nothing
else sends it, with the lane's next 52 PRBS31 bits, or an IDLE block. Adaptation freezes, and is counted, on too few
transitions or 4,096 idle blocks, and goes on after 256 other blocks. BITSLIP moves the alignment by one bit of 66. An
eye scan runs on an ACTIVE lane, and ends with its errors. -/
def Obligations.LinkLaneRows : Prop :=
  (∀ s (n : Fin 16) (i : BitVec 8), bit (s.port (n / 4)).train (n % 4) = true →
    SMap.get 0 (s.port (n / 4)).stage (n % 4) = 0 →
    exec (.linkTrainStage n 1 i true) s = .next (s.act fun s =>
      let s := (s.setB .bllStatusCdrLock n true).updPort (n / 4) fun x => { x with stage := SMap.put 0 x.stage (n % 4) 1 }
      if trainStage (s.port (n / 4)) = 0 then s else s.setF .blpStatusStage (n / 4) (trainStage (s.port (n / 4))))) ∧
  (∀ s (n : Fin 16) (i : BitVec 8), bit (s.port (n / 4)).train (n % 4) = true →
    SMap.get 0 (s.port (n / 4)).stage (n % 4) = 0 →
    exec (.linkTrainStage n 1 i false) s = .next (s.act fun s =>
      let s := s.updPort (n / 4) fun x => { x with stage := SMap.put 0 x.stage (n % 4) 8 }
      if trainStage (s.port (n / 4)) = 0 then s else s.setF .blpStatusStage (n / 4) (trainStage (s.port (n / 4))))) ∧
  (∀ s (n : Fin 16), s.portUp (n / 4) = true → bit (s.rxLive (n / 4)) (n % 4) = true → s.rxAsleep n = false →
    s.rxMap (n / 4) = 2 ^ (n.val % 4) →
    ∃ t, exec (.laneLost n) s = .next t ∧ t.portUp (n / 4) = false ∧
      t.rd .bllLostCnt n = satAdd32 (s.rd .bllLostCnt n) 1) ∧
  (∀ s (n : Fin 16), s.portUp (n / 4) = true → bit (s.rxLive (n / 4)) (n % 4) = true → s.rxAsleep n = false →
    s.rxMap (n / 4) &&& setBit (s.port (n / 4)).rxOk (n % 4) false ≠ 0 → exec (.laneLost n) s = .next (s.act fun s =>
      let t := ((s.setF .bllStatusState n 3).bump .bllLostCnt n).setB .bllStatusHdrOk n false
      let t := t.updPort (n / 4) fun x => { x with rxOk := setBit x.rxOk (n % 4) false, statusDue := true }
      let t := if s.portDecisions (n / 4) then t.setB .glbFbStatusLatencyExcursion 0 true else t
      let t := if s.portState (n / 4) ≠ 3 then (t.setF .blpStatusState (n / 4) 3).irq 6 else t
      let t := t.updPort (n / 4) fun x => { x with rxStripe := true }
      t.laneChange (n / 4) (s.rxLive (n / 4)) (t.rxLive (n / 4)))) ∧
  (∀ s (n : Fin 16), s.portUp (n / 4) = true → bit (s.port (n / 4)).rxOk (n % 4) = true → s.rxAsleep n = false →
    bit (s.rxMap (n / 4)) (n % 4) = false → exec (.laneLost n) s = .next (s.act fun s =>
      (((s.setF .bllStatusState n 3).bump .bllLostCnt n).setB .bllStatusHdrOk n false).updPort (n / 4) fun x =>
        { x with rxOk := setBit x.rxOk (n % 4) false, statusDue := true })) ∧
  (∀ s (n : Fin 16), s.portUp (n / 4) = false ∨ s.rxAsleep n = true ∨ bit (s.port (n / 4)).rxOk (n % 4) = false →
    exec (.laneLost n) s = .next s) ∧
  (∀ s (n : Fin 16), s.hostLane n = true → s.portUp (n / 4) = true → s.txMap (n / 4) ≠ 2 ^ (n.val % 4) →
    bit (s.txMap (n / 4)) (n % 4) = true →
    (s.setB .bllSleepTxSleep n true).wantedMap (n / 4) ≠ 0 → exec (.txSleepSet n) s = .next (s.act fun s =>
      (s.setB .bllSleepTxSleep n true).planMap (n / 4))) ∧
  (∀ (s : State) (p : Nat), s.portUp p = true → s.wantedMap p ≠ 0 → (s.port p).startDue = none → s.planMap p =
    s.setPort p { s.port p with startDue := if s.wantedMap p = s.txMap p then none else some (none, s.wantedMap p) }) ∧
  (∀ s (n : Fin 16), s.hostLane n = true → s.portUp (n / 4) = true → s.txMap (n / 4) = 2 ^ (n.val % 4) →
    exec (.txSleepSet n) s = .next (s.setB .blpStatusSleepErr (n / 4) true)) ∧
  (∀ s (n : Fin 16), s.hostLane n = true → s.portUp (n / 4) = false →
    exec (.txSleepSet n) s = .next (s.act fun s => (s.setB .bllSleepTxSleep n true).planMap (n / 4))) ∧
  (∀ s (n : Fin 16), s.hostLane n = true → exec (.txSleepClear n) s = .next (s.act fun s =>
    (s.setB .bllSleepTxSleep n false).planMap (n / 4))) ∧
  (∀ s (n : Fin 16), s.hostLane n = true → s.portUp (n / 4) = true → bit (s.rxMap (n / 4)) (n % 4) = true →
    exec (.rxSleepSet n) s = .next ((s.setB .bllSleepRxSleep n true).setB .bllStatusRxSleepPend n true)) ∧
  (∀ s (n : Fin 16), s.hostLane n = true → exec (.rxSleepClear n) s = .next
    ((s.setB .bllSleepRxSleep n false).setB .bllStatusRxSleepPend n false)) ∧
  (∀ s (n : Fin 16), s.portUp (n / 4) = true → s.fld .bllStatusState n = 4 → s.flag .bllSleepRxSleep n = false →
    bit (s.port (n / 4)).rxOk (n % 4) = false → s.flag .bllSleepTxSleep n = true →
    exec (.laneWake n true) s = .next (s.act fun s => s.updPort (n / 4) fun x =>
      { x with rxOk := setBit x.rxOk (n % 4) true, statusDue := true })) ∧
  (∀ s (n : Fin 16), s.portUp (n / 4) = true → bit (s.port (n / 4)).txLive (n % 4) = true →
    SMap.get 0 (s.port (n / 4)).laneBusy (n % 4) < s.cyc →
    (s.cyc - SMap.get 0 (s.port (n / 4)).laneBusy (n % 4)) % 1024 = 0 →
    exec (.keepaliveInsert n) s = .next (s.act fun s =>
      s.updPort (n / 4) fun x => { x with keep := setBit x.keep (n % 4) true })) ∧
  (∀ (s : State) (p l : Nat), bit (s.port p).keep l = false → s.laneIdle p l = s.laneOut p l 0) ∧
  (∀ (s : State) (p l : Nat), bit (s.port p).keep l = true → s.laneIdle p l =
    let y := SMap.get LaneLine.init (s.port p).line l
    let z := prbsBits 52 y.prbs.toNat 0
    let s := s.setPort p { s.port p with
      line := SMap.put LaneLine.init (s.port p).line l { y with prbs := BitVec.ofNat 31 z.1 } }
    (s.laneOut p l (keepaliveBlock (BitVec.ofNat 52 z.2))).bump .bllKeepaliveTx (4 * p + l)) ∧
  (∀ (s : State) (p : Nat), s.idleOut p =
    (forEach ((lanesOf (s.port p).txLive).filter fun l => SMap.get 0 (s.port p).laneBusy l != s.cyc)
      (fun l t => t.laneIdle p l) s).updPort p fun x => { x with keep := 0 }) ∧
  (∀ s (n : Fin 16) tr (i k : BitVec 13), s.portUp (n / 4) = true → bit (s.port (n / 4)).rxOk (n % 4) = true →
    s.flag .bllStatusAdaptFrozen n = false → (tr.toNat < 64 * s.fld .bllAdaptTdMin n ∨ 4096 ≤ i.toNat) →
    exec (.adaptFreeze n ⟨tr, i, k⟩) s = .next (s.act fun s =>
      (s.setB .bllStatusAdaptFrozen n true).bump .bllAdaptFreeze n)) ∧
  (∀ s (n : Fin 16) tr i (k : BitVec 13), s.portUp (n / 4) = true → bit (s.port (n / 4)).rxOk (n % 4) = true →
    s.flag .bllStatusAdaptFrozen n = true → 256 ≤ k.toNat →
    exec (.adaptFreeze n ⟨tr, i, k⟩) s = .next (s.act fun s => s.setB .bllStatusAdaptFrozen n false)) ∧
  (∀ s (n : Fin 16), s.hostLane n = true → exec (.bitslip n) s = .next (s.act fun s =>
    s.updPort (n / 4) fun x =>
      { x with slip := SMap.put 0 x.slip (n % 4) ((SMap.get 0 x.slip (n % 4) + 1) % 66) })) ∧
  (∀ s (n : Fin 16) (v : Word), s.hostLane n = true → s.fld .bllStatusState n = 2 →
    ∃ t, exec (.eyeScanStart n v) s = .next t ∧ SMap.get 0 (t.port (n / 4)).eye (n % 4) = s.cyc + 1 ∧
      t.flag .bllEyeStatusDone n = false ∧ t.flag .bllEyeStatusValid n = false ∧
      t.rd .bllEyeCtrl n = (v.toNat &&& 0x003FFF3F)) ∧
  (∀ s (n : Fin 16) (e : Dword), SMap.get 0 (s.port (n / 4)).eye (n % 4) ≠ 0 → s.fld .bllStatusState n = 2 →
    2 ^ s.fld .bllEyeCtrlDwell n ≤ 66 * (s.cyc + 1 - SMap.get 0 (s.port (n / 4)).eye (n % 4)) →
    ∃ t, exec (.eyeScanDone n e) s = .next t ∧ SMap.get 0 (t.port (n / 4)).eye (n % 4) = 0 ∧
      t.flag .bllEyeStatusDone n = true ∧ t.flag .bllEyeStatusValid n = true ∧
      t.rd .bllEyeErrors n = min e.toNat (2 ^ s.fld .bllEyeCtrlDwell n))

/-- A DECISION block for this device is accepted into its slot when the slot is imported, assigned to that source and of
its assignment epoch, and is stale otherwise; one for another device goes on along its route with one more hop, and
one that has no way on is dropped and counted. Messages for this device's slots and channels act at the end of their
cycle (the model's reading: log entry 3). An EVENT message fires its remote producer. An ASYNC message requests its
voices when the role epoch agrees and counts in STALE_MSG otherwise. A FRAME message gives its operation to the
channel. A SHADOW message of a stale epoch is counted, and otherwise writes or commits. A message of a reserved kind
or for an absent channel counts in MIR_DROP. -/
def Obligations.LinkMessageRows : Prop :=
  (∀ s (p : Fin 4) b, (s.port p).inbox.find? (fun b => blkType b == 1) = some b → blkField b 50 6 = s.deviceId →
    exec (.decisionBlockRx p) s = .next (s.act fun s =>
      (s.setPort p { s.port p with inbox := (s.port p).inbox.erase b }).after s.cyc (.decBlock p b))) ∧
  (∀ (s : State) (p : Nat) b, s.laterOne (.decBlock p b) =
    if 1024 ≤ blkField b 32 12 ∧ (s.slot (blkField b 32 12)).assigned = true ∧
        (s.slot (blkField b 32 12)).owner = blkField b 44 6 ∧
        (s.slot (blkField b 32 12)).epoch.toNat = blkField b 24 8
    then s.decAccept (blkField b 32 12) (blkField b 4 4) (blkField b 8 16) s.cyc else s.decStale (blkField b 32 12)) ∧
  (∀ s (p : Fin 4) b q, (s.port p).inbox.find? (fun b => blkType b == 1) = some b → blkField b 50 6 ≠ s.deviceId →
    s.routeTo (blkField b 50 6) = some q → q ≠ p.val → blkField b 0 4 < 14 →
    exec (.decisionBlockRx p) s = .next (s.act fun s =>
      (s.setPort p { s.port p with inbox := (s.port p).inbox.erase b }).sendBlocks q false [b + 1])) ∧
  (∀ s (p : Fin 4) b, (s.port p).inbox.find? (fun b => blkType b == 1) = some b → blkField b 50 6 ≠ s.deviceId →
    s.routeTo (blkField b 50 6) = none → exec (.decisionBlockRx p) s = .next (s.act fun s =>
      (s.setPort p { s.port p with inbox := (s.port p).inbox.erase b }).bump .glbDecFwdDrop)) ∧
  (∀ s (p : Fin 4) b cont, mirrorMessage (s.port p) false = some (b, cont) → blkField b 40 4 = 0 → blkCont b = false →
    blkField b 50 6 = s.deviceId → exec (.mirrorEvent p) s = .next (s.act (fires fun s =>
      (s.setPort p { s.port p with
        inbox := (b :: cont).foldl (fun l c => l.erase c) (s.port p).inbox }).fire (prodRevt (slice b.toNat 29 4))))) ∧
  (∀ s (p : Fin 4) b cont, mirrorMessage (s.port p) false = some (b, cont) → blkField b 40 4 = 1 → blkCont b = false →
    blkField b 50 6 = s.deviceId → s.hasOch (slice b.toNat 26 7) = true →
    exec (.mirrorAsync p) s = .next (s.act fun s =>
      (s.setPort p { s.port p with inbox := (b :: cont).foldl (fun l c => l.erase c) (s.port p).inbox }).after s.cyc
        (.asyncMsg (5 + p) (slice b.toNat 26 7) (slice b.toNat 18 8) (slice b.toNat 10 8)))) ∧
  (∀ (s : State) (r ch role m : Nat), s.laterOne (.asyncMsg r ch role m) =
    if role = s.fld .ochRoleEpochEpoch ch then s.asyncPost ch m else s.bump .ochStaleMsg ch) ∧
  (∀ s (p : Fin 4) b cont, mirrorMessage (s.port p) true = some (b, cont) → blkField b 40 4 = 2 → blkCont b = false →
    blkField b 50 6 = s.deviceId → bit b.toNat 25 = false → s.hasOch (slice b.toNat 26 7) = true →
    exec (.mirrorFrame p) s = .next (s.act fun s =>
      let body := mirrorBits cont
      (s.setPort p { s.port p with
        inbox := (b :: cont).foldl (fun l c => l.erase c) (s.port p).inbox }).after s.cyc (.frameMsg (5 + p) false
          (slice b.toNat 26 7) (slice body 192 8) (slice body 200 4)
          { frame := slice b.toNat 16 9, add := bit b.toNat 15, mask := slice b.toNat 10 5, val := BitVec.ofNat 128 body,
            delta := slice body 0 32, atSt := if bit b.toNat 9 then some (slice body 128 64) else none,
            entered := s.cyc }))) ∧
  (∀ (s : State) (r : Nat) rx (ch role epoch : Nat) op,
    s.laterOne (.frameMsg r rx ch role epoch op) = s.frameMsg rx ch role epoch op) ∧
  (∀ s (p : Fin 4) b cont, mirrorMessage (s.port p) true = some (b, cont) → blkField b 40 4 = 3 → blkCont b = false →
    blkField b 50 6 = s.deviceId → s.hasOch (slice b.toNat 26 7) = true → slice b.toNat 24 2 = 2 →
    exec (.mirrorShadow p) s = .next (s.act fun s =>
      (s.setPort p { s.port p with
        inbox := (b :: cont).foldl (fun l c => l.erase c) (s.port p).inbox }).after s.cyc (.commitMsg (5 + p)
          (slice b.toNat 26 7) (slice b.toNat 12 8) (slice (mirrorBits cont) 0 16) (slice (mirrorBits cont) 16 9)))) ∧
  (∀ (s : State) (r ch role token sets : Nat), s.laterOne (.commitMsg r ch role token sets) =
    if role = s.fld .ochRoleEpochEpoch ch then s.shadowCommit ch token sets else s.bump .ochStaleMsg ch) ∧
  (∀ s (p : Fin 4) b cont, mirrorMessage (s.port p) true = some (b, cont) → blkField b 40 4 = 3 → blkCont b = false →
    blkField b 50 6 = s.deviceId → s.hasOch (slice b.toNat 26 7) = false →
    exec (.mirrorShadow p) s = .next (s.act fun s =>
      (s.setPort p { s.port p with
        inbox := (b :: cont).foldl (fun l c => l.erase c) (s.port p).inbox }).bump .blpMirDrop p))

/-- On a core that issues it, each two-source instruction writes its result of Gs1 and Gs2 to Gd, modulo 2^32, and leaves
the ALU flags; a shift by less than 32 shifts, and by more the result is the model's free value. ADDI, MOVI and MOVHI
take the 18-bit immediate. EXP and EXP.A give the count of redundant sign bits, NORM shifts by it; what Gd keeps of
NORM.A is a free value. The core goes on at the next instruction. The places of the flags and the free values are the
model's choice. -/
def Obligations.DspArithmetic : Prop :=
  (∀ s (q : Fin 32) w (i : Instr) (op : DspOp) (f : Nat → Nat → Nat),
    (i, op, f) ∈ [(.dspAdd q .clean, .add, fun a b => a + b), (.dspSub q .clean, .sub, fun a b => a + 2 ^ 32 - b),
      (.dspAnd q .clean, .and, fun a b => a &&& b), (.dspOr q .clean, .or, fun a b => a ||| b),
      (.dspXor q .clean, .xor, fun a b => a ^^^ b), (.dspMul q .clean, .mul, fun a b => a * b)] →
    s.Issues q w op → exec i s = .next (s.act (issued q (s.pcNext q) fun s =>
      (s.setG q (iD w) (f (s.gReg q (iS1 w)) (s.gReg q (iS2 w)))).aluSet q w (s.gReg q (iS1 w)) (s.gReg q (iS2 w))))) ∧
  (∀ s (q : Fin 32) w (i : Instr) (op : DspOp) (f : Nat → Nat → Nat),
    (i, op, f) ∈ [(.dspShl q .clean, .shl, fun a b => a <<< b), (.dspShr q .clean, .shr, fun a b => a >>> b),
      (.dspSar q .clean, .sar, fun a b => unsgn 32 (sgn 32 a >>> b))] →
    s.Issues q w op → s.gReg q (iS2 w) < 32 → exec i s = .next (s.act (issued q (s.pcNext q) fun s =>
      (s.setG q (iD w) (f (s.gReg q (iS1 w)) (s.gReg q (iS2 w)))).aluSet q w (s.gReg q (iS1 w)) (s.gReg q (iS2 w))))) ∧
  (∀ s (q : Fin 32) w (i : Instr) (op : DspOp) (k : Nat),
    (i, op, k) ∈ [(.dspShl q .clean, .shl, 5), (.dspShr q .clean, .shr, 6), (.dspSar q .clean, .sar, 7)] →
    s.Issues q w op → 32 ≤ s.gReg q (iS2 w) → exec i s = .next (s.act (issued q (s.pcNext q) fun s =>
      (s.setG q (iD w) (Config.shiftOver k (BitVec.ofNat 32 (s.gReg q (iS1 w)))
        (BitVec.ofNat 32 (s.gReg q (iS2 w)))).toNat).aluSet q w (s.gReg q (iS1 w)) (s.gReg q (iS2 w))))) ∧
  (∀ s (q : Fin 32) w, s.Issues q w .addi → exec (.dspAddi q .clean) s = .next (s.act (issued q (s.pcNext q) fun s =>
    (s.setG q (iD w) (s.gReg q (iS1 w) + unsgn 32 (sgn 18 (iImm18 w)))).aluSet q w (s.gReg q (iS1 w))
      (unsgn 32 (sgn 18 (iImm18 w)))))) ∧
  (∀ s (q : Fin 32) w, s.Issues q w .movi → exec (.dspMovi q .clean) s = .next (s.act (issued q (s.pcNext q) fun s =>
    s.setG q (iD w) (unsgn 32 (sgn 18 (iImm18 w)))))) ∧
  (∀ s (q : Fin 32) w, s.Issues q w .movhi → exec (.dspMovhi q .clean) s = .next (s.act (issued q (s.pcNext q) fun s =>
    s.setG q (iD w) (place (s.gReg q (iD w)) 14 18 (iImm18 w))))) ∧
  (∀ s (q : Fin 32) w, s.Issues q w .norm → exec (.dspNorm q .clean) s = .next (s.act (issued q (s.pcNext q) fun s =>
    s.setG q (iD w) (s.gReg q (iS1 w) <<< signBits 32 (s.gReg q (iS1 w)))))) ∧
  (∀ s (q : Fin 32) w, s.Issues q w .exp → exec (.dspExp q .clean) s = .next (s.act (issued q (s.pcNext q) fun s =>
    s.setG q (iD w) (signBits 32 (s.gReg q (iS1 w)))))) ∧
  (∀ s (q : Fin 32) w, s.Issues q w .normA → exec (.dspNormA q .clean) s = .next (s.act (issued q (s.pcNext q) fun s =>
    let a := unsgn 40 (s.acc q (slice (iS1 w) 0 3))
    s.setG q (iD w) (Config.normA (BitVec.ofNat 40 (a <<< signBits 40 a))).toNat))) ∧
  (∀ s (q : Fin 32) w, s.Issues q w .expA → exec (.dspExpA q .clean) s = .next (s.act (issued q (s.pcNext q) fun s =>
    s.setG q (iD w) (signBits 40 (unsgn 40 (s.acc q (slice (iS1 w) 0 3)))))))

/-- CADDS and CSUBS round and saturate both halves of a sum or difference; CROTQ turns by a quarter turn for each step of
SH. CMUL writes a complex product, with or without conjugation, into its accumulator pair, CMAC adds it; CMUL2 and
CMAC2 do so with two pairs of registers and accumulators. An accumulator saturates at 40 bits. CRND rounds a pair to
the halves of Gd. MVA and MVAH read an accumulator's low and high part. -/
def Obligations.DspComplex : Prop :=
  (∀ s (q : Fin 32) w (i : Instr) (op : DspOp) (f : Int → Int → Int),
    (i, op, f) ∈ [(.dspCadds q .clean, .cadds, fun a b => a + b), (.dspCsubs q .clean, .csubs, fun a b => a - b)] →
    s.Issues q w op → exec i s = .next (s.act (issued q (s.pcNext q) fun s =>
      s.setHalves q (iD w) (rndSat16 (f (reOf (s.gReg q (iS1 w))) (reOf (s.gReg q (iS2 w)))) (iSh w))
        (rndSat16 (f (imOf (s.gReg q (iS1 w))) (imOf (s.gReg q (iS2 w)))) (iSh w))))) ∧
  (∀ s (q : Fin 32) w (k : Nat) (re im : Nat → Int),
    (k, re, im) ∈ [(0, fun g => reOf g, fun g => imOf g), (1, fun g => -imOf g, fun g => reOf g),
      (2, fun g => -reOf g, fun g => -imOf g), (3, fun g => imOf g, fun g => -reOf g)] →
    s.Issues q w .crotq → iSh w = k → exec (.dspCrotq q .clean) s = .next (s.act (issued q (s.pcNext q) fun s =>
      s.setHalves q (iD w) (rndSat16 (re (s.gReg q (iS1 w))) 0) (rndSat16 (im (s.gReg q (iS1 w))) 0)))) ∧
  (∀ s (q : Fin 32) w (i : Instr) (op : DspOp) (add : Bool),
    (i, op, add) ∈ [(.dspCmul q .clean, .cmul, false), (.dspCmac q .clean, .cmac, true)] →
    s.Issues q w op → exec i s = .next (s.act (issued q (s.pcNext q) fun s =>
      s.macPair q (iA w) (s.gReg q (iX w)) (s.gReg q (iY w)) (iConj w) add))) ∧
  (∀ s (q : Fin 32) w (i : Instr) (op : DspOp) (add : Bool),
    (i, op, add) ∈ [(.dspCmul2 q .clean, .cmul2, false), (.dspCmac2 q .clean, .cmac2, true)] →
    s.Issues q w op → exec i s = .next (s.act (issued q (s.pcNext q) fun s =>
      (s.macPair q (iA w) (s.gReg q (iX w)) (s.gReg q (iY w)) (iConj w) add).macPair q (iA w + 2)
        (s.gReg q (iX w + 1)) (s.gReg q (iY w + 1)) (iConj w) add))) ∧
  (∀ s (q : Fin 32) w, s.Issues q w .crnd → exec (.dspCrnd q .clean) s = .next (s.act (issued q (s.pcNext q) fun s =>
    s.setHalves q (iD w) (rndSat16 (s.acc q (iA w)) (iXsh w)) (rndSat16 (s.acc q (iA w + 1)) (iXsh w))))) ∧
  (∀ s (q : Fin 32) w, s.Issues q w .mva → exec (.dspMva q .clean) s = .next (s.act (issued q (s.pcNext q) fun s =>
    s.setG q (iD w) (unsgn 32 (s.acc q (iA w)))))) ∧
  (∀ s (q : Fin 32) w, s.Issues q w .mvah → exec (.dspMvah q .clean) s = .next (s.act (issued q (s.pcNext q) fun s =>
    s.setG q (iD w) (unsgn 32 (s.acc q (iA w) / 2 ^ 32)))))

/-- A load from correct DMEM brings n bytes, lowest first, sign-extended into Gd, and an LD.D the low word into Gd and the
high word into Gd + 1; then the pointer is modified. A store writes the low bytes of Gd, or of Gd and Gd + 1. BEXP.L
keeps the smaller of Gd and the headroom of the loaded halves. An LD.D from TIMEP returns ST of the DSP cycle in which
it issues: the first that the core has free, or the second where the row says so. An unaligned store to DMEM that
covers an uncorrectable word faults with DMEM. A load from a place where nothing is faults with ACCESS. -/
def Obligations.DspLoadsAndStores : Prop :=
  (∀ s (q : Fin 32) w (i : Instr) (op : DspOp) (n : Nat),
    (i, op, n) ∈ [(.dspLdB q .clean, .ldB, 1), (.dspLdH q .clean, .ldH, 2), (.dspLdW q .clean, .ldW, 4)] →
    s.Issues q w op → inDmem (s.dspAddr q w) n = true → s.dmemBad q (s.dspAddr q w) n = false →
    exec i s = .next (s.act (issued q (s.pcNext q) fun s =>
      (s.setG q (iD w) (unsgn 32 (sgn (8 * n)
        (leNat (Memory.readBytes (s.core q).dmem (s.dspAddr q w - 0x100000) n))))).dspModify q w))) ∧
  (∀ s (q : Fin 32) w (second : Bool), s.Issues q w .ldD → inDmem (s.dspAddr q w) 8 = true →
    s.dmemBad q (s.dspAddr q w) 8 = false →
    exec (.dspLdD q second .clean) s = .next (s.act fun u => issued q (s.pcNext q) (fun s =>
      let v := leNat (Memory.readBytes (s.core q).dmem (s.dspAddr q w - 0x100000) 8)
      ((s.setG q (iD w) (slice v 0 32)).setG q (iD w + 1) (slice v 32 32)).dspModify q w) u second)) ∧
  (∀ s (q : Fin 32) w (second : Bool), s.Issues q w .ldD → s.dspAddr q w = 0x860000 →
    exec (.dspLdD q second .clean) s = .next (s.act fun u => issued q (s.pcNext q) (fun t =>
      let v := s.st.toNat + 16 * (max (s.core q).free (2 * s.cyc + ofBool second) - 2 * s.cyc)
      ((t.setG q (iD w) (slice v 0 32)).setG q (iD w + 1) (slice v 32 32)).dspModify q w) u second)) ∧
  (∀ s (q : Fin 32) w (i : Instr) (op : DspOp) (n : Nat),
    (i, op, n) ∈ [(.dspStB q .clean, .stB, 1), (.dspStH q .clean, .stH, 2), (.dspStW q .clean, .stW, 4)] →
    s.Issues q w op → inDmem (s.dspAddr q w) n = true →
    s.dspAddr q w % n = 0 ∨ s.dmemBad q (s.dspAddr q w) n = false →
    exec i s = .next (s.act (issued q (s.pcNext q) fun s =>
      let a := s.dspAddr q w - 0x100000
      let v := leBytes n (s.gReg q (iD w) % 2 ^ (8 * n))
      let s := s.updCore q fun c => { c with dmem := Memory.writeBytes c.dmem a v }
      (s.cleanBank 9 q (0x2000 + a / 8) (0x2000 + (a + n - 1) / 8 + 1)).dspModify q w))) ∧
  (∀ s (q : Fin 32) w (i : Instr) (op : DspOp) (n : Nat),
    (i, op, n) ∈ [(.dspStB q .clean, .stB, 1), (.dspStH q .clean, .stH, 2), (.dspStW q .clean, .stW, 4),
      (.dspStD q .clean, .stD, 8)] →
    s.Issues q w op → inDmem (s.dspAddr q w) n = true → s.dspAddr q w % n ≠ 0 →
    s.dmemBad q (s.dspAddr q w) n = true →
    exec i s = .next (s.act (fires fun s => s.coreFault q 5 (s.dspAddr q w)))) ∧
  (∀ s (q : Fin 32) w, s.Issues q w .stD → inDmem (s.dspAddr q w) 8 = true →
    s.dspAddr q w % 8 = 0 ∨ s.dmemBad q (s.dspAddr q w) 8 = false →
    exec (.dspStD q .clean) s = .next (s.act (issued q (s.pcNext q) fun s =>
      let a := s.dspAddr q w - 0x100000
      let v := leBytes 8 ((s.gReg q (iD w) + s.gReg q (iD w + 1) <<< 32) % 2 ^ 64)
      let s := s.updCore q fun c => { c with dmem := Memory.writeBytes c.dmem a v }
      (s.cleanBank 9 q (0x2000 + a / 8) (0x2000 + (a + 8 - 1) / 8 + 1)).dspModify q w))) ∧
  (∀ s (q : Fin 32) w, s.Issues q w .bexpL → inDmem (s.dspAddr q w) 4 = true → s.dmemBad q (s.dspAddr q w) 4 = false →
    exec (.dspBexpL q .clean) s = .next (s.act (issued q (s.pcNext q) fun s =>
      let v := leNat (Memory.readBytes (s.core q).dmem (s.dspAddr q w - 0x100000) 4)
      let h : Int := (min (signBits 16 (slice v 0 16)) (signBits 16 (slice v 16 16)) : Nat)
      (s.setG q (iD w) (unsgn 32 (min (sgn 32 (s.gReg q (iD w))) h))).dspModify q w))) ∧
  (∀ s (q : Fin 32) w, s.Issues q w .ldW → s.dspAddr q w < 0x100000 →
    exec (.dspLdW q .clean) s = .next (s.act (fires fun s => s.coreFault q 2 (s.dspAddr q w))))

/-- A branch goes on OFFSET22 instructions from itself when its condition on Gd holds, and at the next instruction
otherwise; DBNZ counts Gd down first. REPEAT goes to its body, with IMM18 + 2 of the model's count: the repeats still
to come and this instruction (a body without a memory access). MVC reads a control register into Gd and MVCT writes
it. RETI returns to ELR in bank 0; HALT halts the core; WAITI sleeps unless a line is pending; IEN and IDIS set and
clear interrupts. An enabled pending line is taken by a running core outside a handler and outside a REPEAT: ELR takes
PC, PC the line's vector, and the line clears. A matched timer sets line 7 and a mailbox write line 6. -/
def Obligations.DspControl : Prop :=
  (∀ s (q : Fin 32) w (i : Instr) (op : DspOp) (c : Nat → Bool),
    (i, op, c) ∈ [(.dspB q .clean, .b, fun _ => true), (.dspBeqz q .clean, .beqz, fun g => g == 0),
      (.dspBnez q .clean, .bnez, fun g => g != 0), (.dspBltz q .clean, .bltz, fun g => bit g 31),
      (.dspBgez q .clean, .bgez, fun g => !bit g 31)] →
    s.Issues q w op → exec i s = .next (s.act (issued q
      (if c (s.gReg q (iD w)) then unsgn 14 ((s.pcOf q : Int) + iOffset w) else s.pcNext q) id))) ∧
  (∀ s (q : Fin 32) w, s.Issues q w .dbnz → exec (.dspDbnz q .clean) s = .next (s.act (issued q
    (if unsgn 32 ((s.gReg q (iD w) : Int) - 1) ≠ 0 then unsgn 14 ((s.pcOf q : Int) + iOffset w) else s.pcNext q)
    fun s => s.setG q (iD w) (unsgn 32 ((s.gReg q (iD w) : Int) - 1))))) ∧
  (∀ s (q : Fin 32) w o, s.Issues q w .repeat → dspOp (s.imemWord q (s.pcNext q)) = some o → o.control = false →
    o.bytes = 0 → exec (.dspRepeat q .clean) s = .next (s.act (issued q (s.pcNext q) fun s =>
      ((s.setF .dspStatusPc q (s.pcNext q)).setB .dspStatusInRepeat q true).updCore q fun c =>
        { c with rep := some (iImm18 w + 2) }))) ∧
  (∀ s (q : Fin 32) w, s.Issues q w .mvc → exec (.dspMvc q .clean) s = .next (s.act (issued q (s.pcNext q) fun s =>
    s.setG q (iD w) (s.crRead q (iCr w))))) ∧
  (∀ s (q : Fin 32) w, s.Issues q w .mvct → exec (.dspMvct q .clean) s = .next (s.act (issued q (s.pcNext q) fun s =>
    s.crWrite q (iCr w) (s.gReg q (iD w))))) ∧
  (∀ s (q : Fin 32) w, s.Issues q w .reti → exec (.dspReti q .clean) s = .next (s.act (issued q
    ((s.core q).elr.toNat % 16384) fun s => s.setB .dspStatusInHandler q false))) ∧
  (∀ s (q : Fin 32) w, s.Issues q w .halt → exec (.dspHalt q .clean) s = .next (s.act (issued q (s.pcNext q) fun s =>
    s.coreHalt q))) ∧
  (∀ s (q : Fin 32) w, s.Issues q w .waiti → s.lineFirst q = none →
    exec (.dspWaiti q .clean) s = .next (s.act (issued q (s.pcNext q) fun s => s.setB .dspStatusSleep q true))) ∧
  (∀ s (q : Fin 32) w, s.Issues q w .ien → exec (.dspIen q .clean) s = .next (s.act (issued q (s.pcNext q) fun s =>
    s.updCore q fun c => { c with ien := true }))) ∧
  (∀ s (q : Fin 32) w, s.Issues q w .idis → exec (.dspIdis q .clean) s = .next (s.act (issued q (s.pcNext q) fun s =>
    s.updCore q fun c => { c with ien := false }))) ∧
  (∀ s (q : Fin 32) (second : Bool) k, s.hasDsp q = true → s.coreState q = 2 → s.flag .dspStatusInHandler q = false →
    (s.core q).ien = true → (s.core q).rep = none → s.lineFirst q = some k →
    ∃ t, exec (.dspInterruptEntry q second) s = .next t ∧ (t.core q).elr = BitVec.ofNat 32 (s.pcOf q) ∧
      t.pcOf q = (SMap.get 0 (s.core q).ivec k).toNat % 16384 ∧ t.flag .dspStatusInHandler q = true ∧
      t.flag .dspStatusSleep q = false ∧ (t.core q).line = BitVec.ofNat 3 k) ∧
  (∀ s (q : Fin 32) (second : Bool), s.flag .dspStatusInHandler q = true →
    exec (.dspInterruptEntry q second) s = .next s) ∧
  (∀ s (q : Fin 32), s.hasDsp q = true → s.st.toNat ≤ (s.core q).tcmp.toNat → (s.core q).tcmp.toNat < s.st.toNat + 32 →
    exec (.dspTimerMatch q) s = .next (s.act fun s => s.coreLine q 7)) ∧
  (∀ s (q : Fin 32) (v : Word), s.hostPage (0x40 + q.val / 8) = true → s.hasDsp q = true →
    exec (.mboxWrite q v) s = .next (s.act fun s => (s.updCore q fun c => { c with mboxIn := v }).coreLine q 6))

/-- DSP_CTRL, accepted, resets, starts or halts its core. DSP_LOAD stores its bytes in the core's instruction memory, in
its data memory or in the cluster's memory. DSP_READ writes the bytes to the host buffer. DSP_FEED stores which
channels feed the core and its watermark. -/
def Obligations.DspCommandsApply : Prop :=
  (∀ s c, Accepted dspCtrlSpec c s → pByte c 16 = 0 → exec (.dspCtrl c) s =
    .next (s.act (done c fun s => s.coreReset (indexOf c)))) ∧
  (∀ s c, Accepted dspCtrlSpec c s → pByte c 16 = 1 → exec (.dspCtrl c) s = .next (s.act (done c fun s =>
    ((s.setF .dspCtrlEntry (indexOf c) (pNum c 18 2)).updCore (indexOf c) fun c =>
      { c with rep := none, haltReq := false }).wr .dspStatus (indexOf c) (2 + pNum c 18 2 <<< 16)))) ∧
  (∀ s c, Accepted dspCtrlSpec c s → pByte c 16 = 2 → exec (.dspCtrl c) s =
    .next (s.act (done c fun s => s.coreHalt (indexOf c)))) ∧
  (∀ s c, Accepted dspLoadSpec c s → pByte c 16 = 0 → exec (.dspLoad c) s = .next (s.act (done c fun s =>
    let b := (List.range (pNum c 32 4)).map (fun k => (bufOf c).getD k 0)
    let fill := fun (m : SMap Word) => (List.range (pNum c 32 4 / 4)).foldl
      (fun m i => SMap.put 0 m (pNum c 20 4 / 4 + i) (BitVec.ofNat 32 (bufNat b (4 * i) 4))) m
    (s.updCore (indexOf c) fun x => { x with imem := fill x.imem }).cleanBank
        9 (indexOf c) (pNum c 20 4 / 8) ((pNum c 20 4 + pNum c 32 4 + 7) / 8)))) ∧
  (∀ s c, Accepted dspLoadSpec c s → pByte c 16 = 1 → exec (.dspLoad c) s = .next (s.act (done c fun s =>
    let b := (List.range (pNum c 32 4)).map (fun k => (bufOf c).getD k 0)
    (s.updCore (indexOf c) fun x => { x with dmem := Memory.writeBytes x.dmem (pNum c 20 4) b }).cleanBank
        9 (indexOf c) (0x2000 + pNum c 20 4 / 8) (0x2000 + (pNum c 20 4 + pNum c 32 4 + 7) / 8)))) ∧
  (∀ s c, Accepted dspLoadSpec c s → pByte c 16 = 2 → exec (.dspLoad c) s = .next (s.act (done c fun s =>
    let b := (List.range (pNum c 32 4)).map (fun k => (bufOf c).getD k 0)
    let m := Memory.writeBytes (s.clmBytes (indexOf c)) (pNum c 20 4) b
    State.cleanBank { s with clm := SMap.put [] s.clm (indexOf c / 8) m }
        10 (indexOf c / 8) (pNum c 20 4 / 8) ((pNum c 20 4 + pNum c 32 4 + 7) / 8)))) ∧
  (∀ s c, Accepted dspReadSpec c s → exec (.dspRead c) s = .next (s.act (done c fun s =>
    s.emit (.hostWrite (BitVec.ofNat 64 (pNum c 24 8)) (Memory.readBytes
      (if pByte c 16 = 1 then (s.core (indexOf c)).dmem else s.clmBytes (indexOf c)) (pNum c 20 4) (pNum c 32 4)))))) ∧
  (∀ s c, Accepted dspFeedSpec c s → exec (.dspFeed c) s = .next (s.act (done c fun s =>
    (s.wr .dspRfeedCfg (indexOf c) (pNum c 16 3 + pByte c 20 <<< 24)).feedLine (indexOf c))))

/-- With no firing waiting in the cycle, an arithmetic instruction of two sources, outside a REPEAT, leaves its result
modulo 2^32 in Gd and the next address in PC, takes the core's next DSP cycle, and changes nothing but the core's
bank, its place in time and the core's DSP_STATUS: no other G register of the bank, no accumulator, no pointer, none
of the core's memories and ports, no other core, no other register, and no other part of the block. -/
def Obligations.DspResultAndFrame : Prop :=
  ∀ (s : State) (q : Fin 32) (w : Nat) (i : Instr) (op : DspOp) (f : Nat → Nat → Nat),
    (i, op, f) ∈ [(.dspAdd q .clean, .add, fun a b => a + b), (.dspSub q .clean, .sub, fun a b => a + 2 ^ 32 - b),
      (.dspAnd q .clean, .and, fun a b => a &&& b), (.dspOr q .clean, .or, fun a b => a ||| b),
      (.dspXor q .clean, .xor, fun a b => a ^^^ b), (.dspMul q .clean, .mul, fun a b => a * b)] →
    s.Issues q w op → (s.core q).rep = none → (∀ e ∈ s.later, ∀ p, e.2 = .fire p → e.1 ≠ s.cyc) →
    ∃ t, exec i s = .next t ∧ t = { s with dsp := t.dsp, regs := t.regs, raised := t.raised } ∧ RegsKept [.dspStatus] s t ∧
      t.gReg q (iD w) = f (s.gReg q (iS1 w)) (s.gReg q (iS2 w)) % 2 ^ 32 ∧ t.pcOf q = s.pcNext q ∧
      (∀ j, j ≠ iD w → t.gReg q j = s.gReg q j) ∧ (∀ j, t.acc q j = s.acc q j) ∧ (∀ j, t.ptr q j = s.ptr q j) ∧
      (∀ k, k ≠ q.val → t.core k = s.core k) ∧
      t.core q = { s.core q with
        bank0 := (t.core q).bank0
        bank1 := (t.core q).bank1
        issueAt := max (s.core q).free (2 * s.cyc)
        free := max (s.core q).free (2 * s.cyc) + 1 }

/-- Whatever instruction is offered to a core that issues, a word at its PC that stands for no instruction faults with
cause ILLEGAL and an uncorrectable one with cause IMEM: the core is FAULTED, DSP_FAULT holds the cause and the address
of the instruction, and a REPEAT in progress is given up. An instruction whose word is not the one at the PC changes
nothing but the cycle's firings. -/
def Obligations.DspFaults : Prop :=
  ∀ (s : State) (q : Fin 32) (i : Instr) (op : DspOp),
    (i, op) ∈ [(.dspAdd q .clean, DspOp.add), (.dspMovi q .clean, .movi), (.dspCadds q .clean, .cadds),
      (.dspCmac q .clean, .cmac), (.dspLdW q .clean, .ldW), (.dspStD q .clean, .stD), (.dspB q .clean, .b),
      (.dspRepeat q .clean, .repeat), (.dspMvc q .clean, .mvc), (.dspHalt q .clean, .halt)] →
    s.coreIssues q = true →
    (s.badIn 9 q (s.pcOf q / 2) (s.pcOf q / 2 + 1) = true → exec i s = .next (s.act (fires fun s => s.coreFault q 4 0))) ∧
    (s.badIn 9 q (s.pcOf q / 2) (s.pcOf q / 2 + 1) = false → dspOp (s.imemWord q (s.pcOf q)) = none →
      exec i s = .next (s.act (fires fun s => s.coreFault q 1 0))) ∧
    (s.badIn 9 q (s.pcOf q / 2) (s.pcOf q / 2 + 1) = false →
      (∃ o, dspOp (s.imemWord q (s.pcOf q)) = some o ∧ o ≠ op) → exec i s = .next (s.act (fires id))) ∧
    (s.coreFault q 1 0).coreState q = 3 ∧ (s.coreFault q 1 0).rd .dspFault q = (1 + 16 * s.pcOf q) % 2 ^ 32 ∧
    ((s.coreFault q 1 0).core q).rep = none

/-- TAIL takes an index below RING_LEN, and any other sets PTR_ERR. RUN set on a stopped channel with a ring of two or
more entries and no error standing runs it; RUN cleared stops it at once between descriptors, else after the current
one. The descriptor at HEAD starts on a running channel whose HEAD is not TAIL, from the copy fetched ahead where
there is one, and up to four stay fetched ahead; a halt, a stop or TAIL moving back discards them. The next request is
a host read, a host write or a device burst, of at most one maximum size and within one 4 KiB page. The link serves
the channels that are ready in turn. A reply is taken when every lower byte has come; one that nothing waits for, a
timeout and a poisoned completion are noted by AER; an error kept by kind, direction and side. A resolved descriptor
writes its completion word, advances HEAD and counts. A stop gives kind ABORTED. A failed fetch stops the group. (What
is asked before RUN acts and that a request never exceeds the limiter's bucket are the model's: log entry 10.) -/
def Obligations.DmaRowsAct : Prop :=
  (∀ s (i : Fin 32) (v : Word), s.hostDma i = true → v.toNat % 65536 < s.ringLen i →
    exec (.dmaTailWrite i v) s = .next ((when
      (decide (s.dmaAhead i (v.toNat % 65536) < s.dmaAhead i (s.fld .dmaTailIndex i)))
      (fun s => s.updDma i fun x => { x with copies := [] }) s).setF .dmaTailIndex i (v.toNat % 65536))) ∧
  (∀ s (i : Fin 32) (v : Word), s.hostDma i = true → s.ringLen i ≤ v.toNat % 65536 →
    exec (.dmaTailWrite i v) s = .next (s.setB .dmaStatusPtrErr i true)) ∧
  (∀ s t (i : Fin 32) (v : Word), s.hostDma i = true →
    t = ((s.updDma i fun x => { x with bucket := s.bucketNow i, bucketAt := s.cyc }).setF .dmaCtrlShare i
      (slice v.toNat 8 8)).setF .dmaCtrlBurst i (slice v.toNat 16 3) →
    1 < s.dev → s.flag .dmaStatusErr i = false → s.flag .dmaStatusGroupHalt i = false →
    s.flag .grpPfStatusPfErr (i / 8) = false →
    (s.flag .dmaCtrlRun i = true → exec (.dmaRunSet i v) s = .next t) ∧
    (s.flag .dmaCtrlRun i = false → 2 ≤ s.ringLen i → exec (.dmaRunSet i v) s = .next
      (((t.setB .dmaCtrlRun i true).setF .dmaStatusState i 1).updDma i fun x =>
        { x with
          bucket := bucketUnit * (64 * 2 ^ ((t.setB .dmaCtrlRun i true).setF .dmaStatusState i 1).fld .dmaCtrlBurst i)
          bucketAt := ((t.setB .dmaCtrlRun i true).setF .dmaStatusState i 1).cyc })) ∧
    (s.flag .dmaCtrlRun i = false → s.ringLen i < 2 →
      exec (.dmaRunSet i v) s = .next (s.setB .dmaStatusPtrErr i true))) ∧
  (∀ s (i : Fin 32) (v : Word),
    s.dev ≤ 1 ∨ s.flag .dmaStatusErr i = true ∨ s.flag .dmaStatusGroupHalt i = true ∨
      s.flag .grpPfStatusPfErr (i / 8) = true →
    exec (.dmaRunSet i v) s = .next s) ∧
  (∀ s t (i : Fin 32) (v : Word), s.hostDma i = true →
    t = ((s.updDma i fun x => { x with bucket := s.bucketNow i, bucketAt := s.cyc }).setF .dmaCtrlShare i
      (slice v.toNat 8 8)).setF .dmaCtrlBurst i (slice v.toNat 16 3) →
    t.flag .dmaCtrlRun i = true →
    ((t.dmaOf i).desc = none → exec (.dmaRunClear i v) s = .next (((t.setB .dmaCtrlRun i false).updDma i fun x =>
      { x with copies := [] }).setF .dmaStatusState i 0)) ∧
    ((t.dmaOf i).desc ≠ none → exec (.dmaRunClear i v) s = .next ((t.setB .dmaCtrlRun i false).updDma i fun x =>
      { x with
        copies := []
        aborting := !(x.err.isSome || x.pend.any (fun r => r.kind != 0)) }))) ∧
  (∀ s (i : Fin 32) (w d : List Word) ds, s.pcie.linkUp = true → s.pcie.d3hot = false → s.flag .dmaCtrlRun i = true →
    s.fld .dmaStatusState i = 1 → (s.dmaOf i).desc = none → s.fld .dmaHeadIndex i ≠ s.fld .dmaTailIndex i →
    s.flag .dmaStatusGroupHalt i = false → (s.dmaOf i).copies ++ descWords w = d :: ds →
    exec (.dmaDescriptorStart i w) s = .next ((s.wr .dmaRemain i (dmaDecode d).len).setDma i { s.dmaOf i with
      desc := some (dmaDecode d)
      issued := 0
      done := 0
      pend := []
      aborting := false
      mism := none
      err := if (dmaDecode d).bad then some (9, false, false, s.rd .dmaRingBase i + 32 * s.fld .dmaHeadIndex i) else none
      req := (s.dmaOf i).req + BitVec.ofNat 48 (dmaDecode d).len
      copies := ds.take (min 4 ((s.wr .dmaRemain i (dmaDecode d).len).dmaAhead i
        ((s.wr .dmaRemain i (dmaDecode d).len).fld .dmaTailIndex i) - 1)) })) ∧
  (∀ s d (i : Fin 32) e, (s.dmaOf i).desc = some d → readsHost d = true → s.dmaReady i = true →
    s.dmaTurn i = true →
    exec (.dmaRequestIssue i e) s = .next (s.act (fires fun s =>
      let off := (s.dmaOf i).issued
      let n := s.dmaLen i d off
      let s : State := { s with pcie := { s.pcie with served := i } }
      ((((s.bucketTake i n).wr .dmaRemain i (d.len - off - n)).updDma i fun x => { x with issued := off + n }).updDma i
        fun x => { x with pend := x.pend ++ [⟨off, n, none, 0⟩] }).emit
          (.hostRead i (BitVec.ofNat 64 ((if d.op = 2 && d.dir = 1 then d.dst else d.src) + off)) n)))) ∧
  (∀ s d (i : Fin 32) e, (s.dmaOf i).desc = some d → d.op = 1 → d.dir = 1 → s.dmaReady i = true →
    s.dmaTurn i = true →
    exec (.dmaRequestIssue i e) s = .next (s.act (fires fun s =>
      let off := (s.dmaOf i).issued
      let n := s.dmaLen i d off
      let s : State := { s with pcie := { s.pcie with served := i } }
      (((((s.bucketTake i n).wr .dmaRemain i (d.len - off - n)).updDma i
        fun x => { x with issued := off + n }).eccSeen e).emit
          (.hostWrite (BitVec.ofNat 64 (d.dst + off)) (fillBytes d off n))).dmaGain i n))) ∧
  (∀ s d (i : Fin 32) e, (s.dmaOf i).desc = some d → d.op = 1 → d.dir ≠ 1 → s.dmaReady i = true →
    exec (.dmaRequestIssue i e) s = .next (s.act (fires fun s =>
      let off := (s.dmaOf i).issued
      let n := s.dmaLen i d off
      (((s.wr .dmaRemain i (d.len - off - n)).updDma i fun x => { x with issued := off + n }).eccSeen e).dmaWrite i
        (d.dst + off) (fillBytes d off n) 2))) ∧
  (∀ s t d (i : Fin 32) e b, (s.dmaOf i).desc = some d → d.op = 0 → d.dir = 1 → s.dmaReady i = true → s.dmaTurn i = true →
    0 < (s.dmaOf i).issued → (d.src + (s.dmaOf i).issued) % 0x1000 ≠ 0 →
    t = ((((State.bucketTake { s with pcie := { s.pcie with served := i } } i (s.dmaLen i d (s.dmaOf i).issued)).wr .dmaRemain i
      (d.len - (s.dmaOf i).issued - s.dmaLen i d (s.dmaOf i).issued)).updDma i fun x =>
        { x with issued := (s.dmaOf i).issued + s.dmaLen i d (s.dmaOf i).issued }).eccSeen e) →
    t.dmaRead (d.src + (s.dmaOf i).issued) (s.dmaLen i d (s.dmaOf i).issued) = .inr b →
    exec (.dmaRequestIssue i e) s = .next (s.act fun _ => ((t.emit
      (.hostWrite (BitVec.ofNat 64 (d.dst + (s.dmaOf i).issued))
        (swapBytes d.swap (b.take (s.dmaLen i d (s.dmaOf i).issued))))).dmaGain i
          (s.dmaLen i d (s.dmaOf i).issued)).settle)) ∧
  (∀ (s : State) (i : Nat) d off, readsHost d = true → s.dmaLen i d off ≤ s.pcie.maxRead ∧
    s.dmaLen i d off ≤ 0x1000 - ((if d.op = 2 && d.dir = 1 then d.dst else d.src) + off) % 0x1000) ∧
  (∀ (s : State) (i : Nat) d off, readsHost d = false → writesHost d = true →
    s.dmaLen i d off ≤ s.pcie.maxPayload ∧ s.dmaLen i d off ≤ 0x1000 - (d.dst + off) % 0x1000) ∧
  (∀ (s : State) (i : Fin 32) off kind data, (∀ r ∈ (s.dmaOf i).pend, r.off ≠ off) → s.dmaReply i off kind data = s) ∧
  (∀ s d r (i : Fin 32) b e, e = .clean → (s.dmaOf i).desc = some d → (s.dmaOf i).pend = [r] → r.kind = 0 →
    r.data = none → (s.dmaOf i).err = none → exec (.dmaCompletionRx i r.off (.data b) e) s = .next (s.act (fires fun s =>
      ((s.setDma i { s.dmaOf i with pend := [{ r with data := some b }] }).setDma i
        { s.dmaOf i with pend := [] }).dmaArrive i d { r with data := some b } b))) ∧
  (∀ s d r (i : Fin 32), (s.dmaOf i).desc = some d → (s.dmaOf i).pend = [r] → r.kind = 0 →
    r.data = none → (s.dmaOf i).err = none →
    exec (.dmaCompletionTimeout i r.off) s = .next ((((s.aerNote 14).setDma i { s.dmaOf i with
      pend := [{ r with data := none, kind := 3 }] }).setDma i { s.dmaOf i with pend := [] }).updDma i fun x => { x with
        err := some (3, false, false, (if d.op = 2 && d.dir = 1 then d.dst else d.src) + r.off) })) ∧
  (∀ s (i : Fin 32) off e, e = .clean → s.pcie.linkUp = true →
    (∀ r ∈ (s.dmaOf i).pend, ¬ (r.off = off ∧ r.kind = 0 ∧ r.data = none)) →
    exec (.dmaCompletionRx i off .unsupported e) s = .next (s.act (fires fun s => s.aerNote 16))) ∧
  (∀ s d (i : Fin 32), (s.dmaOf i).desc = some d → (s.dmaOf i).pend = [] →
    (s.dmaOf i).err = none → (s.dmaOf i).aborting = false → d.len ≤ (s.dmaOf i).issued → (s.dmaOf i).mism = none →
    (s.dmaOf i).haltDue = false →
    exec (.dmaRetire i) s = .next (((when d.irq (fun s => s.irq (8 + i)) (((s.emit
      (.hostWrite (BitVec.ofNat 64 (s.rd .dmaRingBase i + 32 * s.fld .dmaHeadIndex i + 24))
        (leBytes 4 1 ++ leBytes 4 0))).setF .dmaHeadIndex i
          ((s.fld .dmaHeadIndex i + 1) % max 1 (s.ringLen i))).bump .dmaDescDone i)).setDma i { s.dmaOf i with
            desc := none }))) ∧
  (∀ s d m (i : Fin 32), (s.dmaOf i).desc = some d → (s.dmaOf i).pend = [] →
    (s.dmaOf i).err = none → (s.dmaOf i).aborting = false → d.len ≤ (s.dmaOf i).issued →
    (s.dmaOf i).mism = some m → d.haltMism = false → (s.dmaOf i).haltDue = false →
    exec (.dmaRetire i) s = .next (((when d.irq (fun s => s.irq (8 + i)) (((s.emit
      (.hostWrite (BitVec.ofNat 64 (s.rd .dmaRingBase i + 32 * s.fld .dmaHeadIndex i + 24))
        (leBytes 4 3 ++ leBytes 4 m))).setF .dmaHeadIndex i
          ((s.fld .dmaHeadIndex i + 1) % max 1 (s.ringLen i))).bump .dmaDescDone i)).setDma i { s.dmaOf i with
            desc := none }))) ∧
  (∀ s d (i : Fin 32), (s.dmaOf i).desc = some d → (s.dmaOf i).pend = [] →
    (s.dmaOf i).aborting = true → (s.dmaOf i).haltDue = false → s.flag .dmaCtrlRun i = false →
    exec (.dmaRetire i) s = .next (((((when d.irq (fun s => s.irq (8 + i)) (((s.emit
      (.hostWrite (BitVec.ofNat 64 (s.rd .dmaRingBase i + 32 * s.fld .dmaHeadIndex i + 24))
        (leBytes 4 90 ++ leBytes 4 (d.len - (s.dmaOf i).done)))).setF .dmaHeadIndex i
          ((s.fld .dmaHeadIndex i + 1) % max 1 (s.ringLen i))).bump .dmaDescDone i)).setDma i { s.dmaOf i with
            desc := none
            err := none
            aborting := false
            fail := (s.dmaOf i).fail + BitVec.ofNat 48 (d.len - (s.dmaOf i).done) })).wr .dmaErrInfo i 11).setF
              .dmaStatusState i 0)) ∧
  (∀ s d k w dv a (i : Fin 32), (s.dmaOf i).desc = some d → (s.dmaOf i).pend = [] →
    (s.dmaOf i).err = some (k, w, dv, a) → (s.dmaOf i).aborting = false →
    exec (.dmaRetire i) s = .next ((((((((when d.irq (fun s => s.irq (8 + i)) (((s.emit
      (.hostWrite (BitVec.ofNat 64 (s.rd .dmaRingBase i + 32 * s.fld .dmaHeadIndex i + 24))
        (leBytes 4 (2 + 8 * k) ++ leBytes 4 (d.len - (s.dmaOf i).done)))).setF .dmaHeadIndex i
          ((s.fld .dmaHeadIndex i + 1) % max 1 (s.ringLen i))).bump .dmaDescDone i)).setDma i { s.dmaOf i with
            desc := none
            err := none
            fail := (s.dmaOf i).fail + BitVec.ofNat 48 (d.len - (s.dmaOf i).done) })).wr .dmaErrInfo i
              (k + 32 * ofBool w + 64 * ofBool dv)).wr .dmaErrAddr i a).setB .dmaStatusErr i true).dmaHalt i))) ∧
  (∀ s (g : Fin 4) (kind : Fin 32), kind.val ∈ [1, 2, 3, 4, 10] → exec (.dmaPrefetchFail g kind) s = .next
    (forEach (List.range 8) (fun k u =>
      if ((u.setB .dmaStatusGroupHalt (8 * g + k) true).dmaOf (8 * g + k)).desc.isSome
      then (u.setB .dmaStatusGroupHalt (8 * g + k) true).updDma (8 * g + k) fun x => { x with
        copies := []
        haltDue := true }
      else (u.setB .dmaStatusGroupHalt (8 * g + k) true).dmaHalt (8 * g + k))
      (((s.aerNote (State.aerBit kind)).setB .grpPfStatusPfErr g true).setF .grpPfStatusKind g kind))) ∧
  (∀ (s : State) (i : Nat), s.dmaHalt i = (((s.updDma i fun x => { x with
      copies := []
      haltDue := false }).setF .dmaStatusState i 2).setB .dmaCtrlRun i false).irq (8 + i))

/-- Entering D3hot on a link that is up stops every DMA channel by the very operation of a RUN = 0 stop: a running channel
between descriptors goes to STOPPED, one with a descriptor aborts after it, unless a request of it has failed already;
what was fetched ahead is discarded; and nothing else changes (no shot, engine or block). The return to D0 changes
nothing but the power state. (Which operation a RUN = 0 stop is, its second and third clauses say.) -/
def Obligations.D3hotStopsTheEngine : Prop :=
  (∀ s, s.pcie.linkUp = true → exec .pcieD3hot s = .next (s.act fun s =>
    forEach (List.range 32) (fun i s => s.dmaStop i) { s with pcie := { s.pcie with d3hot := true } })) ∧
  (∀ (s : State) (i : Nat), s.dmaStop i =
    if s.flag .dmaCtrlRun i = true then
      let t := (s.setB .dmaCtrlRun i false).updDma i fun x => { x with copies := [] }
      if (t.dmaOf i).desc.isSome = true
      then t.updDma i fun x => { x with aborting := !DmaChan.failed x }
      else t.setF .dmaStatusState i 0
    else s) ∧
  (∀ s (i : Fin 32) (v : Word), s.hostDma i = true → exec (.dmaRunClear i v) s = .next (s.act fun s =>
    (((s.updDma i fun x => { x with bucket := s.bucketNow i, bucketAt := s.cyc }).setF .dmaCtrlShare i
      (slice v.toNat 8 8)).setF .dmaCtrlBurst i (slice v.toNat 16 3)).dmaStop i)) ∧
  (∀ s, exec .pcieD0Return s = .next { s with pcie := { s.pcie with d3hot := false } })

/-- Link down resets the doorbells and the DMA registers but their byte counters, whose invariant is re-based, and MSI-X
and configuration space. A link that returns runs at its rate. Unmasking, or MSI-X Enable, sends a pending message;
clearing a cause latch clears its pending bit, and a cause that still holds sets again; a latch or a W1C bit that the
block set in the same cycle stays set. An access of a size or alignment that BAR0 does not take is counted, and a read
of it gives zero. An ordinary register reads as its present value, and an offset with none, or a closed or absent one,
as zero. Low and high words of a 64-bit register are read through its latch and written through its hold; an 8-byte
read takes it whole. The doorbells, the pointers and the MSI-X table stand at offsets of BAR4, and the host gives the
three BARs their base addresses. A plain register's write acts on each bit by its access code; a closed or absent
one's has no effect. (That a cause latch's clearing clears the pending bit, and the reset values of configuration
space, are the model's: log entry 10.) -/
def Obligations.HostBusRows : Prop :=
  (∀ s, exec .pcieLinkDown s = .next (s.act fun s =>
    forEach (List.range 4) (fun g s => s.wr .grpPfStatus g 0) (forEach (List.range 32) (fun i s => s.dmaReset i)
      (forEach (List.range 4) (fun q (s : State) => s.setQp q { s.qp q with tail := 0, rplHead := 0 }) { s with
        pcie := { s.pcie with
          linkUp := false
          d3hot := false
          msixEn := false
          fmask := false
          vmask := 0xFFFFFFFFFFFFFFFF
          pba := 0
          msgAddr := []
          msgData := []
          maxPayload := 128
          maxRead := 512
          aer := 0
          bars := [] } })))) ∧
  (∀ (s : State) (i : Nat), (s.dmaReset i).dma = SMap.put DmaChan.init s.dma i { DmaChan.init with
      req := (s.dmaOf i).req
      xfer := (s.dmaOf i).xfer
      fail := (s.dmaOf i).fail
      reqBase := (s.dmaOf i).req
      xferBase := (s.dmaOf i).xfer
      failBase := (s.dmaOf i).fail }) ∧
  (∀ s (rate width : Nat), rate ∈ [25, 50, 80, 160, 320] → width ∈ [1, 2, 4, 8, 16] →
    exec (.pcieLinkReturn rate width) s = .next { s with pcie := { s.pcie with
      linkUp := true
      rate := if rate < 80 then rate * width * 208 else rate * width * 256 } }) ∧
  (∀ s (v : Fin 64), s.pcie.linkUp = true → s.pcie.d3hot = false → s.pcie.msixEn = true → s.pcie.fmask = false →
    bit s.pcie.pba.toNat v = true → exec (.msixUnmask (.vector v)) s = .next (s.act fun s =>
      { s with
        pcie := { s.pcie with
          vmask := BitVec.ofNat 64 (setBit s.pcie.vmask.toNat v false)
          pba := BitVec.ofNat 64 (setBit s.pcie.pba.toNat v false) }
        egress := s.egress ++ [.msix v (SMap.get 0 s.pcie.msgAddr v) (SMap.get 0 s.pcie.msgData v)] })) ∧
  (∀ s, s.pcie.linkUp = true → s.pcie.d3hot = false → exec (.msixUnmask .function) s = .next (s.act fun s =>
    forEach (List.range 64) (fun v s => s.msixFlush v) { s with pcie := { s.pcie with fmask := false } })) ∧
  (∀ s (w : Fin 2) (v : Word), s.hostPage 0 = true → exec (.irqPendClear w v) s = .next (s.act fun s =>
    let r : Reg := if w.val = 0 then .glbIrqPend0 else .glbIrqPend1
    let gone := setBits (v.toNat &&& (0xFFFFFFFF - s.raisedBits r 0)) 32
    let t := s.wr r 0 (s.rd r &&& (0xFFFFFFFF - v.toNat ||| s.raisedBits r 0))
    forEach gone (fun b u => if u.causeHolds (32 * w + b) then u.irq (32 * w + b) else u)
      { t with
        pcie := { t.pcie with pba := BitVec.ofNat 64 (gone.foldl
          (fun m b => setBit m (32 * w + b) false) t.pcie.pba.toNat) } })) ∧
  (∀ s, s.pcie.linkUp = true → s.pcie.d3hot = false → s.dev ≠ 0 →
    exec (.bar0BadAccess true) s = .next (s.bump .glbPcieBadacc) ∧
    exec (.bar0BadAccess false) s = .next { s.bump .glbPcieBadacc with readData := 0, poisoned := false }) ∧
  (∀ s (o : BitVec 24) x, place? o.toNat = some x → x.reg.info.wide = true → x.high = false →
    s.regOpen x.reg x.inst = true → exec (.reg64LowRead (.bar0 o false)) s = .next { s with
      latch := SMap.put 0 s.latch (placeKey x) (s.placeView x / 2 ^ 32 + 1)
      readData := BitVec.ofNat 64 (s.placeView x % 2 ^ 32)
      poisoned := false }) ∧
  (∀ s (o : BitVec 24) x, place? o.toNat = some x → x.high = true → s.regOpen x.reg x.inst = true →
    SMap.get 0 s.latch (placeKey x) ≠ 0 → exec (.reg64HighRead o) s = .next { s with
      latch := SMap.put 0 s.latch (placeKey x) 0
      readData := BitVec.ofNat 64 (SMap.get 0 s.latch (placeKey x) - 1)
      poisoned := false }) ∧
  (∀ s (o : BitVec 24) x, place? o.toNat = some x → x.high = true → s.regOpen x.reg x.inst = true →
    SMap.get 0 s.latch (placeKey x) = 0 → exec (.reg64HighRead o) s = .next { s with
      readData := BitVec.ofNat 64 (s.placeView x / 2 ^ 32)
      poisoned := false }) ∧
  (∀ s (o : BitVec 24) (v : Word) x, place? o.toNat = some x → x.high = false → x.copy = false →
    x.reg.info.wide = true → x.reg.info.rw ≠ 0 → s.regOpen x.reg x.inst = true →
    exec (.reg64LowWrite o v) s = .next { s with hold := SMap.put 0 s.hold (placeKey x) (v.toNat + 1) }) ∧
  (∀ s (o : BitVec 24) (v : Word) x low, place? o.toNat = some x → x.high = true → x.copy = false → x.reg = .dmaRingBase →
    s.regOpen x.reg x.inst = true →
    low = (if SMap.get 0 s.hold (placeKey x) = 0 then s.view x.reg x.inst % 2 ^ 32
      else SMap.get 0 s.hold (placeKey x) - 1) →
    exec (.reg64HighWrite o v) s = .next (({ s with hold := SMap.put 0 s.hold (placeKey x) 0 } : State).wr .dmaRingBase
      x.inst ((low + 2 ^ 32 * v.toNat) &&& Reg.dmaRingBase.info.rw))) ∧
  (∀ s (o : BitVec 24) x, place? o.toNat = some x → x.reg.info.wide = true → s.regOpen x.reg x.inst = false →
    exec (.reg64LowRead (.bar0 o false)) s = .next { s with readData := 0, poisoned := false } ∧
    exec (.reg64HighRead o) s = .next { s with readData := 0, poisoned := false }) ∧
  (∀ s (o : BitVec 24), place? o.toNat = none →
    exec (.reg64LowRead (.bar0 o false)) s = .next { s with readData := 0, poisoned := false } ∧
    exec (.reg64HighRead o) s = .next { s with readData := 0, poisoned := false }) ∧
  (∀ s (o : BitVec 24) x, place? o.toNat = some x → x.reg.info.wide = true →
    exec (.reg64LowRead (.bar0 o true)) s = .next { s with readData := BitVec.ofNat 64 (s.placeView x), poisoned := false }) ∧
  (∀ s (o : BitVec 24) x, place? o.toNat = some x → x.reg.info.wide = false → s.regOpen x.reg x.inst = true →
    x.copy = true ∨ (x.reg ≠ .ochTblData ∧ x.reg ≠ .trigTsX) →
    exec (.reg64LowRead (.bar0 o false)) s = .next { s with
      readData := BitVec.ofNat 64 (s.placeView x), poisoned := false }) ∧
  (∀ s (o : BitVec 20), s.hostBar4 = true → exec (.reg64LowRead (.bar4 o false)) s = .next { s with
      readData := BitVec.ofNat 64 (s.bar4View o.toNat), poisoned := false }) ∧
  (∀ s (o : BitVec 20), s.hostBar4 = false →
    exec (.reg64LowRead (.bar4 o false)) s = .next { s with readData := 0, poisoned := false }) ∧
  (∀ s (o : BitVec 20) (v : Dword), s.hostBar4 = true →
    exec (.registerWrite (.bar4 o false) v) s = .next (s.act (fires fun s => s.bar4Write4 o.toNat (v.toNat % 2 ^ 32)))) ∧
  (∀ s (k : Fin 3) (v : Dword), s.pcie.linkUp = true → s.pcie.d3hot = false →
    exec (.registerWrite (.barBase k) v) s = .next (s.act (fires fun s => { s with pcie := { s.pcie with
      bars := SMap.put 0 s.pcie.bars k (BitVec.ofNat 64 (v.toNat / 2 ^ barBits k * 2 ^ barBits k)) } }))) ∧
  (∀ s (o : BitVec 24) (v : Dword) x, o.toNat % 4 = 0 → place? o.toNat = some x → x.copy = false →
    x.reg.info.wide = false → s.regOpen x.reg x.inst = true →
    x.reg ∈ [Reg.glbDecWinAddr, .glbFbStatus, .glbEccLogU, .glbScrubCfg, .timeStatus, .thermDuskMax, .thermDuskRampMax,
      .bdacStatus, .calStatus, .calUnitSel, .evfDbg, .evfChSel, .evfProdSel, .evfSnapCfg, .evfSnapStatus, .evfHostPend,
      .dmaRingLen, .dmaStatus, .grpPfStatus, .jrnStatus, .blpStatus, .bllAdapt, .dspIntMax, .guardLock, .ochStrmStatus,
      .ochTblAddr, .ochSatStage, .ochSeqErr, .ochOutStatus, .ochFbStatus, .rchRxStatus, .acqStatus, .scbTamperCause,
      .qpStatus] →
    exec (.registerWrite (.bar0 o false) v) s = .next (s.act (fires fun s =>
      let w := v.toNat % 2 ^ 32
      s.wr x.reg x.inst ((s.rd x.reg x.inst &&& (2 ^ x.reg.bits - 1 - x.reg.info.rw) &&&
        (2 ^ x.reg.bits - 1 - (w &&& x.reg.info.w1c) ||| s.raisedBits x.reg x.inst)) ||| (w &&& x.reg.info.rw) ||| (w &&& x.reg.info.w1s))))) ∧
  (∀ s (o : BitVec 24) (v : Dword) x, o.toNat % 4 = 0 → place? o.toNat = some x → x.reg.info.wide = false →
    x.copy = true ∨ s.regOpen x.reg x.inst = false →
    exec (.registerWrite (.bar0 o false) v) s = .next (s.act (fires fun s => s))) ∧
  (∀ s (k : Fin 64) (v : Dword), s.pcie.linkUp = true → s.pcie.d3hot = false → s.dev ≠ 0 →
    exec (.registerWrite (.msixAddr k) v) s = .next (s.act (fires fun s =>
      { s with pcie := { s.pcie with msgAddr := SMap.put 0 s.pcie.msgAddr k v } })) ∧
    exec (.registerWrite (.msixData k) v) s = .next (s.act (fires fun s =>
      { s with pcie := { s.pcie with msgData := SMap.put 0 s.pcie.msgData k (BitVec.ofNat 32 v.toNat) } })) ∧
    (bit v.toNat 0 = true → exec (.registerWrite (.msixMask k) v) s = .next (s.act (fires fun s =>
      { s with pcie := { s.pcie with vmask := BitVec.ofNat 64 (setBit s.pcie.vmask.toNat k true) } })))) ∧
  (∀ s (v : Dword), s.pcie.linkUp = true →
    exec (.registerWrite .msixEnable v) s = .next (s.act (fires fun s =>
      forEach (List.range 64) (fun v s => s.msixFlush v)
        { s with pcie := { s.pcie with msixEn := bit v.toNat 0 } })) ∧
    (7 ≤ v.toNat → v.toNat ≤ 9 → exec (.registerWrite .maxPayload v) s = .next (s.act (fires fun s =>
      { s with pcie := { s.pcie with maxPayload := 2 ^ v.toNat } }))) ∧
    (7 ≤ v.toNat → v.toNat ≤ 12 → exec (.registerWrite .maxRead v) s = .next (s.act (fires fun s =>
      { s with pcie := { s.pcie with maxRead := 2 ^ v.toNat } }))))

/-- CAL_RUN marks every present unit of its kinds, which becomes due, and completes when none is left marked, or with FAIL
when its time is over. CAL_SAVE stores the trims in force as copies A and B in the two least worn free sectors, of
which none holds the newest record; with none left it fails. CAL_CONFIG sets the configuration and looks at every
drift afresh, HK_CONFIG sets the scan, and a scan conversion that runs then keeps its input. A due unit's slice starts
in a gap, in its turn, and takes a LIVE output to OFF; at its end its trims are applied and count. A due unit becomes
overdue after STALE. A conversion goes to the result register of the input it was begun for or to the injected
request; one of VREF made before the reference is ready sets VREF_BAD and decides no slice; a request that cannot be
taken is dropped with its reason. -/
def Obligations.CalibrationAct : Prop :=
  (∀ s c, Accepted calRunSpec c s → exec (.calRun c) s = .next (s.act (begun c fun s =>
    forEach ((setBits (pByte c 16) 6).flatMap fun k => (List.range (s.calCount k)).map (k, ·))
      (fun (u : Nat × Nat) (s : State) =>
        (s.calDue u.1 u.2).setCalUnit u.1 u.2 { (s.calDue u.1 u.2).calUnit u.1 u.2 with marked := true })
      (forEach ((setBits 0x3F 6).flatMap fun k => (List.range (s.calCount k)).map (k, ·))
        (fun (u : Nat × Nat) (s : State) => s.setCalUnit u.1 u.2 { s.calUnit u.1 u.2 with marked := false })
        (s.startLong c .cal 0 (pByte c 16) 0 []))))) ∧
  (∀ s l, s.findLong 0x700 = some l → s.calWaits = 0 →
    exec .calRunComplete s = .next (s.completeAs l 0 0 0 0)) ∧
  (∀ s l, s.findLong 0x700 = some l → s.calWaits ≠ 0 →
    l.accCyc + 62500000 * s.fld .calStaleStale + 62500000 ≤ s.cyc →
    exec .calRunComplete s = .next (s.completeAs l 0 (2 ^ 31) s.calWaits 0)) ∧
  (∀ s c, Accepted calSaveSpec c s → exec (.calSave c) s = .next (s.act (begun c fun s =>
    let t := s.startLong c .nvm 0 0 0 []
    { t with
      nvm := { t.nvm with
        saving := some t.cal
        auto := false
        changed := false } }))) ∧
  (∀ s l r a b, s.nvm.saving = some r → s.nvm.auto = false → s.nvmPair = some (a, b) → s.findLong 0x701 = some l →
    exec .calSaveComplete s = .next (s.act fun s =>
      let seq := s.nvm.seq + 1
      let w := SMap.put 0 s.nvm.wear a (SMap.get 0 s.nvm.wear a + 1)
      let m := SMap.put none s.nvm.sectors a (some ⟨0x4351, 1, seq, Config.recordSize.toNat, 0, r, true⟩)
      ((({ s with
        nvm := { s.nvm with
          sectors := SMap.put none m b (some ⟨0x4351, 1, seq, Config.recordSize.toNat, 1, r, true⟩)
          wear := SMap.put 0 w b (SMap.get 0 w b + 1)
          saving := none
          auto := false
          lastSave := s.cyc } } : State).wr .calNvmSeq 0 seq).completeAs l 0 0 0 0))) ∧
  (∀ (s : State) (a b : Nat), s.nvmPair = some (a, b) → a ∈ s.nvmFree ∧ b ∈ s.nvmFree ∧ a ≠ b) ∧
  (∀ (s : State) (k : Nat) (c : NvmCopy), SMap.get none s.nvm.sectors k = some c → c.valid = true → c.seq = s.nvm.seq →
    k ∉ s.nvmFree) ∧
  (∀ s l r, s.nvm.saving = some r → s.nvm.auto = false → s.nvmPair = none → s.findLong 0x701 = some l →
    exec .calSaveComplete s = .next (s.act fun s =>
      (({ s with
        nvm := { s.nvm with
          saving := none
          auto := false
          changed := true } } : State).setB .calNvmStatusWorn 0 true).completeAs l 0 (2 ^ 31) 0 0)) ∧
  (∀ s, s.flag .calCfgAutosave = true → s.nvm.changed = true → s.nvm.lastSave + 86400 * 625000000 ≤ s.cyc →
    s.nvm.saving = none → (∀ l ∈ s.ce.longs, l.cls ≠ .nvm) → s.served = true →
    exec .calAutosave s = .next { s with
      nvm := { s.nvm with
        saving := some s.cal
        auto := true
        changed := false } }) ∧
  (∀ s c, Accepted calConfigSpec c s → exec (.calConfig c) s = .next (s.act (done c fun s =>
    ((s.wr .calCfg 0 (pNum c 16 2)).wr .calStale 0 (pNum c 18 2)).calDrift))) ∧
  (∀ s (k : Fin 6) (i : Fin 96), s.calReady k i = true → s.calTurn k i = true →
    exec (.calSliceStart k i) s = .next (s.act fun s =>
      let live := decide (k.val ≤ 1) && s.outState i == 2
      let t := s.setCalUnit k i { s.calUnit k i with
        slice := some s.cyc
        restore := (s.calUnit k i).restore || live }
      if live then t.outStop i false else t)) ∧
  (∀ s (k : Fin 6) (i : Fin 96) m c, k.val ≠ 3 → k.val ≠ 5 → (s.calUnit k i).slice = some c → c + sliceLen k ≤ s.cyc →
    s.hk.vrefBad = false → exec (.calSliceEnd k i m) s = .next (s.act fun s =>
      (({ s.setCalUnit k i { s.calUnit k i with
          due := false
          overdue := false
          slice := none
          lastFail := false
          count := satAdd32 (s.calUnit k i).count 1
          lastSt := s.st
          lastTemp := BitVec.ofNat 16 (s.fld .thermSensorTemp (s.calSensor k i))
          trim := m
          marked := false } with
        nvm := { s.nvm with changed := s.nvm.changed || (s.calUnit k i).trim != m } } : State).calTrim k i m).calReturn
          k i)) ∧
  (∀ s (k : Fin 6) (i : Fin 96) m c, k.val = 0 ∨ k.val = 2 → (s.calUnit k i).slice = some c →
    c + sliceLen k ≤ s.cyc → s.hk.vrefBad = true →
    exec (.calSliceEnd k i m) s = .next (s.act fun s =>
      ((s.setCalUnit k i { s.calUnit k i with lastFail := true }).sliceAbandon k i).calReturn k i)) ∧
  (∀ s (k : Fin 6) (i : Fin 96), i.val < s.calCount k → (s.calUnit k i).due = true → (s.calUnit k i).overdue = false →
    (s.calUnit k i).dueAt + 62500000 * s.fld .calStaleStale ≤ s.cyc →
    exec (.calOverdue k i) s = .next (((s.setCalUnit k i { s.calUnit k i with overdue := true }).setB .calStatusOverdueSeen 0
      true).bump .calOverdueCnt)) ∧
  (∀ s c, Accepted hkConfigSpec c s → pNum c 24 8 = 0 → bit (pByte c 17) 0 = s.flag .hkCfgRefEn → s.hkScans = false →
    exec (.hkConfig c) s = .next (s.act (done c fun s =>
      let t := s.wr .hkCfg 0 (ofBool (bit (pByte c 17) 0) + 256 * pBits c 16 0 6)
      { t with hk := { t.hk with pos := if pBits c 16 0 6 < t.hk.pos then 0 else t.hk.pos } }))) ∧
  (∀ s c, Accepted hkConfigSpec c s → pNum c 24 8 = 0 → bit (pByte c 17) 0 = s.flag .hkCfgRefEn → s.hkScans = true →
    s.hk.now = none → exec (.hkConfig c) s = .next (s.act (done c fun s =>
      ({ s with hk := { s.hk with now := some (s.hkScanAt s.hk.pos) } } : State).wr .hkCfg 0
        (ofBool (bit (pByte c 17) 0) + 256 * pBits c 16 0 6)))) ∧
  (∀ s c, Accepted hkConfigSpec c s → pNum c 24 8 ≠ 0 → bit (pByte c 17) 0 = true → s.flag .hkCfgRefEn = false → s.hkScans = false →
    exec (.hkConfig c) s = .next (s.act (done c fun s =>
      let t := forEach (List.range 16) (fun j s => s.wr .hkScan j (bufNat (bufOf c) (4 * j) 4))
        (({ s with hk := { s.hk with refAt := s.cyc } } : State).wr .hkCfg 0 (1 + 256 * pBits c 16 0 6))
      { t with hk := { t.hk with pos := if pBits c 16 0 6 < t.hk.pos then 0 else t.hk.pos } }))) ∧
  (∀ s (x : BitVec 16) i, 7 ≤ s.fld .glbDawnStatusStage → s.dev ≠ 0 → s.hkSlice = false → s.hk.slotAt + 500 ≤ s.cyc →
    s.hk.inj = some i → i ≠ 56 → s.flag .hkCfgRefEn = true → s.hk.refAt + 3125000 ≤ s.hk.slotAt →
    exec (.hkConversionEnd x) s = .next (s.act fun s =>
      let t := s.wr .hkInjResult 0 (x.toNat + i <<< 16 + 2 ^ 24)
      { t with
        hk := { t.hk with
          inj := none
          slotAt := t.cyc + 125 } })) ∧
  (∀ s (x : BitVec 16), 7 ≤ s.fld .glbDawnStatusStage → s.dev ≠ 0 → s.hkSlice = false → s.hk.slotAt + 500 ≤ s.cyc →
    s.hk.inj = none → s.flag .hkCfgRefEn = true → s.hk.refAt + 3125000 ≤ s.hk.slotAt →
    exec (.hkConversionEnd x) s = .next (s.act fun s =>
      let i := slice (s.rd .hkScan (s.hk.pos / 4)) (8 * (s.hk.pos % 4)) 6
      let i := s.hk.now.getD i
      let u := if i = 56 then s.setB .hkStatusVrefBad 0 (!vrefOk x) else s
      let u : State := if i = 56 then { u with hk := { u.hk with vrefBad := !vrefOk x } } else u
      let t := u.wr .hkResult i (x.toNat + 2 ^ 16)
      { t with
        hk := { t.hk with
          pos := if t.fld .hkCfgScanLen ≤ t.hk.pos then 0 else t.hk.pos + 1
          slotAt := t.cyc + 125
          now := none } })) ∧
  (∀ s (x : BitVec 16), 7 ≤ s.fld .glbDawnStatusStage → s.dev ≠ 0 → s.hkSlice = false → s.hk.slotAt + 500 ≤ s.cyc →
    s.hk.inj = none → s.hk.now = none → s.hkScanAt s.hk.pos = 56 → s.flag .hkCfgRefEn = false →
    ∃ t, exec (.hkConversionEnd x) s = .next t ∧ t.hk.vrefBad = s.hk.vrefBad ∧ t.flag .hkStatusVrefBad = !vrefOk x) ∧
  (∀ s (v : Word), s.hostPage 3 = true →
    (s.hkSlice = true → exec (.hkInjWrite v) s = .next ((s.bump .hkInjDrop).setF .hkInjStatusLastDrop 0 3)) ∧
    (s.hkSlice = false → s.hk.slotAt ≤ s.cyc →
      exec (.hkInjWrite v) s = .next ((s.bump .hkInjDrop).setF .hkInjStatusLastDrop 0 1)) ∧
    (s.hkSlice = false → s.cyc < s.hk.slotAt → s.hk.inj.isSome = true →
      exec (.hkInjWrite v) s = .next ((s.bump .hkInjDrop).setF .hkInjStatusLastDrop 0 2)) ∧
    (s.hkSlice = false → s.cyc < s.hk.slotAt → s.hk.inj = none →
      exec (.hkInjWrite v) s = .next { s with hk := { s.hk with inj := some (slice v.toNat 0 6) } }))

/-- TIME_UNLOCK, well formed and naming the device (INDEX 0), clears MIDNIGHT_SET in IDLE (device state 2) and does
nothing else; in every other state it is refused with STATE (status 3). ATTEST, well formed and naming the device, in
a state that takes it and with its nonce buffer read, is refused with AUTH (status 7) in BLANK (lifecycle 0), in
RETIRED (4) and while TAMPER = 1; where none of these holds, a nonce of fewer than 16 or more than 48 bytes, or a
result buffer of less than 240 bytes, is refused with RANGE (status 4). A refused command passes its slot, is
answered, and has no other effect. -/
def Obligations.UnlockAndAttestRules : Prop :=
  (∀ s c, s.canStart c = true → opcodeOf c = timeUnlockSpec.opcode → checkForm timeUnlockSpec c = none →
    (s.dev = 2 → indexOf c = 0 → checkLayout timeUnlockSpec c = none →
      exec (.timeUnlock c) s = .next (s.act (done c fun s => s.setB .timeStatusMidnightSet 0 false))) ∧
    (s.dev ≠ 2 →
      exec (.timeUnlock c) s = .next (s.act fun s => (s.passHead c.qp).answer c 3 4 0 0 s.st.toNat 0))) ∧
  (∀ s c, s.canStart c = true → opcodeOf c = attestSpec.opcode → checkForm attestSpec c = none →
    bit attestSpec.states s.dev = true → c.buf.isSome = true →
    (s.fuse.lc = 0 ∨ s.fuse.lc = 4 ∨ s.flag .scbStatusTamper = true →
      exec (.attest c) s = .next (s.act fun s => (s.passHead c.qp).answer c 7 0 0 0 s.st.toNat 0)) ∧
    (indexOf c = 0 → s.fuse.lc ≠ 0 → s.fuse.lc ≠ 4 → s.flag .scbStatusTamper = false →
      pByte c 16 < 16 ∨ 48 < pByte c 16 ∨ pNum c 20 4 < 240 →
      ∃ i k, exec (.attest c) s = .next (s.act fun s => (s.passHead c.qp).answer c 4 0 i k s.st.toNat 0)))

/-- ATTEST latches its report when it is accepted, and its completion writes the report and the signature. CERT_READ
writes the chain and returns its length. GUARD_RAISE, LIFECYCLE_SET and UCODE_PATCH are accepted after every check;
their completions write the limits and advance the guard nonce, or blow the next fuse pair, store or erase the guard
authority key, advance the lifecycle nonce and wipe the secure bank (after which the command completes), or store the
image, raise the anti-rollback counter and restart the engine into it. After a tamper event GUARD_RAISE completes with
AUTH and writes nothing. A tamper event sets its cause and TAMPER, wipes the bank and abandons a lifecycle transition
whose fuses are not blown yet. A wipe ends with the key reloaded after a transition, where the identity fuses still
hold it, and with an empty bank after a tamper event. (The signature is a free function of the identity key, the
report's SHA-384 and a draw; that a tamper event before GUARD_RAISE completes gives AUTH, and the two phases of
UCODE_PATCH, are the model's: log entry 13.) -/
def Obligations.SecurityAct : Prop :=
  (∀ s c, Accepted attestSpec c s → exec (.attest c) s = .next (s.act (begun c fun s =>
    s.startLong c .scarab 0 0 (pNum c 32 8) (s.report ((bufOf c).take (pByte c 16)))))) ∧
  (∀ (s : State) (n : List Byte), s.report n = leBytes 4 0x41545354 ++ leBytes 2 1 ++ leBytes 1 s.fuse.lc ++ leBytes 1 s.dev ++
    unitIdBytes ++ leBytes 8 s.st.toNat ++ leBytes 4 s.ucodeVer ++ leBytes 4 (s.rd .scbTamperCause) ++ s.configDigest ++
    leBytes 1 n.length ++ List.replicate 7 0 ++ n ++ List.replicate (48 - n.length) 0) ∧
  (∀ s l, s.findLong 0x801 = some l → exec .attestComplete s = .next (s.act fun s =>
    let g := Config.ecdsa identityWords (sha384 l.payload) s.draw.1
    (s.draw.2.emit (.hostWrite l.addr (l.payload ++ (beBytes 48 g.1.toNat ++ beBytes 48 g.2.toNat)))).completeAs
      l 0 0 0 0)) ∧
  (∀ s c, Accepted (certReadSpec false) c s → s.fuse.lc ≠ 0 →
    exec (.certRead c) s = .next (s.act (doneWith c 0 0 s.nvm.chain.length fun s =>
      s.emit (.hostWrite (BitVec.ofNat 64 (pNum c 24 8)) s.nvm.chain)))) ∧
  (∀ s c, Accepted guardRaiseSpec c s → exec (.guardRaise c) s = .next (s.act (begun c fun s =>
    s.startLong c .scarab 0 0 0 (bufOf c)))) ∧
  (∀ s l, s.findLong 0x800 = some l → s.flag .scbStatusTamper = true →
    exec .guardRaiseComplete s = .next (s.completeAs l 7 0 0 0)) ∧
  (∀ s l, s.findLong 0x800 = some l → s.flag .scbStatusTamper = false →
    exec .guardRaiseComplete s = .next (s.act fun s =>
      let t := forEach (List.range (raiseCount l.payload)) (fun i s => s.raiseWrite l.payload i) s
      let u := t.wr .guardNonce 0 (t.rd .guardNonce + 1)
      ({ u with nvm := { u.nvm with guardNonce := BitVec.ofNat 64 (t.rd .guardNonce + 1) } } : State).completeAs
        l 0 0 0 0)) ∧
  (∀ (s : State) (b : List Byte) (i idx code v : Nat), idx = bufNat b (32 + 16 * i + 1) 1 →
    code = bufNat b (32 + 16 * i + 2) 1 → v = bufNat b (32 + 16 * i + 4) 4 →
    (code = 0 → s.raiseWrite b i = s.limitStore .peak idx v) ∧ (code = 1 → s.raiseWrite b i = s.limitStore .rms idx v) ∧
    (code = 2 → s.raiseWrite b i = s.limitStore .duty idx (place (s.rd .guardDuty idx) 0 11 v)) ∧
    (code = 3 → s.raiseWrite b i = s.limitStore .duty idx (place (s.rd .guardDuty idx) 16 16 v)) ∧
    (code = 4 → s.raiseWrite b i = s.limitStore .bmin idx v) ∧
    (code = 5 → s.raiseWrite b i = s.limitStore .bmax idx v) ∧
    (code = 6 → s.raiseWrite b i = s.limitStore .brate idx v)) ∧
  (∀ s c, Accepted lifecycleSetSpec c s → exec (.lifecycleSet c) s = .next (s.act (begun c fun s =>
    s.startLong c .nvm 0 (pBits c 16 0 3) 0 (bufOf c)))) ∧
  (∀ s l, s.findLong 0x803 = some l → l.arg ≠ 8 → exec .lifecycleSetComplete s = .next (s.act fun s =>
    let n := s.rd .scbLcNonce + 1
    let t : State := { s with
      fuse := { s.fuse.blow l.arg with identity := ((s.fuse.blow l.arg).identity || l.arg == 1) && l.arg != 4 }
      nvm := { lcKeys s.nvm l.arg l.payload with lcNonce := BitVec.ofNat 64 n } }
    let t := t.setLongs (t.ce.longs.map fun x => if x = l then { x with arg := 8 } else x)
    let u := (((t.wr .scbLcNonce 0 n).setB .scbStatusWiping 0 true).bump .scbWipeCnt).cleanBank 14 0 0 0x8000
    { u with scarab := ⟨[], true⟩ })) ∧
  (∀ s l, s.findLong 0x803 = some l → l.arg = 8 → s.wiping = false →
    exec .lifecycleSetComplete s = .next (s.completeAs l 0 0 0 0)) ∧
  (∀ (f : Fuse) (t : Nat), t ≠ 4 → t ≠ f.lc → f.blow t = { f with pairs := f.pairs ++ [t] }) ∧
  (∀ (f : Fuse), f.blow 4 = { f with retired := true } ∧ (f.lc ≠ 4 → f.blow f.lc = f)) ∧
  (∀ (n : Nvm) (b : List Byte), lcKeys n 1 b = { n with chain := certChain } ∧
    lcKeys n 2 b = { n with guardKeyA := some ((b.drop 32).take 97), guardKey := some ((b.drop 32).take 97) } ∧
    lcKeys n 3 b = { n with guardKeyA := none, guardKey := none } ∧ lcKeys n 4 b = n) ∧
  (∀ (s : State) (k : Signer), s.fuse.lc = 2 → (s.lcSigner 3 k = true ↔ k = .guard) ∧
    (s.lcSigner 4 k = true ↔ k = .guard ∨ k = .root)) ∧
  (∀ s (k : Fin 4), s.dev ≠ 0 → s.findLong 0x803 = none → exec (.tamperEvent k) s = .next (s.act fun s =>
    let t := (s.wr .scbTamperCause 0 (setBit (s.rd .scbTamperCause) k true)).raise .scbTamperCause 0 (2 ^ k.val)
    let t := (((t.setB .scbStatusTamper 0 true).setB .scbStatusWiping 0 true).bump .scbWipeCnt).cleanBank 14 0 0 0x8000
    { t with scarab := ⟨[], false⟩ })) ∧
  (∀ s l (k : Fin 4), s.dev ≠ 0 → s.findLong 0x803 = some l → l.arg ≠ 8 →
    exec (.tamperEvent k) s = .next (s.act fun s =>
    let t := (s.wr .scbTamperCause 0 (setBit (s.rd .scbTamperCause) k true)).raise .scbTamperCause 0 (2 ^ k.val)
    let t := (((t.setB .scbStatusTamper 0 true).setB .scbStatusWiping 0 true).bump .scbWipeCnt).cleanBank 14 0 0 0x8000
    ({ t with scarab := ⟨[], false⟩ } : State).completeAs l 7 0 0 0)) ∧
  (∀ s, s.flag .scbStatusWiping = true → exec .wipeDone s = .next (s.act fun s =>
    { s.setB .scbStatusWiping 0 false with
      scarab := ⟨if s.scarab.reload && s.fuse.identity then
        (List.range 6).foldl (fun m k => SMap.put 0 m k (identityWords.getD k 0)) [] else [], false⟩ })) ∧
  (∀ s c, Accepted ucodePatchSpec c s → exec (.ucodePatch c) s = .next (s.act (begun c fun s =>
    s.startLong c .nvm 0 0 0 (bufOf c)))) ∧
  (∀ s l p, s.patchWaits = none → s.findLong 0x804 = some l →
    p = (⟨Config.patchField 1 l.payload % 256, Config.patchField 2 l.payload, l.payload, true⟩ : Patch) →
    exec .ucodePatchComplete s = .next (s.act fun s =>
      let t : State := { s with
        nvm := { s.nvm with
          patch := some p
          patchB := some p }
        fuse := { s.fuse with arb := max s.fuse.arb p.svn }
        ce := { s.ce with ustack := [] } }
      let u := t.setLongs (t.ce.longs.map fun x => if x = l then { x with arg := 1 } else x)
      (u.setB .ceStatusRestart 0 true).loadPatch true)) ∧
  (∀ s l, s.patchWaits = some l → s.flag .ceStatusRestart = true →
    (s.setB .ceStatusRestart 0 false).patchWaits = some l →
    exec .ucodePatchComplete s = .next ((s.setB .ceStatusRestart 0 false).completeAs l 0 0 0 0))

/-- DUSK, accepted, records the cause COMMAND and begins the first step of Dusk; SAFE_EXIT enters IDLE; SYS_RESET enters
Dawn at stage 2 with source 3 and writes no reply. VAUX power-up clears its log and enables group 0; each PGOOD that
rises lets the next group follow 1 ms later, and the last lets Dawn begin; one that does not rise in 20 ms takes the
rails down. A PGOOD loss and a TRIP take the protection path, record their cause, and take the rails down after 50 µs.
The cool-down's end starts sequencing unless PERST# is asserted. Removing the core rails leaves OFF. PERST# begins
Dawn. A save under way when power or the core rails go, or a Dawn begins, is cut: which of its writes were whole is
free. Each stage of Dawn ends in the next stage or in its failure; stage 8 once every calibration slice has ended. A
step of Dusk that is done, or whose bound has passed, lets the next begin in the following cycle: outputs, bias,
journal, SAFE; the bound of its first step aborts the shot. Dawn puts the core domain at its reset values and keeps
the VAUX domain. (When the cool-down starts, and what PERST# does while asserted, are the model's: log entry 13.) -/
def Obligations.PowerAct : Prop :=
  (∀ s c, Accepted duskSpec c s → 2 ≤ s.dev → s.dev ≤ 4 → exec (.dusk c) s = .next (s.act (done c fun s =>
    (((s.setF .thermStatusStopCause 0 3).setPower
      { s.power with dusk := 1, duskAt := s.cyc, stepAt := s.cyc }).leaveRun 5)))) ∧
  (∀ s c, Accepted safeExitSpec c s → exec (.safeExit c) s = .next (s.act (done c toIdle))) ∧
  (∀ s c, Accepted sysResetSpec c s → exec (.sysReset c) s = .next (s.act fun s => (s.passHead c.qp).dawn 2 3)) ∧
  (∀ s, s.power.vaux = false → s.dev = 0 → exec .vauxPowerUp s = .next (s.act fun s =>
    { ((s.wr .thermVauxLog 0 0).wr .scbTamperCause 0 0).wr .glbResetCause 0 1 with
      power := ⟨true, s.power.perst, 1, 0, false, some (0, s.cyc), false, none, false, 1, 0, 0, 0, false⟩ })) ∧
  (∀ s (k : Fin 4) c, k.val < 3 → bit s.power.pwren k = true → bit s.power.pgood k = false → s.power.seq = some (k.val, c) →
    exec (.pgoodRise k) s = .next (s.act fun s =>
      ({ s with power := { s.power with
          pgood := setBit s.power.pgood k true
          seq := none } } : State).after (s.cyc + 625000) (.railNext k))) ∧
  (∀ s (k : Fin 4), k.val = 3 → bit s.power.pwren k = true → s.power.pgood = 7 →
    s.power.seq = none ∨ (∃ c, s.power.seq = some (3, c)) → s.dev = 0 →
    s.power.perst = false → s.power.down = false →
    exec (.pgoodRise k) s = .next (s.act fun s =>
      ({ s with power := { s.power with
          pgood := 15
          seq := none } } : State).dawn 1 s.power.why)) ∧
  (∀ s (k c : Nat), s.power.seq = some (k, c) → c + 20 * 625000 ≤ s.cyc →
    exec .railSequenceTimeout s = .next (s.act fun s =>
      ((s.setF .thermVauxLogCause 0 3).setF .thermVauxLogIndex 0 k).railsDown s.cyc)) ∧
  (∀ (s : State) (c : Nat), s.railsDown c = forEach (List.range 4) (fun k s => s.after (c + k * 625000) (.railOff (3 - k)))
    { s with power := { s.power with
        down := true
        seq := none } }) ∧
  (∀ s (k : Fin 4), bit s.power.pgood k = true → s.dev ≠ 0 →
    exec (.pgoodGlitch k) s = .next (s.bump .thermPgoodGlitch)) ∧
  (∀ s (k : Fin 4), bit s.power.pwren k = true → bit s.power.pgood k = true → s.power.down = false →
    exec (.pgoodLoss k) s = .next (s.act fun s =>
      let t := ({ s with power := { s.power with pgood := setBit s.power.pgood k false } } : State).protect
      let u := (t.setF .thermVauxLogCause 0 2).setF .thermVauxLogIndex 0 k
      (u.saveCut.after (u.cyc + 50 * 625) .pwrFail).railsDown (u.cyc + 50 * 625))) ∧
  (∀ s (k : Fin 24) (x : BitVec 16), s.power.pgood = 15 → s.power.down = false →
    exec (.trip k x) s = .next (s.act fun s =>
      let u := ((s.protect.setF .thermVauxLogCause 0 1).setF .thermVauxLogIndex 0 k).setF .thermVauxLogTemp 0 x.toNat
      (u.saveCut.after (u.cyc + 50 * 625) .pwrFail).railsDown (u.cyc + 50 * 625))) ∧
  (∀ (s : State), s.protect = s.outTrip.bdTripPark.abortNow.toFault) ∧
  (∀ s (c : Nat), s.power.coolEnd = some c → c ≤ s.cyc → s.power.perst = true →
    exec .coolDownEnd s = .next (s.act fun s =>
      let t := ({ s with power := { s.power with coolEnd := none } } : State).setB .thermVauxLogCooling 0 false
      { t with power := { t.power with waits := true } })) ∧
  (∀ s (c : Nat), s.power.coolEnd = some c → c ≤ s.cyc → s.power.perst = false →
    exec .coolDownEnd s = .next (s.act fun s =>
      (({ s with power := { s.power with coolEnd := none } } : State).setB .thermVauxLogCooling 0 false).seqStart)) ∧
  (∀ (s : State), s.seqStart = { s with power := { s.power with
      down := false
      waits := false
      pwrfail := false
      pwren := setBit s.power.pwren 0 true
      seq := some (0, s.cyc) } }) ∧
  (∀ s, s.dev ≠ 0 → exec .coreRailsRemoved s = .next (s.act fun s =>
    { s.nvmStop.domainReset.setF .glbDevStateState 0 0 with
      jtag := ⟨false, 0⟩
      power := { s.power with dusk := 0, io := false } })) ∧
  (∀ s, s.dev = 1 → exec .perstAssert s = .next (s.act fun s =>
    ({ s with power := { s.power with perst := true } } : State).dawn 1 2)) ∧
  (∀ s, 2 ≤ s.dev → exec .perstAssert s = .next (s.act fun s =>
    ({ s with power := { s.power with perst := true } } : State).pcieDown)) ∧
  (∀ s, s.power.perst = true → s.power.down = false → s.power.coolEnd = none → s.dev ≠ 0 →
    exec .perstRelease s = .next (s.act fun s =>
      ({ s with power := { s.power with perst := false } } : State).dawn 1 2)) ∧
  (∀ s, s.power.perst = true → s.power.down = false → s.power.coolEnd = none → s.dev = 0 → s.power.waits = true →
    exec .perstRelease s = .next (s.act fun s =>
      ({ s with power := { s.power with perst := false } } : State).seqStart)) ∧
  (∀ s, s.power.perst = true → s.power.down = false → s.power.coolEnd = none → s.dev = 0 → s.power.waits = false →
    s.power.pgood = 15 → exec .perstRelease s = .next (s.act fun s =>
      ({ s with power := { s.power with perst := false } } : State).dawn 1 s.power.why)) ∧
  (∀ s e t, s.dev = 1 → s.power.perst = false →
    (e, s.fld .glbDawnStatusStage, t) ∈ [
      (DawnEnd.link true, 1, { s with pcie := { s.pcie with linkUp := true } }.setF .glbDawnStatusStage 0 2),
      (.link false, 1, { s with pcie := { s.pcie with linkUp := false } }.setF .glbDawnStatusStage 0 2),
      (.clock 1, 2, ((s.setF .timeStatusRefFreq 0 1).setB .timeStatusRefPresent 0 true).setF .glbDawnStatusStage 0 3),
      (.clock 2, 2, ((s.setF .timeStatusRefFreq 0 2).setB .timeStatusRefPresent 0 true).setF .glbDawnStatusStage 0 3),
      (.clock 0, 2, ((s.setF .timeStatusRefFreq 0 3).setF .glbDawnStatusReason 0 1).toFault),
      (.clock 3, 2, ((s.setF .timeStatusRefFreq 0 3).setF .glbDawnStatusReason 0 1).toFault),
      (.lock true, 3, ((({ s with
        st := 0
        time := { s.time with running := true } } : State).setB .timeStatusPllLock 0 true).setB .timeStatusHoldover 0
          (s.flag .timeStatusHoldover && !s.flag .timeStatusRefPresent)).setF .glbDawnStatusStage 0 4),
      (.lock false, 3, (s.setF .glbDawnStatusReason 0 2).toFault),
      (.scarab false false, 5, (s.setF .glbDawnStatusReason 0 4).toFault),
      (.scarab false true, 5, (s.setF .glbDawnStatusReason 0 4).toFault),
      (.dram false, 6, (s.setF .glbDawnStatusReason 0 5).toFault),
      (.dram true, 6, ({ s with
        hk := ⟨s.cyc, 0, s.cyc, none, none, false⟩
        therm := { s.therm with next := s.cyc }
        power := { s.power with io := true } } : State).setF .glbDawnStatusStage 0 7),
      (.sensors, 7, s.loadRecord.setF .glbDawnStatusStage 0 8)] →
    exec (.dawnStageEnd e) s = .next (s.act fun _ => t)) ∧
  (∀ s (b : Bool), s.dev = 1 → s.power.perst = false → s.fld .glbDawnStatusStage = 5 →
    (s.fuse.lc = 4 → exec (.dawnStageEnd (.scarab true b)) s = .next (s.act fun s =>
      (s.setF .glbDawnStatusReason 0 4).toFault)) ∧
    (s.fuse.lc ≠ 4 → s.flag .scbStatusTamper = false → exec (.dawnStageEnd (.scarab true b)) s = .next (s.act fun s =>
      (({ (s.wr .guardNonce 0 s.nvm.guardNonce.toNat).wr .scbLcNonce 0 s.nvm.lcNonce.toNat with
        scarab := ⟨s.keyBank, false⟩ } : State).loadPatch b).setF .glbDawnStatusStage 0 6)) ∧
    (s.fuse.lc ≠ 4 → s.flag .scbStatusTamper = true → exec (.dawnStageEnd (.scarab true b)) s = .next (s.act fun s =>
      (((s.wr .guardNonce 0 s.nvm.guardNonce.toNat).wr .scbLcNonce 0 s.nvm.lcNonce.toNat).loadPatch b).setF
        .glbDawnStatusStage 0 6))) ∧
  (∀ s t l, s.dev = 1 → s.power.perst = false → s.fld .glbDawnStatusStage = 4 →
    t = forEach l (fun (g : Fin 165) (s : State) => if g.val < 158 ∧ s.unitPresent 12 g = true
      then s.wr .glbMemFail (g / 32) (setBit (s.rd .glbMemFail (g / 32)) (g % 32) true) else s) s →
    ((∀ g ∈ l, g.val ∉ [160, 161, 162, 164]) →
      exec (.dawnStageEnd (.memories l)) s = .next (s.act fun _ => t.setF .glbDawnStatusStage 0 5)) ∧
    ((∃ g ∈ l, g.val ∈ [160, 161, 162, 164]) →
      exec (.dawnStageEnd (.memories l)) s = .next (s.act fun _ => (t.setF .glbDawnStatusReason 0 3).toFault))) ∧
  (∀ s, s.dev = 1 → s.power.perst = false → s.fld .glbDawnStatusStage = 8 → s.calDawnOver = true →
    (∀ r < 8, (s.regionOut r).length < 2) → exec (.dawnStageEnd .calibration) s = .next (s.act fun s =>
      (({ s with therm := { s.therm with evalAt := s.cyc + 6250000 } } : State).setF .glbDawnStatusStage 0 9).setDev 2)) ∧
  (∀ s, s.dev = 1 → s.power.perst = false → s.fld .glbDawnStatusStage = 8 → s.calDawnOver = false →
    exec (.dawnStageEnd .calibration) s = .next s) ∧
  (∀ (s : State), s.calDawnOver = true ↔ ∀ k < 6, ∀ i < s.calCount k, (s.calUnit k i).slice = none ∧
    ((s.calUnit k i).due = false ∨ (s.calUnit k i).lastFail = true)) ∧
  (∀ (s : State) (n c : Nat), n < 10 → c < 8 → n ≠ 2 → (s.dawn n c).dev = 1 ∧
    (s.dawn n c).fld .glbDawnStatusStage = n ∧ (s.dawn n c).fld .glbResetCauseSource = c ∧
    (s.dawn n c).pcie = (State.resetOf s.variant).pcie ∧ (s.dawn n c).fuse = s.fuse ∧ (s.dawn n c).cyc = s.cyc ∧
    (s.dawn n c).nvm = { s.nvmStop.nvm with
      saving := none
      auto := false } ∧
    (s.dawn n c).rd .thermVauxLog = s.rd .thermVauxLog % 2 ^ 32 ∧
    (s.dawn n c).rd .scbTamperCause = s.rd .scbTamperCause % 2 ^ 32 ∧
    RegsKept [.glbDevState, .glbDawnStatus, .glbResetCause, .thermVauxLog, .scbTamperCause] (State.resetOf s.variant)
      (s.dawn n c)) ∧
  (∀ s, exec .vauxLoss s = .next (s.act fun s =>
    (({ ((s.wr .thermVauxLog 0 0).wr .scbTamperCause 0 0).wr .glbResetCause 0 1 with
      later := s.later.filter fun e => match e.2 with
        | .railNext _ => false
        | .railOff _ => false
        | .pwrFail => false
        | _ => true
      power := ⟨false, s.power.perst, 0, 0, false, none, false, none, false, 1, 0, 0, 0, s.power.io⟩ } : State)).nvmStop)) ∧
  (∀ (s : State), s.nvm.saving = none → s.findLong 0x803 = none → s.findLong 0x804 = none → s.nvmStop = s) ∧
  (∀ (s : State) r a b, s.nvm.saving = some r → s.nvmPair = some (a, b) →
    let m := s.nvm.sectors
    let x : NvmCopy := ⟨0x4351, 1, s.nvm.seq + 1, Config.recordSize.toNat, 0, r, true⟩
    s.saveCut.nvm.sectors = match (Config.nvmCut s.fresh).toNat with
      | 0 => m
      | 1 => SMap.put none m a (some { x with whole := false })
      | 2 => SMap.put none m a (some x)
      | 3 => SMap.put none (SMap.put none m a (some x)) b (some { x with copy := 1, whole := false })
      | _ => SMap.put none (SMap.put none m a (some x)) b (some { x with copy := 1 })) ∧
  (∀ s, s.duskDone = true →
    exec .duskStepEnd s = .next (s.act fun s => s.after (s.cyc + 1) (.duskStep (s.power.dusk + 1)))) ∧
  (∀ s, s.power.dusk = 4 → s.power.stepAt + 625000 * s.fld .jrnCfgFlushMax ≤ s.cyc →
    exec .jrnFlushTimeout s = .next (s.act fun s => s.after (s.cyc + 1) (.duskStep 5))) ∧
  (∀ (s : State), s.duskDone = true ↔ (s.power.dusk = 1 ∧ s.shotOn = false) ∨
    (s.power.dusk = 2 ∧ ∀ n < s.variant.ochCount, s.outState n = 0) ∨
    (s.power.dusk = 3 ∧ ∀ k < 48, s.flag .bdacStatusParked k = true) ∨ (s.power.dusk = 4 ∧ s.jrnResident = 0)) ∧
  (∀ (s : State) (n : Nat) t, (s.power.dusk, n, t) ∈ [
      (1, 2, State.outMuteAll { s with power := { s.power with dusk := 2, stepAt := s.cyc } }),
      (2, 3, State.bdDusk { s with power := { s.power with dusk := 3, stepAt := s.cyc } }),
      (3, 4, State.jrnFinal { s with power := { s.power with dusk := 4, stepAt := s.cyc } }),
      (4, 5, State.setDev { s with power := { s.power with dusk := 0, stepAt := s.cyc } } 6)] →
    s.laterOne (.duskStep n) = t) ∧
  (∀ s, s.power.dusk = 1 → s.power.duskAt + 625 * s.fld .thermDuskMaxUs ≤ s.cyc → s.shot.running = true →
    s.shot.abort = none → exec .duskMaxExpire s = .next (s.act fun s =>
      (forEach s.shotChans (fun n (u : State) => u.updChan n fun o => { o with stopping := true })
        { s with shot := { s.shot with abort := some (3, s.cyc) } }).after s.cyc .closeWindows))

/-- THERM_CONFIG, accepted, takes its three thresholds. A reading, every 100 µs, takes each sensor's code, excludes the
sensors that fail, and keeps the offsets; the maximum of those left decides the levels with their hysteresis, and STOP
begins Dusk or ends Dawn. Each evaluation of the throttle deepens it by one at or above THROTTLE, lightens it by one
where every valid sensor is below the release bound, and else holds it. -/
def Obligations.ThermalAct : Prop :=
  (∀ s c, Accepted thermConfigSpec c s → exec (.thermConfig c) s = .next (s.act (done c fun s =>
    ((s.setF .thermCfgWarn 0 (pByte c 16)).setF .thermCfgThrottle 0 (pByte c 17)).setF .thermCfgStop 0 (pByte c 18)))) ∧
  (∀ s x, s.fld .glbDawnStatusStage < 7 ∨ s.dev = 0 ∨ s.cyc < s.therm.next → exec (.thermReading x) s = .next s) ∧
  (∀ s x, 7 ≤ s.fld .glbDawnStatusStage → s.dev ≠ 0 → s.therm.next ≤ s.cyc → exec (.thermReading x) s =
    .next (s.act fun s =>
      let l := (List.range 24).filter s.hasSensor
      let t := forEach l (fun i u => u.sensorSeen i (x.getD i 0) (x.getD (neighbour i) 0))
        { s with therm := { s.therm with next := s.cyc + 62500 } }
      let t := forEach (l.filter fun i => !bit (t.rd .thermSensorFail) i && t.sensorBad i) (fun i u => u.sensorDrop i) t
      let t := (forEach l (fun i u =>
        (u.sensorOffset i).setB .thermSensorValid i (!bit (u.rd .thermSensorFail) i)) t).thermMaxSet
      let t : State := { t with therm := { t.therm with
        warn := t.hysteresis .thermCfgWarn t.therm.warn
        stop := t.hysteresis .thermCfgStop t.therm.stop } }
      (if t.thermAt .thermCfgStop then t.levelSet.stopReached else t.levelSet).hotSet.calDrift)) ∧
  (∀ (s : State) (f : Fld) (b : Bool), s.hysteresis f b = true ↔ 16 * (s.fld f : Int) ≤ sgn 16 (s.fld .thermMaxTemp) ∨
    (b = true ∧ 16 * ((s.fld f : Int) - 3) ≤ sgn 16 (s.fld .thermMaxTemp))) ∧
  (∀ (s : State) (i : Nat), s.sensorBad i = true ↔ sgn 16 (s.fld .thermSensorTemp i) < -640 ∨
    2400 < sgn 16 (s.fld .thermSensorTemp i) ∨ (10000 ≤ (s.sensor i).same ∧ 16 ≤ (s.sensor i).hi - (s.sensor i).lo)) ∧
  (∀ s, 9 ≤ s.fld .glbDawnStatusStage → s.dev ≠ 0 → s.therm.evalAt ≤ s.cyc →
    (s.thermAt .thermCfgThrottle = true → exec .throttleEvaluate s = .next (s.act fun s =>
      let t := ({ s with therm := { s.therm with evalAt := s.therm.evalAt + 6250000 } } : State).setF .thermStatusThrLevel 0
        (min 3 (s.fld .thermStatusThrLevel + 1))
      ({ t with therm := { t.therm with throttle := true } } : State).levelSet)) ∧
    (s.thermAt .thermCfgThrottle = false → s.releaseHolds = true → exec .throttleEvaluate s = .next (s.act fun s =>
      let t := ({ s with therm := { s.therm with evalAt := s.therm.evalAt + 6250000 } } : State).setF .thermStatusThrLevel 0
        (s.fld .thermStatusThrLevel - 1)
      ({ t with therm := { t.therm with throttle := false } } : State).levelSet)) ∧
    (s.thermAt .thermCfgThrottle = false → s.releaseHolds = false → exec .throttleEvaluate s =
      .next { s with therm := { s.therm with evalAt := s.therm.evalAt + 6250000 } }))

/-- Every register holds the reset value of the register map; the device is at the start of Dawn (state 1, stage 1), with
sample time at 0 and not yet running, Midnight not set, no shot running, nothing waiting and nothing due; the event
invariant holds, memory lists nothing and has its canonical form, and the part is as shipped (PROVISIONED, all pairs
left, the identity key there). (That the reset state stands at the start of Dawn, the variant, and the values that the
spec leaves open are the model's: log entry 11.) -/
def Obligations.ResetState : Prop :=
  (∀ (r : Reg) (i : Nat), State.reset.rd r i = r.rst i % 2 ^ 64) ∧
  State.reset.dev = 1 ∧ State.reset.fld .glbDawnStatusStage = 1 ∧ State.reset.st = 0 ∧
  State.reset.time.running = false ∧ State.reset.flag .timeStatusMidnightSet = false ∧ State.reset.shot.running = false ∧
  State.reset.pending = [] ∧ State.reset.later = [] ∧ State.reset.mem.bytes = [] ∧ Memory.wf State.reset.mem.bytes ∧
  EvBalanced State.reset.evf.cnt ∧ State.reset.fuse = ⟨[1], false, 0, true⟩ ∧
  State.reset.fuse.lc = 1 ∧ State.reset.fuse.pairsLeft = 14

/-- ST is the same after every command but these: the application of TIME_STEP, the SYNCIN edge, Dawn's lock stage, and
what begins Dawn or takes the core rails away. Only the passing of a cycle counts it on, by 32 ticks. -/
def Obligations.SampleTimeMovesOnlyBy : Prop :=
  (∀ (i : Instr) (s t : State),
    (match i with
      | .timeStepApply .. | .syncinEdge .. | .dawnStageEnd _ | .sysReset _ | .perstAssert | .perstRelease
      | .coreRailsRemoved | .pgoodRise _ => False
      | _ => True) → exec i s = .next t → t.st = s.st) ∧
  (∀ (s t : State), s.pending = [] → step s = .next t → t.st = s.st ∨ t.st = s.st + 32)

/-- Through every run of steps, of any length, from any state and whatever the commands, the anti-rollback counter never
falls, the number of fuse pairs left never rises, and an identity key that has been cleared never comes back, unless a
transition to PROVISIONED (whose target is 1) generates one. Only the completions of LIFECYCLE_SET and UCODE_PATCH
touch the fuses at all. -/
def Obligations.FusesOnlyAdvance : Prop :=
  (∀ (i : Instr) (s t : State), exec i s = .next t → i ≠ .lifecycleSetComplete → i ≠ .ucodePatchComplete →
    t.fuse = s.fuse) ∧
  (∀ (l : List State) (s : State), List.IsChain (fun a b => step a = .next b) (s :: l) → ∀ t ∈ l,
    s.fuse.arb ≤ t.fuse.arb ∧ t.fuse.pairsLeft ≤ s.fuse.pairsLeft ∧ ((∀ a ∈ s :: l, ∀ x, a.findLong 0x803 = some x → x.arg ≠ 1) → s.fuse.identity = false → t.fuse.identity = false))

/-- Writing 1 to LOCK.LOCKED locks the limits. On a locked Guard a write of a present unit's limit that would loosen some
field of it, judged on the stored values, has no effect but that RAISE_REFUSED counts; any other is accepted.
PEAK_LIM, RMS_LIM, DUTY_LIM, DUTY_THR, BMAX and BRATE tighten as they decrease, BMIN as it increases. Whatever the
commands and the cycles, in every run of steps that holds no Dawn (SYS_RESET, PERST#, a PGOOD that ends the rail
sequence, loss of the core rails) and no completed GUARD_RAISE of Scarab, the Guard stays locked and no limit of any
channel or bias DAC is ever looser than it was. -/
def Obligations.LockedLimitsOnlyTighten : Prop :=
  (∀ s (v : Word), s.hostGuard = true → bit v.toNat 0 = true →
    exec (.guardLock v) s = .next (s.setB .guardLockLocked 0 true)) ∧
  (∀ s (l : Fin 6) (i : Fin 96) (v : Word), s.hostGuard = true → s.limitPresent (Limit.ofFin l) i = true →
    s.flag .guardLockLocked = true →
    ((Limit.ofFin l).loosens (s.rd (Limit.ofFin l).reg i) (v.toNat &&& (Limit.ofFin l).mask) = true →
      exec (.guardLimitWrite l i v) s = .next (s.bump .guardRaiseRefused)) ∧
    ((Limit.ofFin l).loosens (s.rd (Limit.ofFin l).reg i) (v.toNat &&& (Limit.ofFin l).mask) = false →
      exec (.guardLimitWrite l i v) s = .next (s.wr (Limit.ofFin l).reg i (v.toNat &&& (Limit.ofFin l).mask)))) ∧
  (∀ (old new : Nat), (Limit.peak.loosens old new = true ↔ old < new) ∧ (Limit.rms.loosens old new = true ↔ old < new) ∧
    (Limit.duty.loosens old new = true ↔ slice old 0 11 < slice new 0 11 ∨ slice old 16 16 < slice new 16 16) ∧
    (Limit.bmin.loosens old new = true ↔ sgn 20 new < sgn 20 old) ∧
    (Limit.bmax.loosens old new = true ↔ sgn 20 old < sgn 20 new) ∧ (Limit.brate.loosens old new = true ↔ old < new)) ∧
  (∀ (l : List State) (s : State),
    List.IsChain (fun a b => step a = .next b ∧ ∀ c rest, a.pending = c :: rest → match c with
      | .guardRaiseComplete | .sysReset _ | .perstAssert | .perstRelease | .coreRailsRemoved | .pgoodRise _ => False
      | _ => True) (s :: l) →
    s.flag .guardLockLocked = true → ∀ t ∈ l, t.flag .guardLockLocked = true ∧
      ∀ i, t.rd .guardPeak i ≤ s.rd .guardPeak i ∧ t.rd .guardRms i ≤ s.rd .guardRms i ∧
        slice (t.rd .guardDuty i) 0 11 ≤ slice (s.rd .guardDuty i) 0 11 ∧
        slice (t.rd .guardDuty i) 16 16 ≤ slice (s.rd .guardDuty i) 16 16 ∧
        sgn 20 (s.rd .guardBmin i) ≤ sgn 20 (t.rd .guardBmin i) ∧ sgn 20 (t.rd .guardBmax i) ≤ sgn 20 (s.rd .guardBmax i) ∧
        t.rd .guardBrate i ≤ s.rd .guardBrate i)
end

