-- ==== Sys2Proof/Laws/Bits.lean ====
section
/-!
SUPPORT. Laws of bit fields of numbers: what a field reads as after it, or another, has been placed.
-/

namespace Sys2Proof.Machine

theorem slice_eq (n lo w : Nat) : slice n lo w = n / 2 ^ lo % 2 ^ w := by
  simp [slice, Nat.shiftRight_eq_div_pow]

theorem slice_lt (n lo w : Nat) : slice n lo w < 2 ^ w := by
  rw [slice_eq]; exact Nat.mod_lt _ (Nat.two_pow_pos w)

/-- A number as its low part, a field, and its high part. -/
theorem slice_split (n lo w : Nat) :
    n = n % 2 ^ lo + 2 ^ lo * (slice n lo w + 2 ^ w * (n / 2 ^ (lo + w))) := by
  rw [slice_eq, Nat.pow_add, ← Nat.div_div_eq_div_mul, Nat.mod_add_div, Nat.mod_add_div]

/-- A placed field in terms of the low and high parts. -/
theorem place_eq (n lo w v : Nat) :
    place n lo w v = n % 2 ^ lo + 2 ^ lo * (v % 2 ^ w + 2 ^ w * (n / 2 ^ (lo + w))) := by
  unfold place
  rw [Nat.shiftLeft_eq, Nat.shiftLeft_eq]
  have h := slice_split n lo w
  have e1 : 2 ^ lo * (slice n lo w + 2 ^ w * (n / 2 ^ (lo + w)))
      = slice n lo w * 2 ^ lo + 2 ^ lo * (2 ^ w * (n / 2 ^ (lo + w))) := by
    rw [Nat.mul_add, Nat.mul_comm (2 ^ lo) (slice n lo w)]
  have e2 : 2 ^ lo * (v % 2 ^ w + 2 ^ w * (n / 2 ^ (lo + w)))
      = v % 2 ^ w * 2 ^ lo + 2 ^ lo * (2 ^ w * (n / 2 ^ (lo + w))) := by
    rw [Nat.mul_add, Nat.mul_comm (2 ^ lo) (v % 2 ^ w)]
  rw [e1] at h; rw [e2]; omega

/-- The field just placed. -/
theorem slice_place_same (n lo w v : Nat) : slice (place n lo w v) lo w = v % 2 ^ w := by
  rw [place_eq, slice_eq, Nat.add_mul_div_left _ _ (Nat.two_pow_pos lo), Nat.div_eq_of_lt (Nat.mod_lt _ (Nat.two_pow_pos lo)),
    Nat.zero_add, Nat.add_mul_mod_self_left, Nat.mod_mod]

/-- A field that lies below the one placed. -/
theorem slice_place_below (n lo w v l k : Nat) (h : l + k ≤ lo) : slice (place n lo w v) l k = slice n l k := by
  obtain ⟨c, rfl⟩ := Nat.exists_eq_add_of_le h
  have e := slice_split n (l + k + c) w
  rw [place_eq]
  conv_rhs => rw [e]
  generalize v % 2 ^ w + 2 ^ w * (n / 2 ^ (l + k + c + w)) = x
  generalize slice n (l + k + c) w + 2 ^ w * (n / 2 ^ (l + k + c + w)) = y
  generalize n % 2 ^ (l + k + c) = m
  have key : ∀ z : Nat, slice (m + 2 ^ (l + k + c) * z) l k = m / 2 ^ l % 2 ^ k := by
    intro z
    rw [slice_eq, show 2 ^ (l + k + c) * z = 2 ^ l * (2 ^ k * (2 ^ c * z)) by rw [Nat.pow_add, Nat.pow_add]; ring,
      Nat.add_mul_div_left _ _ (Nat.two_pow_pos l), Nat.add_mul_mod_self_left]
  rw [key, key]

/-- A field that lies above the one placed. -/
theorem slice_place_above (n lo w v l k : Nat) (h : lo + w ≤ l) : slice (place n lo w v) l k = slice n l k := by
  obtain ⟨c, rfl⟩ := Nat.exists_eq_add_of_le h
  have e := slice_split n lo w
  rw [place_eq]
  conv_rhs => rw [e]
  have hv := Nat.mod_lt v (Nat.two_pow_pos w)
  have hs := slice_lt n lo w
  generalize v % 2 ^ w = x at *
  generalize slice n lo w = y at *
  generalize n / 2 ^ (lo + w) = q
  have hm := Nat.mod_lt n (Nat.two_pow_pos lo)
  generalize n % 2 ^ lo = m at *
  have key : ∀ z : Nat, z < 2 ^ w → slice (m + 2 ^ lo * (z + 2 ^ w * q)) (lo + w + c) k = q / 2 ^ c % 2 ^ k := by
    intro z hz
    rw [slice_eq, Nat.pow_add, Nat.pow_add, Nat.mul_assoc, ← Nat.div_div_eq_div_mul, ← Nat.div_div_eq_div_mul,
      Nat.add_mul_div_left _ _ (Nat.two_pow_pos lo), Nat.div_eq_of_lt hm, Nat.zero_add,
      Nat.add_mul_div_left _ _ (Nat.two_pow_pos w), Nat.div_eq_of_lt hz, Nat.zero_add]
  rw [key x hv, key y hs]

/-- A field placed in a number that fits in b bits leaves it there. -/
theorem place_lt (n lo w v b : Nat) (h : lo + w ≤ b) (hn : n < 2 ^ b) : place n lo w v < 2 ^ b := by
  rw [place_eq]
  have hm := Nat.mod_lt n (Nat.two_pow_pos lo)
  have hv := Nat.mod_lt v (Nat.two_pow_pos w)
  obtain ⟨c, rfl⟩ := Nat.exists_eq_add_of_le h
  have hq : n / 2 ^ (lo + w) < 2 ^ c := by
    rw [Nat.div_lt_iff_lt_mul (Nat.two_pow_pos _), ← Nat.pow_add, Nat.add_comm]; exact hn
  generalize n % 2 ^ lo = m at *
  generalize v % 2 ^ w = x at *
  generalize n / 2 ^ (lo + w) = q at *
  have h1 : x + 2 ^ w * q + 1 ≤ 2 ^ w * 2 ^ c := by
    calc x + 2 ^ w * q + 1 ≤ 2 ^ w + 2 ^ w * q := by omega
      _ = 2 ^ w * (q + 1) := by ring
      _ ≤ 2 ^ w * 2 ^ c := Nat.mul_le_mul_left _ hq
  calc m + 2 ^ lo * (x + 2 ^ w * q) < 2 ^ lo + 2 ^ lo * (x + 2 ^ w * q) := by omega
    _ = 2 ^ lo * (x + 2 ^ w * q + 1) := by ring
    _ ≤ 2 ^ lo * (2 ^ w * 2 ^ c) := Nat.mul_le_mul_left _ h1
    _ = 2 ^ (lo + w + c) := by rw [Nat.pow_add, Nat.pow_add]; ring

@[simp] theorem slice_zero_width (n lo : Nat) : slice n lo 0 = 0 := by simp [slice_eq, Nat.mod_one]

@[simp] theorem ofBool_true : ofBool true = 1 := rfl
@[simp] theorem ofBool_false : ofBool false = 0 := rfl

@[simp] theorem ofBool_mod (b : Bool) : ofBool b % 2 ^ 1 = ofBool b := by cases b <;> rfl

@[simp] theorem ofBool_ne_zero (b : Bool) : (ofBool b != 0) = b := by cases b <;> rfl

@[simp] theorem when_true {σ : Type} (f : σ → σ) (s : σ) : when true f s = f s := rfl
@[simp] theorem when_false {σ : Type} (f : σ → σ) (s : σ) : when false f s = s := rfl
@[simp] theorem forEach_nil {α σ : Type} (f : α → σ → σ) (s : σ) : forEach [] f s = s := rfl
@[simp] theorem forEach_cons {α σ : Type} (a : α) (l : List α) (f : α → σ → σ) (s : σ) :
    forEach (a :: l) f s = forEach l f (f a s) := rfl

/-- What each application keeps, the whole loop keeps. -/
theorem forEach_keeps {α σ β : Type} (p : σ → β) (f : α → σ → σ) (h : ∀ a t, p (f a t) = p t) (l : List α) (s : σ) :
    p (forEach l f s) = p s := by
  induction l generalizing s with
  | nil => rfl
  | cons a l ih => rw [forEach_cons, ih, h]

theorem when_keeps {σ β : Type} (p : σ → β) (f : σ → σ) (h : ∀ t, p (f t) = p t) (c : Bool) (s : σ) :
    p (when c f s) = p s := by
  cases c
  · rfl
  · exact h s

end Sys2Proof.Machine
end

