-- ==== Sys2Proof/Laws/Map.lean ====
section
/-!
SUPPORT. Laws of the sparse tables: a read after a write, writes elsewhere, and that every write keeps the canonical form.
-/

namespace Sys2Proof.Machine

theorem SMap.get_dropTo {α : Type} (d : α) (k k' : Nat) (h : k < k') (m : SMap α) :
    SMap.get d (SMap.dropTo k m) k' = SMap.get d m k' := by
  induction m with
  | nil => rfl
  | cons p t ih =>
    obtain ⟨j, v⟩ := p
    simp only [SMap.dropTo]
    split
    · rw [ih]; simp only [SMap.get]; rw [if_neg (by omega), if_neg (by omega)]
    · rfl

theorem SMap.get_dropTo_le {α : Type} (d : α) (k k' : Nat) (h : k' ≤ k) (m : SMap α) :
    SMap.get d (SMap.dropTo k m) k' = d := by
  induction m with
  | nil => rfl
  | cons p t ih =>
    obtain ⟨j, v⟩ := p
    simp only [SMap.dropTo]
    split
    · exact ih
    · simp only [SMap.get]; rw [if_neg (by omega), if_pos (by omega)]

/-- A read of the key just written. -/
@[simp] theorem SMap.get_put_same {α : Type} [DecidableEq α] (d : α) (m : SMap α) (k : Nat) (v : α) :
    SMap.get d (SMap.put d m k v) k = v := by
  induction m with
  | nil => simp only [SMap.put]; split <;> simp [SMap.get, *]
  | cons p t ih =>
    obtain ⟨j, w⟩ := p
    simp only [SMap.put]
    split
    · split
      · simp only [SMap.get]; rw [if_neg (by omega), if_pos (by assumption)]; simp [*]
      · simp [SMap.get]
    · split
      · split
        · rw [SMap.get_dropTo_le d k k (Nat.le_refl k)]; simp [*]
        · simp [SMap.get]
      · simp only [SMap.get]; rw [if_neg (by assumption), if_neg (by assumption)]; exact ih

/-- A read of any other key. -/
theorem SMap.get_put_ne {α : Type} [DecidableEq α] (d e : α) (m : SMap α) (k k' : Nat) (v : α) (h : k' ≠ k) :
    SMap.get e (SMap.put d m k v) k' = SMap.get e m k' := by
  induction m with
  | nil =>
    simp only [SMap.put]; split
    · rfl
    · simp only [SMap.get]; rw [if_neg h]; split <;> rfl
  | cons p t ih =>
    obtain ⟨j, w⟩ := p
    simp only [SMap.put]
    split
    · split
      · rfl
      · simp only [SMap.get]; rw [if_neg h]
        by_cases h1 : k' < k
        · rw [if_pos h1, if_neg (by omega), if_pos (by omega)]
        · rw [if_neg h1]
    · split
      · rename_i hk
        subst hk
        split
        · by_cases h1 : k < k'
          · rw [SMap.get_dropTo e k k' h1]; simp only [SMap.get]; rw [if_neg (by omega), if_neg (by omega)]
          · rw [SMap.get_dropTo_le e k k' (by omega)]; simp only [SMap.get]; rw [if_neg (by omega), if_pos (by omega)]
        · simp only [SMap.get]; rw [if_neg h, if_neg h]
      · simp only [SMap.get]; rw [ih]

theorem SMap.rising_mono {α : Type} (b c : Nat) (h : c ≤ b) (m : SMap α) (hm : SMap.rising b m = true) :
    SMap.rising c m = true := by
  cases m with
  | nil => rfl
  | cons p t => obtain ⟨j, v⟩ := p; simp only [SMap.rising, Bool.and_eq_true, decide_eq_true_eq] at hm ⊢; exact ⟨by omega, hm.2⟩

theorem SMap.dropTo_rising {α : Type} (k : Nat) (m : SMap α) (b : Nat) (hb : k < b) (hm : SMap.rising b m = true) :
    SMap.dropTo k m = m := by
  cases m with
  | nil => rfl
  | cons p t =>
    obtain ⟨j, v⟩ := p
    simp only [SMap.rising, Bool.and_eq_true, decide_eq_true_eq] at hm
    simp only [SMap.dropTo]; rw [if_neg (by omega)]

theorem SMap.put_rising {α : Type} [DecidableEq α] (d : α) (m : SMap α) (b k : Nat) (v : α) (hk : b ≤ k)
    (hm : SMap.rising b m = true) : SMap.rising b (SMap.put d m k v) = true := by
  induction m generalizing b with
  | nil => simp only [SMap.put]; split <;> simp [SMap.rising, hk]
  | cons p t ih =>
    obtain ⟨j, w⟩ := p
    simp only [SMap.rising, Bool.and_eq_true, decide_eq_true_eq] at hm
    simp only [SMap.put]
    split
    · split
      · simp [SMap.rising, hm]
      · simp only [SMap.rising, Bool.and_eq_true, decide_eq_true_eq]; exact ⟨hk, by omega, hm.2⟩
    · split
      · rename_i hj
        subst hj
        split
        · rw [SMap.dropTo_rising k t (k + 1) (by omega) hm.2]; exact SMap.rising_mono _ _ (by omega) _ hm.2
        · simp [SMap.rising, hm]
      · simp only [SMap.rising, Bool.and_eq_true, decide_eq_true_eq]
        exact ⟨hm.1, ih (j + 1) (by omega) hm.2⟩

theorem SMap.dropTo_all {α : Type} (k : Nat) (m : SMap α) (q : Nat × α → Bool) (hm : m.all q = true) :
    (SMap.dropTo k m).all q = true := by
  induction m with
  | nil => rfl
  | cons p t ih =>
    obtain ⟨j, v⟩ := p
    simp only [List.all_cons, Bool.and_eq_true] at hm
    simp only [SMap.dropTo]
    split
    · exact ih hm.2
    · simp [hm]

theorem SMap.put_all {α : Type} [DecidableEq α] (d : α) (m : SMap α) (k : Nat) (v : α) (q : Nat × α → Bool)
    (hq : v ≠ d → q (k, v) = true) (hm : m.all q = true) : (SMap.put d m k v).all q = true := by
  induction m with
  | nil =>
    simp only [SMap.put]; split
    · rfl
    · rename_i h; simp [hq h]
  | cons p t ih =>
    obtain ⟨j, w⟩ := p
    have hm' := hm
    simp only [List.all_cons, Bool.and_eq_true] at hm
    simp only [SMap.put]
    split
    · split
      · exact hm'
      · rename_i h; simp only [List.all_cons, Bool.and_eq_true]; exact ⟨hq h, hm⟩
    · split
      · split
        · exact SMap.dropTo_all _ _ _ hm.2
        · rename_i h; simp only [List.all_cons, Bool.and_eq_true]; exact ⟨hq h, hm.2⟩
      · simp only [List.all_cons, Bool.and_eq_true]; exact ⟨hm.1, ih hm.2⟩

/-- A write keeps the canonical form. -/
theorem SMap.put_wf {α : Type} [DecidableEq α] (d : α) (m : SMap α) (k : Nat) (v : α) (hm : SMap.wf d m = true) :
    SMap.wf d (SMap.put d m k v) = true := by
  simp only [SMap.wf, Bool.and_eq_true] at hm ⊢
  exact ⟨SMap.put_rising d m 0 k v (Nat.zero_le k) hm.1, SMap.put_all d m k v _ (fun h => by simp [h]) hm.2⟩

end Sys2Proof.Machine
end

