-- ==== Sys2Proof/Laws/Regs.lean ====
section
/-!
SUPPORT. Laws of the register store: what a register or a field reads as after a write of it or of another, and what an
effect of the register operations leaves alone.
-/

namespace Sys2Proof.Machine

theorem Reg.ctorIdx_lt (r : Reg) : r.ctorIdx < 512 := by cases r <;> decide

theorem Reg.ctorIdx_inj {r q : Reg} (h : r.ctorIdx = q.ctorIdx) : r = q := by
  rw [← Reg.ofNat_ctorIdx r, ← Reg.ofNat_ctorIdx q, h]

theorem Reg.key_inj {r q : Reg} {i j : Nat} (h : r.key i = q.key j) : r = q ∧ i = j := by
  have h1 := r.ctorIdx_lt
  have h2 := q.ctorIdx_lt
  unfold Reg.key at h
  exact ⟨Reg.ctorIdx_inj (by omega), by omega⟩

theorem Reg.bits_le (r : Reg) : r.bits ≤ 64 := by unfold Reg.bits; split <;> omega

namespace State

/-- What the block has raised in a cycle is no part of a register's value. -/
@[simp] theorem rd_raise (s : State) (r q : Reg) (i j m : Nat) : (s.raise r i m).rd q j = s.rd q j := rfl

@[simp] theorem fld_raise (s : State) (r : Reg) (f : Fld) (i j m : Nat) : (s.raise r i m).fld f j = s.fld f j := rfl

@[simp] theorem flag_raise (s : State) (r : Reg) (f : Fld) (i j m : Nat) : (s.raise r i m).flag f j = s.flag f j := rfl

/-- A register just written holds the value, cut to its width. -/
theorem rd_wr_same (s : State) (r : Reg) (i v : Nat) : (s.wr r i v).rd r i = v % 2 ^ r.bits := by
  simp only [rd, wr, SMap.get_put_same, BitVec.toNat_ofNat]
  exact Nat.mod_eq_of_lt (Nat.lt_of_lt_of_le (Nat.mod_lt _ (Nat.two_pow_pos _)) (Nat.pow_le_pow_right (by omega) r.bits_le))

/-- Any other register, or instance, keeps its value. -/
theorem rd_wr_ne (s : State) (r q : Reg) (i j v : Nat) (h : q ≠ r ∨ j ≠ i) : (s.wr r i v).rd q j = s.rd q j := by
  simp only [rd, wr]
  rw [SMap.get_put_ne]
  intro e
  obtain ⟨a, b⟩ := Reg.key_inj e
  cases h with
  | inl h => exact h a
  | inr h => exact h b

@[simp] theorem rd_wr_reg (s : State) (r q : Reg) (i j v : Nat) (h : q ≠ r) : (s.wr r i v).rd q j = s.rd q j :=
  rd_wr_ne s r q i j v (.inl h)

theorem fld_wr_ne (s : State) (r : Reg) (f : Fld) (i j v : Nat) (h : f.reg ≠ r ∨ j ≠ i) :
    (s.wr r i v).fld f j = s.fld f j := by
  simp only [fld, rd_wr_ne s r f.reg i j v h]

@[simp] theorem fld_wr_reg (s : State) (r : Reg) (f : Fld) (i j v : Nat) (h : f.reg ≠ r) :
    (s.wr r i v).fld f j = s.fld f j := fld_wr_ne s r f i j v (.inl h)

@[simp] theorem flag_wr_reg (s : State) (r : Reg) (f : Fld) (i j v : Nat) (h : f.reg ≠ r) :
    (s.wr r i v).flag f j = s.flag f j := by simp only [flag, fld_wr_reg s r f i j v h]

/-- A field just set, when it lies within its register. -/
theorem fld_setF_same (s : State) (f : Fld) (i v : Nat) (h : f.lo + f.width ≤ f.reg.bits) :
    (s.setF f i v).fld f i = v % 2 ^ f.width := by
  obtain ⟨r, lo, w⟩ := f
  simp only [fld, setF, rd_raise, rd_wr_same]
  obtain ⟨c, hc⟩ := Nat.exists_eq_add_of_le h
  rw [slice_eq]
  simp only at hc
  rw [hc, Nat.pow_add, Nat.pow_add, Nat.mul_assoc, Nat.mod_mul_right_div_self, Nat.mod_mul_right_mod, ← slice_eq,
    slice_place_same]

/-- A field of the same register that does not overlap the one set. -/
theorem fld_setF_apart (s : State) (f g : Fld) (i v : Nat) (hr : g.reg = f.reg) (hg : g.lo + g.width ≤ f.reg.bits)
    (h : g.lo + g.width ≤ f.lo ∨ f.lo + f.width ≤ g.lo) : (s.setF f i v).fld g i = s.fld g i := by
  obtain ⟨r, lo, w⟩ := f
  obtain ⟨q, l, k⟩ := g
  simp only at hr hg h
  subst hr
  simp only [fld, setF, rd_raise, rd_wr_same]
  obtain ⟨c, hc⟩ := Nat.exists_eq_add_of_le hg
  rw [slice_eq, hc, Nat.pow_add, Nat.pow_add, Nat.mul_assoc, Nat.mod_mul_right_div_self, Nat.mod_mul_right_mod, ← slice_eq]
  cases h with
  | inl h => exact slice_place_below _ _ _ _ _ _ h
  | inr h => exact slice_place_above _ _ _ _ _ _ h

@[simp] theorem rd_setF_reg (s : State) (f : Fld) (q : Reg) (i j v : Nat) (h : q ≠ f.reg) :
    (s.setF f i v).rd q j = s.rd q j := rd_wr_reg s f.reg q i j _ h

theorem fld_setF_ne (s : State) (f g : Fld) (i j v : Nat) (h : g.reg ≠ f.reg ∨ j ≠ i) :
    (s.setF f i v).fld g j = s.fld g j := fld_wr_ne s f.reg g i j _ h

@[simp] theorem fld_setF_reg (s : State) (f g : Fld) (i j v : Nat) (h : g.reg ≠ f.reg) :
    (s.setF f i v).fld g j = s.fld g j := fld_setF_ne s f g i j v (.inl h)

@[simp] theorem rd_setB_reg (s : State) (f : Fld) (q : Reg) (i j : Nat) (b : Bool) (h : q ≠ f.reg) :
    (s.setB f i b).rd q j = s.rd q j := rd_setF_reg s f q i j _ h

@[simp] theorem fld_setB_reg (s : State) (f g : Fld) (i j : Nat) (b : Bool) (h : g.reg ≠ f.reg) :
    (s.setB f i b).fld g j = s.fld g j := fld_setF_reg s f g i j _ h

@[simp] theorem flag_setB_reg (s : State) (f g : Fld) (i j : Nat) (b : Bool) (h : g.reg ≠ f.reg) :
    (s.setB f i b).flag g j = s.flag g j := by simp only [flag, fld_setB_reg s f g i j b h]

/-- A flag just set or cleared. -/
theorem flag_setB_same (s : State) (f : Fld) (i : Nat) (b : Bool) (h : f.lo + 1 ≤ f.reg.bits) (hw : f.width = 1) :
    (s.setB f i b).flag f i = b := by
  simp only [flag, setB]
  rw [fld_setF_same s f i (ofBool b) (by omega), hw, ofBool_mod, ofBool_ne_zero]

@[simp] theorem rd_bump_reg (s : State) (r q : Reg) (i j : Nat) (h : q ≠ r) : (s.bump r i).rd q j = s.rd q j :=
  rd_wr_reg s r q i j _ h

@[simp] theorem rd_bumpBy_reg (s : State) (r q : Reg) (i j n : Nat) (h : q ≠ r) : (s.bumpBy r i n).rd q j = s.rd q j :=
  rd_wr_reg s r q i j _ h

@[simp] theorem fld_bump_reg (s : State) (r : Reg) (f : Fld) (i j : Nat) (h : f.reg ≠ r) :
    (s.bump r i).fld f j = s.fld f j := fld_wr_reg s r f i j _ h

/-- A 32-bit counter counts one, and stays at its top (R23). -/
theorem rd_bump_same (s : State) (r : Reg) (i : Nat) (h : r.bits = 32) : (s.bump r i).rd r i = satAdd32 (s.rd r i) 1 := by
  simp only [bump, bumpBy, rd_wr_same, h, satAdd32]
  exact Nat.mod_eq_of_lt (by omega)

end State

end Sys2Proof.Machine
end

