-- ==== Sys2Proof/Laws/KeepBase.lean ====
section
/-!
SUPPORT. The frame fields of a step: fuses, ST, the EVF counters and the guard limits, with what the register setters and the iterators keep of them.
-/

namespace Sys2Proof.Machine

def SMap.guard (m : SMap Dword) : (Limit → Nat → Nat) × Nat :=
  (fun l i => (SMap.get (BitVec.ofNat 64 (l.reg.rst i)) m (l.reg.key i)).toNat, (SMap.get (BitVec.ofNat 64 (Reg.guardLock.rst 0)) m (Reg.guardLock.key 0)).toNat)
theorem State.guard_eq (s : State) : s.regs.guard = (fun l i => s.rd l.reg i, s.rd .guardLock 0) := rfl
/-- The registers of the guard limits and their lock. -/
def Reg.limitReg : Reg → Bool
  | .guardPeak | .guardRms | .guardDuty | .guardBmin | .guardBmax | .guardBrate | .guardLock => true
  | _ => false
@[simp] theorem Reg.limitReg_eq (r : Reg) : r.limitReg = false ↔
    r ≠ .guardPeak ∧ r ≠ .guardRms ∧ r ≠ .guardDuty ∧ r ≠ .guardBmin ∧ r ≠ .guardBmax ∧ r ≠ .guardBrate ∧ r ≠ .guardLock := by
  constructor
  · intro h; refine ⟨?_, ?_, ?_, ?_, ?_, ?_, ?_⟩ <;> rintro rfl <;> cases h
  · rintro ⟨h1, h2, h3, h4, h5, h6, h7⟩
    unfold Reg.limitReg; split <;> first | rfl | (exact absurd rfl ‹_›)
theorem Reg.ne_of_limitReg {r q : Reg} (h : r.limitReg = false) (hq : q.limitReg = true) : q ≠ r := by
  rintro rfl; rw [h] at hq; cases hq
theorem Limit.reg_limitReg (l : Limit) : l.reg.limitReg = true := by cases l <;> rfl
@[simp] theorem ite_limitReg (c : Prop) [Decidable c] (a b q : Reg) (ha : a ≠ q) (hb : b ≠ q) : (if c then a else b) ≠ q := by split <;> assumption
@[simp] theorem ite_reg (c : Prop) [Decidable c] (a b : Fld) : (if c then a else b).reg = if c then a.reg else b.reg := by split <;> rfl
@[simp] theorem State.wr_guard (s : State) (r : Reg) (i v : Nat) (h : r.limitReg = false) : (s.wr r i v).regs.guard = s.regs.guard := by
  rw [State.guard_eq, State.guard_eq]
  rw [State.rd_wr_reg _ _ _ _ _ _ (Reg.ne_of_limitReg h rfl)]
  congr 1
  funext l j
  exact State.rd_wr_reg _ _ _ _ _ _ (Reg.ne_of_limitReg h l.reg_limitReg)
@[simp] theorem State.setF_guard (s : State) (f : Fld) (i v : Nat) (h : f.reg.limitReg = false) : (s.setF f i v).regs.guard = s.regs.guard := wr_guard _ _ _ _ h
@[simp] theorem State.setB_guard (s : State) (f : Fld) (i : Nat) (b : Bool) (h : f.reg.limitReg = false) : (s.setB f i b).regs.guard = s.regs.guard := wr_guard _ _ _ _ h
@[simp] theorem State.bumpBy_guard (s : State) (r : Reg) (i n : Nat) (h : r.limitReg = false) : (s.bumpBy r i n).regs.guard = s.regs.guard := wr_guard _ _ _ _ h
@[simp] theorem State.bump_guard (s : State) (r : Reg) (i : Nat) (h : r.limitReg = false) : (s.bump r i).regs.guard = s.regs.guard := wr_guard _ _ _ _ h
@[simp] theorem State.framePendR_limitReg (b : Bool) : (State.framePendR b).reg.limitReg = false := by cases b <;> rfl
@[simp] theorem State.frameLateR_limitReg (b : Bool) : (State.frameLateR b).limitReg = false := by cases b <;> rfl
@[simp] theorem State.frameDropR_limitReg (b : Bool) : (State.frameDropR b).limitReg = false := by cases b <;> rfl
@[simp] theorem State.frameCollideR_limitReg (b : Bool) : (State.frameCollideR b).limitReg = false := by cases b <;> rfl
@[simp] theorem State.frameApplyR_limitReg (b : Bool) : (State.frameApplyR b).limitReg = false := by cases b <;> rfl
@[simp] theorem State.staleMsgR_limitReg (b : Bool) : (State.staleMsgR b).limitReg = false := by cases b <;> rfl
@[simp] theorem forEach_fuse {α : Type} (f : α → State → State) (h : ∀ a t, (f a t).fuse = t.fuse) (l : List α) (s : State) : (forEach l f s).fuse = s.fuse := forEach_keeps (·.fuse) f h l s
@[simp] theorem when_fuse (f : State → State) (h : ∀ t, (f t).fuse = t.fuse) (c : Bool) (s : State) : (when c f s).fuse = s.fuse := when_keeps (·.fuse) f h c s
@[simp] theorem ite_fuse (c : Prop) [Decidable c] (a b : State) : (if c then a else b).fuse = if c then a.fuse else b.fuse := by split <;> rfl
@[simp] theorem forEach_st {α : Type} (f : α → State → State) (h : ∀ a t, (f a t).st = t.st) (l : List α) (s : State) : (forEach l f s).st = s.st := forEach_keeps (·.st) f h l s
@[simp] theorem when_st (f : State → State) (h : ∀ t, (f t).st = t.st) (c : Bool) (s : State) : (when c f s).st = s.st := when_keeps (·.st) f h c s
@[simp] theorem ite_st (c : Prop) [Decidable c] (a b : State) : (if c then a else b).st = if c then a.st else b.st := by split <;> rfl
@[simp] theorem forEach_evfcnt {α : Type} (f : α → State → State) (h : ∀ a t, (f a t).evf.cnt = t.evf.cnt) (l : List α) (s : State) : (forEach l f s).evf.cnt = s.evf.cnt := forEach_keeps (·.evf.cnt) f h l s
@[simp] theorem when_evfcnt (f : State → State) (h : ∀ t, (f t).evf.cnt = t.evf.cnt) (c : Bool) (s : State) : (when c f s).evf.cnt = s.evf.cnt := when_keeps (·.evf.cnt) f h c s
@[simp] theorem ite_evfcnt (c : Prop) [Decidable c] (a b : State) : (if c then a else b).evf.cnt = if c then a.evf.cnt else b.evf.cnt := by split <;> rfl
@[simp] theorem forEach_guard {α : Type} (f : α → State → State) (h : ∀ a t, (f a t).regs.guard = t.regs.guard) (l : List α) (s : State) : (forEach l f s).regs.guard = s.regs.guard := forEach_keeps (·.regs.guard) f h l s
@[simp] theorem when_guard (f : State → State) (h : ∀ t, (f t).regs.guard = t.regs.guard) (c : Bool) (s : State) : (when c f s).regs.guard = s.regs.guard := when_keeps (·.regs.guard) f h c s
@[simp] theorem ite_guard (c : Prop) [Decidable c] (a b : State) : (if c then a else b).regs.guard = if c then a.regs.guard else b.regs.guard := by split <;> rfl
end Sys2Proof.Machine
end

