-- ==== Sys2Proof/Laws/KeepShot.lean ====
section
/-!
SUPPORT. What the shared operations, the command engine and the shot operations keep of the frame fields.
-/

set_option maxRecDepth 4000
set_option linter.all false

namespace Sys2Proof.Machine

/-! ## Ops -/

@[simp] theorem State.wr_keeps (s : State) (r : Reg) (i v : Nat) :
    (State.wr s r i v).fuse = s.fuse ∧ (State.wr s r i v).st = s.st ∧ (State.wr s r i v).evf.cnt = s.evf.cnt := by
  simp [State.wr]
@[simp] theorem State.raise_keeps (s : State) (r : Reg) (i m : Nat) :
    ((State.raise s r i m)).fuse = s.fuse ∧ ((State.raise s r i m)).st = s.st ∧ ((State.raise s r i m)).evf.cnt = s.evf.cnt ∧ ((State.raise s r i m)).regs.guard = s.regs.guard := ⟨rfl, rfl, rfl, rfl⟩
@[simp] theorem State.setF_keeps (s : State) (f : Fld) (i v : Nat) :
    (State.setF s f i v).fuse = s.fuse ∧ (State.setF s f i v).st = s.st ∧ (State.setF s f i v).evf.cnt = s.evf.cnt := by
  simp [State.setF]
@[simp] theorem State.setB_keeps (s : State) (f : Fld) (i : Nat) (b : Bool) :
    (State.setB s f i b).fuse = s.fuse ∧ (State.setB s f i b).st = s.st ∧ (State.setB s f i b).evf.cnt = s.evf.cnt := by
  simp [State.setB]
@[simp] theorem State.noteCount_keeps (s : State) (r : Reg) (i : Nat) :
    ((State.noteCount s r i)).fuse = s.fuse ∧ ((State.noteCount s r i)).st = s.st ∧ ((State.noteCount s r i)).evf.cnt = s.evf.cnt ∧ ((State.noteCount s r i)).regs.guard = s.regs.guard := ⟨rfl, rfl, rfl, rfl⟩
@[simp] theorem State.bumpBy_keeps (s : State) (r : Reg) (i n : Nat) :
    (State.bumpBy s r i n).fuse = s.fuse ∧ (State.bumpBy s r i n).st = s.st ∧ (State.bumpBy s r i n).evf.cnt = s.evf.cnt := by
  simp [State.bumpBy]
@[simp] theorem State.bump_keeps (s : State) (r : Reg) (i : Nat := 0) :
    (State.bump s r i).fuse = s.fuse ∧ (State.bump s r i).st = s.st ∧ (State.bump s r i).evf.cnt = s.evf.cnt := by
  simp [State.bump]
@[simp] theorem State.bumpHeld_keeps (s : State) (r : Reg) (i : Nat) (hr : r.limitReg = false) :
    (State.bumpHeld s r i).fuse = s.fuse ∧ (State.bumpHeld s r i).st = s.st ∧ (State.bumpHeld s r i).evf.cnt = s.evf.cnt ∧
    (State.bumpHeld s r i).regs.guard = s.regs.guard := by
  simp [State.bumpHeld, hr]
@[simp] theorem State.unbump_keeps (s : State) (r : Reg) (i : Nat) (hr : r.limitReg = false) :
    (State.unbump s r i).fuse = s.fuse ∧ (State.unbump s r i).st = s.st ∧ (State.unbump s r i).evf.cnt = s.evf.cnt ∧
    (State.unbump s r i).regs.guard = s.regs.guard := by
  simp [State.unbump, hr]
@[simp] theorem State.copyBase_keeps (s : State) (i : Nat) (l : List (Reg × Reg)) :
    (State.copyBase s i l).fuse = s.fuse ∧ (State.copyBase s i l).st = s.st ∧ (State.copyBase s i l).evf.cnt = s.evf.cnt := by
  simp [State.copyBase]
@[simp] theorem State.emit_keeps (s : State) (e : Egress) :
    (State.emit s e).fuse = s.fuse ∧ (State.emit s e).st = s.st ∧ (State.emit s e).evf.cnt = s.evf.cnt ∧
    (State.emit s e).regs.guard = s.regs.guard := by
  simp [State.emit]
@[simp] theorem State.msixSend_keeps (s : State) (v : Nat) :
    (State.msixSend s v).fuse = s.fuse ∧ (State.msixSend s v).st = s.st ∧ (State.msixSend s v).evf.cnt = s.evf.cnt ∧
    (State.msixSend s v).regs.guard = s.regs.guard := by
  simp [State.msixSend]
@[simp] theorem State.irq_keeps (s : State) (v : Nat) :
    ((State.irq s v)).fuse = s.fuse ∧ ((State.irq s v)).st = s.st ∧ ((State.irq s v)).evf.cnt = s.evf.cnt ∧ ((State.irq s v)).regs.guard = s.regs.guard := by
  unfold State.irq
  by_cases h : v < 32 <;> simp only [h, if_true, if_false] <;> split <;> simp
@[simp] theorem State.setDev_keeps (s : State) (d : Nat) :
    (State.setDev s d).fuse = s.fuse ∧ (State.setDev s d).st = s.st ∧ (State.setDev s d).evf.cnt = s.evf.cnt ∧
    (State.setDev s d).regs.guard = s.regs.guard := by
  simp [State.setDev]
@[simp] theorem State.returns_keeps (s : State) (v : Nat) :
    (State.returns s v).fuse = s.fuse ∧ (State.returns s v).st = s.st ∧ (State.returns s v).evf.cnt = s.evf.cnt ∧
    (State.returns s v).regs.guard = s.regs.guard := by
  simp [State.returns]
@[simp] theorem State.draw_keeps (s : State) :
    (State.draw s).2.fuse = s.fuse ∧ (State.draw s).2.st = s.st ∧ (State.draw s).2.evf.cnt = s.evf.cnt ∧
    (State.draw s).2.regs.guard = s.regs.guard := by
  simp [State.draw]
@[simp] theorem State.act_keeps (f : State → State) (s : State) (h0 : ∀ t, (f t).fuse = t.fuse) (h1 : ∀ t, (f t).st = t.st) (h2 : ∀ t, (f t).evf.cnt = t.evf.cnt) (h3 : ∀ t, (f t).regs.guard = t.regs.guard) :
    (State.act f s).fuse = s.fuse ∧ (State.act f s).st = s.st ∧ (State.act f s).evf.cnt = s.evf.cnt ∧
    (State.act f s).regs.guard = s.regs.guard := by
  simp [State.act, h0, h1, h2, h3]

/-! ## Command -/

@[simp] theorem State.setQp_keeps (s : State) (q : Nat) (p : Qp) :
    (State.setQp s q p).fuse = s.fuse ∧ (State.setQp s q p).st = s.st ∧ (State.setQp s q p).evf.cnt = s.evf.cnt ∧
    (State.setQp s q p).regs.guard = s.regs.guard := by
  simp [State.setQp]
@[simp] theorem State.writeReply_keeps (s : State) (q : Nat) (ws : List Word) (vec : Bool) :
    (State.writeReply s q ws vec).fuse = s.fuse ∧ (State.writeReply s q ws vec).st = s.st ∧
    (State.writeReply s q ws vec).evf.cnt = s.evf.cnt ∧ (State.writeReply s q ws vec).regs.guard = s.regs.guard := by
  simp [State.writeReply]
@[simp] theorem State.passHead_keeps (s : State) (q : Nat) :
    (State.passHead s q).fuse = s.fuse ∧ (State.passHead s q).st = s.st ∧ (State.passHead s q).evf.cnt = s.evf.cnt ∧
    (State.passHead s q).regs.guard = s.regs.guard := by
  simp [State.passHead]
@[simp] theorem State.countAnswer_keeps (s : State) (status : Nat) :
    (State.countAnswer s status).fuse = s.fuse ∧ (State.countAnswer s status).st = s.st ∧
    (State.countAnswer s status).evf.cnt = s.evf.cnt ∧ (State.countAnswer s status).regs.guard = s.regs.guard := by
  simp [State.countAnswer]
@[simp] theorem State.unreserve_keeps (s : State) (q : Nat) :
    (State.unreserve s q).fuse = s.fuse ∧ (State.unreserve s q).st = s.st ∧ (State.unreserve s q).evf.cnt = s.evf.cnt ∧
    (State.unreserve s q).regs.guard = s.regs.guard := by
  simp [State.unreserve]
@[simp] theorem State.answer_keeps (s : State) (c : HostCmd) (status legal info0 info1 acc result : Nat) :
    (State.answer s c status legal info0 info1 acc result).fuse = s.fuse ∧
    (State.answer s c status legal info0 info1 acc result).st = s.st ∧
    (State.answer s c status legal info0 info1 acc result).evf.cnt = s.evf.cnt ∧
    (State.answer s c status legal info0 info1 acc result).regs.guard = s.regs.guard := by
  simp [State.answer]
theorem hostCmd_keeps {α : Type} (g : State → α) (sp : CmdSpec) (c : HostCmd) (s : State)
    (hp : ∀ q t, g (t.passHead q) = g t) (hq : ∀ q x (t : State), g (t.setQp q x) = g t) (ha : ∀ t d a b e f h, g (t.answer c d a b e f h) = g t)
    (hl : ∀ t r, g (sp.onLocked t c r) = g t) (hf : ∀ t, g (sp.app t c).1 = g t) : g (hostCmd sp c s) = g s := by
  unfold hostCmd
  (repeat' split) <;> simp [hp, hq, ha, hl, hf]
@[simp] theorem State.setLongs_keeps (s : State) (l : List LongCmd) :
    (State.setLongs s l).fuse = s.fuse ∧ (State.setLongs s l).st = s.st ∧ (State.setLongs s l).evf.cnt = s.evf.cnt ∧
    (State.setLongs s l).regs.guard = s.regs.guard := by
  simp [State.setLongs]
@[simp] theorem State.startLong_keeps (s : State) (c : HostCmd) (cls : LongClass) (unit arg : Nat) (addr : Nat) (payload : List Byte) :
    (State.startLong s c cls unit arg addr payload).fuse = s.fuse ∧ (State.startLong s c cls unit arg addr payload).st = s.st ∧
    (State.startLong s c cls unit arg addr payload).evf.cnt = s.evf.cnt ∧
    (State.startLong s c cls unit arg addr payload).regs.guard = s.regs.guard := by
  simp [State.startLong]
@[simp] theorem State.holdReply_keeps (s : State) (q : Nat) (ws : List Word) :
    (State.holdReply s q ws).fuse = s.fuse ∧ (State.holdReply s q ws).st = s.st ∧ (State.holdReply s q ws).evf.cnt = s.evf.cnt ∧
    (State.holdReply s q ws).regs.guard = s.regs.guard := by
  simp [State.holdReply]
@[simp] theorem State.drainReply_keeps (s : State) (q : Nat) :
    (State.drainReply s q).fuse = s.fuse ∧ (State.drainReply s q).st = s.st ∧ (State.drainReply s q).evf.cnt = s.evf.cnt ∧
    (State.drainReply s q).regs.guard = s.regs.guard := by
  unfold State.drainReply; simp only []; (repeat' split) <;> simp
@[simp] theorem State.completeAs_keeps (s : State) (l : LongCmd) (status info0 info1 result : Nat) :
    (State.completeAs s l status info0 info1 result).fuse = s.fuse ∧ (State.completeAs s l status info0 info1 result).st = s.st ∧
    (State.completeAs s l status info0 info1 result).evf.cnt = s.evf.cnt ∧
    (State.completeAs s l status info0 info1 result).regs.guard = s.regs.guard := by
  simp [State.completeAs]
@[simp] theorem State.endLongs_keeps (s : State) (status : Nat) :
    (State.endLongs s status).fuse = s.fuse ∧ (State.endLongs s status).st = s.st ∧
    (State.endLongs s status).evf.cnt = s.evf.cnt ∧ (State.endLongs s status).regs.guard = s.regs.guard := by
  simp [State.endLongs]

/-! ## ShotOps -/

@[simp] theorem State.setChan_keeps (s : State) (n : Nat) (o : Och) :
    (State.setChan s n o).fuse = s.fuse ∧ (State.setChan s n o).st = s.st ∧ (State.setChan s n o).evf.cnt = s.evf.cnt ∧
    (State.setChan s n o).regs.guard = s.regs.guard := by
  simp [State.setChan]
@[simp] theorem State.updChan_keeps (s : State) (n : Nat) (f : Och → Och) :
    (State.updChan s n f).fuse = s.fuse ∧ (State.updChan s n f).st = s.st ∧ (State.updChan s n f).evf.cnt = s.evf.cnt ∧
    (State.updChan s n f).regs.guard = s.regs.guard := by
  simp [State.updChan]
@[simp] theorem State.setRchan_keeps (s : State) (n : Nat) (r : Rch) :
    (State.setRchan s n r).fuse = s.fuse ∧ (State.setRchan s n r).st = s.st ∧ (State.setRchan s n r).evf.cnt = s.evf.cnt ∧
    (State.setRchan s n r).regs.guard = s.regs.guard := by
  simp [State.setRchan]
@[simp] theorem State.updRchan_keeps (s : State) (n : Nat) (f : Rch → Rch) :
    (State.updRchan s n f).fuse = s.fuse ∧ (State.updRchan s n f).st = s.st ∧ (State.updRchan s n f).evf.cnt = s.evf.cnt ∧
    (State.updRchan s n f).regs.guard = s.regs.guard := by
  simp [State.updRchan]
@[simp] theorem State.setVoice_keeps (s : State) (n v : Nat) (x : Voice) :
    (State.setVoice s n v x).fuse = s.fuse ∧ (State.setVoice s n v x).st = s.st ∧ (State.setVoice s n v x).evf.cnt = s.evf.cnt ∧
    (State.setVoice s n v x).regs.guard = s.regs.guard := by
  simp [State.setVoice]
@[simp] theorem State.updVoice_keeps (s : State) (n v : Nat) (f : Voice → Voice) :
    (State.updVoice s n v f).fuse = s.fuse ∧ (State.updVoice s n v f).st = s.st ∧ (State.updVoice s n v f).evf.cnt = s.evf.cnt ∧
    (State.updVoice s n v f).regs.guard = s.regs.guard := by
  simp [State.updVoice]
@[simp] theorem State.taint_keeps (s : State) (b : Nat) :
    (State.taint s b).fuse = s.fuse ∧ (State.taint s b).st = s.st ∧ (State.taint s b).evf.cnt = s.evf.cnt ∧
    (State.taint s b).regs.guard = s.regs.guard := by
  simp [State.taint]
@[simp] theorem State.taintUnderrun_keeps  (s : State) :
    (State.taintUnderrun s).fuse = s.fuse ∧ (State.taintUnderrun s).st = s.st ∧ (State.taintUnderrun s).evf.cnt = s.evf.cnt ∧
    (State.taintUnderrun s).regs.guard = s.regs.guard := by
  simp [State.taintUnderrun]
@[simp] theorem State.taintLateDefault_keeps  (s : State) :
    (State.taintLateDefault s).fuse = s.fuse ∧ (State.taintLateDefault s).st = s.st ∧
    (State.taintLateDefault s).evf.cnt = s.evf.cnt ∧ (State.taintLateDefault s).regs.guard = s.regs.guard := by
  simp [State.taintLateDefault]
@[simp] theorem State.taintGuard_keeps  (s : State) :
    (State.taintGuard s).fuse = s.fuse ∧ (State.taintGuard s).st = s.st ∧ (State.taintGuard s).evf.cnt = s.evf.cnt ∧
    (State.taintGuard s).regs.guard = s.regs.guard := by
  simp [State.taintGuard]
@[simp] theorem State.taintMem_keeps  (s : State) :
    (State.taintMem s).fuse = s.fuse ∧ (State.taintMem s).st = s.st ∧ (State.taintMem s).evf.cnt = s.evf.cnt ∧
    (State.taintMem s).regs.guard = s.regs.guard := by
  simp [State.taintMem]
@[simp] theorem State.after_keeps (s : State) (c : Nat) (e : Later) :
    (State.after s c e).fuse = s.fuse ∧ (State.after s c e).st = s.st ∧ (State.after s c e).evf.cnt = s.evf.cnt ∧
    (State.after s c e).regs.guard = s.regs.guard := by
  simp [State.after]
@[simp] theorem State.abortShot_keeps (s : State) (cause : Nat) :
    (State.abortShot s cause).fuse = s.fuse ∧ (State.abortShot s cause).st = s.st ∧
    (State.abortShot s cause).evf.cnt = s.evf.cnt ∧ (State.abortShot s cause).regs.guard = s.regs.guard := by
  simp [State.abortShot]
@[simp] theorem State.startMade_keeps (s : State) :
    (State.startMade s).fuse = s.fuse ∧ (State.startMade s).st = s.st ∧ (State.startMade s).evf.cnt = s.evf.cnt ∧
    (State.startMade s).regs.guard = s.regs.guard := by
  simp [State.startMade]
@[simp] theorem State.startIgnored_keeps (s : State) :
    (State.startIgnored s).fuse = s.fuse ∧ (State.startIgnored s).st = s.st ∧ (State.startIgnored s).evf.cnt = s.evf.cnt ∧
    (State.startIgnored s).regs.guard = s.regs.guard := by
  simp [State.startIgnored]
@[simp] theorem State.startEvent_keeps (s : State) :
    (State.startEvent s).fuse = s.fuse ∧ (State.startEvent s).st = s.st ∧ (State.startEvent s).evf.cnt = s.evf.cnt ∧
    (State.startEvent s).regs.guard = s.regs.guard := by
  simp [State.startEvent]

/-! ## Decision -/

@[simp] theorem State.setSlot_keeps (s : State) (k : Nat) (x : Slot) :
    (State.setSlot s k x).fuse = s.fuse ∧ (State.setSlot s k x).st = s.st ∧ (State.setSlot s k x).evf.cnt = s.evf.cnt ∧
    (State.setSlot s k x).regs.guard = s.regs.guard := by
  simp [State.setSlot]
@[simp] theorem State.decCount_keeps (s : State) (p c u t : Nat) :
    (State.decCount s p c u t).fuse = s.fuse ∧ (State.decCount s p c u t).st = s.st ∧
    (State.decCount s p c u t).evf.cnt = s.evf.cnt ∧ (State.decCount s p c u t).regs.guard = s.regs.guard := by
  simp [State.decCount]
@[simp] theorem State.decRebase_keeps (s : State) :
    (State.decRebase s).fuse = s.fuse ∧ (State.decRebase s).st = s.st ∧ (State.decRebase s).evf.cnt = s.evf.cnt ∧
    (State.decRebase s).regs.guard = s.regs.guard := by
  simp [State.decRebase]
@[simp] theorem State.cleanBank_keeps (s : State) (row inst lo hi : Nat) :
    (State.cleanBank s row inst lo hi).fuse = s.fuse ∧ (State.cleanBank s row inst lo hi).st = s.st ∧
    (State.cleanBank s row inst lo hi).evf.cnt = s.evf.cnt ∧ (State.cleanBank s row inst lo hi).regs.guard = s.regs.guard := by
  simp [State.cleanBank]
@[simp] theorem State.decAccept_keeps (s : State) (k word tag at_ : Nat) :
    (State.decAccept s k word tag at_).fuse = s.fuse ∧ (State.decAccept s k word tag at_).st = s.st ∧
    (State.decAccept s k word tag at_).evf.cnt = s.evf.cnt ∧ (State.decAccept s k word tag at_).regs.guard = s.regs.guard := by
  simp [State.decAccept]
@[simp] theorem State.decStale_keeps (s : State) (k : Nat) :
    (State.decStale s k).fuse = s.fuse ∧ (State.decStale s k).st = s.st ∧ (State.decStale s k).evf.cnt = s.evf.cnt ∧
    (State.decStale s k).regs.guard = s.regs.guard := by
  simp [State.decStale]
@[simp] theorem State.decRemove_keeps (s : State) (k : Nat) :
    (State.decRemove s k).fuse = s.fuse ∧ (State.decRemove s k).st = s.st ∧ (State.decRemove s k).evf.cnt = s.evf.cnt ∧
    (State.decRemove s k).regs.guard = s.regs.guard := by
  simp [State.decRemove]
@[simp] theorem State.decUncorr_keeps (s : State) (k : Nat) :
    (State.decUncorr s k).fuse = s.fuse ∧ (State.decUncorr s k).st = s.st ∧ (State.decUncorr s k).evf.cnt = s.evf.cnt ∧
    (State.decUncorr s k).regs.guard = s.regs.guard := by
  simp [State.decUncorr]
@[simp] theorem State.decShotEnd_keeps (s : State) :
    (State.decShotEnd s).fuse = s.fuse ∧ (State.decShotEnd s).st = s.st ∧ (State.decShotEnd s).evf.cnt = s.evf.cnt ∧
    (State.decShotEnd s).regs.guard = s.regs.guard := by
  simp [State.decShotEnd]
@[simp] theorem State.condConsume_keeps (s : State) (e : BitVec 512) (d : Nat) :
    (State.condConsume s e d).fuse = s.fuse ∧ (State.condConsume s e d).st = s.st ∧
    (State.condConsume s e d).evf.cnt = s.evf.cnt ∧ (State.condConsume s e d).regs.guard = s.regs.guard := by
  simp [State.condConsume]
@[simp] theorem State.condEcc_keeps (s : State) (e : BitVec 512) :
    (State.condEcc s e).fuse = s.fuse ∧ (State.condEcc s e).st = s.st ∧ (State.condEcc s e).evf.cnt = s.evf.cnt ∧
    (State.condEcc s e).regs.guard = s.regs.guard := by
  simp [State.condEcc]
@[simp] theorem State.latencyExcursion_keeps (s : State) (missing : List Nat) :
    (State.latencyExcursion s missing).fuse = s.fuse ∧ (State.latencyExcursion s missing).st = s.st ∧
    (State.latencyExcursion s missing).evf.cnt = s.evf.cnt ∧ (State.latencyExcursion s missing).regs.guard = s.regs.guard := by
  simp [State.latencyExcursion]

/-! ## Frames -/

@[simp] theorem State.setFrames_keeps (s : State) (rx : Bool) (n : Nat) (f : Frames) :
    (State.setFrames s rx n f).fuse = s.fuse ∧ (State.setFrames s rx n f).st = s.st ∧
    (State.setFrames s rx n f).evf.cnt = s.evf.cnt ∧ (State.setFrames s rx n f).regs.guard = s.regs.guard := by
  simp [State.setFrames]
@[simp] theorem State.setFrameQueue_keeps (s : State) (rx : Bool) (n : Nat) (q : List FrameOp) :
    (State.setFrameQueue s rx n q).fuse = s.fuse ∧ (State.setFrameQueue s rx n q).st = s.st ∧
    (State.setFrameQueue s rx n q).evf.cnt = s.evf.cnt ∧ (State.setFrameQueue s rx n q).regs.guard = s.regs.guard := by
  simp [State.setFrameQueue]
@[simp] theorem State.frameEnter_keeps (s : State) (rx : Bool) (n : Nat) (op : FrameOp) :
    (State.frameEnter s rx n op).fuse = s.fuse ∧ (State.frameEnter s rx n op).st = s.st ∧
    (State.frameEnter s rx n op).evf.cnt = s.evf.cnt ∧ (State.frameEnter s rx n op).regs.guard = s.regs.guard := by
  simp [State.frameEnter]
@[simp] theorem State.frameApply_keeps (s : State) (rx : Bool) (n gst : Nat) :
    (State.frameApply s rx n gst).fuse = s.fuse ∧ (State.frameApply s rx n gst).st = s.st ∧
    (State.frameApply s rx n gst).evf.cnt = s.evf.cnt ∧ (State.frameApply s rx n gst).regs.guard = s.regs.guard := by
  simp [State.frameApply]
@[simp] theorem State.frameMsg_keeps (s : State) (rx : Bool) (n role epoch : Nat) (op : FrameOp) :
    (State.frameMsg s rx n role epoch op).fuse = s.fuse ∧ (State.frameMsg s rx n role epoch op).st = s.st ∧
    (State.frameMsg s rx n role epoch op).evf.cnt = s.evf.cnt ∧
    (State.frameMsg s rx n role epoch op).regs.guard = s.regs.guard := by
  unfold State.frameMsg; simp only []; (repeat' split) <;> simp

/-! ## Memory -/

@[simp] theorem State.bar2Store_keeps (s : State) (a : Nat) (b : List Byte) :
    (State.bar2Store s a b).fuse = s.fuse ∧ (State.bar2Store s a b).st = s.st ∧ (State.bar2Store s a b).evf.cnt = s.evf.cnt ∧
    (State.bar2Store s a b).regs.guard = s.regs.guard := by
  simp [State.bar2Store]

/-! ## Shadow -/

@[simp] theorem State.shdWr_keeps (s : State) (n w v : Nat) :
    (State.shdWr s n w v).fuse = s.fuse ∧ (State.shdWr s n w v).st = s.st ∧ (State.shdWr s n w v).evf.cnt = s.evf.cnt ∧
    (State.shdWr s n w v).regs.guard = s.regs.guard := by
  simp [State.shdWr]
@[simp] theorem State.setAct_keeps (s : State) (n w v : Nat) :
    (State.setAct s n w v).fuse = s.fuse ∧ (State.setAct s n w v).st = s.st ∧ (State.setAct s n w v).evf.cnt = s.evf.cnt ∧
    (State.setAct s n w v).regs.guard = s.regs.guard := by
  simp [State.setAct]
@[simp] theorem State.setCommitted_keeps (s : State) (n set : Nat) (b : Bool) :
    (State.setCommitted s n set b).fuse = s.fuse ∧ (State.setCommitted s n set b).st = s.st ∧
    (State.setCommitted s n set b).evf.cnt = s.evf.cnt ∧ (State.setCommitted s n set b).regs.guard = s.regs.guard := by
  simp [State.setCommitted]
@[simp] theorem State.setShdPending_keeps (s : State) (n set : Nat) (b : Bool) :
    (State.setShdPending s n set b).fuse = s.fuse ∧ (State.setShdPending s n set b).st = s.st ∧
    (State.setShdPending s n set b).evf.cnt = s.evf.cnt ∧ (State.setShdPending s n set b).regs.guard = s.regs.guard := by
  simp [State.setShdPending]
@[simp] theorem State.handNext_keeps (s : State) (n set : Nat) (again : Bool) :
    (State.handNext s n set again).fuse = s.fuse ∧ (State.handNext s n set again).st = s.st ∧
    (State.handNext s n set again).evf.cnt = s.evf.cnt ∧ (State.handNext s n set again).regs.guard = s.regs.guard := by
  simp [State.handNext]
@[simp] theorem State.handOver_keeps (s : State) (n set : Nat) :
    (State.handOver s n set).fuse = s.fuse ∧ (State.handOver s n set).st = s.st ∧ (State.handOver s n set).evf.cnt = s.evf.cnt ∧
    (State.handOver s n set).regs.guard = s.regs.guard := by
  simp [State.handOver]
@[simp] theorem State.shadowWrite_keeps (s : State) (n w v : Nat) :
    (State.shadowWrite s n w v).fuse = s.fuse ∧ (State.shadowWrite s n w v).st = s.st ∧
    (State.shadowWrite s n w v).evf.cnt = s.evf.cnt ∧ (State.shadowWrite s n w v).regs.guard = s.regs.guard := by
  simp [State.shadowWrite]
@[simp] theorem State.shadowCommit_keeps (s : State) (n token sets : Nat) :
    (State.shadowCommit s n token sets).fuse = s.fuse ∧ (State.shadowCommit s n token sets).st = s.st ∧
    (State.shadowCommit s n token sets).evf.cnt = s.evf.cnt ∧ (State.shadowCommit s n token sets).regs.guard = s.regs.guard := by
  unfold State.shadowCommit; refine ⟨?_, ?_, ?_, ?_⟩ <;> 
    (repeat' (first | (simp; done) | split | rw [forEach_fuse] | rw [when_fuse] | rw [forEach_st] | rw [when_st] | rw [forEach_evfcnt] | rw [when_evfcnt] | rw [forEach_guard] | rw [when_guard] | intro _ | simp))
@[simp] theorem State.handOverAt_keeps (s : State) (n set : Nat) :
    (State.handOverAt s n set).fuse = s.fuse ∧ (State.handOverAt s n set).st = s.st ∧
    (State.handOverAt s n set).evf.cnt = s.evf.cnt ∧ (State.handOverAt s n set).regs.guard = s.regs.guard := by
  simp [State.handOverAt]
@[simp] theorem State.handOverLater_keeps (s : State) (n : Nat) :
    (State.handOverLater s n).fuse = s.fuse ∧ (State.handOverLater s n).st = s.st ∧
    (State.handOverLater s n).evf.cnt = s.evf.cnt ∧ (State.handOverLater s n).regs.guard = s.regs.guard := by
  simp [State.handOverLater]



end Sys2Proof.Machine
end

