-- ==== Sys2Proof/Laws/KeepChannel.lean ====
section
/-!
SUPPORT. What the channel operations (sequencer, streams, output, markers, granule) keep of the frame fields.
-/

set_option maxRecDepth 4000
set_option linter.all false

namespace Sys2Proof.Machine

/-! ## Sequencer -/

@[simp] theorem State.setWait_keeps (s : State) (k : Nat) (w : Option Wait) :
    (State.setWait s k w).fuse = s.fuse ∧ (State.setWait s k w).st = s.st ∧ (State.setWait s k w).evf.cnt = s.evf.cnt ∧
    (State.setWait s k w).regs.guard = s.regs.guard := by
  simp [State.setWait]
@[simp] theorem State.touch_keeps (s : State) (n kind idx words : Nat) :
    (State.touch s n kind idx words).fuse = s.fuse ∧ (State.touch s n kind idx words).st = s.st ∧
    (State.touch s n kind idx words).evf.cnt = s.evf.cnt ∧ (State.touch s n kind idx words).regs.guard = s.regs.guard := by
  simp [State.touch]
@[simp] theorem State.noteUses_keeps (s : State) :
    (State.noteUses s).fuse = s.fuse ∧ (State.noteUses s).st = s.st ∧ (State.noteUses s).evf.cnt = s.evf.cnt ∧
    (State.noteUses s).regs.guard = s.regs.guard := by
  simp [State.noteUses]
@[simp] theorem State.fetchFlags_keeps (s : State) (n v e : Nat) :
    (State.fetchFlags s n v e).fuse = s.fuse ∧ (State.fetchFlags s n v e).st = s.st ∧
    (State.fetchFlags s n v e).evf.cnt = s.evf.cnt ∧ (State.fetchFlags s n v e).regs.guard = s.regs.guard := by
  simp [State.fetchFlags]
@[simp] theorem State.setChain_keeps (s : State) (n v : Nat) (lane : Bool) (c : Chain) :
    (State.setChain s n v lane c).fuse = s.fuse ∧ (State.setChain s n v lane c).st = s.st ∧
    (State.setChain s n v lane c).evf.cnt = s.evf.cnt ∧ (State.setChain s n v lane c).regs.guard = s.regs.guard := by
  simp [State.setChain]
@[simp] theorem State.pushHist_keeps (s : State) (n v : Nat) (lane : Bool) (c : Chain) :
    (State.pushHist s n v lane c).fuse = s.fuse ∧ (State.pushHist s n v lane c).st = s.st ∧
    (State.pushHist s n v lane c).evf.cnt = s.evf.cnt ∧ (State.pushHist s n v lane c).regs.guard = s.regs.guard := by
  simp [State.pushHist]
@[simp] theorem State.goTo_keeps (s : State) (n v : Nat) (lane : Bool) (c : Chain) (e : Nat) :
    (State.goTo s n v lane c e).fuse = s.fuse ∧ (State.goTo s n v lane c e).st = s.st ∧
    (State.goTo s n v lane c e).evf.cnt = s.evf.cnt ∧ (State.goTo s n v lane c e).regs.guard = s.regs.guard := by
  simp [State.goTo]
@[simp] theorem State.lateDefault_keeps (s : State) (n pol : Nat) :
    (State.lateDefault s n pol).fuse = s.fuse ∧ (State.lateDefault s n pol).st = s.st ∧
    (State.lateDefault s n pol).evf.cnt = s.evf.cnt ∧ (State.lateDefault s n pol).regs.guard = s.regs.guard := by
  simp [State.lateDefault]
@[simp] theorem State.freeze_keeps (s : State) (k f : Nat) :
    (State.freeze s k f).fuse = s.fuse ∧ (State.freeze s k f).st = s.st ∧ (State.freeze s k f).evf.cnt = s.evf.cnt ∧
    (State.freeze s k f).regs.guard = s.regs.guard := by
  simp [State.freeze]
@[simp] theorem State.enterWait_keeps (s : State) (n v b i : Nat) :
    (State.enterWait s n v b i).fuse = s.fuse ∧ (State.enterWait s n v b i).st = s.st ∧
    (State.enterWait s n v b i).evf.cnt = s.evf.cnt ∧ (State.enterWait s n v b i).regs.guard = s.regs.guard := by
  simp [State.enterWait]
@[simp] theorem State.resumeWait_keeps (s : State) (k : Nat) (w : Wait) :
    (State.resumeWait s k w).fuse = s.fuse ∧ (State.resumeWait s k w).st = s.st ∧ (State.resumeWait s k w).evf.cnt = s.evf.cnt ∧
    (State.resumeWait s k w).regs.guard = s.regs.guard := by
  unfold State.resumeWait; refine ⟨?_, ?_, ?_, ?_⟩ <;> 
    (repeat' (first | (simp; done) | split | rw [forEach_fuse] | rw [when_fuse] | rw [forEach_st] | rw [when_st] | rw [forEach_evfcnt] | rw [when_evfcnt] | rw [forEach_guard] | rw [when_guard] | intro _ | simp))
@[simp] theorem State.resolve_keeps (s : State) (k : Nat) (q : WCond) (b : Bool) (c : Nat) :
    (State.resolve s k q b c).fuse = s.fuse ∧ (State.resolve s k q b c).st = s.st ∧
    (State.resolve s k q b c).evf.cnt = s.evf.cnt ∧ (State.resolve s k q b c).regs.guard = s.regs.guard := by
  unfold State.resolve; refine ⟨?_, ?_, ?_, ?_⟩ <;> 
    (repeat' (first | (simp; done) | split | rw [forEach_fuse] | rw [when_fuse] | rw [forEach_st] | rw [when_st] | rw [forEach_evfcnt] | rw [when_evfcnt] | rw [forEach_guard] | rw [when_guard] | intro _ | simp))
@[simp] theorem State.resolveReady_keeps (s : State) (n : Nat) :
    (State.resolveReady s n).fuse = s.fuse ∧ (State.resolveReady s n).st = s.st ∧ (State.resolveReady s n).evf.cnt = s.evf.cnt ∧
    (State.resolveReady s n).regs.guard = s.regs.guard := by
  unfold State.resolveReady; simp only []; (repeat' split) <;> simp
@[simp] theorem State.waitResume_keeps (s : State) (k : Nat) :
    (State.waitResume s k).fuse = s.fuse ∧ (State.waitResume s k).st = s.st ∧ (State.waitResume s k).evf.cnt = s.evf.cnt ∧
    (State.waitResume s k).regs.guard = s.regs.guard := by
  unfold State.waitResume; simp only []; (repeat' split) <;> simp
@[simp] theorem State.waitLimit_keeps (s : State) (n v : Nat) :
    (State.waitLimit s n v).fuse = s.fuse ∧ (State.waitLimit s n v).st = s.st ∧ (State.waitLimit s n v).evf.cnt = s.evf.cnt ∧
    (State.waitLimit s n v).regs.guard = s.regs.guard := by
  unfold State.waitLimit; simp only []; (repeat' split) <;> simp
@[simp] theorem State.actLates_keeps (s : State) (n v : Nat) (l : List Late) :
    (State.actLates s n v l).fuse = s.fuse ∧ (State.actLates s n v l).st = s.st ∧ (State.actLates s n v l).evf.cnt = s.evf.cnt ∧
    (State.actLates s n v l).regs.guard = s.regs.guard := by
  unfold State.actLates; refine ⟨?_, ?_, ?_, ?_⟩ <;> 
    (repeat' (first | (simp; done) | split | rw [forEach_fuse] | rw [when_fuse] | rw [forEach_st] | rw [when_st] | rw [forEach_evfcnt] | rw [when_evfcnt] | rw [forEach_guard] | rw [when_guard] | intro _ | simp))
@[simp] theorem State.condTake_keeps (s : State) (n v : Nat) (lane : Bool) (c : Chain) (e : BitVec 512) (d : Nat) :
    (State.condTake s n v lane c e d).fuse = s.fuse ∧ (State.condTake s n v lane c e d).st = s.st ∧
    (State.condTake s n v lane c e d).evf.cnt = s.evf.cnt ∧ (State.condTake s n v lane c e d).regs.guard = s.regs.guard := by
  simp [State.condTake]
@[simp] theorem State.condBoundary_keeps (s : State) (n v : Nat) (lane : Bool) (c : Chain) :
    (State.condBoundary s n v lane c).fuse = s.fuse ∧ (State.condBoundary s n v lane c).st = s.st ∧
    (State.condBoundary s n v lane c).evf.cnt = s.evf.cnt ∧ (State.condBoundary s n v lane c).regs.guard = s.regs.guard := by
  unfold State.condBoundary; simp only []; (repeat' split) <;> simp
@[simp] theorem State.boundary_keeps (s : State) (n v : Nat) (lane : Bool) (c : Chain) :
    (State.boundary s n v lane c).fuse = s.fuse ∧ (State.boundary s n v lane c).st = s.st ∧
    (State.boundary s n v lane c).evf.cnt = s.evf.cnt ∧ (State.boundary s n v lane c).regs.guard = s.regs.guard := by
  unfold State.boundary; simp only []; (repeat' split) <;> simp
@[simp] theorem State.segmentBoundary_keeps (s : State) (n v : Nat) (lane : Bool) :
    (State.segmentBoundary s n v lane).fuse = s.fuse ∧ (State.segmentBoundary s n v lane).st = s.st ∧
    (State.segmentBoundary s n v lane).evf.cnt = s.evf.cnt ∧ (State.segmentBoundary s n v lane).regs.guard = s.regs.guard := by
  unfold State.segmentBoundary; simp only []; (repeat' split) <;> simp
@[simp] theorem State.specDeadline_keeps (s : State) (n v : Nat) :
    (State.specDeadline s n v).fuse = s.fuse ∧ (State.specDeadline s n v).st = s.st ∧
    (State.specDeadline s n v).evf.cnt = s.evf.cnt ∧ (State.specDeadline s n v).regs.guard = s.regs.guard := by
  unfold State.specDeadline; simp only []; (repeat' split) <;> simp
@[simp] theorem State.deadlines_keeps (s : State) :
    (State.deadlines s).fuse = s.fuse ∧ (State.deadlines s).st = s.st ∧ (State.deadlines s).evf.cnt = s.evf.cnt ∧
    (State.deadlines s).regs.guard = s.regs.guard := by
  simp [State.deadlines]
@[simp] theorem State.specSelect_keeps (s : State) (n v : Nat) :
    (State.specSelect s n v).fuse = s.fuse ∧ (State.specSelect s n v).st = s.st ∧ (State.specSelect s n v).evf.cnt = s.evf.cnt ∧
    (State.specSelect s n v).regs.guard = s.regs.guard := by
  unfold State.specSelect; simp only []; (repeat' split) <;> simp
@[simp] theorem State.asyncOne_keeps (s : State) (n v : Nat) :
    (State.asyncOne s n v).fuse = s.fuse ∧ (State.asyncOne s n v).st = s.st ∧ (State.asyncOne s n v).evf.cnt = s.evf.cnt ∧
    (State.asyncOne s n v).regs.guard = s.regs.guard := by
  unfold State.asyncOne; simp only []; (repeat' split) <;> simp
@[simp] theorem State.asyncPost_keeps (s : State) (n mask : Nat) :
    (State.asyncPost s n mask).fuse = s.fuse ∧ (State.asyncPost s n mask).st = s.st ∧
    (State.asyncPost s n mask).evf.cnt = s.evf.cnt ∧ (State.asyncPost s n mask).regs.guard = s.regs.guard := by
  simp [State.asyncPost]
@[simp] theorem State.einEvent_keeps (s : State) (n k : Nat) :
    (State.einEvent s n k).fuse = s.fuse ∧ (State.einEvent s n k).st = s.st ∧ (State.einEvent s n k).evf.cnt = s.evf.cnt ∧
    (State.einEvent s n k).regs.guard = s.regs.guard := by
  simp [State.einEvent]
@[simp] theorem State.strmCut_keeps (s : State) (n : Nat) :
    (State.strmCut s n).fuse = s.fuse ∧ (State.strmCut s n).st = s.st ∧ (State.strmCut s n).evf.cnt = s.evf.cnt ∧
    (State.strmCut s n).regs.guard = s.regs.guard := by
  simp [State.strmCut]
@[simp] theorem State.dropAsync_keeps (s : State) (n v : Nat) :
    (State.dropAsync s n v).fuse = s.fuse ∧ (State.dropAsync s n v).st = s.st ∧ (State.dropAsync s n v).evf.cnt = s.evf.cnt ∧
    (State.dropAsync s n v).regs.guard = s.regs.guard := by
  unfold State.dropAsync; refine ⟨?_, ?_, ?_, ?_⟩ <;> 
    (repeat' (first | (simp; done) | split | rw [forEach_fuse] | rw [when_fuse] | rw [forEach_st] | rw [when_st] | rw [forEach_evfcnt] | rw [when_evfcnt] | rw [forEach_guard] | rw [when_guard] | intro _ | simp))
@[simp] theorem State.stopVoice_keeps (s : State) (n v : Nat) :
    (State.stopVoice s n v).fuse = s.fuse ∧ (State.stopVoice s n v).st = s.st ∧ (State.stopVoice s n v).evf.cnt = s.evf.cnt ∧
    (State.stopVoice s n v).regs.guard = s.regs.guard := by
  simp [State.stopVoice]
@[simp] theorem State.finishChan_keeps (s : State) (n c : Nat) :
    (State.finishChan s n c).fuse = s.fuse ∧ (State.finishChan s n c).st = s.st ∧ (State.finishChan s n c).evf.cnt = s.evf.cnt ∧
    (State.finishChan s n c).regs.guard = s.regs.guard := by
  simp [State.finishChan]
@[simp] theorem State.stopChan_keeps (s : State) (n : Nat) :
    (State.stopChan s n).fuse = s.fuse ∧ (State.stopChan s n).st = s.st ∧ (State.stopChan s n).evf.cnt = s.evf.cnt ∧
    (State.stopChan s n).regs.guard = s.regs.guard := by
  simp [State.stopChan]
@[simp] theorem State.abortNow_keeps (s : State) :
    (State.abortNow s).fuse = s.fuse ∧ (State.abortNow s).st = s.st ∧ (State.abortNow s).evf.cnt = s.evf.cnt ∧
    (State.abortNow s).regs.guard = s.regs.guard := by
  unfold State.abortNow; simp only []; (repeat' split) <;> simp
@[simp] theorem State.startVoice_keeps (s : State) (n v : Nat) (tag : Nat) :
    (State.startVoice s n v tag).fuse = s.fuse ∧ (State.startVoice s n v tag).st = s.st ∧
    (State.startVoice s n v tag).evf.cnt = s.evf.cnt ∧ (State.startVoice s n v tag).regs.guard = s.regs.guard := by
  simp [State.startVoice]
@[simp] theorem State.handOverFirst_keeps (s : State) (n : Nat) :
    (State.handOverFirst s n).fuse = s.fuse ∧ (State.handOverFirst s n).st = s.st ∧
    (State.handOverFirst s n).evf.cnt = s.evf.cnt ∧ (State.handOverFirst s n).regs.guard = s.regs.guard := by
  simp [State.handOverFirst]
@[simp] theorem State.startChan_keeps (s : State) (n tick tag : Nat) :
    (State.startChan s n tick tag).fuse = s.fuse ∧ (State.startChan s n tick tag).st = s.st ∧
    (State.startChan s n tick tag).evf.cnt = s.evf.cnt ∧ (State.startChan s n tick tag).regs.guard = s.regs.guard := by
  simp [State.startChan]
@[simp] theorem State.foreseen_keeps (s : State) (n : Nat) :
    (State.foreseen s n).fuse = s.fuse ∧ (State.foreseen s n).st = s.st ∧ (State.foreseen s n).evf.cnt = s.evf.cnt ∧
    (State.foreseen s n).regs.guard = s.regs.guard := by
  simp [State.foreseen]

/-! ## Streams -/

@[simp] theorem State.setStrm_keeps (s : State) (n : Nat) (t : Strm) :
    (State.setStrm s n t).fuse = s.fuse ∧ (State.setStrm s n t).st = s.st ∧ (State.setStrm s n t).evf.cnt = s.evf.cnt ∧
    (State.setStrm s n t).regs.guard = s.regs.guard := by
  simp [State.setStrm]
@[simp] theorem State.strmAim_keeps (s : State) (n g : Nat) :
    (State.strmAim s n g).fuse = s.fuse ∧ (State.strmAim s n g).st = s.st ∧ (State.strmAim s n g).evf.cnt = s.evf.cnt ∧
    (State.strmAim s n g).regs.guard = s.regs.guard := by
  simp [State.strmAim]
@[simp] theorem State.strmRewind_keeps (s : State) (n : Nat) :
    (State.strmRewind s n).fuse = s.fuse ∧ (State.strmRewind s n).st = s.st ∧ (State.strmRewind s n).evf.cnt = s.evf.cnt ∧
    (State.strmRewind s n).regs.guard = s.regs.guard := by
  simp [State.strmRewind]
@[simp] theorem State.strmAdvance_keeps (s : State) (n : Nat) :
    (State.strmAdvance s n).fuse = s.fuse ∧ (State.strmAdvance s n).st = s.st ∧ (State.strmAdvance s n).evf.cnt = s.evf.cnt ∧
    (State.strmAdvance s n).regs.guard = s.regs.guard := by
  simp [State.strmAdvance]
@[simp] theorem State.strmArrive_keeps (s : State) (n k : Nat) :
    (State.strmArrive s n k).fuse = s.fuse ∧ (State.strmArrive s n k).st = s.st ∧ (State.strmArrive s n k).evf.cnt = s.evf.cnt ∧
    (State.strmArrive s n k).regs.guard = s.regs.guard := by
  simp [State.strmArrive]
@[simp] theorem State.strmRebase_keeps (s : State) (n : Nat) :
    (State.strmRebase s n).fuse = s.fuse ∧ (State.strmRebase s n).st = s.st ∧ (State.strmRebase s n).evf.cnt = s.evf.cnt ∧
    (State.strmRebase s n).regs.guard = s.regs.guard := by
  simp [State.strmRebase]
@[simp] theorem State.strmShotEnd_keeps (s : State) :
    (State.strmShotEnd s).fuse = s.fuse ∧ (State.strmShotEnd s).st = s.st ∧ (State.strmShotEnd s).evf.cnt = s.evf.cnt ∧
    (State.strmShotEnd s).regs.guard = s.regs.guard := by
  simp [State.strmShotEnd]

/-! ## Output -/

@[simp] theorem State.signal_keeps (s : State) (p : Nat) :
    (State.signal s p).fuse = s.fuse ∧ (State.signal s p).st = s.st ∧ (State.signal s p).evf.cnt = s.evf.cnt ∧
    (State.signal s p).regs.guard = s.regs.guard := by
  simp [State.signal]
@[simp] theorem State.setCalUnit_keeps (s : State) (kind idx : Nat) (u : CalUnit) :
    (State.setCalUnit s kind idx u).fuse = s.fuse ∧ (State.setCalUnit s kind idx u).st = s.st ∧
    (State.setCalUnit s kind idx u).evf.cnt = s.evf.cnt ∧ (State.setCalUnit s kind idx u).regs.guard = s.regs.guard := by
  simp [State.setCalUnit]
@[simp] theorem State.sliceAbandon_keeps (s : State) (kind idx : Nat) :
    (State.sliceAbandon s kind idx).fuse = s.fuse ∧ (State.sliceAbandon s kind idx).st = s.st ∧
    (State.sliceAbandon s kind idx).evf.cnt = s.evf.cnt ∧ (State.sliceAbandon s kind idx).regs.guard = s.regs.guard := by
  simp [State.sliceAbandon]
@[simp] theorem State.outEnabling_keeps (s : State) (n hold : Nat) :
    (State.outEnabling s n hold).fuse = s.fuse ∧ (State.outEnabling s n hold).st = s.st ∧
    (State.outEnabling s n hold).evf.cnt = s.evf.cnt ∧ (State.outEnabling s n hold).regs.guard = s.regs.guard := by
  simp [State.outEnabling]
@[simp] theorem State.outOff_keeps (s : State) (n : Nat) (clearEn : Bool) :
    (State.outOff s n clearEn).fuse = s.fuse ∧ (State.outOff s n clearEn).st = s.st ∧
    (State.outOff s n clearEn).evf.cnt = s.evf.cnt ∧ (State.outOff s n clearEn).regs.guard = s.regs.guard := by
  simp [State.outOff]
@[simp] theorem State.outStop_keeps (s : State) (n : Nat) (clearEn : Bool) :
    (State.outStop s n clearEn).fuse = s.fuse ∧ (State.outStop s n clearEn).st = s.st ∧
    (State.outStop s n clearEn).evf.cnt = s.evf.cnt ∧ (State.outStop s n clearEn).regs.guard = s.regs.guard := by
  unfold State.outStop; refine ⟨?_, ?_, ?_, ?_⟩ <;> 
    (repeat' (first | (simp; done) | split | rw [forEach_fuse] | rw [when_fuse] | rw [forEach_st] | rw [when_st] | rw [forEach_evfcnt] | rw [when_evfcnt] | rw [forEach_guard] | rw [when_guard] | intro _ | simp))
@[simp] theorem State.outStopped_keeps (s : State) (n : Nat) (clearEn : Bool) :
    (State.outStopped s n clearEn).fuse = s.fuse ∧ (State.outStopped s n clearEn).st = s.st ∧
    (State.outStopped s n clearEn).evf.cnt = s.evf.cnt ∧ (State.outStopped s n clearEn).regs.guard = s.regs.guard := by
  simp [State.outStopped]
@[simp] theorem State.outTrip_keeps (s : State) :
    (State.outTrip s).fuse = s.fuse ∧ (State.outTrip s).st = s.st ∧ (State.outTrip s).evf.cnt = s.evf.cnt ∧
    (State.outTrip s).regs.guard = s.regs.guard := by
  simp [State.outTrip]
@[simp] theorem State.outMuteAll_keeps (s : State) :
    (State.outMuteAll s).fuse = s.fuse ∧ (State.outMuteAll s).st = s.st ∧ (State.outMuteAll s).evf.cnt = s.evf.cnt ∧
    (State.outMuteAll s).regs.guard = s.regs.guard := by
  simp [State.outMuteAll]
@[simp] theorem State.outChange_keeps (s : State) (n : Nat) (modeNew fsNew : Bool) :
    (State.outChange s n modeNew fsNew).fuse = s.fuse ∧ (State.outChange s n modeNew fsNew).st = s.st ∧
    (State.outChange s n modeNew fsNew).evf.cnt = s.evf.cnt ∧ (State.outChange s n modeNew fsNew).regs.guard = s.regs.guard := by
  unfold State.outChange; refine ⟨?_, ?_, ?_, ?_⟩ <;> 
    (repeat' (first | (simp; done) | split | rw [forEach_fuse] | rw [when_fuse] | rw [forEach_st] | rw [when_st] | rw [forEach_evfcnt] | rw [when_evfcnt] | rw [forEach_guard] | rw [when_guard] | intro _ | simp))
@[simp] theorem State.outEnableDone_keeps (s : State) (n : Nat) :
    (State.outEnableDone s n).fuse = s.fuse ∧ (State.outEnableDone s n).st = s.st ∧
    (State.outEnableDone s n).evf.cnt = s.evf.cnt ∧ (State.outEnableDone s n).regs.guard = s.regs.guard := by
  simp [State.outEnableDone]
@[simp] theorem State.rangeMuteDone_keeps (s : State) (n : Nat) :
    (State.rangeMuteDone s n).fuse = s.fuse ∧ (State.rangeMuteDone s n).st = s.st ∧
    (State.rangeMuteDone s n).evf.cnt = s.evf.cnt ∧ (State.rangeMuteDone s n).regs.guard = s.regs.guard := by
  simp [State.rangeMuteDone]
@[simp] theorem State.setBd_keeps (s : State) (k : Nat) (b : Bdac) :
    (State.setBd s k b).fuse = s.fuse ∧ (State.setBd s k b).st = s.st ∧ (State.setBd s k b).evf.cnt = s.evf.cnt ∧
    (State.setBd s k b).regs.guard = s.regs.guard := by
  simp [State.setBd]
@[simp] theorem State.bdTaint_keeps (s : State) (k : Nat) :
    (State.bdTaint s k).fuse = s.fuse ∧ (State.bdTaint s k).st = s.st ∧ (State.bdTaint s k).evf.cnt = s.evf.cnt ∧
    (State.bdTaint s k).regs.guard = s.regs.guard := by
  simp [State.bdTaint]
@[simp] theorem State.bdTrip_keeps (s : State) (k causes : Nat) :
    (State.bdTrip s k causes).fuse = s.fuse ∧ (State.bdTrip s k causes).st = s.st ∧
    (State.bdTrip s k causes).evf.cnt = s.evf.cnt ∧ (State.bdTrip s k causes).regs.guard = s.regs.guard := by
  simp [State.bdTrip]
@[simp] theorem State.bdApply_keeps (s : State) (k : Nat) (code : Int) (t : Nat) :
    (State.bdApply s k code t).fuse = s.fuse ∧ (State.bdApply s k code t).st = s.st ∧
    (State.bdApply s k code t).evf.cnt = s.evf.cnt ∧ (State.bdApply s k code t).regs.guard = s.regs.guard := by
  simp [State.bdApply]
@[simp] theorem State.bdSeqApply_keeps (s : State) (k : Nat) (code : Int) (t : Nat) :
    (State.bdSeqApply s k code t).fuse = s.fuse ∧ (State.bdSeqApply s k code t).st = s.st ∧
    (State.bdSeqApply s k code t).evf.cnt = s.evf.cnt ∧ (State.bdSeqApply s k code t).regs.guard = s.regs.guard := by
  unfold State.bdSeqApply; simp only []; (repeat' split) <;> simp
@[simp] theorem State.bdUpdate_keeps (s : State) (k : Nat) (code : Int) (t : Nat) :
    (State.bdUpdate s k code t).fuse = s.fuse ∧ (State.bdUpdate s k code t).st = s.st ∧
    (State.bdUpdate s k code t).evf.cnt = s.evf.cnt ∧ (State.bdUpdate s k code t).regs.guard = s.regs.guard := by
  unfold State.bdUpdate; simp only []; (repeat' split) <;> simp
@[simp] theorem State.bdEdge_keeps (s : State) (n b : Nat) :
    (State.bdEdge s n b).fuse = s.fuse ∧ (State.bdEdge s n b).st = s.st ∧ (State.bdEdge s n b).evf.cnt = s.evf.cnt ∧
    (State.bdEdge s n b).regs.guard = s.regs.guard := by
  unfold State.bdEdge; refine ⟨?_, ?_, ?_, ?_⟩ <;> 
    (repeat' (first | (simp; done) | split | rw [forEach_fuse] | rw [when_fuse] | rw [forEach_st] | rw [when_st] | rw [forEach_evfcnt] | rw [when_evfcnt] | rw [forEach_guard] | rw [when_guard] | intro _ | simp))
@[simp] theorem State.bdHoldRelease_keeps (s : State) (k : Nat) :
    (State.bdHoldRelease s k).fuse = s.fuse ∧ (State.bdHoldRelease s k).st = s.st ∧
    (State.bdHoldRelease s k).evf.cnt = s.evf.cnt ∧ (State.bdHoldRelease s k).regs.guard = s.regs.guard := by
  unfold State.bdHoldRelease; simp only []; (repeat' split) <;> simp
@[simp] theorem State.bdPark_keeps (s : State) (k : Nat) :
    (State.bdPark s k).fuse = s.fuse ∧ (State.bdPark s k).st = s.st ∧ (State.bdPark s k).evf.cnt = s.evf.cnt ∧
    (State.bdPark s k).regs.guard = s.regs.guard := by
  simp [State.bdPark]
@[simp] theorem State.bdDeglitchEnd_keeps (s : State) (k : Nat) :
    (State.bdDeglitchEnd s k).fuse = s.fuse ∧ (State.bdDeglitchEnd s k).st = s.st ∧
    (State.bdDeglitchEnd s k).evf.cnt = s.evf.cnt ∧ (State.bdDeglitchEnd s k).regs.guard = s.regs.guard := by
  unfold State.bdDeglitchEnd; simp only []; (repeat' split) <;> simp
@[simp] theorem State.bdNoChange_keeps (s : State) (k : Nat) :
    (State.bdNoChange s k).fuse = s.fuse ∧ (State.bdNoChange s k).st = s.st ∧ (State.bdNoChange s k).evf.cnt = s.evf.cnt ∧
    (State.bdNoChange s k).regs.guard = s.regs.guard := by
  simp [State.bdNoChange]
@[simp] theorem State.bdRamp_keeps (s : State) (k : Nat) (goal : Int) (t : Nat) :
    (State.bdRamp s k goal t).fuse = s.fuse ∧ (State.bdRamp s k goal t).st = s.st ∧
    (State.bdRamp s k goal t).evf.cnt = s.evf.cnt ∧ (State.bdRamp s k goal t).regs.guard = s.regs.guard := by
  simp [State.bdRamp]
@[simp] theorem State.bdRampPark_keeps (s : State) (k : Nat) :
    (State.bdRampPark s k).fuse = s.fuse ∧ (State.bdRampPark s k).st = s.st ∧ (State.bdRampPark s k).evf.cnt = s.evf.cnt ∧
    (State.bdRampPark s k).regs.guard = s.regs.guard := by
  simp [State.bdRampPark]
@[simp] theorem State.bdUnpark_keeps (s : State) (k : Nat) :
    (State.bdUnpark s k).fuse = s.fuse ∧ (State.bdUnpark s k).st = s.st ∧ (State.bdUnpark s k).evf.cnt = s.evf.cnt ∧
    (State.bdUnpark s k).regs.guard = s.regs.guard := by
  simp [State.bdUnpark]
@[simp] theorem State.bdLanded_keeps (s : State) (k : Nat) :
    (State.bdLanded s k).fuse = s.fuse ∧ (State.bdLanded s k).st = s.st ∧ (State.bdLanded s k).evf.cnt = s.evf.cnt ∧
    (State.bdLanded s k).regs.guard = s.regs.guard := by
  simp [State.bdLanded]
@[simp] theorem State.bdStep_keeps (s : State) (k : Nat) :
    (State.bdStep s k).fuse = s.fuse ∧ (State.bdStep s k).st = s.st ∧ (State.bdStep s k).evf.cnt = s.evf.cnt ∧
    (State.bdStep s k).regs.guard = s.regs.guard := by
  unfold State.bdStep; simp only []; (repeat' split) <;> simp
@[simp] theorem State.bdParkEnd_keeps (s : State) (k : Nat) :
    (State.bdParkEnd s k).fuse = s.fuse ∧ (State.bdParkEnd s k).st = s.st ∧ (State.bdParkEnd s k).evf.cnt = s.evf.cnt ∧
    (State.bdParkEnd s k).regs.guard = s.regs.guard := by
  simp [State.bdParkEnd]
@[simp] theorem State.bdTripPark_keeps (s : State) :
    (State.bdTripPark s).fuse = s.fuse ∧ (State.bdTripPark s).st = s.st ∧ (State.bdTripPark s).evf.cnt = s.evf.cnt ∧
    (State.bdTripPark s).regs.guard = s.regs.guard := by
  simp [State.bdTripPark]
@[simp] theorem State.bdDusk_keeps (s : State) :
    (State.bdDusk s).fuse = s.fuse ∧ (State.bdDusk s).st = s.st ∧ (State.bdDusk s).evf.cnt = s.evf.cnt ∧
    (State.bdDusk s).regs.guard = s.regs.guard := by
  simp [State.bdDusk]
@[simp] theorem State.guardShotStart_keeps (s : State) :
    (State.guardShotStart s).fuse = s.fuse ∧ (State.guardShotStart s).st = s.st ∧ (State.guardShotStart s).evf.cnt = s.evf.cnt ∧
    (State.guardShotStart s).regs.guard = s.regs.guard := by
  simp [State.guardShotStart]
@[simp] theorem State.bdShotStart_keeps (s : State) :
    (State.bdShotStart s).fuse = s.fuse ∧ (State.bdShotStart s).st = s.st ∧ (State.bdShotStart s).evf.cnt = s.evf.cnt ∧
    (State.bdShotStart s).regs.guard = s.regs.guard := by
  simp [State.bdShotStart]
@[simp] theorem State.bdOvertemp_keeps (s : State) (k : Nat) (set : Bool) :
    (State.bdOvertemp s k set).fuse = s.fuse ∧ (State.bdOvertemp s k set).st = s.st ∧
    (State.bdOvertemp s k set).evf.cnt = s.evf.cnt ∧ (State.bdOvertemp s k set).regs.guard = s.regs.guard := by
  simp [State.bdOvertemp]
@[simp] theorem State.bdTarget_keeps (s : State) (k code : Nat) :
    (State.bdTarget s k code).fuse = s.fuse ∧ (State.bdTarget s k code).st = s.st ∧
    (State.bdTarget s k code).evf.cnt = s.evf.cnt ∧ (State.bdTarget s k code).regs.guard = s.regs.guard := by
  simp [State.bdTarget]
@[simp] theorem State.guardTrip_keeps (s : State) (n causes : Nat) :
    (State.guardTrip s n causes).fuse = s.fuse ∧ (State.guardTrip s n causes).st = s.st ∧
    (State.guardTrip s n causes).evf.cnt = s.evf.cnt ∧ (State.guardTrip s n causes).regs.guard = s.regs.guard := by
  simp [State.guardTrip]
@[simp] theorem State.guardCheck_keeps (s : State) (n : Nat) (sums : List Int) :
    (State.guardCheck s n sums).fuse = s.fuse ∧ (State.guardCheck s n sums).st = s.st ∧
    (State.guardCheck s n sums).evf.cnt = s.evf.cnt ∧ (State.guardCheck s n sums).regs.guard = s.regs.guard := by
  simp [State.guardCheck]
@[simp] theorem State.guardRelease_keeps (s : State) (n : Nat) :
    (State.guardRelease s n).fuse = s.fuse ∧ (State.guardRelease s n).st = s.st ∧ (State.guardRelease s n).evf.cnt = s.evf.cnt ∧
    (State.guardRelease s n).regs.guard = s.regs.guard := by
  simp [State.guardRelease]
@[simp] theorem State.guardBrelease_keeps (s : State) (k : Nat) :
    (State.guardBrelease s k).fuse = s.fuse ∧ (State.guardBrelease s k).st = s.st ∧
    (State.guardBrelease s k).evf.cnt = s.evf.cnt ∧ (State.guardBrelease s k).regs.guard = s.regs.guard := by
  simp [State.guardBrelease]
@[simp] theorem State.bdRangeChange_keeps (s : State) (k : Nat) (code : Int) :
    (State.bdRangeChange s k code).fuse = s.fuse ∧ (State.bdRangeChange s k code).st = s.st ∧
    (State.bdRangeChange s k code).evf.cnt = s.evf.cnt ∧ (State.bdRangeChange s k code).regs.guard = s.regs.guard := by
  simp [State.bdRangeChange]

/-! ## Markers -/

@[simp] theorem State.setPin_keeps (s : State) (m : Nat) (p : Pin) :
    (State.setPin s m p).fuse = s.fuse ∧ (State.setPin s m p).st = s.st ∧ (State.setPin s m p).evf.cnt = s.evf.cnt ∧
    (State.setPin s m p).regs.guard = s.regs.guard := by
  simp [State.setPin]
@[simp] theorem State.pinEdge_keeps (s : State) (m t : Nat) (active : Bool) :
    (State.pinEdge s m t active).fuse = s.fuse ∧ (State.pinEdge s m t active).st = s.st ∧
    (State.pinEdge s m t active).evf.cnt = s.evf.cnt ∧ (State.pinEdge s m t active).regs.guard = s.regs.guard := by
  unfold State.pinEdge; simp only []; (repeat' split) <;> simp
@[simp] theorem State.passMarks_keeps (s : State) (n set now : Nat) (idle : Bool) :
    (State.passMarks s n set now idle).fuse = s.fuse ∧ (State.passMarks s n set now idle).st = s.st ∧
    (State.passMarks s n set now idle).evf.cnt = s.evf.cnt ∧ (State.passMarks s n set now idle).regs.guard = s.regs.guard := by
  simp [State.passMarks]
@[simp] theorem State.pinPulse_keeps (s : State) (m t width : Nat) :
    (State.pinPulse s m t width).fuse = s.fuse ∧ (State.pinPulse s m t width).st = s.st ∧
    (State.pinPulse s m t width).evf.cnt = s.evf.cnt ∧ (State.pinPulse s m t width).regs.guard = s.regs.guard := by
  unfold State.pinPulse; simp only []; (repeat' split) <;> simp
@[simp] theorem State.pinEvent_keeps (s : State) (m : Nat) :
    (State.pinEvent s m).fuse = s.fuse ∧ (State.pinEvent s m).st = s.st ∧ (State.pinEvent s m).evf.cnt = s.evf.cnt ∧
    (State.pinEvent s m).regs.guard = s.regs.guard := by
  simp [State.pinEvent]
@[simp] theorem State.pinPulseEnd_keeps (s : State) (m : Nat) :
    (State.pinPulseEnd s m).fuse = s.fuse ∧ (State.pinPulseEnd s m).st = s.st ∧ (State.pinPulseEnd s m).evf.cnt = s.evf.cnt ∧
    (State.pinPulseEnd s m).regs.guard = s.regs.guard := by
  unfold State.pinPulseEnd; simp only []; (repeat' split) <;> simp
@[simp] theorem State.bindChannel_keeps (s : State) (ch input : Nat) :
    (State.bindChannel s ch input).fuse = s.fuse ∧ (State.bindChannel s ch input).st = s.st ∧
    (State.bindChannel s ch input).evf.cnt = s.evf.cnt ∧ (State.bindChannel s ch input).regs.guard = s.regs.guard := by
  simp [State.bindChannel]
@[simp] theorem State.pinFree_keeps (s : State) (m : Nat) :
    (State.pinFree s m).fuse = s.fuse ∧ (State.pinFree s m).st = s.st ∧ (State.pinFree s m).evf.cnt = s.evf.cnt ∧
    (State.pinFree s m).regs.guard = s.regs.guard := by
  simp [State.pinFree]

/-! ## Granule -/

@[simp] theorem State.renderVoice_keeps (s : State) (n v : Nat) :
    (State.renderVoice s n v).fuse = s.fuse ∧ (State.renderVoice s n v).st = s.st ∧
    (State.renderVoice s n v).evf.cnt = s.evf.cnt ∧ (State.renderVoice s n v).regs.guard = s.regs.guard := by
  simp [State.renderVoice]
@[simp] theorem State.latchSat_keeps (s : State) (n : Nat) (l : List (Fld × Bool)) (h : ∀ p ∈ l, p.1.reg.limitReg = false) :
    ((State.latchSat s n l)).fuse = s.fuse ∧ ((State.latchSat s n l)).st = s.st ∧ ((State.latchSat s n l)).evf.cnt = s.evf.cnt ∧ ((State.latchSat s n l)).regs.guard = s.regs.guard := by
  unfold State.latchSat
  induction l generalizing s with
  | nil => simp [forEach]
  | cons a l ih =>
    have ha := h a (by simp)
    have hl := fun p (hp : p ∈ l) => h p (by simp [hp])
    simp only [forEach, List.foldl_cons] at ih ⊢
    have hi := ih (when a.2 (fun t => t.setB a.1 n true) s) hl
    rw [hi.1, hi.2.1, hi.2.2.1, hi.2.2.2]
    refine ⟨?_, ?_, ?_, ?_⟩
    · simp
    · simp
    · simp
    · rw [when_guard]; intro t; exact State.setB_guard _ _ _ _ ha
@[simp] theorem State.passSums_keeps (s : State) (n : Nat) (sums : List (Int × Bool)) :
    (State.passSums s n sums).fuse = s.fuse ∧ (State.passSums s n sums).st = s.st ∧
    (State.passSums s n sums).evf.cnt = s.evf.cnt ∧ (State.passSums s n sums).regs.guard = s.regs.guard := by
  simp [State.passSums]
@[simp] theorem State.passStream_keeps (s : State) (n : Nat) (g : Gran) :
    (State.passStream s n g).fuse = s.fuse ∧ (State.passStream s n g).st = s.st ∧ (State.passStream s n g).evf.cnt = s.evf.cnt ∧
    (State.passStream s n g).regs.guard = s.regs.guard := by
  simp [State.passStream]
@[simp] theorem State.passZeroing_keeps (s : State) (n : Nat) (gs : List Gran) :
    (State.passZeroing s n gs).fuse = s.fuse ∧ (State.passZeroing s n gs).st = s.st ∧
    (State.passZeroing s n gs).evf.cnt = s.evf.cnt ∧ (State.passZeroing s n gs).regs.guard = s.regs.guard := by
  simp [State.passZeroing]
@[simp] theorem State.passTset_keeps (s : State) (n : Nat) :
    (State.passTset s n).fuse = s.fuse ∧ (State.passTset s n).st = s.st ∧ (State.passTset s n).evf.cnt = s.evf.cnt ∧
    (State.passTset s n).regs.guard = s.regs.guard := by
  simp [State.passTset]
@[simp] theorem State.passVoice_keeps (s : State) (n v : Nat) :
    (State.passVoice s n v).fuse = s.fuse ∧ (State.passVoice s n v).st = s.st ∧ (State.passVoice s n v).evf.cnt = s.evf.cnt ∧
    (State.passVoice s n v).regs.guard = s.regs.guard := by
  unfold State.passVoice; simp only []; (repeat' split) <;> simp
@[simp] theorem State.stopHere_keeps (s : State) (n : Nat) :
    (State.stopHere s n).fuse = s.fuse ∧ (State.stopHere s n).st = s.st ∧ (State.stopHere s n).evf.cnt = s.evf.cnt ∧
    (State.stopHere s n).regs.guard = s.regs.guard := by
  simp [State.stopHere]
@[simp] theorem State.lateAbort_keeps (s : State) (n v : Nat) :
    (State.lateAbort s n v).fuse = s.fuse ∧ (State.lateAbort s n v).st = s.st ∧ (State.lateAbort s n v).evf.cnt = s.evf.cnt ∧
    (State.lateAbort s n v).regs.guard = s.regs.guard := by
  simp [State.lateAbort]
@[simp] theorem State.passMux_keeps (s : State) (n : Nat) :
    (State.passMux s n).fuse = s.fuse ∧ (State.passMux s n).st = s.st ∧ (State.passMux s n).evf.cnt = s.evf.cnt ∧
    (State.passMux s n).regs.guard = s.regs.guard := by
  simp [State.passMux]
@[simp] theorem State.granuleBoundary_keeps (s : State) (n : Nat) :
    (State.granuleBoundary s n).fuse = s.fuse ∧ (State.granuleBoundary s n).st = s.st ∧
    (State.granuleBoundary s n).evf.cnt = s.evf.cnt ∧ (State.granuleBoundary s n).regs.guard = s.regs.guard := by
  simp [State.granuleBoundary]


end Sys2Proof.Machine
end

