-- ==== Sys2Proof/Laws/KeepAcq.lean ====
section
/-!
SUPPORT. What acquisition, event, journal and tone operations keep of the frame fields.
-/

set_option maxRecDepth 4000
set_option linter.all false

namespace Sys2Proof.Machine

/-! ## Acq -/

@[simp] theorem State.setAcq_keeps (s : State) (u : Nat) (a : Acq) :
    (State.setAcq s u a).fuse = s.fuse ∧ (State.setAcq s u a).st = s.st ∧ (State.setAcq s u a).evf.cnt = s.evf.cnt ∧
    (State.setAcq s u a).regs.guard = s.regs.guard := by
  simp [State.setAcq]
@[simp] theorem State.updAcq_keeps (s : State) (u : Nat) (f : Acq → Acq) :
    (State.updAcq s u f).fuse = s.fuse ∧ (State.updAcq s u f).st = s.st ∧ (State.updAcq s u f).evf.cnt = s.evf.cnt ∧
    (State.updAcq s u f).regs.guard = s.regs.guard := by
  simp [State.updAcq]
@[simp] theorem State.acqLand_keeps (s : State) (u k : Nat) (e : BitVec 256) :
    (State.acqLand s u k e).fuse = s.fuse ∧ (State.acqLand s u k e).st = s.st ∧ (State.acqLand s u k e).evf.cnt = s.evf.cnt ∧
    (State.acqLand s u k e).regs.guard = s.regs.guard := by
  simp [State.acqLand]
@[simp] theorem State.acqStore_keeps (s : State) (u k : Nat) (e : BitVec 256) :
    (State.acqStore s u k e).fuse = s.fuse ∧ (State.acqStore s u k e).st = s.st ∧ (State.acqStore s u k e).evf.cnt = s.evf.cnt ∧
    (State.acqStore s u k e).regs.guard = s.regs.guard := by
  simp [State.acqStore]
@[simp] theorem State.acqPut_keeps (s : State) (u : Nat) (e : BitVec 256) :
    (State.acqPut s u e).fuse = s.fuse ∧ (State.acqPut s u e).st = s.st ∧ (State.acqPut s u e).evf.cnt = s.evf.cnt ∧
    (State.acqPut s u e).regs.guard = s.regs.guard := by
  simp [State.acqPut]
@[simp] theorem State.acqVisible_keeps (s : State) (u : Nat) :
    (State.acqVisible s u).fuse = s.fuse ∧ (State.acqVisible s u).st = s.st ∧ (State.acqVisible s u).evf.cnt = s.evf.cnt ∧
    (State.acqVisible s u).regs.guard = s.regs.guard := by
  simp [State.acqVisible]
@[simp] theorem State.acqFlush_keeps (s : State) (u : Nat) :
    (State.acqFlush s u).fuse = s.fuse ∧ (State.acqFlush s u).st = s.st ∧ (State.acqFlush s u).evf.cnt = s.evf.cnt ∧
    (State.acqFlush s u).regs.guard = s.regs.guard := by
  simp [State.acqFlush]
@[simp] theorem State.acqDrain_keeps (s : State) (u : Nat) :
    (State.acqDrain s u).fuse = s.fuse ∧ (State.acqDrain s u).st = s.st ∧ (State.acqDrain s u).evf.cnt = s.evf.cnt ∧
    (State.acqDrain s u).regs.guard = s.regs.guard := by
  unfold State.acqDrain; simp only []; (repeat' split) <;> simp
@[simp] theorem State.acqHalt_keeps (s : State) (u cause : Nat) :
    (State.acqHalt s u cause).fuse = s.fuse ∧ (State.acqHalt s u cause).st = s.st ∧
    (State.acqHalt s u cause).evf.cnt = s.evf.cnt ∧ (State.acqHalt s u cause).regs.guard = s.regs.guard := by
  simp [State.acqHalt]
@[simp] theorem State.acqCommit_keeps (s : State) (u : Nat) (r : Rec) (trunc : Bool) :
    (State.acqCommit s u r trunc).fuse = s.fuse ∧ (State.acqCommit s u r trunc).st = s.st ∧
    (State.acqCommit s u r trunc).evf.cnt = s.evf.cnt ∧ (State.acqCommit s u r trunc).regs.guard = s.regs.guard := by
  simp [State.acqCommit]
@[simp] theorem State.acqCut_keeps (s : State) (u : Nat) (r : Rec) :
    (State.acqCut s u r).fuse = s.fuse ∧ (State.acqCut s u r).st = s.st ∧ (State.acqCut s u r).evf.cnt = s.evf.cnt ∧
    (State.acqCut s u r).regs.guard = s.regs.guard := by
  simp [State.acqCut]
@[simp] theorem State.acqCutAll_keeps (s : State) (u : Nat) :
    (State.acqCutAll s u).fuse = s.fuse ∧ (State.acqCutAll s u).st = s.st ∧ (State.acqCutAll s u).evf.cnt = s.evf.cnt ∧
    (State.acqCutAll s u).regs.guard = s.regs.guard := by
  simp [State.acqCutAll]
@[simp] theorem State.acqWithMarks_keeps (s : State) (u c : Nat) (e : BitVec 256) :
    (State.acqWithMarks s u c e).fuse = s.fuse ∧ (State.acqWithMarks s u c e).st = s.st ∧
    (State.acqWithMarks s u c e).evf.cnt = s.evf.cnt ∧ (State.acqWithMarks s u c e).regs.guard = s.regs.guard := by
  simp [State.acqWithMarks]
@[simp] theorem State.acqEndMark_keeps (s : State) (u kind cycle cause : Nat) :
    (State.acqEndMark s u kind cycle cause).fuse = s.fuse ∧ (State.acqEndMark s u kind cycle cause).st = s.st ∧
    (State.acqEndMark s u kind cycle cause).evf.cnt = s.evf.cnt ∧
    (State.acqEndMark s u kind cycle cause).regs.guard = s.regs.guard := by
  simp [State.acqEndMark]
@[simp] theorem State.acqOverflow_keeps (s : State) (u c : Nat) (bandwidth : Bool) :
    (State.acqOverflow s u c bandwidth).fuse = s.fuse ∧ (State.acqOverflow s u c bandwidth).st = s.st ∧
    (State.acqOverflow s u c bandwidth).evf.cnt = s.evf.cnt ∧ (State.acqOverflow s u c bandwidth).regs.guard = s.regs.guard := by
  simp [State.acqOverflow]
@[simp] theorem State.acqFinish_keeps (s : State) (u cause : Nat) :
    (State.acqFinish s u cause).fuse = s.fuse ∧ (State.acqFinish s u cause).st = s.st ∧
    (State.acqFinish s u cause).evf.cnt = s.evf.cnt ∧ (State.acqFinish s u cause).regs.guard = s.regs.guard := by
  unfold State.acqFinish; simp only []; (repeat' split) <;> simp
@[simp] theorem State.acqStop_keeps (s : State) (u cause : Nat) :
    (State.acqStop s u cause).fuse = s.fuse ∧ (State.acqStop s u cause).st = s.st ∧
    (State.acqStop s u cause).evf.cnt = s.evf.cnt ∧ (State.acqStop s u cause).regs.guard = s.regs.guard := by
  simp [State.acqStop]
@[simp] theorem State.acqStopAll_keeps (s : State) :
    (State.acqStopAll s).fuse = s.fuse ∧ (State.acqStopAll s).st = s.st ∧ (State.acqStopAll s).evf.cnt = s.evf.cnt ∧
    (State.acqStopAll s).regs.guard = s.regs.guard := by
  simp [State.acqStopAll]
@[simp] theorem State.acqEmit_keeps (s : State) (u c c0 : Nat) (e : BitVec 256) :
    (State.acqEmit s u c c0 e).fuse = s.fuse ∧ (State.acqEmit s u c c0 e).st = s.st ∧
    (State.acqEmit s u c c0 e).evf.cnt = s.evf.cnt ∧ (State.acqEmit s u c c0 e).regs.guard = s.regs.guard := by
  simp [State.acqEmit]
@[simp] theorem State.acqStreamCycle_keeps (s : State) (u c : Nat) (v : BitVec 256) :
    (State.acqStreamCycle s u c v).fuse = s.fuse ∧ (State.acqStreamCycle s u c v).st = s.st ∧
    (State.acqStreamCycle s u c v).evf.cnt = s.evf.cnt ∧ (State.acqStreamCycle s u c v).regs.guard = s.regs.guard := by
  unfold State.acqStreamCycle; simp only []; (repeat' split) <;> simp
@[simp] theorem State.acqRecEntry_keeps (s : State) (u : Nat) (past : Bool) (r : Rec) (e : Nat × BitVec 256) :
    (State.acqRecEntry s u past r e).2.fuse = s.fuse ∧ (State.acqRecEntry s u past r e).2.st = s.st ∧
    (State.acqRecEntry s u past r e).2.evf.cnt = s.evf.cnt ∧ (State.acqRecEntry s u past r e).2.regs.guard = s.regs.guard := by
  unfold State.acqRecEntry; simp only []; (repeat' split) <;> simp
theorem State.acqEntries_keeps (u : Nat) (past : Bool) (l : List (Nat × BitVec 256)) (q : Rec × State) :
    let r := l.foldl (fun (q : Rec × State) e => q.2.acqRecEntry u past q.1 e) q
    (r.2).fuse = q.2.fuse ∧ (r.2).st = q.2.st ∧ (r.2).evf.cnt = q.2.evf.cnt ∧ (r.2).regs.guard = q.2.regs.guard := by
  induction l generalizing q with
  | nil => simp
  | cons a l ih => simp only [List.foldl_cons]; have h := ih (q.2.acqRecEntry u past q.1 a); simp at h ⊢; exact h
@[simp] theorem State.acqRecCycle_keeps (s : State) (u : Nat) (r : Rec) (c : Nat) (v : BitVec 256) (past : Bool) :
    (State.acqRecCycle s u r c v past).2.fuse = s.fuse ∧ (State.acqRecCycle s u r c v past).2.st = s.st ∧
    (State.acqRecCycle s u r c v past).2.evf.cnt = s.evf.cnt ∧
    (State.acqRecCycle s u r c v past).2.regs.guard = s.regs.guard := by
  unfold State.acqRecCycle
  split
  · simp
  · exact State.acqEntries_keeps u past _ (_, s)
theorem State.acqRecs_keeps (u c : Nat) (v : BitVec 256) (l : List Rec) (q : List Rec × State) :
    let r := (l.foldl (fun (p : List Rec × State) r =>
      let q := p.2.acqRecCycle u r c v false
      (p.1 ++ [q.1], q.2)) q)
    (r.2).fuse = q.2.fuse ∧ (r.2).st = q.2.st ∧ (r.2).evf.cnt = q.2.evf.cnt ∧ (r.2).regs.guard = q.2.regs.guard := by
  induction l generalizing q with
  | nil => simp
  | cons a l ih => simp only [List.foldl_cons]; have h := ih (q.1 ++ [(q.2.acqRecCycle u a c v false).1], (q.2.acqRecCycle u a c v false).2); simp at h ⊢; exact h
@[simp] theorem State.acqCycle_keeps (s : State) (u c : Nat) (v : BitVec 256) :
    ((State.acqCycle s u c v)).fuse = s.fuse ∧ ((State.acqCycle s u c v)).st = s.st ∧ ((State.acqCycle s u c v)).evf.cnt = s.evf.cnt ∧ ((State.acqCycle s u c v)).regs.guard = s.regs.guard := by
  unfold State.acqCycle
  split
  · simp
  split
  · refine ⟨?_, ?_, ?_, ?_⟩ <;> (simp; try (split <;> simp))
  · have h := fun s' => State.acqRecs_keeps u c v (s'.acqOf u).recs ([], s')
    simp at h ⊢
    simp [h]
theorem State.acqPast_keeps (u : Nat) (l : List (Nat × BitVec 256)) (q : Rec × State) :
    let r := l.foldl (fun (q : Rec × State) h => q.2.acqRecCycle u q.1 h.1 h.2 true) q
    (r.2).fuse = q.2.fuse ∧ (r.2).st = q.2.st ∧ (r.2).evf.cnt = q.2.evf.cnt ∧ (r.2).regs.guard = q.2.regs.guard := by
  induction l generalizing q with
  | nil => simp
  | cons a l ih => simp only [List.foldl_cons]; have h := ih (q.2.acqRecCycle u q.1 a.1 a.2 true); simp at h ⊢; exact h
@[simp] theorem State.acqOpen_keeps (s : State) (u : Nat) (t : AcqTrig) :
    ((State.acqOpen s u t)).fuse = s.fuse ∧ ((State.acqOpen s u t)).st = s.st ∧ ((State.acqOpen s u t)).evf.cnt = s.evf.cnt ∧ ((State.acqOpen s u t)).regs.guard = s.regs.guard := by
  unfold State.acqOpen
  have h := State.acqPast_keeps u
  simp only [Prod.forall] at h
  simp [h, -List.foldl_reverse]
@[simp] theorem State.acqTake_keeps (s : State) (u : Nat) (t : AcqTrig) :
    (State.acqTake s u t).fuse = s.fuse ∧ (State.acqTake s u t).st = s.st ∧ (State.acqTake s u t).evf.cnt = s.evf.cnt ∧
    (State.acqTake s u t).regs.guard = s.regs.guard := by
  simp [State.acqTake]
@[simp] theorem State.acqAccept_keeps (s : State) (u : Nat) (t : AcqTrig) :
    (State.acqAccept s u t).fuse = s.fuse ∧ (State.acqAccept s u t).st = s.st ∧ (State.acqAccept s u t).evf.cnt = s.evf.cnt ∧
    (State.acqAccept s u t).regs.guard = s.regs.guard := by
  simp [State.acqAccept]
@[simp] theorem State.acqDecide_keeps (s : State) (u : Nat) (t : AcqTrig) (hold : Nat) :
    (State.acqDecide s u t hold).fuse = s.fuse ∧ (State.acqDecide s u t hold).st = s.st ∧
    (State.acqDecide s u t hold).evf.cnt = s.evf.cnt ∧ (State.acqDecide s u t hold).regs.guard = s.regs.guard := by
  simp [State.acqDecide]
@[simp] theorem State.acqRemark_keeps (s : State) (u : Nat) (f : AcqTrig → AcqTrig) :
    (State.acqRemark s u f).fuse = s.fuse ∧ (State.acqRemark s u f).st = s.st ∧ (State.acqRemark s u f).evf.cnt = s.evf.cnt ∧
    (State.acqRemark s u f).regs.guard = s.regs.guard := by
  simp [State.acqRemark]
@[simp] theorem State.acqRestamp_keeps (s : State) (u : Nat) (t : AcqTrig) :
    (State.acqRestamp s u t).fuse = s.fuse ∧ (State.acqRestamp s u t).st = s.st ∧ (State.acqRestamp s u t).evf.cnt = s.evf.cnt ∧
    (State.acqRestamp s u t).regs.guard = s.regs.guard := by
  simp [State.acqRestamp]
@[simp] theorem State.acqTrig1_keeps (s : State) (u : Nat) (t : AcqTrig) :
    ((State.acqTrig1 s u t).1).fuse = s.fuse ∧ ((State.acqTrig1 s u t).1).st = s.st ∧ ((State.acqTrig1 s u t).1).evf.cnt = s.evf.cnt ∧ ((State.acqTrig1 s u t).1).regs.guard = s.regs.guard := by
  unfold State.acqTrig1
  simp only []
  refine ⟨?_, ?_, ?_, ?_⟩ <;> (repeat' split) <;> simp
@[simp] theorem State.acqTrigger_keeps (s : State) (u tc stamp src index : Nat) :
    (State.acqTrigger s u tc stamp src index).fuse = s.fuse ∧ (State.acqTrigger s u tc stamp src index).st = s.st ∧
    (State.acqTrigger s u tc stamp src index).evf.cnt = s.evf.cnt ∧
    (State.acqTrigger s u tc stamp src index).regs.guard = s.regs.guard := by
  simp [State.acqTrigger]
@[simp] theorem State.acqTrigNow_keeps (s : State) (u src : Nat) :
    (State.acqTrigNow s u src).fuse = s.fuse ∧ (State.acqTrigNow s u src).st = s.st ∧
    (State.acqTrigNow s u src).evf.cnt = s.evf.cnt ∧ (State.acqTrigNow s u src).regs.guard = s.regs.guard := by
  simp [State.acqTrigNow]
@[simp] theorem State.acqEvent_keeps (s : State) (u : Nat) :
    (State.acqEvent s u).fuse = s.fuse ∧ (State.acqEvent s u).st = s.st ∧ (State.acqEvent s u).evf.cnt = s.evf.cnt ∧
    (State.acqEvent s u).regs.guard = s.regs.guard := by
  simp [State.acqEvent]
@[simp] theorem State.acqShotStart_keeps (s : State) :
    (State.acqShotStart s).fuse = s.fuse ∧ (State.acqShotStart s).st = s.st ∧ (State.acqShotStart s).evf.cnt = s.evf.cnt ∧
    (State.acqShotStart s).regs.guard = s.regs.guard := by
  simp [State.acqShotStart]
@[simp] theorem State.acqTrigin_keeps (s : State) (input stamp : Nat) :
    (State.acqTrigin s input stamp).fuse = s.fuse ∧ (State.acqTrigin s input stamp).st = s.st ∧
    (State.acqTrigin s input stamp).evf.cnt = s.evf.cnt ∧ (State.acqTrigin s input stamp).regs.guard = s.regs.guard := by
  simp [State.acqTrigin]
@[simp] theorem State.acqUncorr_keeps (s : State) (r c : Nat) (group : BitVec 256) :
    (State.acqUncorr s r c group).fuse = s.fuse ∧ (State.acqUncorr s r c group).st = s.st ∧
    (State.acqUncorr s r c group).evf.cnt = s.evf.cnt ∧ (State.acqUncorr s r c group).regs.guard = s.regs.guard := by
  simp [State.acqUncorr]
@[simp] theorem State.acqRaw_keeps (s : State) (r c : Nat) (group : BitVec 256) :
    (State.acqRaw s r c group).fuse = s.fuse ∧ (State.acqRaw s r c group).st = s.st ∧
    (State.acqRaw s r c group).evf.cnt = s.evf.cnt ∧ (State.acqRaw s r c group).regs.guard = s.regs.guard := by
  simp [State.acqRaw]
@[simp] theorem State.acqDemod_keeps (s : State) (r t c : Nat) (word : Nat) :
    (State.acqDemod s r t c word).fuse = s.fuse ∧ (State.acqDemod s r t c word).st = s.st ∧
    (State.acqDemod s r t c word).evf.cnt = s.evf.cnt ∧ (State.acqDemod s r t c word).regs.guard = s.regs.guard := by
  simp [State.acqDemod]

/-! ## LinkOps -/

@[simp] theorem State.setPort_keeps (s : State) (p : Nat) (x : Port) :
    (State.setPort s p x).fuse = s.fuse ∧ (State.setPort s p x).st = s.st ∧ (State.setPort s p x).evf.cnt = s.evf.cnt ∧
    (State.setPort s p x).regs.guard = s.regs.guard := by
  simp [State.setPort]
@[simp] theorem State.updPort_keeps (s : State) (p : Nat) (f : Port → Port) :
    (State.updPort s p f).fuse = s.fuse ∧ (State.updPort s p f).st = s.st ∧ (State.updPort s p f).evf.cnt = s.evf.cnt ∧
    (State.updPort s p f).regs.guard = s.regs.guard := by
  simp [State.updPort]
@[simp] theorem State.sendBlocks_keeps (s : State) (p : Nat) (bulk : Bool) (bs : List Dword) :
    (State.sendBlocks s p bulk bs).fuse = s.fuse ∧ (State.sendBlocks s p bulk bs).st = s.st ∧
    (State.sendBlocks s p bulk bs).evf.cnt = s.evf.cnt ∧ (State.sendBlocks s p bulk bs).regs.guard = s.regs.guard := by
  simp [State.sendBlocks]
@[simp] theorem State.sendTo_keeps (s : State) (dev : Nat) (bulk : Bool) (bs : List Dword) :
    (State.sendTo s dev bulk bs).fuse = s.fuse ∧ (State.sendTo s dev bulk bs).st = s.st ∧
    (State.sendTo s dev bulk bs).evf.cnt = s.evf.cnt ∧ (State.sendTo s dev bulk bs).regs.guard = s.regs.guard := by
  unfold State.sendTo; refine ⟨?_, ?_, ?_, ?_⟩ <;> 
    (repeat' (first | (simp; done) | split | rw [forEach_fuse] | rw [when_fuse] | rw [forEach_st] | rw [when_st] | rw [forEach_evfcnt] | rw [when_evfcnt] | rw [forEach_guard] | rw [when_guard] | intro _ | simp))
@[simp] theorem State.exportDecision_keeps (s : State) (k : Nat) :
    (State.exportDecision s k).fuse = s.fuse ∧ (State.exportDecision s k).st = s.st ∧
    (State.exportDecision s k).evf.cnt = s.evf.cnt ∧ (State.exportDecision s k).regs.guard = s.regs.guard := by
  simp [State.exportDecision]
@[simp] theorem State.linkEvent_keeps (s : State) (n : Nat) :
    (State.linkEvent s n).fuse = s.fuse ∧ (State.linkEvent s n).st = s.st ∧ (State.linkEvent s n).evf.cnt = s.evf.cnt ∧
    (State.linkEvent s n).regs.guard = s.regs.guard := by
  simp [State.linkEvent]
@[simp] theorem State.stopTraining_keeps (s : State) (p : Nat) :
    (State.stopTraining s p).fuse = s.fuse ∧ (State.stopTraining s p).st = s.st ∧ (State.stopTraining s p).evf.cnt = s.evf.cnt ∧
    (State.stopTraining s p).regs.guard = s.regs.guard := by
  unfold State.stopTraining; refine ⟨?_, ?_, ?_, ?_⟩ <;> 
    (repeat' (first | (simp; done) | split | rw [forEach_fuse] | rw [when_fuse] | rw [forEach_st] | rw [when_st] | rw [forEach_evfcnt] | rw [when_evfcnt] | rw [forEach_guard] | rw [when_guard] | intro _ | simp))
@[simp] theorem State.blRebase_keeps (s : State) (p : Nat) :
    (State.blRebase s p).fuse = s.fuse ∧ (State.blRebase s p).st = s.st ∧ (State.blRebase s p).evf.cnt = s.evf.cnt ∧
    (State.blRebase s p).regs.guard = s.regs.guard := by
  simp [State.blRebase]
@[simp] theorem State.credRebase_keeps (s : State) (p : Nat) :
    (State.credRebase s p).fuse = s.fuse ∧ (State.credRebase s p).st = s.st ∧ (State.credRebase s p).evf.cnt = s.evf.cnt ∧
    (State.credRebase s p).regs.guard = s.regs.guard := by
  simp [State.credRebase]
@[simp] theorem State.portDown_keeps (s : State) (p : Nat) :
    (State.portDown s p).fuse = s.fuse ∧ (State.portDown s p).st = s.st ∧ (State.portDown s p).evf.cnt = s.evf.cnt ∧
    (State.portDown s p).regs.guard = s.regs.guard := by
  simp [State.portDown]

/-! ## DspOps -/

@[simp] theorem State.setCore_keeps (s : State) (q : Nat) (c : Core) :
    (State.setCore s q c).fuse = s.fuse ∧ (State.setCore s q c).st = s.st ∧ (State.setCore s q c).evf.cnt = s.evf.cnt ∧
    (State.setCore s q c).regs.guard = s.regs.guard := by
  simp [State.setCore]
@[simp] theorem State.updCore_keeps (s : State) (q : Nat) (f : Core → Core) :
    (State.updCore s q f).fuse = s.fuse ∧ (State.updCore s q f).st = s.st ∧ (State.updCore s q f).evf.cnt = s.evf.cnt ∧
    (State.updCore s q f).regs.guard = s.regs.guard := by
  simp [State.updCore]
@[simp] theorem State.coreLine_keeps (s : State) (q i : Nat) :
    (State.coreLine s q i).fuse = s.fuse ∧ (State.coreLine s q i).st = s.st ∧ (State.coreLine s q i).evf.cnt = s.evf.cnt ∧
    (State.coreLine s q i).regs.guard = s.regs.guard := by
  simp [State.coreLine]
@[simp] theorem State.feedLine_keeps (s : State) (q : Nat) :
    (State.feedLine s q).fuse = s.fuse ∧ (State.feedLine s q).st = s.st ∧ (State.feedLine s q).evf.cnt = s.evf.cnt ∧
    (State.feedLine s q).regs.guard = s.regs.guard := by
  simp [State.feedLine]
@[simp] theorem State.feedPush_keeps (s : State) (q : Nat) (r : BitVec 128) :
    (State.feedPush s q r).fuse = s.fuse ∧ (State.feedPush s q r).st = s.st ∧ (State.feedPush s q r).evf.cnt = s.evf.cnt ∧
    (State.feedPush s q r).regs.guard = s.regs.guard := by
  simp [State.feedPush]
@[simp] theorem State.feedAll_keeps (s : State) (r : Nat) (x : BitVec 128) :
    (State.feedAll s r x).fuse = s.fuse ∧ (State.feedAll s r x).st = s.st ∧ (State.feedAll s r x).evf.cnt = s.evf.cnt ∧
    (State.feedAll s r x).regs.guard = s.regs.guard := by
  simp [State.feedAll]
@[simp] theorem State.coreHalt_keeps (s : State) (q : Nat) :
    (State.coreHalt s q).fuse = s.fuse ∧ (State.coreHalt s q).st = s.st ∧ (State.coreHalt s q).evf.cnt = s.evf.cnt ∧
    (State.coreHalt s q).regs.guard = s.regs.guard := by
  simp [State.coreHalt]
@[simp] theorem State.coreHaltAll_keeps (s : State) :
    (State.coreHaltAll s).fuse = s.fuse ∧ (State.coreHaltAll s).st = s.st ∧ (State.coreHaltAll s).evf.cnt = s.evf.cnt ∧
    (State.coreHaltAll s).regs.guard = s.regs.guard := by
  simp [State.coreHaltAll]
@[simp] theorem State.coreShotStart_keeps (s : State) :
    (State.coreShotStart s).fuse = s.fuse ∧ (State.coreShotStart s).st = s.st ∧ (State.coreShotStart s).evf.cnt = s.evf.cnt ∧
    (State.coreShotStart s).regs.guard = s.regs.guard := by
  simp [State.coreShotStart]

/-! ## Events -/

@[simp] theorem State.setEvf_keeps (s : State) (e : Evf) :
    (State.setEvf s e).fuse = s.fuse ∧ (State.setEvf s e).st = s.st ∧ (State.setEvf s e).regs.guard = s.regs.guard ∧ (State.setEvf s e).evf = e := by
  simp [State.setEvf]
@[simp] theorem State.evCount_keeps (s : State) (f d c u : Nat) :
    (State.evCount s f d c u).fuse = s.fuse ∧ (State.evCount s f d c u).st = s.st ∧
    (State.evCount s f d c u).regs.guard = s.regs.guard := by
  simp [State.evCount]
@[simp] theorem State.evRebase_keeps (s : State) :
    (State.evRebase s).fuse = s.fuse ∧ (State.evRebase s).st = s.st ∧ (State.evRebase s).regs.guard = s.regs.guard := by
  simp [State.evRebase]
@[simp] theorem State.setSuppressed_keeps (s : State) (ch : Nat) (b : Bool) :
    (State.setSuppressed s ch b).fuse = s.fuse ∧ (State.setSuppressed s ch b).st = s.st ∧
    (State.setSuppressed s ch b).evf.cnt = s.evf.cnt ∧ (State.setSuppressed s ch b).regs.guard = s.regs.guard := by
  simp [State.setSuppressed]
@[simp] theorem State.stormSuppress_keeps (s : State) (ch : Nat) :
    (State.stormSuppress s ch).fuse = s.fuse ∧ (State.stormSuppress s ch).st = s.st ∧
    (State.stormSuppress s ch).evf.cnt = s.evf.cnt ∧ (State.stormSuppress s ch).regs.guard = s.regs.guard := by
  simp [State.stormSuppress]
@[simp] theorem State.suppWrite_keeps (s : State) (word v : Nat) :
    (State.suppWrite s word v).fuse = s.fuse ∧ (State.suppWrite s word v).st = s.st ∧
    (State.suppWrite s word v).evf.cnt = s.evf.cnt ∧ (State.suppWrite s word v).regs.guard = s.regs.guard := by
  simp [State.suppWrite]
@[simp] theorem State.unsuppress_keeps (s : State) (ch : Nat) :
    (State.unsuppress s ch).fuse = s.fuse ∧ (State.unsuppress s ch).st = s.st ∧ (State.unsuppress s ch).evf.cnt = s.evf.cnt ∧
    (State.unsuppress s ch).regs.guard = s.regs.guard := by
  simp [State.unsuppress]
@[simp] theorem State.stormCheck_keeps (s : State) (ch : Nat) :
    (State.stormCheck s ch).fuse = s.fuse ∧ (State.stormCheck s ch).st = s.st ∧ (State.stormCheck s ch).evf.cnt = s.evf.cnt ∧
    (State.stormCheck s ch).regs.guard = s.regs.guard := by
  simp [State.stormCheck]
@[simp] theorem State.stormFiring_keeps (s : State) (ch : Nat) :
    (State.stormFiring s ch).fuse = s.fuse ∧ (State.stormFiring s ch).st = s.st ∧ (State.stormFiring s ch).evf.cnt = s.evf.cnt ∧
    (State.stormFiring s ch).regs.guard = s.regs.guard := by
  simp [State.stormFiring]
@[simp] theorem State.stormConfig_keeps (s : State) (v : Nat) :
    (State.stormConfig s v).fuse = s.fuse ∧ (State.stormConfig s v).st = s.st ∧ (State.stormConfig s v).evf.cnt = s.evf.cnt ∧
    (State.stormConfig s v).regs.guard = s.regs.guard := by
  simp [State.stormConfig]
@[simp] theorem State.snapLatch_keeps (s : State) :
    (State.snapLatch s).fuse = s.fuse ∧ (State.snapLatch s).st = s.st ∧ (State.snapLatch s).evf.cnt = s.evf.cnt ∧
    (State.snapLatch s).regs.guard = s.regs.guard := by
  unfold State.snapLatch; simp only []; (repeat' split) <;> simp
@[simp] theorem State.snapTrigger_keeps (s : State) (source : Nat) :
    (State.snapTrigger s source).fuse = s.fuse ∧ (State.snapTrigger s source).st = s.st ∧
    (State.snapTrigger s source).evf.cnt = s.evf.cnt ∧ (State.snapTrigger s source).regs.guard = s.regs.guard := by
  simp [State.snapTrigger]
@[simp] theorem State.hostEvent_keeps (s : State) (ch : Nat) :
    (State.hostEvent s ch).fuse = s.fuse ∧ (State.hostEvent s ch).st = s.st ∧ (State.hostEvent s ch).evf.cnt = s.evf.cnt ∧
    (State.hostEvent s ch).regs.guard = s.regs.guard := by
  simp [State.hostEvent]
@[simp] theorem State.consume_keeps (s : State) (ch input : Nat) :
    (State.consume s ch input).fuse = s.fuse ∧ (State.consume s ch input).st = s.st ∧
    (State.consume s ch input).evf.cnt = s.evf.cnt ∧ (State.consume s ch input).regs.guard = s.regs.guard := by
  simp [State.consume]
@[simp] theorem State.fireChannel_keeps (s : State) (ch : Nat) :
    (State.fireChannel s ch).fuse = s.fuse ∧ (State.fireChannel s ch).st = s.st ∧
    (State.fireChannel s ch).regs.guard = s.regs.guard := by
  simp [State.fireChannel]
@[simp] theorem State.fire_keeps (s : State) (p : Nat) :
    (State.fire s p).fuse = s.fuse ∧ (State.fire s p).st = s.st ∧ (State.fire s p).regs.guard = s.regs.guard := by
  simp [State.fire]
@[simp] theorem State.settle_keeps (s : State) :
    (State.settle s).fuse = s.fuse ∧ (State.settle s).st = s.st ∧ (State.settle s).regs.guard = s.regs.guard := by
  simp [State.settle]
@[simp] theorem State.startsDue_keeps (s : State) :
    (State.startsDue s).fuse = s.fuse ∧ (State.startsDue s).st = s.st ∧ (State.startsDue s).regs.guard = s.regs.guard := by
  unfold State.startsDue
  split <;> simp
@[simp] theorem State.uncorrLog_keeps (s : State) (group bank addr : Nat) :
    (State.uncorrLog s group bank addr).fuse = s.fuse ∧ (State.uncorrLog s group bank addr).st = s.st ∧
    (State.uncorrLog s group bank addr).evf.cnt = s.evf.cnt ∧ (State.uncorrLog s group bank addr).regs.guard = s.regs.guard := by
  simp [State.uncorrLog]
@[simp] theorem State.eccSeen_keeps (s : State) (e : Ecc) :
    (State.eccSeen s e).fuse = s.fuse ∧ (State.eccSeen s e).st = s.st ∧ (State.eccSeen s e).evf.cnt = s.evf.cnt ∧
    (State.eccSeen s e).regs.guard = s.regs.guard := by
  unfold State.eccSeen; simp only []; (repeat' split) <;> simp

/-! ## SeqRows -/

@[simp] theorem State.waitTimeout_keeps (s : State) (n v : Nat) :
    (State.waitTimeout s n v).fuse = s.fuse ∧ (State.waitTimeout s n v).st = s.st ∧
    (State.waitTimeout s n v).evf.cnt = s.evf.cnt ∧ (State.waitTimeout s n v).regs.guard = s.regs.guard := by
  unfold State.waitTimeout; refine ⟨?_, ?_, ?_, ?_⟩ <;> 
    (repeat' (first | (simp; done) | split | rw [forEach_fuse] | rw [when_fuse] | rw [forEach_st] | rw [when_st] | rw [forEach_evfcnt] | rw [when_evfcnt] | rw [forEach_guard] | rw [when_guard] | intro _ | simp))
@[simp] theorem State.abortLimit_keeps (s : State) (n : Nat) :
    (State.abortLimit s n).fuse = s.fuse ∧ (State.abortLimit s n).st = s.st ∧ (State.abortLimit s n).evf.cnt = s.evf.cnt ∧
    (State.abortLimit s n).regs.guard = s.regs.guard := by
  unfold State.abortLimit; refine ⟨?_, ?_, ?_, ?_⟩ <;> 
    (repeat' (first | (simp; done) | split | rw [forEach_fuse] | rw [when_fuse] | rw [forEach_st] | rw [when_st] | rw [forEach_evfcnt] | rw [when_evfcnt] | rw [forEach_guard] | rw [when_guard] | intro _ | simp))
@[simp] theorem State.tblAdvance_keeps (s : State) (n : Nat) :
    (State.tblAdvance s n).fuse = s.fuse ∧ (State.tblAdvance s n).st = s.st ∧ (State.tblAdvance s n).evf.cnt = s.evf.cnt ∧
    (State.tblAdvance s n).regs.guard = s.regs.guard := by
  simp [State.tblAdvance]
@[simp] theorem State.tblWrite_keeps (s : State) (n table i v : Nat) :
    (State.tblWrite s n table i v).fuse = s.fuse ∧ (State.tblWrite s n table i v).st = s.st ∧
    (State.tblWrite s n table i v).evf.cnt = s.evf.cnt ∧ (State.tblWrite s n table i v).regs.guard = s.regs.guard := by
  simp [State.tblWrite]
@[simp] theorem State.writeRefused_keeps (s : State) (n index target path : Nat) :
    (State.writeRefused s n index target path).fuse = s.fuse ∧ (State.writeRefused s n index target path).st = s.st ∧
    (State.writeRefused s n index target path).evf.cnt = s.evf.cnt ∧
    (State.writeRefused s n index target path).regs.guard = s.regs.guard := by
  simp [State.writeRefused]
@[simp] theorem State.tblDataWrite_keeps (s : State) (n : Nat) (v : Word) :
    (State.tblDataWrite s n v).fuse = s.fuse ∧ (State.tblDataWrite s n v).st = s.st ∧
    (State.tblDataWrite s n v).evf.cnt = s.evf.cnt ∧ (State.tblDataWrite s n v).regs.guard = s.regs.guard := by
  simp [State.tblDataWrite]
@[simp] theorem State.tblDataRead_keeps (s : State) (n : Nat) :
    (State.tblDataRead s n).fuse = s.fuse ∧ (State.tblDataRead s n).st = s.st ∧ (State.tblDataRead s n).evf.cnt = s.evf.cnt ∧
    (State.tblDataRead s n).regs.guard = s.regs.guard := by
  simp [State.tblDataRead]
@[simp] theorem tblOnLocked_keeps (table : Nat) (s : State) (c : HostCmd) (r : Reject) :
    (tblOnLocked table s c r).fuse = s.fuse ∧ (tblOnLocked table s c r).st = s.st ∧
    (tblOnLocked table s c r).evf.cnt = s.evf.cnt ∧ (tblOnLocked table s c r).regs.guard = s.regs.guard := by
  simp [tblOnLocked]

/-! ## GuardRows -/

@[simp] theorem State.limitStore_keeps (s : State) (l : Limit) (i v : Nat) :
    (State.limitStore s l i v).fuse = s.fuse ∧ (State.limitStore s l i v).st = s.st ∧
    (State.limitStore s l i v).evf.cnt = s.evf.cnt := by
  simp [State.limitStore]
@[simp] theorem State.limitWrite_keeps (s : State) (l : Limit) (i v : Nat) :
    (State.limitWrite s l i v).fuse = s.fuse ∧ (State.limitWrite s l i v).st = s.st ∧
    (State.limitWrite s l i v).evf.cnt = s.evf.cnt := by
  simp [State.limitWrite]

/-! ## Journal -/

@[simp] theorem State.setJrn_keeps (s : State) (j : Jrn) :
    (State.setJrn s j).fuse = s.fuse ∧ (State.setJrn s j).st = s.st ∧ (State.setJrn s j).evf.cnt = s.evf.cnt ∧
    (State.setJrn s j).regs.guard = s.regs.guard := by
  simp [State.setJrn]
@[simp] theorem State.jrnCount_keeps (s : State) (st co re dr lo : Nat) :
    (State.jrnCount s st co re dr lo).fuse = s.fuse ∧ (State.jrnCount s st co re dr lo).st = s.st ∧
    (State.jrnCount s st co re dr lo).evf.cnt = s.evf.cnt ∧ (State.jrnCount s st co re dr lo).regs.guard = s.regs.guard := by
  simp [State.jrnCount]
@[simp] theorem State.jrnRebase_keeps (s : State) :
    (State.jrnRebase s).fuse = s.fuse ∧ (State.jrnRebase s).st = s.st ∧ (State.jrnRebase s).evf.cnt = s.evf.cnt ∧
    (State.jrnRebase s).regs.guard = s.regs.guard := by
  simp [State.jrnRebase]
@[simp] theorem State.jrnRefill_keeps (s : State) :
    (State.jrnRefill s).fuse = s.fuse ∧ (State.jrnRefill s).st = s.st ∧ (State.jrnRefill s).evf.cnt = s.evf.cnt ∧
    (State.jrnRefill s).regs.guard = s.regs.guard := by
  unfold State.jrnRefill; simp only []; (repeat' split) <;> simp
@[simp] theorem State.jrnSpill_keeps (s : State) :
    (State.jrnSpill s).fuse = s.fuse ∧ (State.jrnSpill s).st = s.st ∧ (State.jrnSpill s).evf.cnt = s.evf.cnt ∧
    (State.jrnSpill s).regs.guard = s.regs.guard := by
  unfold State.jrnSpill; simp only []; (repeat' split) <;> simp
@[simp] theorem State.jrnDiscard_keeps (s : State) :
    (State.jrnDiscard s).fuse = s.fuse ∧ (State.jrnDiscard s).st = s.st ∧ (State.jrnDiscard s).evf.cnt = s.evf.cnt ∧
    (State.jrnDiscard s).regs.guard = s.regs.guard := by
  unfold State.jrnDiscard; simp only []; (repeat' split) <;> simp
@[simp] theorem State.jrnRoom_keeps (n : Nat) (s : State) :
    ((State.jrnRoom s n)).fuse = s.fuse ∧ ((State.jrnRoom s n)).st = s.st ∧ ((State.jrnRoom s n)).evf.cnt = s.evf.cnt ∧ ((State.jrnRoom s n)).regs.guard = s.regs.guard := by
  induction n generalizing s with
  | zero => simp [State.jrnRoom]
  | succ n ih => simp only [State.jrnRoom]; refine ⟨?_, ?_, ?_, ?_⟩ <;> (repeat' split) <;> simp [ih]
@[simp] theorem State.jrnStart_keeps (s : State) (p : Packet) :
    ((State.jrnStart s p)).fuse = s.fuse ∧ ((State.jrnStart s p)).st = s.st ∧ ((State.jrnStart s p)).evf.cnt = s.evf.cnt ∧ ((State.jrnStart s p)).regs.guard = s.regs.guard := by
  simp [State.jrnStart]
@[simp] theorem State.jrnCommit_keeps (s : State) (cont : Bool) (outcome cause taint length : Nat) :
    (State.jrnCommit s cont outcome cause taint length).fuse = s.fuse ∧
    (State.jrnCommit s cont outcome cause taint length).st = s.st ∧
    (State.jrnCommit s cont outcome cause taint length).evf.cnt = s.evf.cnt ∧
    (State.jrnCommit s cont outcome cause taint length).regs.guard = s.regs.guard := by
  unfold State.jrnCommit; simp only []; (repeat' split) <;> simp
@[simp] theorem State.jrnEcc_keeps (s : State) (dram : Bool) :
    (State.jrnEcc s dram).fuse = s.fuse ∧ (State.jrnEcc s dram).st = s.st ∧ (State.jrnEcc s dram).evf.cnt = s.evf.cnt ∧
    (State.jrnEcc s dram).regs.guard = s.regs.guard := by
  simp [State.jrnEcc]
@[simp] theorem State.taintTone_keeps (s : State) :
    (State.taintTone s).fuse = s.fuse ∧ (State.taintTone s).st = s.st ∧ (State.taintTone s).evf.cnt = s.evf.cnt ∧
    (State.taintTone s).regs.guard = s.regs.guard := by
  unfold State.taintTone; simp only []; (repeat' split) <;> simp
@[simp] theorem State.jrnRecord_keeps (s : State) (k : Nat) (r : BitVec 128) :
    (State.jrnRecord s k r).fuse = s.fuse ∧ (State.jrnRecord s k r).st = s.st ∧ (State.jrnRecord s k r).evf.cnt = s.evf.cnt ∧
    (State.jrnRecord s k r).regs.guard = s.regs.guard := by
  unfold State.jrnRecord; simp only []; (repeat' split) <;> simp
@[simp] theorem State.jrnRewind_keeps (s : State) :
    (State.jrnRewind s).fuse = s.fuse ∧ (State.jrnRewind s).st = s.st ∧ (State.jrnRewind s).evf.cnt = s.evf.cnt ∧
    (State.jrnRewind s).regs.guard = s.regs.guard := by
  unfold State.jrnRewind; simp only []; (repeat' split) <;> simp
@[simp] theorem State.jrnFinal_keeps (s : State) :
    (State.jrnFinal s).fuse = s.fuse ∧ (State.jrnFinal s).st = s.st ∧ (State.jrnFinal s).evf.cnt = s.evf.cnt ∧
    (State.jrnFinal s).regs.guard = s.regs.guard := by
  unfold State.jrnFinal; simp only []; (repeat' split) <;> simp
@[simp] theorem State.jrnUser_keeps (s : State) (r : BitVec 128) :
    (State.jrnUser s r).fuse = s.fuse ∧ (State.jrnUser s r).st = s.st ∧ (State.jrnUser s r).evf.cnt = s.evf.cnt ∧
    (State.jrnUser s r).regs.guard = s.regs.guard := by
  simp [State.jrnUser]
@[simp] theorem State.hostRing_keeps (s : State) (b : List Byte) (n : Nat) :
    (State.hostRing s b n).fuse = s.fuse ∧ (State.hostRing s b n).st = s.st ∧ (State.hostRing s b n).evf.cnt = s.evf.cnt ∧
    (State.hostRing s b n).regs.guard = s.regs.guard := by
  simp [State.hostRing]
@[simp] theorem State.jrnUncorr_keeps (s : State) :
    (State.jrnUncorr s).fuse = s.fuse ∧ (State.jrnUncorr s).st = s.st ∧ (State.jrnUncorr s).evf.cnt = s.evf.cnt ∧
    (State.jrnUncorr s).regs.guard = s.regs.guard := by
  simp [State.jrnUncorr]
@[simp] theorem State.jrnDropBad_keeps (s : State) (dram : Bool) (front : Jrn → Jrn) :
    (State.jrnDropBad s dram front).fuse = s.fuse ∧ (State.jrnDropBad s dram front).st = s.st ∧
    (State.jrnDropBad s dram front).evf.cnt = s.evf.cnt ∧ (State.jrnDropBad s dram front).regs.guard = s.regs.guard := by
  simp [State.jrnDropBad]
@[simp] theorem State.jrnDrain_keeps (s : State) :
    (State.jrnDrain s).fuse = s.fuse ∧ (State.jrnDrain s).st = s.st ∧ (State.jrnDrain s).evf.cnt = s.evf.cnt ∧
    (State.jrnDrain s).regs.guard = s.regs.guard := by
  unfold State.jrnDrain; simp only []; (repeat' split) <;> simp
@[simp] theorem State.jrnHostRd_keeps (s : State) (v : Nat) :
    (State.jrnHostRd s v).fuse = s.fuse ∧ (State.jrnHostRd s v).st = s.st ∧ (State.jrnHostRd s v).evf.cnt = s.evf.cnt ∧
    (State.jrnHostRd s v).regs.guard = s.regs.guard := by
  simp [State.jrnHostRd]

/-! ## Tones -/

@[simp] theorem State.rxOverrange_keeps (s : State) (r : Nat) (clamp : Bool) :
    (State.rxOverrange s r clamp).fuse = s.fuse ∧ (State.rxOverrange s r clamp).st = s.st ∧
    (State.rxOverrange s r clamp).evf.cnt = s.evf.cnt ∧ (State.rxOverrange s r clamp).regs.guard = s.regs.guard := by
  simp [State.rxOverrange]
@[simp] theorem State.rxTraces_keeps (s : State) (r : Nat) :
    (State.rxTraces s r).fuse = s.fuse ∧ (State.rxTraces s r).st = s.st ∧ (State.rxTraces s r).evf.cnt = s.evf.cnt ∧
    (State.rxTraces s r).regs.guard = s.regs.guard := by
  simp [State.rxTraces]
@[simp] theorem State.rxStatusNow_keeps (s : State) (r : Nat) (f : BitVec 5) :
    (State.rxStatusNow s r f).fuse = s.fuse ∧ (State.rxStatusNow s r f).st = s.st ∧
    (State.rxStatusNow s r f).evf.cnt = s.evf.cnt ∧ (State.rxStatusNow s r f).regs.guard = s.regs.guard := by
  simp [State.rxStatusNow]
@[simp] theorem State.setTone_keeps (s : State) (r t : Nat) (y : Tone) :
    (State.setTone s r t y).fuse = s.fuse ∧ (State.setTone s r t y).st = s.st ∧ (State.setTone s r t y).evf.cnt = s.evf.cnt ∧
    (State.setTone s r t y).regs.guard = s.regs.guard := by
  simp [State.setTone]
@[simp] theorem State.toneOpen_keeps (s : State) (r t : Nat) (b : Bool) :
    (State.toneOpen s r t b).fuse = s.fuse ∧ (State.toneOpen s r t b).st = s.st ∧ (State.toneOpen s r t b).evf.cnt = s.evf.cnt ∧
    (State.toneOpen s r t b).regs.guard = s.regs.guard := by
  simp [State.toneOpen]
@[simp] theorem State.tonePartBit_keeps (s : State) (r t : Nat) (b : Bool) :
    (State.tonePartBit s r t b).fuse = s.fuse ∧ (State.tonePartBit s r t b).st = s.st ∧
    (State.tonePartBit s r t b).evf.cnt = s.evf.cnt ∧ (State.tonePartBit s r t b).regs.guard = s.regs.guard := by
  simp [State.tonePartBit]
@[simp] theorem State.toneDone_keeps (s : State) (r t doneAt e : Nat) :
    (State.toneDone s r t doneAt e).fuse = s.fuse ∧ (State.toneDone s r t doneAt e).st = s.st ∧
    (State.toneDone s r t doneAt e).evf.cnt = s.evf.cnt ∧ (State.toneDone s r t doneAt e).regs.guard = s.regs.guard := by
  simp [State.toneDone]
@[simp] theorem State.toneAbort_keeps (s : State) (r t : Nat) :
    (State.toneAbort s r t).fuse = s.fuse ∧ (State.toneAbort s r t).st = s.st ∧ (State.toneAbort s r t).evf.cnt = s.evf.cnt ∧
    (State.toneAbort s r t).regs.guard = s.regs.guard := by
  simp [State.toneAbort]
@[simp] theorem State.toneCut_keeps (s : State) (r t : Nat) :
    (State.toneCut s r t).fuse = s.fuse ∧ (State.toneCut s r t).st = s.st ∧ (State.toneCut s r t).evf.cnt = s.evf.cnt ∧
    (State.toneCut s r t).regs.guard = s.regs.guard := by
  simp [State.toneCut]
@[simp] theorem State.toneUncut_keeps (s : State) (r t : Nat) :
    (State.toneUncut s r t).fuse = s.fuse ∧ (State.toneUncut s r t).st = s.st ∧ (State.toneUncut s r t).evf.cnt = s.evf.cnt ∧
    (State.toneUncut s r t).regs.guard = s.regs.guard := by
  simp [State.toneUncut]
@[simp] theorem State.closeWindows_keeps (s : State) :
    (State.closeWindows s).fuse = s.fuse ∧ (State.closeWindows s).st = s.st ∧ (State.closeWindows s).evf.cnt = s.evf.cnt ∧
    (State.closeWindows s).regs.guard = s.regs.guard := by
  unfold State.closeWindows; refine ⟨?_, ?_, ?_, ?_⟩ <;> 
    (repeat' (first | (simp; done) | split | rw [forEach_fuse] | rw [when_fuse] | rw [forEach_st] | rw [when_st] | rw [forEach_evfcnt] | rw [when_evfcnt] | rw [forEach_guard] | rw [when_guard] | intro _ | simp))
@[simp] theorem State.toneSample_keeps (s : State) (r t c : Nat) (fl : BitVec 16) (d : Int × Int) :
    (State.toneSample s r t c fl d).fuse = s.fuse ∧ (State.toneSample s r t c fl d).st = s.st ∧
    (State.toneSample s r t c fl d).evf.cnt = s.evf.cnt ∧ (State.toneSample s r t c fl d).regs.guard = s.regs.guard := by
  unfold State.toneSample; simp only []; (repeat' split) <;> simp
@[simp] theorem State.toneGroup_keeps (s : State) (r t c : Nat) (gst : Nat) (xs : List Int) (fl : BitVec 5) (old : List (BitVec 5))
    (changed : List Nat) :
    (State.toneGroup s r t c gst xs fl old changed).fuse = s.fuse ∧ (State.toneGroup s r t c gst xs fl old changed).st = s.st ∧
    (State.toneGroup s r t c gst xs fl old changed).evf.cnt = s.evf.cnt ∧
    (State.toneGroup s r t c gst xs fl old changed).regs.guard = s.regs.guard := by
  simp [State.toneGroup]
@[simp] theorem State.rxUnexamined_keeps (s : State) (r : Nat) :
    (State.rxUnexamined s r).fuse = s.fuse ∧ (State.rxUnexamined s r).st = s.st ∧ (State.rxUnexamined s r).evf.cnt = s.evf.cnt ∧
    (State.rxUnexamined s r).regs.guard = s.regs.guard := by
  simp [State.rxUnexamined]
@[simp] theorem State.rxGroup_keeps (s : State) (r : Nat) (samples : List (BitVec 12)) :
    (State.rxGroup s r samples).fuse = s.fuse ∧ (State.rxGroup s r samples).st = s.st ∧
    (State.rxGroup s r samples).evf.cnt = s.evf.cnt ∧ (State.rxGroup s r samples).regs.guard = s.regs.guard := by
  simp [State.rxGroup]
@[simp] theorem State.rxRaw_keeps (s : State) (r : Nat) :
    (State.rxRaw s r).fuse = s.fuse ∧ (State.rxRaw s r).st = s.st ∧ (State.rxRaw s r).evf.cnt = s.evf.cnt ∧
    (State.rxRaw s r).regs.guard = s.regs.guard := by
  unfold State.rxRaw; simp only []; (repeat' split) <;> simp
@[simp] theorem State.windowOpen_keeps (s : State) (r t : Nat) :
    (State.windowOpen s r t).fuse = s.fuse ∧ (State.windowOpen s r t).st = s.st ∧ (State.windowOpen s r t).evf.cnt = s.evf.cnt ∧
    (State.windowOpen s r t).regs.guard = s.regs.guard := by
  simp [State.windowOpen]
@[simp] theorem State.windowClose_keeps (s : State) (r t : Nat) :
    (State.windowClose s r t).fuse = s.fuse ∧ (State.windowClose s r t).st = s.st ∧
    (State.windowClose s r t).evf.cnt = s.evf.cnt ∧ (State.windowClose s r t).regs.guard = s.regs.guard := by
  unfold State.windowClose; simp only []; (repeat' split) <;> simp
@[simp] theorem State.toneDecision_keeps (s : State) (r t : Nat) :
    (State.toneDecision s r t).fuse = s.fuse ∧ (State.toneDecision s r t).st = s.st ∧
    (State.toneDecision s r t).evf.cnt = s.evf.cnt ∧ (State.toneDecision s r t).regs.guard = s.regs.guard := by
  simp [State.toneDecision]
@[simp] theorem State.ovrHoldExpire_keeps (s : State) (r : Nat) :
    (State.ovrHoldExpire s r).fuse = s.fuse ∧ (State.ovrHoldExpire s r).st = s.st ∧
    (State.ovrHoldExpire s r).evf.cnt = s.evf.cnt ∧ (State.ovrHoldExpire s r).regs.guard = s.regs.guard := by
  simp [State.ovrHoldExpire]
@[simp] theorem State.rxSettleDone_keeps (s : State) (r : Nat) :
    (State.rxSettleDone s r).fuse = s.fuse ∧ (State.rxSettleDone s r).st = s.st ∧ (State.rxSettleDone s r).evf.cnt = s.evf.cnt ∧
    (State.rxSettleDone s r).regs.guard = s.regs.guard := by
  simp [State.rxSettleDone]
@[simp] theorem State.rxConfigure_keeps (s : State) (r : Nat) (en mode : Bool) (hold : Nat) :
    (State.rxConfigure s r en mode hold).fuse = s.fuse ∧ (State.rxConfigure s r en mode hold).st = s.st ∧
    (State.rxConfigure s r en mode hold).evf.cnt = s.evf.cnt ∧
    (State.rxConfigure s r en mode hold).regs.guard = s.regs.guard := by
  simp [State.rxConfigure]


end Sys2Proof.Machine
end

