-- ==== Sys2Proof/Laws/KeepUnits.lean ====
section
/-!
SUPPORT. What the DSP, memory, DMA, security and calibration operations keep of the frame fields.
-/

set_option maxRecDepth 4000
set_option linter.all false

namespace Sys2Proof.Machine

/-! ## DspCore -/

@[simp] theorem State.updBank_keeps (s : State) (q : Nat) (f : Bank → Bank) :
    (State.updBank s q f).fuse = s.fuse ∧ (State.updBank s q f).st = s.st ∧ (State.updBank s q f).evf.cnt = s.evf.cnt ∧
    (State.updBank s q f).regs.guard = s.regs.guard := by
  simp [State.updBank]
@[simp] theorem State.setG_keeps (s : State) (q i v : Nat) :
    (State.setG s q i v).fuse = s.fuse ∧ (State.setG s q i v).st = s.st ∧ (State.setG s q i v).evf.cnt = s.evf.cnt ∧
    (State.setG s q i v).regs.guard = s.regs.guard := by
  simp [State.setG]
@[simp] theorem State.setAcc_keeps (s : State) (q i : Nat) (v : Int) :
    (State.setAcc s q i v).fuse = s.fuse ∧ (State.setAcc s q i v).st = s.st ∧ (State.setAcc s q i v).evf.cnt = s.evf.cnt ∧
    (State.setAcc s q i v).regs.guard = s.regs.guard := by
  simp [State.setAcc]
@[simp] theorem State.setPtr_keeps (s : State) (q i v : Nat) :
    (State.setPtr s q i v).fuse = s.fuse ∧ (State.setPtr s q i v).st = s.st ∧ (State.setPtr s q i v).evf.cnt = s.evf.cnt ∧
    (State.setPtr s q i v).regs.guard = s.regs.guard := by
  simp [State.setPtr]
@[simp] theorem State.flagOr_keeps (s : State) (q m : Nat) :
    (State.flagOr s q m).fuse = s.fuse ∧ (State.flagOr s q m).st = s.st ∧ (State.flagOr s q m).evf.cnt = s.evf.cnt ∧
    (State.flagOr s q m).regs.guard = s.regs.guard := by
  simp [State.flagOr]
@[simp] theorem State.aluSet_keeps (s : State) (q w a b : Nat) :
    (State.aluSet s q w a b).fuse = s.fuse ∧ (State.aluSet s q w a b).st = s.st ∧ (State.aluSet s q w a b).evf.cnt = s.evf.cnt ∧
    (State.aluSet s q w a b).regs.guard = s.regs.guard := by
  simp [State.aluSet]
@[simp] theorem State.clearLines_keeps (s : State) (q m : Nat) :
    (State.clearLines s q m).fuse = s.fuse ∧ (State.clearLines s q m).st = s.st ∧ (State.clearLines s q m).evf.cnt = s.evf.cnt ∧
    (State.clearLines s q m).regs.guard = s.regs.guard := by
  simp [State.clearLines]
@[simp] theorem State.crWrite_keeps (s : State) (q n v : Nat) :
    (State.crWrite s q n v).fuse = s.fuse ∧ (State.crWrite s q n v).st = s.st ∧ (State.crWrite s q n v).evf.cnt = s.evf.cnt ∧
    (State.crWrite s q n v).regs.guard = s.regs.guard := by
  unfold State.crWrite; simp only []; (repeat' split) <;> simp
@[simp] theorem State.dspModify_keeps (s : State) (q w : Nat) :
    (State.dspModify s q w).fuse = s.fuse ∧ (State.dspModify s q w).st = s.st ∧ (State.dspModify s q w).evf.cnt = s.evf.cnt ∧
    (State.dspModify s q w).regs.guard = s.regs.guard := by
  simp [State.dspModify]
theorem State.portLoad_keeps {s : State} {q a n : Nat} {r : State × Nat} (h : State.portLoad s q a n = some r) :
    (r.1).fuse = s.fuse ∧ (r.1).st = s.st ∧ (r.1).evf.cnt = s.evf.cnt ∧ (r.1).regs.guard = s.regs.guard := by
  unfold State.portLoad at h
  simp only [] at h
  (repeat' split at h) <;> first | (cases h; done) | (cases h; simp)
theorem State.dspLoad_keeps {s : State} {q a n : Nat} {r : State × Nat} (h : State.dspLoad s q a n = .inr r) :
    (r.1).fuse = s.fuse ∧ (r.1).st = s.st ∧ (r.1).evf.cnt = s.evf.cnt ∧ (r.1).regs.guard = s.regs.guard := by
  unfold State.dspLoad at h
  (repeat' split at h) <;> first | (cases h; done) | (cases h; simp; done) | (cases h; exact State.portLoad_keeps ‹_›)
@[simp] theorem State.frmwSend_keeps (s : State) (q : Nat) :
    (State.frmwSend s q).fuse = s.fuse ∧ (State.frmwSend s q).st = s.st ∧ (State.frmwSend s q).evf.cnt = s.evf.cnt ∧
    (State.frmwSend s q).regs.guard = s.regs.guard := by
  simp [State.frmwSend]
@[simp] theorem State.seqpSend_keeps (s : State) (q : Nat) :
    (State.seqpSend s q).fuse = s.fuse ∧ (State.seqpSend s q).st = s.st ∧ (State.seqpSend s q).evf.cnt = s.evf.cnt ∧
    (State.seqpSend s q).regs.guard = s.regs.guard := by
  unfold State.seqpSend; simp only []; (repeat' split) <;> simp
@[simp] theorem State.userRecord_keeps (s : State) (q hi : Nat) :
    (State.userRecord s q hi).fuse = s.fuse ∧ (State.userRecord s q hi).st = s.st ∧
    (State.userRecord s q hi).evf.cnt = s.evf.cnt ∧ (State.userRecord s q hi).regs.guard = s.regs.guard := by
  simp [State.userRecord]
@[simp] theorem State.decWrite_keeps (s : State) (q lo hi : Nat) :
    (State.decWrite s q lo hi).fuse = s.fuse ∧ (State.decWrite s q lo hi).st = s.st ∧
    (State.decWrite s q lo hi).evf.cnt = s.evf.cnt ∧ (State.decWrite s q lo hi).regs.guard = s.regs.guard := by
  simp [State.decWrite]
theorem State.portStore_keeps {s : State} {q a n v : Nat} {r : State} (h : State.portStore s q a n v = some r) :
    (r).fuse = s.fuse ∧ (r).st = s.st ∧ (r).evf.cnt = s.evf.cnt ∧ (r).regs.guard = s.regs.guard := by
  unfold State.portStore at h
  simp only [] at h
  (repeat' split at h) <;> first | (cases h; done) | (cases h; simp)
theorem State.dspStore_keeps {s : State} {q a n v : Nat} {r : State} (h : State.dspStore s q a n v = .inr r) :
    (r).fuse = s.fuse ∧ (r).st = s.st ∧ (r).evf.cnt = s.evf.cnt ∧ (r).regs.guard = s.regs.guard := by
  unfold State.dspStore at h
  (repeat' split at h) <;> first | (cases h; done) | (cases h; simp; done) | (cases h; exact State.portStore_keeps ‹_›)

@[simp] theorem State.coreFault_keeps (s : State) (q cause addr : Nat) :
    (State.coreFault s q cause addr).fuse = s.fuse ∧ (State.coreFault s q cause addr).st = s.st ∧
    (State.coreFault s q cause addr).evf.cnt = s.evf.cnt ∧ (State.coreFault s q cause addr).regs.guard = s.regs.guard := by
  simp [State.coreFault]
@[simp] theorem State.coreNext_keeps (s : State) (q pc : Nat) :
    (State.coreNext s q pc).fuse = s.fuse ∧ (State.coreNext s q pc).st = s.st ∧ (State.coreNext s q pc).evf.cnt = s.evf.cnt ∧
    (State.coreNext s q pc).regs.guard = s.regs.guard := by
  unfold State.coreNext; simp only []; (repeat' split) <;> simp
@[simp] theorem State.wake_keeps (s : State) (q w : Nat) (second : Bool) :
    (State.wake s q w second).fuse = s.fuse ∧ (State.wake s q w second).st = s.st ∧
    (State.wake s q w second).evf.cnt = s.evf.cnt ∧ (State.wake s q w second).regs.guard = s.regs.guard := by
  simp [State.wake]
/-- What an instruction leaves behind has the fuses, ST, EVF counters and guard limits of s. -/
def DspEnd.Kept (s : State) : DspEnd → Prop
  | .go u _ => (u).fuse = s.fuse ∧ (u).st = s.st ∧ (u).evf.cnt = s.evf.cnt ∧ (u).regs.guard = s.regs.guard
  | .fault _ _ => True
  | .stall => True
@[simp] theorem DspEnd.kept_go (s u : State) (pc : Nat) :
    DspEnd.Kept s (.go u pc) ↔ ((u).fuse = s.fuse ∧ (u).st = s.st ∧ (u).evf.cnt = s.evf.cnt ∧ (u).regs.guard = s.regs.guard) := Iff.rfl
@[simp] theorem DspEnd.kept_fault (s : State) (c a : Nat) : DspEnd.Kept s (.fault c a) := trivial
@[simp] theorem DspEnd.kept_stall (s : State) : DspEnd.Kept s .stall := trivial
theorem State.issue_keeps (s : State) (q : Nat) (op : DspOp) (ecc : Ecc) (f : Nat → State → DspEnd) (second : Bool)
    (h : ∀ w t, DspEnd.Kept t (f w t)) : ((State.issue s q op ecc f second)).fuse = s.fuse ∧ ((State.issue s q op ecc f second)).st = s.st ∧ ((State.issue s q op ecc f second)).evf.cnt = s.evf.cnt ∧ ((State.issue s q op ecc f second)).regs.guard = s.regs.guard := by
  unfold State.issue
  simp only []
  split
  · simp
  split
  · simp
  split
  · simp
  split
  · have hk := h (s.imemWord q (s.pcOf q)) ((s.eccSeen ecc).wake q (s.imemWord q (s.pcOf q)) second)
    split <;> simp_all
  · simp
/-! ## DspRows -/

@[simp] theorem State.thenNext_kept (q : Nat) (f : State → State) (s : State) :
    DspEnd.Kept s (State.thenNext q f s) ↔ (((f s)).fuse = s.fuse ∧ ((f s)).st = s.st ∧ ((f s)).evf.cnt = s.evf.cnt ∧ ((f s)).regs.guard = s.regs.guard) := Iff.rfl
@[simp] theorem State.aluOp_kept (q : Nat) (f : Nat → Nat → Nat) (w : Nat) (s : State) :
    DspEnd.Kept s (State.aluOp q f w s) := by simp [State.aluOp]
@[simp] theorem State.setHalves_keeps (s : State) (q d : Nat) (re im : Nat × Bool) :
    (State.setHalves s q d re im).fuse = s.fuse ∧ (State.setHalves s q d re im).st = s.st ∧
    (State.setHalves s q d re im).evf.cnt = s.evf.cnt ∧ (State.setHalves s q d re im).regs.guard = s.regs.guard := by
  simp [State.setHalves]
@[simp] theorem State.cadd_kept (q : Nat) (f : Int → Int → Int) (w : Nat) (s : State) :
    DspEnd.Kept s (State.cadd q f w s) := by simp [State.cadd]
@[simp] theorem State.accPut_keeps (s : State) (q i : Nat) (v : Int) :
    (State.accPut s q i v).fuse = s.fuse ∧ (State.accPut s q i v).st = s.st ∧ (State.accPut s q i v).evf.cnt = s.evf.cnt ∧
    (State.accPut s q i v).regs.guard = s.regs.guard := by
  simp [State.accPut]
@[simp] theorem State.macPair_keeps (s : State) (q a x y : Nat) (conj add : Bool) :
    (State.macPair s q a x y conj add).fuse = s.fuse ∧ (State.macPair s q a x y conj add).st = s.st ∧
    (State.macPair s q a x y conj add).evf.cnt = s.evf.cnt ∧ (State.macPair s q a x y conj add).regs.guard = s.regs.guard := by
  simp [State.macPair]
@[simp] theorem State.cmulOp_kept (q : Nat) (add : Bool) (w : Nat) (s : State) :
    DspEnd.Kept s (State.cmulOp q add w s) := by simp [State.cmulOp]
@[simp] theorem State.cmul2Op_kept (q : Nat) (add : Bool) (w : Nat) (s : State) :
    DspEnd.Kept s (State.cmul2Op q add w s) := by simp [State.cmul2Op]
@[simp] theorem State.loadOp_kept (q n : Nat) (w : Nat) (s : State) :
    DspEnd.Kept s (State.loadOp q n w s) := by
  unfold State.loadOp
  split
  · simp
  · have h := State.dspLoad_keeps ‹_›
    split <;> simp_all
@[simp] theorem State.storeOp_kept (q n : Nat) (w : Nat) (s : State) :
    DspEnd.Kept s (State.storeOp q n w s) := by
  unfold State.storeOp
  simp only []
  split
  · simp
  split
  · simp
  · have h := State.dspStore_keeps ‹_›
    simp_all
@[simp] theorem State.bexpOp_kept (q : Nat) (w : Nat) (s : State) :
    DspEnd.Kept s (State.bexpOp q w s) := by
  unfold State.bexpOp
  split
  · simp
  · have h := State.dspLoad_keeps ‹_›
    simp_all
@[simp] theorem State.branchOp_kept (q : Nat) (c : Nat → Bool) (w : Nat) (s : State) :
    DspEnd.Kept s (State.branchOp q c w s) := by simp [State.branchOp]
@[simp] theorem State.dbnzOp_kept (q : Nat) (w : Nat) (s : State) :
    DspEnd.Kept s (State.dbnzOp q w s) := by simp [State.dbnzOp]
@[simp] theorem State.repeatOp_kept (q : Nat) (w : Nat) (s : State) :
    DspEnd.Kept s (State.repeatOp q w s) := by unfold State.repeatOp; simp only []; split <;> (try split) <;> simp
@[simp] theorem State.waitiOp_kept (q : Nat) (s : State) : DspEnd.Kept s (State.waitiOp q s) := by simp [State.waitiOp]
@[simp] theorem State.retiOp_kept (q : Nat) (s : State) : DspEnd.Kept s (State.retiOp q s) := by simp [State.retiOp]
@[simp] theorem State.interruptEntry_keeps (s : State) (q : Nat) (second : Bool) :
    (State.interruptEntry s q second).fuse = s.fuse ∧ (State.interruptEntry s q second).st = s.st ∧
    (State.interruptEntry s q second).evf.cnt = s.evf.cnt ∧ (State.interruptEntry s q second).regs.guard = s.regs.guard := by
  unfold State.interruptEntry; simp only []; (repeat' split) <;> simp
@[simp] theorem State.coreReset_keeps (s : State) (q : Nat) :
    (State.coreReset s q).fuse = s.fuse ∧ (State.coreReset s q).st = s.st ∧ (State.coreReset s q).evf.cnt = s.evf.cnt ∧
    (State.coreReset s q).regs.guard = s.regs.guard := by
  simp [State.coreReset]
@[simp] theorem State.coreStart_keeps (s : State) (q entry : Nat) :
    (State.coreStart s q entry).fuse = s.fuse ∧ (State.coreStart s q entry).st = s.st ∧
    (State.coreStart s q entry).evf.cnt = s.evf.cnt ∧ (State.coreStart s q entry).regs.guard = s.regs.guard := by
  simp [State.coreStart]

/-! ## AcqRows -/

@[simp] theorem State.acqBegin_keeps (s : State) (u : Nat) :
    (State.acqBegin s u).fuse = s.fuse ∧ (State.acqBegin s u).st = s.st ∧ (State.acqBegin s u).evf.cnt = s.evf.cnt ∧
    (State.acqBegin s u).regs.guard = s.regs.guard := by
  simp [State.acqBegin]
@[simp] theorem State.acqRdPtr_keeps (s : State) (u v : Nat) :
    (State.acqRdPtr s u v).fuse = s.fuse ∧ (State.acqRdPtr s u v).st = s.st ∧ (State.acqRdPtr s u v).evf.cnt = s.evf.cnt ∧
    (State.acqRdPtr s u v).regs.guard = s.regs.guard := by
  simp [State.acqRdPtr]
@[simp] theorem State.acqRecordCommit_keeps (s : State) (u : Nat) :
    (State.acqRecordCommit s u).fuse = s.fuse ∧ (State.acqRecordCommit s u).st = s.st ∧
    (State.acqRecordCommit s u).evf.cnt = s.evf.cnt ∧ (State.acqRecordCommit s u).regs.guard = s.regs.guard := by
  unfold State.acqRecordCommit; simp only []; (repeat' split) <;> simp
@[simp] theorem State.acqOverflowRow_keeps (s : State) (u : Nat) (bandwidth : Bool) :
    (State.acqOverflowRow s u bandwidth).fuse = s.fuse ∧ (State.acqOverflowRow s u bandwidth).st = s.st ∧
    (State.acqOverflowRow s u bandwidth).evf.cnt = s.evf.cnt ∧
    (State.acqOverflowRow s u bandwidth).regs.guard = s.regs.guard := by
  unfold State.acqOverflowRow; refine ⟨?_, ?_, ?_, ?_⟩ <;> 
    (repeat' (first | (simp; done) | split | rw [forEach_fuse] | rw [when_fuse] | rw [forEach_st] | rw [when_st] | rw [forEach_evfcnt] | rw [when_evfcnt] | rw [forEach_guard] | rw [when_guard] | intro _ | simp))
@[simp] theorem State.acqLengthDone_keeps (s : State) (u : Nat) :
    (State.acqLengthDone s u).fuse = s.fuse ∧ (State.acqLengthDone s u).st = s.st ∧
    (State.acqLengthDone s u).evf.cnt = s.evf.cnt ∧ (State.acqLengthDone s u).regs.guard = s.regs.guard := by
  simp [State.acqLengthDone]

@[simp] theorem State.acqService_keeps (s : State) :
    (State.acqService s).fuse = s.fuse ∧ (State.acqService s).st = s.st ∧ (State.acqService s).evf.cnt = s.evf.cnt ∧
    (State.acqService s).regs.guard = s.regs.guard := by
  simp [State.acqService]
/-! ## MemRows -/

@[simp] theorem State.clearGroup_keeps (s : State) (g : Nat) :
    (State.clearGroup s g).fuse = s.fuse ∧ (State.clearGroup s g).st = s.st ∧ (State.clearGroup s g).evf.cnt = s.evf.cnt ∧
    (State.clearGroup s g).regs.guard = s.regs.guard := by
  simp [State.clearGroup]
@[simp] theorem State.freeBanks_keeps (s : State) (g : Nat) (hit : Nat → Bool) :
    (State.freeBanks s g hit).fuse = s.fuse ∧ (State.freeBanks s g hit).st = s.st ∧
    (State.freeBanks s g hit).evf.cnt = s.evf.cnt ∧ (State.freeBanks s g hit).regs.guard = s.regs.guard := by
  unfold State.freeBanks; simp only []; (repeat' split) <;> simp
@[simp] theorem State.freeGroup_keeps (s : State) (g : Nat) :
    (State.freeGroup s g).fuse = s.fuse ∧ (State.freeGroup s g).st = s.st ∧ (State.freeGroup s g).evf.cnt = s.evf.cnt ∧
    (State.freeGroup s g).regs.guard = s.regs.guard := by
  simp [State.freeGroup]
@[simp] theorem State.freeFailed_keeps (s : State) (g : Nat) :
    (State.freeFailed s g).fuse = s.fuse ∧ (State.freeFailed s g).st = s.st ∧ (State.freeFailed s g).evf.cnt = s.evf.cnt ∧
    (State.freeFailed s g).regs.guard = s.regs.guard := by
  simp [State.freeFailed]
@[simp] theorem State.zeroBanks_keeps (s : State) (g : Nat) :
    (State.zeroBanks s g).fuse = s.fuse ∧ (State.zeroBanks s g).st = s.st ∧ (State.zeroBanks s g).evf.cnt = s.evf.cnt ∧
    (State.zeroBanks s g).regs.guard = s.regs.guard := by
  unfold State.zeroBanks; simp only []; (repeat' split) <;> simp
@[simp] theorem State.setBankBusy_keeps (s : State) (g : Nat) (b : Bool) :
    (State.setBankBusy s g b).fuse = s.fuse ∧ (State.setBankBusy s g b).st = s.st ∧
    (State.setBankBusy s g b).evf.cnt = s.evf.cnt ∧ (State.setBankBusy s g b).regs.guard = s.regs.guard := by
  simp [State.setBankBusy]
@[simp] theorem State.memPowerDone_keeps (s : State) (g : Nat) :
    (State.memPowerDone s g).fuse = s.fuse ∧ (State.memPowerDone s g).st = s.st ∧ (State.memPowerDone s g).evf.cnt = s.evf.cnt ∧
    (State.memPowerDone s g).regs.guard = s.regs.guard := by
  unfold State.memPowerDone; simp only []; (repeat' split) <;> simp
@[simp] theorem State.memTestComplete_keeps (s : State) (g : Nat) (fail : Option Nat) :
    (State.memTestComplete s g fail).fuse = s.fuse ∧ (State.memTestComplete s g fail).st = s.st ∧
    (State.memTestComplete s g fail).evf.cnt = s.evf.cnt ∧ (State.memTestComplete s g fail).regs.guard = s.regs.guard := by
  unfold State.memTestComplete; simp only []; (repeat' split) <;> simp
@[simp] theorem State.cutLongs_keeps (s : State) (status : Nat) :
    (State.cutLongs s status).fuse = s.fuse ∧ (State.cutLongs s status).st = s.st ∧
    (State.cutLongs s status).evf.cnt = s.evf.cnt ∧ (State.cutLongs s status).regs.guard = s.regs.guard := by
  simp [State.cutLongs]
@[simp] theorem State.scrubLine_keeps (s : State) (ecc : Ecc) :
    (State.scrubLine s ecc).fuse = s.fuse ∧ (State.scrubLine s ecc).st = s.st ∧ (State.scrubLine s ecc).evf.cnt = s.evf.cnt ∧
    (State.scrubLine s ecc).regs.guard = s.regs.guard := by
  unfold State.scrubLine; simp only []; (repeat' split) <;> simp
@[simp] theorem State.bar2Write_keeps (k : Nat) (s : State) (a : Nat) (b : List Byte) :
    ((State.bar2Write s a b k)).fuse = s.fuse ∧ ((State.bar2Write s a b k)).st = s.st ∧ ((State.bar2Write s a b k)).evf.cnt = s.evf.cnt ∧ ((State.bar2Write s a b k)).regs.guard = s.regs.guard := by
  induction k generalizing s a b with
  | zero => simp [State.bar2Write]
  | succ n ih => simp only [State.bar2Write]; refine ⟨?_, ?_, ?_, ?_⟩ <;> (repeat' split) <;> simp [ih]
@[simp] theorem State.bar2Read_keeps (k : Nat) (s : State) (a n : Nat) :
    ((State.bar2Read s a n k).2.2).fuse = s.fuse ∧ ((State.bar2Read s a n k).2.2).st = s.st ∧ ((State.bar2Read s a n k).2.2).evf.cnt = s.evf.cnt ∧ ((State.bar2Read s a n k).2.2).regs.guard = s.regs.guard := by
  induction k generalizing s a n with
  | zero => simp [State.bar2Read]
  | succ m ih => simp only [State.bar2Read]; refine ⟨?_, ?_, ?_, ?_⟩ <;> (repeat' split) <;> simp [ih]

@[simp] theorem State.aerNote_keeps (s : State) (b : Nat) :
    (State.aerNote s b).fuse = s.fuse ∧ (State.aerNote s b).st = s.st ∧ (State.aerNote s b).evf.cnt = s.evf.cnt ∧
    (State.aerNote s b).regs.guard = s.regs.guard := by
  simp [State.aerNote]
/-! ## DmaRows -/

@[simp] theorem State.setDma_keeps (s : State) (i : Nat) (x : DmaChan) :
    (State.setDma s i x).fuse = s.fuse ∧ (State.setDma s i x).st = s.st ∧ (State.setDma s i x).evf.cnt = s.evf.cnt ∧
    (State.setDma s i x).regs.guard = s.regs.guard := by
  simp [State.setDma]
@[simp] theorem State.updDma_keeps (s : State) (i : Nat) (f : DmaChan → DmaChan) :
    (State.updDma s i f).fuse = s.fuse ∧ (State.updDma s i f).st = s.st ∧ (State.updDma s i f).evf.cnt = s.evf.cnt ∧
    (State.updDma s i f).regs.guard = s.regs.guard := by
  simp [State.updDma]
@[simp] theorem State.bucketTake_keeps (s : State) (i n : Nat) :
    (State.bucketTake s i n).fuse = s.fuse ∧ (State.bucketTake s i n).st = s.st ∧ (State.bucketTake s i n).evf.cnt = s.evf.cnt ∧
    (State.bucketTake s i n).regs.guard = s.regs.guard := by
  simp [State.bucketTake]
@[simp] theorem State.bucketRate_keeps (s : State) (i v : Nat) :
    (State.bucketRate s i v).fuse = s.fuse ∧ (State.bucketRate s i v).st = s.st ∧
    (State.bucketRate s i v).evf.cnt = s.evf.cnt ∧ (State.bucketRate s i v).regs.guard = s.regs.guard := by
  simp [State.bucketRate]
@[simp] theorem State.dmaHalt_keeps (s : State) (i : Nat) :
    (State.dmaHalt s i).fuse = s.fuse ∧ (State.dmaHalt s i).st = s.st ∧ (State.dmaHalt s i).evf.cnt = s.evf.cnt ∧
    (State.dmaHalt s i).regs.guard = s.regs.guard := by
  simp [State.dmaHalt]
@[simp] theorem State.dmaStop_keeps (s : State) (i : Nat) :
    (State.dmaStop s i).fuse = s.fuse ∧ (State.dmaStop s i).st = s.st ∧ (State.dmaStop s i).evf.cnt = s.evf.cnt ∧
    (State.dmaStop s i).regs.guard = s.regs.guard := by
  simp [State.dmaStop]
@[simp] theorem State.dmaTail_keeps (s : State) (i v : Nat) :
    (State.dmaTail s i v).fuse = s.fuse ∧ (State.dmaTail s i v).st = s.st ∧ (State.dmaTail s i v).evf.cnt = s.evf.cnt ∧
    (State.dmaTail s i v).regs.guard = s.regs.guard := by
  simp [State.dmaTail]
@[simp] theorem State.dmaRunSet_keeps (s : State) (i v : Nat) :
    (State.dmaRunSet s i v).fuse = s.fuse ∧ (State.dmaRunSet s i v).st = s.st ∧ (State.dmaRunSet s i v).evf.cnt = s.evf.cnt ∧
    (State.dmaRunSet s i v).regs.guard = s.regs.guard := by
  simp [State.dmaRunSet]
@[simp] theorem State.dmaRunClear_keeps (s : State) (i v : Nat) :
    (State.dmaRunClear s i v).fuse = s.fuse ∧ (State.dmaRunClear s i v).st = s.st ∧
    (State.dmaRunClear s i v).evf.cnt = s.evf.cnt ∧ (State.dmaRunClear s i v).regs.guard = s.regs.guard := by
  simp [State.dmaRunClear]
@[simp] theorem State.dmaFetchFail_keeps (s : State) (g kind : Nat) :
    (State.dmaFetchFail s g kind).fuse = s.fuse ∧ (State.dmaFetchFail s g kind).st = s.st ∧
    (State.dmaFetchFail s g kind).evf.cnt = s.evf.cnt ∧ (State.dmaFetchFail s g kind).regs.guard = s.regs.guard := by
  simp [State.dmaFetchFail]
@[simp] theorem State.dmaStart_keeps (s : State) (i : Nat) (w : List Word) :
    (State.dmaStart s i w).fuse = s.fuse ∧ (State.dmaStart s i w).st = s.st ∧ (State.dmaStart s i w).evf.cnt = s.evf.cnt ∧
    (State.dmaStart s i w).regs.guard = s.regs.guard := by
  simp [State.dmaStart]
@[simp] theorem State.dmaErr_keeps (s : State) (i kind : Nat) (write dev : Bool) (addr : Nat) :
    (State.dmaErr s i kind write dev addr).fuse = s.fuse ∧ (State.dmaErr s i kind write dev addr).st = s.st ∧
    (State.dmaErr s i kind write dev addr).evf.cnt = s.evf.cnt ∧
    (State.dmaErr s i kind write dev addr).regs.guard = s.regs.guard := by
  simp [State.dmaErr]
@[simp] theorem State.dmaGain_keeps (s : State) (i n : Nat) :
    (State.dmaGain s i n).fuse = s.fuse ∧ (State.dmaGain s i n).st = s.st ∧ (State.dmaGain s i n).evf.cnt = s.evf.cnt ∧
    (State.dmaGain s i n).regs.guard = s.regs.guard := by
  simp [State.dmaGain]
@[simp] theorem State.dmaWrite_keeps (i k : Nat) (s : State) (a : Nat) (b : List Byte) :
    ((State.dmaWrite s i a b k)).fuse = s.fuse ∧ ((State.dmaWrite s i a b k)).st = s.st ∧ ((State.dmaWrite s i a b k)).evf.cnt = s.evf.cnt ∧ ((State.dmaWrite s i a b k)).regs.guard = s.regs.guard := by
  induction k generalizing s a b with
  | zero => simp [State.dmaWrite]
  | succ n ih => simp only [State.dmaWrite]; refine ⟨?_, ?_, ?_, ?_⟩ <;> (repeat' split) <;> simp [ih]
@[simp] theorem State.dmaCompare_keeps (s : State) (i off : Nat) (p q : List Byte) :
    ((State.dmaCompare s i off p q)).fuse = s.fuse ∧ ((State.dmaCompare s i off p q)).st = s.st ∧ ((State.dmaCompare s i off p q)).evf.cnt = s.evf.cnt ∧ ((State.dmaCompare s i off p q)).regs.guard = s.regs.guard := by
  simp [State.dmaCompare]
@[simp] theorem State.dmaMatch_keeps (i : Nat) (d : DmaDesc) (k off a : Nat) (b : List Byte) (s : State) :
    (State.dmaMatch s i d off a b k).fuse = s.fuse ∧ (State.dmaMatch s i d off a b k).st = s.st ∧
    (State.dmaMatch s i d off a b k).evf.cnt = s.evf.cnt ∧
    (State.dmaMatch s i d off a b k).regs.guard = s.regs.guard := by
  induction k generalizing s off a b with
  | zero => simp [State.dmaMatch]
  | succ n ih => simp only [State.dmaMatch]; refine ⟨?_, ?_, ?_, ?_⟩ <;> (repeat' split) <;> simp [ih]
@[simp] theorem State.dmaArrive_keeps (s : State) (i : Nat) (d : DmaDesc) (r : DmaReq) (b : List Byte) :
    (State.dmaArrive s i d r b).fuse = s.fuse ∧ (State.dmaArrive s i d r b).st = s.st ∧
    (State.dmaArrive s i d r b).evf.cnt = s.evf.cnt ∧
    (State.dmaArrive s i d r b).regs.guard = s.regs.guard := by
  simp only [State.dmaArrive]; split <;> simp
@[simp] theorem State.dmaDrain_keeps (i k : Nat) (s : State) :
    ((State.dmaDrain s i k)).fuse = s.fuse ∧ ((State.dmaDrain s i k)).st = s.st ∧ ((State.dmaDrain s i k)).evf.cnt = s.evf.cnt ∧ ((State.dmaDrain s i k)).regs.guard = s.regs.guard := by
  induction k generalizing s with
  | zero => simp [State.dmaDrain]
  | succ n ih => simp only [State.dmaDrain]; refine ⟨?_, ?_, ?_, ?_⟩ <;> (repeat' split) <;> simp [ih]
@[simp] theorem State.dmaReply_keeps (s : State) (i off kind : Nat) (data : Option (List Byte)) :
    ((State.dmaReply s i off kind data)).fuse = s.fuse ∧ ((State.dmaReply s i off kind data)).st = s.st ∧ ((State.dmaReply s i off kind data)).evf.cnt = s.evf.cnt ∧ ((State.dmaReply s i off kind data)).regs.guard = s.regs.guard := by
  unfold State.dmaReply; simp only []; refine ⟨?_, ?_, ?_, ?_⟩ <;> (repeat' split) <;> simp
@[simp] theorem State.dmaIssue_keeps (s : State) (i : Nat) (ecc : Ecc) :
    (State.dmaIssue s i ecc).fuse = s.fuse ∧ (State.dmaIssue s i ecc).st = s.st ∧ (State.dmaIssue s i ecc).evf.cnt = s.evf.cnt ∧
    (State.dmaIssue s i ecc).regs.guard = s.regs.guard := by
  unfold State.dmaIssue; simp only []; (repeat' split) <;> simp
@[simp] theorem State.dmaRetire_keeps (s : State) (i : Nat) :
    (State.dmaRetire s i).fuse = s.fuse ∧ (State.dmaRetire s i).st = s.st ∧ (State.dmaRetire s i).evf.cnt = s.evf.cnt ∧
    (State.dmaRetire s i).regs.guard = s.regs.guard := by
  unfold State.dmaRetire; simp only []; (repeat' split) <;> simp
@[simp] theorem State.dmaReset_keeps (s : State) (i : Nat) :
    (State.dmaReset s i).fuse = s.fuse ∧ (State.dmaReset s i).st = s.st ∧ (State.dmaReset s i).evf.cnt = s.evf.cnt ∧
    (State.dmaReset s i).regs.guard = s.regs.guard := by
  simp [State.dmaReset]
@[simp] theorem State.dmaCompletion_keeps (s : State) (i off kind : Nat) (data : Option (List Byte)) :
    (State.dmaCompletion s i off kind data).fuse = s.fuse ∧ (State.dmaCompletion s i off kind data).st = s.st ∧
    (State.dmaCompletion s i off kind data).evf.cnt = s.evf.cnt ∧
    (State.dmaCompletion s i off kind data).regs.guard = s.regs.guard := by
  simp [State.dmaCompletion]
@[simp] theorem State.pcieDown_keeps (s : State) :
    (State.pcieDown s).fuse = s.fuse ∧ (State.pcieDown s).st = s.st ∧ (State.pcieDown s).evf.cnt = s.evf.cnt ∧
    (State.pcieDown s).regs.guard = s.regs.guard := by
  simp [State.pcieDown]
@[simp] theorem State.msixFlush_keeps (s : State) (v : Nat) :
    (State.msixFlush s v).fuse = s.fuse ∧ (State.msixFlush s v).st = s.st ∧ (State.msixFlush s v).evf.cnt = s.evf.cnt ∧
    (State.msixFlush s v).regs.guard = s.regs.guard := by
  simp [State.msixFlush]
@[simp] theorem State.msixUnmask_keeps (s : State) (t : MsixTarget) :
    (State.msixUnmask s t).fuse = s.fuse ∧ (State.msixUnmask s t).st = s.st ∧ (State.msixUnmask s t).evf.cnt = s.evf.cnt ∧
    (State.msixUnmask s t).regs.guard = s.regs.guard := by
  unfold State.msixUnmask; simp only []; (repeat' split) <;> simp
@[simp] theorem State.irqClear_keeps (s : State) (w v : Nat) :
    (State.irqClear s w v).fuse = s.fuse ∧ (State.irqClear s w v).st = s.st ∧ (State.irqClear s w v).evf.cnt = s.evf.cnt ∧
    (State.irqClear s w v).regs.guard = s.regs.guard := by
  simp [State.irqClear]

/-! ## CeRows -/

@[simp] theorem State.ptrErr_keeps (s : State) (q : Nat) :
    (State.ptrErr s q).fuse = s.fuse ∧ (State.ptrErr s q).st = s.st ∧ (State.ptrErr s q).evf.cnt = s.evf.cnt ∧
    (State.ptrErr s q).regs.guard = s.regs.guard := by
  simp [State.ptrErr]
@[simp] theorem State.cmdTail_keeps (s : State) (q v : Nat) :
    (State.cmdTail s q v).fuse = s.fuse ∧ (State.cmdTail s q v).st = s.st ∧ (State.cmdTail s q v).evf.cnt = s.evf.cnt ∧
    (State.cmdTail s q v).regs.guard = s.regs.guard := by
  simp [State.cmdTail]
@[simp] theorem State.rplHead_keeps (s : State) (q v : Nat) :
    (State.rplHead s q v).fuse = s.fuse ∧ (State.rplHead s q v).st = s.st ∧ (State.rplHead s q v).evf.cnt = s.evf.cnt ∧
    (State.rplHead s q v).regs.guard = s.regs.guard := by
  simp [State.rplHead]
@[simp] theorem State.qpEnable_keeps (s : State) (q : Nat) :
    (State.qpEnable s q).fuse = s.fuse ∧ (State.qpEnable s q).st = s.st ∧ (State.qpEnable s q).evf.cnt = s.evf.cnt ∧
    (State.qpEnable s q).regs.guard = s.regs.guard := by
  simp [State.qpEnable]
@[simp] theorem State.qpDisable_keeps (s : State) (q : Nat) :
    (State.qpDisable s q).fuse = s.fuse ∧ (State.qpDisable s q).st = s.st ∧ (State.qpDisable s q).evf.cnt = s.evf.cnt ∧
    (State.qpDisable s q).regs.guard = s.regs.guard := by
  simp [State.qpDisable]
@[simp] theorem State.loadPatch_keeps (s : State) (valid : Bool) :
    (State.loadPatch s valid).fuse = s.fuse ∧ (State.loadPatch s valid).st = s.st ∧
    (State.loadPatch s valid).evf.cnt = s.evf.cnt ∧ (State.loadPatch s valid).regs.guard = s.regs.guard := by
  unfold State.loadPatch; refine ⟨?_, ?_, ?_, ?_⟩ <;> 
    (repeat' (first | (simp; done) | split | rw [forEach_fuse] | rw [when_fuse] | rw [forEach_st] | rw [when_st] | rw [forEach_evfcnt] | rw [when_evfcnt] | rw [forEach_guard] | rw [when_guard] | intro _ | simp))
@[simp] theorem State.ceBack_keeps (s : State) :
    (State.ceBack s).fuse = s.fuse ∧ (State.ceBack s).st = s.st ∧ (State.ceBack s).evf.cnt = s.evf.cnt ∧
    (State.ceBack s).regs.guard = s.regs.guard := by
  unfold State.ceBack; simp only []; (repeat' split) <;> simp
@[simp] theorem State.internalAnswer_keeps (s : State) (c : HostCmd) :
    (State.internalAnswer s c).fuse = s.fuse ∧ (State.internalAnswer s c).st = s.st ∧
    (State.internalAnswer s c).evf.cnt = s.evf.cnt ∧ (State.internalAnswer s c).regs.guard = s.regs.guard := by
  simp [State.internalAnswer]

/-! ## Security -/

@[simp] theorem State.wipe_keeps (s : State) (reload : Bool) :
    (State.wipe s reload).fuse = s.fuse ∧ (State.wipe s reload).st = s.st ∧ (State.wipe s reload).evf.cnt = s.evf.cnt ∧
    (State.wipe s reload).regs.guard = s.regs.guard := by
  simp [State.wipe]
@[simp] theorem State.wipeDone_keeps (s : State) :
    (State.wipeDone s).fuse = s.fuse ∧ (State.wipeDone s).st = s.st ∧ (State.wipeDone s).evf.cnt = s.evf.cnt ∧
    (State.wipeDone s).regs.guard = s.regs.guard := by
  simp [State.wipeDone]
@[simp] theorem State.tamper_keeps (s : State) (cause : Nat) :
    (State.tamper s cause).fuse = s.fuse ∧ (State.tamper s cause).st = s.st ∧ (State.tamper s cause).evf.cnt = s.evf.cnt ∧
    (State.tamper s cause).regs.guard = s.regs.guard := by
  unfold State.tamper; simp only []; (repeat' split) <;> simp
@[simp] theorem State.sign_keeps (s : State) (b : List Byte) :
    (State.sign s b).2.fuse = s.fuse ∧ (State.sign s b).2.st = s.st ∧ (State.sign s b).2.evf.cnt = s.evf.cnt ∧
    (State.sign s b).2.regs.guard = s.regs.guard := by
  simp [State.sign]
@[simp] theorem State.attestDone_keeps (s : State) :
    (State.attestDone s).fuse = s.fuse ∧ (State.attestDone s).st = s.st ∧ (State.attestDone s).evf.cnt = s.evf.cnt ∧
    (State.attestDone s).regs.guard = s.regs.guard := by
  unfold State.attestDone; split <;> simp
@[simp] theorem State.raiseWrite_keeps (s : State) (b : List Byte) (i : Nat) :
    (State.raiseWrite s b i).fuse = s.fuse ∧ (State.raiseWrite s b i).st = s.st ∧
    (State.raiseWrite s b i).evf.cnt = s.evf.cnt := by
  unfold State.raiseWrite; simp only []; (repeat' split) <;> simp
@[simp] theorem State.raiseDone_keeps (s : State) :
    (State.raiseDone s).fuse = s.fuse ∧ (State.raiseDone s).st = s.st ∧ (State.raiseDone s).evf.cnt = s.evf.cnt := by
  unfold State.raiseDone; simp only []; (repeat' split) <;> simp
@[simp] theorem State.lcDone_keeps (s : State) :
    (State.lcDone s).st = s.st ∧ (State.lcDone s).evf.cnt = s.evf.cnt ∧ (State.lcDone s).regs.guard = s.regs.guard := by
  unfold State.lcDone; simp only []; (repeat' split) <;> simp
@[simp] theorem State.keyCut_keeps (s : State) :
    (State.keyCut s).fuse = s.fuse ∧ (State.keyCut s).st = s.st ∧ (State.keyCut s).evf.cnt = s.evf.cnt ∧
    (State.keyCut s).regs.guard = s.regs.guard := by
  unfold State.keyCut; simp only []; (repeat' split) <;> simp
@[simp] theorem State.patchCut_keeps (s : State) :
    (State.patchCut s).fuse = s.fuse ∧ (State.patchCut s).st = s.st ∧ (State.patchCut s).evf.cnt = s.evf.cnt ∧
    (State.patchCut s).regs.guard = s.regs.guard := by
  unfold State.patchCut; simp only []; (repeat' split) <;> simp
@[simp] theorem State.patchDone_keeps (s : State) :
    (State.patchDone s).st = s.st ∧ (State.patchDone s).evf.cnt = s.evf.cnt ∧ (State.patchDone s).regs.guard = s.regs.guard := by
  unfold State.patchDone; simp only []; (repeat' split) <;> simp

/-! ## Calib -/

@[simp] theorem State.calDue_keeps (s : State) (kind idx : Nat) :
    (State.calDue s kind idx).fuse = s.fuse ∧ (State.calDue s kind idx).st = s.st ∧
    (State.calDue s kind idx).evf.cnt = s.evf.cnt ∧ (State.calDue s kind idx).regs.guard = s.regs.guard := by
  simp [State.calDue]
@[simp] theorem State.calDrift_keeps (s : State) :
    (State.calDrift s).fuse = s.fuse ∧ (State.calDrift s).st = s.st ∧ (State.calDrift s).evf.cnt = s.evf.cnt ∧
    (State.calDrift s).regs.guard = s.regs.guard := by
  simp [State.calDrift]
@[simp] theorem State.calStart_keeps (s : State) (kind idx : Nat) :
    (State.calStart s kind idx).fuse = s.fuse ∧ (State.calStart s kind idx).st = s.st ∧
    (State.calStart s kind idx).evf.cnt = s.evf.cnt ∧ (State.calStart s kind idx).regs.guard = s.regs.guard := by
  simp [State.calStart]
@[simp] theorem State.calReturn_keeps (s : State) (kind idx : Nat) :
    (State.calReturn s kind idx).fuse = s.fuse ∧ (State.calReturn s kind idx).st = s.st ∧
    (State.calReturn s kind idx).evf.cnt = s.evf.cnt ∧ (State.calReturn s kind idx).regs.guard = s.regs.guard := by
  simp [State.calReturn]
@[simp] theorem State.calGiveUp_keeps (s : State) (kind idx : Nat) :
    (State.calGiveUp s kind idx).fuse = s.fuse ∧ (State.calGiveUp s kind idx).st = s.st ∧
    (State.calGiveUp s kind idx).evf.cnt = s.evf.cnt ∧ (State.calGiveUp s kind idx).regs.guard = s.regs.guard := by
  simp [State.calGiveUp]
@[simp] theorem State.calAbandonAll_keeps (s : State) :
    (State.calAbandonAll s).fuse = s.fuse ∧ (State.calAbandonAll s).st = s.st ∧ (State.calAbandonAll s).evf.cnt = s.evf.cnt ∧
    (State.calAbandonAll s).regs.guard = s.regs.guard := by
  simp [State.calAbandonAll]
@[simp] theorem State.calTrim_keeps (s : State) (kind idx : Nat) (trims : List Word) :
    (State.calTrim s kind idx trims).fuse = s.fuse ∧ (State.calTrim s kind idx trims).st = s.st ∧
    (State.calTrim s kind idx trims).evf.cnt = s.evf.cnt ∧ (State.calTrim s kind idx trims).regs.guard = s.regs.guard := by
  simp [State.calTrim]
@[simp] theorem State.calDone_keeps (s : State) (kind idx : Nat) (trims : List Word) :
    (State.calDone s kind idx trims).fuse = s.fuse ∧ (State.calDone s kind idx trims).st = s.st ∧
    (State.calDone s kind idx trims).evf.cnt = s.evf.cnt ∧ (State.calDone s kind idx trims).regs.guard = s.regs.guard := by
  simp [State.calDone]
@[simp] theorem State.calEnd_keeps (s : State) (kind idx : Nat) (trims : List Word) :
    (State.calEnd s kind idx trims).fuse = s.fuse ∧ (State.calEnd s kind idx trims).st = s.st ∧
    (State.calEnd s kind idx trims).evf.cnt = s.evf.cnt ∧ (State.calEnd s kind idx trims).regs.guard = s.regs.guard := by
  unfold State.calEnd; simp only []; (repeat' split) <;> simp
@[simp] theorem State.calLate_keeps (s : State) (kind idx : Nat) :
    (State.calLate s kind idx).fuse = s.fuse ∧ (State.calLate s kind idx).st = s.st ∧
    (State.calLate s kind idx).evf.cnt = s.evf.cnt ∧ (State.calLate s kind idx).regs.guard = s.regs.guard := by
  simp [State.calLate]
@[simp] theorem State.calMark_keeps (s : State) (mask : Nat) :
    (State.calMark s mask).fuse = s.fuse ∧ (State.calMark s mask).st = s.st ∧ (State.calMark s mask).evf.cnt = s.evf.cnt ∧
    (State.calMark s mask).regs.guard = s.regs.guard := by
  simp [State.calMark]
@[simp] theorem State.calRunEnd_keeps (s : State) :
    (State.calRunEnd s).fuse = s.fuse ∧ (State.calRunEnd s).st = s.st ∧ (State.calRunEnd s).evf.cnt = s.evf.cnt ∧
    (State.calRunEnd s).regs.guard = s.regs.guard := by
  unfold State.calRunEnd; simp only []; (repeat' split) <;> simp
@[simp] theorem State.nvmBegin_keeps (s : State) (auto : Bool) :
    (State.nvmBegin s auto).fuse = s.fuse ∧ (State.nvmBegin s auto).st = s.st ∧ (State.nvmBegin s auto).evf.cnt = s.evf.cnt ∧
    (State.nvmBegin s auto).regs.guard = s.regs.guard := by
  simp [State.nvmBegin]
@[simp] theorem State.nvmEnd_keeps (s : State) :
    (State.nvmEnd s).1.fuse = s.fuse ∧ (State.nvmEnd s).1.st = s.st ∧ (State.nvmEnd s).1.evf.cnt = s.evf.cnt ∧
    (State.nvmEnd s).1.regs.guard = s.regs.guard := by
  unfold State.nvmEnd; simp only []; (repeat' split) <;> simp
@[simp] theorem State.saveEnd_keeps (s : State) :
    (State.saveEnd s).fuse = s.fuse ∧ (State.saveEnd s).st = s.st ∧ (State.saveEnd s).evf.cnt = s.evf.cnt ∧
    (State.saveEnd s).regs.guard = s.regs.guard := by
  unfold State.saveEnd; simp only []; (repeat' split) <;> simp
@[simp] theorem State.autosave_keeps (s : State) :
    (State.autosave s).fuse = s.fuse ∧ (State.autosave s).st = s.st ∧ (State.autosave s).evf.cnt = s.evf.cnt ∧
    (State.autosave s).regs.guard = s.regs.guard := by
  simp [State.autosave]
@[simp] theorem State.hkEnd_keeps (s : State) (code : BitVec 16) :
    (State.hkEnd s code).fuse = s.fuse ∧ (State.hkEnd s code).st = s.st ∧ (State.hkEnd s code).evf.cnt = s.evf.cnt ∧
    (State.hkEnd s code).regs.guard = s.regs.guard := by
  unfold State.hkEnd; simp only []; (repeat' split) <;> simp
@[simp] theorem State.hkDrop_keeps (s : State) (why : Nat) :
    (State.hkDrop s why).fuse = s.fuse ∧ (State.hkDrop s why).st = s.st ∧ (State.hkDrop s why).evf.cnt = s.evf.cnt ∧
    (State.hkDrop s why).regs.guard = s.regs.guard := by
  simp [State.hkDrop]
@[simp] theorem State.hkRequest_keeps (s : State) (input : Nat) :
    (State.hkRequest s input).fuse = s.fuse ∧ (State.hkRequest s input).st = s.st ∧
    (State.hkRequest s input).evf.cnt = s.evf.cnt ∧ (State.hkRequest s input).regs.guard = s.regs.guard := by
  simp [State.hkRequest]

/-! ## EventRows -/

@[simp] theorem State.setDrive_keeps (s : State) (p ch : Nat) (on : Bool) :
    (State.setDrive s p ch on).fuse = s.fuse ∧ (State.setDrive s p ch on).st = s.st ∧
    (State.setDrive s p ch on).evf.cnt = s.evf.cnt ∧ (State.setDrive s p ch on).regs.guard = s.regs.guard := by
  simp [State.setDrive]
@[simp] theorem State.commitRoutes_keeps (s : State) :
    (State.commitRoutes s).fuse = s.fuse ∧ (State.commitRoutes s).st = s.st ∧ (State.commitRoutes s).evf.cnt = s.evf.cnt ∧
    (State.commitRoutes s).regs.guard = s.regs.guard := by
  unfold State.commitRoutes; refine ⟨?_, ?_, ?_, ?_⟩ <;> 
    (repeat' (first | (simp; done) | split | rw [forEach_fuse] | rw [when_fuse] | rw [forEach_st] | rw [when_st] | rw [forEach_evfcnt] | rw [when_evfcnt] | rw [forEach_guard] | rw [when_guard] | intro _ | simp))
@[simp] theorem State.debugRoute_keeps (s : State) (map : Bool) (v : Nat) :
    (State.debugRoute s map v).fuse = s.fuse ∧ (State.debugRoute s map v).st = s.st ∧
    (State.debugRoute s map v).evf.cnt = s.evf.cnt ∧ (State.debugRoute s map v).regs.guard = s.regs.guard := by
  simp [State.debugRoute]
@[simp] theorem State.setTimer_keeps (s : State) (k : Nat) (next : Option Nat) (made : Nat) :
    (State.setTimer s k next made).fuse = s.fuse ∧ (State.setTimer s k next made).st = s.st ∧
    (State.setTimer s k next made).evf.cnt = s.evf.cnt ∧ (State.setTimer s k next made).regs.guard = s.regs.guard := by
  simp [State.setTimer]
@[simp] theorem State.timerCtrl_keeps (s : State) (k v : Nat) :
    (State.timerCtrl s k v).fuse = s.fuse ∧ (State.timerCtrl s k v).st = s.st ∧ (State.timerCtrl s k v).evf.cnt = s.evf.cnt ∧
    (State.timerCtrl s k v).regs.guard = s.regs.guard := by
  simp [State.timerCtrl]
@[simp] theorem State.timerFire_keeps (s : State) (k : Nat) :
    (State.timerFire s k).fuse = s.fuse ∧ (State.timerFire s k).st = s.st ∧ (State.timerFire s k).evf.cnt = s.evf.cnt ∧
    (State.timerFire s k).regs.guard = s.regs.guard := by
  unfold State.timerFire; simp only []; (repeat' split) <;> simp

@[simp] theorem State.dropBinding_keeps (s : State) :
    (State.dropBinding s).fuse = s.fuse ∧ (State.dropBinding s).st = s.st ∧ (State.dropBinding s).evf.cnt = s.evf.cnt ∧
    (State.dropBinding s).regs.guard = s.regs.guard := by
  unfold State.dropBinding; simp only []; (repeat' split) <;> simp
/-! ## Shot -/

@[simp] theorem State.dropProgram_keeps (s : State) :
    (State.dropProgram s).fuse = s.fuse ∧ (State.dropProgram s).st = s.st ∧ (State.dropProgram s).evf.cnt = s.evf.cnt ∧
    (State.dropProgram s).regs.guard = s.regs.guard := by
  unfold State.dropProgram; simp only []; (repeat' split) <;> simp
@[simp] theorem State.toIdle_keeps (s : State) :
    (State.toIdle s).fuse = s.fuse ∧ (State.toIdle s).st = s.st ∧ (State.toIdle s).evf.cnt = s.evf.cnt ∧
    (State.toIdle s).regs.guard = s.regs.guard := by
  simp [State.toIdle]
@[simp] theorem State.startTone_keeps (s : State) (r t tick : Nat) :
    (State.startTone s r t tick).fuse = s.fuse ∧ (State.startTone s r t tick).st = s.st ∧
    (State.startTone s r t tick).evf.cnt = s.evf.cnt ∧ (State.startTone s r t tick).regs.guard = s.regs.guard := by
  simp [State.startTone]
@[simp] theorem State.startFetch_keeps (s : State) :
    (State.startFetch s).fuse = s.fuse ∧ (State.startFetch s).st = s.st ∧ (State.startFetch s).evf.cnt = s.evf.cnt ∧
    (State.startFetch s).regs.guard = s.regs.guard := by
  unfold State.startFetch; simp only []; (repeat' split) <;> simp
@[simp] theorem State.abortAtStart_keeps (s : State) :
    (State.abortAtStart s).fuse = s.fuse ∧ (State.abortAtStart s).st = s.st ∧ (State.abortAtStart s).evf.cnt = s.evf.cnt ∧
    (State.abortAtStart s).regs.guard = s.regs.guard := by
  simp [State.abortAtStart]
@[simp] theorem State.startTick_keeps (s : State) :
    (State.startTick s).fuse = s.fuse ∧ (State.startTick s).st = s.st ∧ (State.startTick s).evf.cnt = s.evf.cnt ∧
    (State.startTick s).regs.guard = s.regs.guard := by
  simp [State.startTick]
@[simp] theorem State.schedDecision_keeps (s : State) :
    (State.schedDecision s).fuse = s.fuse ∧ (State.schedDecision s).st = s.st ∧ (State.schedDecision s).evf.cnt = s.evf.cnt ∧
    (State.schedDecision s).regs.guard = s.regs.guard := by
  unfold State.schedDecision; simp only []; (repeat' split) <;> simp
@[simp] theorem State.idleVoice_keeps (s : State) (n v : Nat) :
    (State.idleVoice s n v).fuse = s.fuse ∧ (State.idleVoice s n v).st = s.st ∧ (State.idleVoice s n v).evf.cnt = s.evf.cnt ∧
    (State.idleVoice s n v).regs.guard = s.regs.guard := by
  simp [State.idleVoice]
@[simp] theorem State.closeJournal_keeps (s : State) (cause : Option Nat) (taint : BitVec 8) (length : Nat) :
    (State.closeJournal s cause taint length).fuse = s.fuse ∧ (State.closeJournal s cause taint length).st = s.st ∧
    (State.closeJournal s cause taint length).evf.cnt = s.evf.cnt ∧
    (State.closeJournal s cause taint length).regs.guard = s.regs.guard := by
  simp [State.closeJournal]
@[simp] theorem State.shotEnd_keeps (s : State) :
    (State.shotEnd s).fuse = s.fuse ∧ (State.shotEnd s).st = s.st ∧ (State.shotEnd s).evf.cnt = s.evf.cnt ∧
    (State.shotEnd s).regs.guard = s.regs.guard := by
  simp [State.shotEnd]


end Sys2Proof.Machine
end

