-- ==== Sys2Proof/Laws/KeepDevice.lean ====
section
/-!
SUPPORT. What the power, thermal, link, time and host-access operations and the tick keep of the frame fields.
-/

set_option maxRecDepth 4000
set_option linter.all false

namespace Sys2Proof.Machine

/-! ## Power -/

@[simp] theorem State.saveCut_keeps (s : State) :
    (State.saveCut s).fuse = s.fuse ∧ (State.saveCut s).st = s.st ∧ (State.saveCut s).evf.cnt = s.evf.cnt ∧
    (State.saveCut s).regs.guard = s.regs.guard := by
  unfold State.saveCut; simp only []; (repeat' split) <;> simp
@[simp] theorem State.nvmStop_keeps (s : State) :
    (State.nvmStop s).fuse = s.fuse ∧ (State.nvmStop s).st = s.st ∧ (State.nvmStop s).evf.cnt = s.evf.cnt ∧
    (State.nvmStop s).regs.guard = s.regs.guard := by
  simp [State.nvmStop]
@[simp] theorem State.ceCut_keeps (s : State) :
    (State.ceCut s).fuse = s.fuse ∧ (State.ceCut s).st = s.st ∧ (State.ceCut s).evf.cnt = s.evf.cnt ∧
    (State.ceCut s).regs.guard = s.regs.guard := by
  unfold State.ceCut
  dsimp only
  split <;> simp
@[simp] theorem State.ceRestart_keeps (s : State) :
    (State.ceRestart s).fuse = s.fuse ∧ (State.ceRestart s).st = s.st ∧ (State.ceRestart s).evf.cnt = s.evf.cnt ∧
    (State.ceRestart s).regs.guard = s.regs.guard := by
  simp [State.ceRestart]
@[simp] theorem State.microNext_keeps (s : State) :
    (State.microNext s).fuse = s.fuse ∧ (State.microNext s).st = s.st ∧ (State.microNext s).evf.cnt = s.evf.cnt ∧
    (State.microNext s).regs.guard = s.regs.guard := by
  simp [State.microNext]
@[simp] theorem State.micro_keeps (s : State) (op : MicroOp) :
    (State.micro s op).fuse = s.fuse ∧ (State.micro s op).st = s.st ∧ (State.micro s op).evf.cnt = s.evf.cnt ∧
    (State.micro s op).regs.guard = s.regs.guard := by
  unfold State.micro; simp only []; (repeat' split) <;> simp
@[simp] theorem State.leaveRun_keeps (s : State) (d : Nat) :
    (State.leaveRun s d).fuse = s.fuse ∧ (State.leaveRun s d).st = s.st ∧ (State.leaveRun s d).evf.cnt = s.evf.cnt ∧
    (State.leaveRun s d).regs.guard = s.regs.guard := by
  simp [State.leaveRun]
@[simp] theorem State.toFault_keeps (s : State) :
    (State.toFault s).fuse = s.fuse ∧ (State.toFault s).st = s.st ∧ (State.toFault s).evf.cnt = s.evf.cnt ∧
    (State.toFault s).regs.guard = s.regs.guard := by
  simp [State.toFault]
@[simp] theorem State.protect_keeps (s : State) :
    (State.protect s).fuse = s.fuse ∧ (State.protect s).st = s.st ∧ (State.protect s).evf.cnt = s.evf.cnt ∧
    (State.protect s).regs.guard = s.regs.guard := by
  simp [State.protect]
@[simp] theorem State.setPower_keeps (s : State) (p : Power) :
    (State.setPower s p).fuse = s.fuse ∧ (State.setPower s p).st = s.st ∧ (State.setPower s p).evf.cnt = s.evf.cnt ∧
    (State.setPower s p).regs.guard = s.regs.guard := by
  simp [State.setPower]
@[simp] theorem State.railOn_keeps (s : State) (k : Nat) :
    (State.railOn s k).fuse = s.fuse ∧ (State.railOn s k).st = s.st ∧ (State.railOn s k).evf.cnt = s.evf.cnt ∧
    (State.railOn s k).regs.guard = s.regs.guard := by
  simp [State.railOn]
@[simp] theorem State.seqStart_keeps (s : State) :
    (State.seqStart s).fuse = s.fuse ∧ (State.seqStart s).st = s.st ∧ (State.seqStart s).evf.cnt = s.evf.cnt ∧
    (State.seqStart s).regs.guard = s.regs.guard := by
  simp [State.seqStart]
@[simp] theorem State.railsDown_keeps (s : State) (c : Nat) :
    (State.railsDown s c).fuse = s.fuse ∧ (State.railsDown s c).st = s.st ∧ (State.railsDown s c).evf.cnt = s.evf.cnt ∧
    (State.railsDown s c).regs.guard = s.regs.guard := by
  simp [State.railsDown]
@[simp] theorem State.vauxLog_keeps (s : State) (cause index : Nat) :
    (State.vauxLog s cause index).fuse = s.fuse ∧ (State.vauxLog s cause index).st = s.st ∧
    (State.vauxLog s cause index).evf.cnt = s.evf.cnt ∧ (State.vauxLog s cause index).regs.guard = s.regs.guard := by
  simp [State.vauxLog]
@[simp] theorem State.powerDown_keeps (s : State) :
    (State.powerDown s).fuse = s.fuse ∧ (State.powerDown s).st = s.st ∧ (State.powerDown s).evf.cnt = s.evf.cnt ∧
    (State.powerDown s).regs.guard = s.regs.guard := by
  simp [State.powerDown]
@[simp] theorem State.railOff_keeps (s : State) (k : Nat) :
    (State.railOff s k).fuse = s.fuse ∧ (State.railOff s k).st = s.st ∧ (State.railOff s k).evf.cnt = s.evf.cnt ∧
    (State.railOff s k).regs.guard = s.regs.guard := by
  simp [State.railOff]
@[simp] theorem State.domainReset_keeps (s : State) :
    (State.domainReset s).fuse = s.fuse := by
  simp [State.domainReset]
@[simp] theorem State.dawn_keeps (s : State) (stage cause : Nat) :
    (State.dawn s stage cause).fuse = s.fuse := by
  simp [State.dawn]
@[simp] theorem State.dawnFromOff_keeps (s : State) :
    (State.dawnFromOff s).fuse = s.fuse := by
  simp [State.dawnFromOff]
@[simp] theorem State.coreOff_keeps (s : State) :
    (State.coreOff s).fuse = s.fuse := by
  simp [State.coreOff]
@[simp] theorem State.toStage_keeps (s : State) (n : Nat) :
    (State.toStage s n).fuse = s.fuse ∧ (State.toStage s n).st = s.st ∧ (State.toStage s n).evf.cnt = s.evf.cnt ∧
    (State.toStage s n).regs.guard = s.regs.guard := by
  simp [State.toStage]
@[simp] theorem State.dawnFail_keeps (s : State) (reason : Nat) :
    (State.dawnFail s reason).fuse = s.fuse ∧ (State.dawnFail s reason).st = s.st ∧
    (State.dawnFail s reason).evf.cnt = s.evf.cnt ∧ (State.dawnFail s reason).regs.guard = s.regs.guard := by
  simp [State.dawnFail]
@[simp] theorem State.loadRecord_keeps (s : State) :
    (State.loadRecord s).fuse = s.fuse ∧ (State.loadRecord s).st = s.st ∧ (State.loadRecord s).evf.cnt = s.evf.cnt ∧
    (State.loadRecord s).regs.guard = s.regs.guard := by
  simp [State.loadRecord]
@[simp] theorem State.duskBegin_keeps (s : State) (cause : Nat) :
    (State.duskBegin s cause).fuse = s.fuse ∧ (State.duskBegin s cause).st = s.st ∧
    (State.duskBegin s cause).evf.cnt = s.evf.cnt ∧ (State.duskBegin s cause).regs.guard = s.regs.guard := by
  simp [State.duskBegin]
@[simp] theorem State.dawnEnd_keeps (s : State) :
    (State.dawnEnd s).fuse = s.fuse ∧ (State.dawnEnd s).st = s.st ∧ (State.dawnEnd s).evf.cnt = s.evf.cnt ∧
    (State.dawnEnd s).regs.guard = s.regs.guard := by
  simp [State.dawnEnd]
@[simp] theorem State.stageEnd_keeps (s : State) (what : DawnEnd) :
    (State.stageEnd s what).fuse = s.fuse ∧ (State.stageEnd s what).evf.cnt = s.evf.cnt ∧
    (State.stageEnd s what).regs.guard = s.regs.guard := by
  unfold State.stageEnd; refine ⟨?_, ?_, ?_⟩ <;> 
    (repeat' (first | (simp; done) | split | rw [forEach_fuse] | rw [when_fuse] | rw [forEach_evfcnt] | rw [when_evfcnt] | rw [forEach_guard] | rw [when_guard] | intro _ | simp))
@[simp] theorem State.perstAssert_keeps (s : State) :
    (State.perstAssert s).fuse = s.fuse := by
  simp [State.perstAssert]
@[simp] theorem State.perstRelease_keeps (s : State) :
    (State.perstRelease s).fuse = s.fuse := by
  simp [State.perstRelease]
@[simp] theorem State.pgoodRise_keeps (s : State) (k : Nat) :
    (State.pgoodRise s k).fuse = s.fuse := by
  simp [State.pgoodRise]
@[simp] theorem State.railNext_keeps (s : State) (k : Nat) :
    (State.railNext s k).fuse = s.fuse ∧ (State.railNext s k).st = s.st ∧ (State.railNext s k).evf.cnt = s.evf.cnt ∧
    (State.railNext s k).regs.guard = s.regs.guard := by
  simp [State.railNext]
@[simp] theorem State.railTimeout_keeps (s : State) :
    (State.railTimeout s).fuse = s.fuse ∧ (State.railTimeout s).st = s.st ∧ (State.railTimeout s).evf.cnt = s.evf.cnt ∧
    (State.railTimeout s).regs.guard = s.regs.guard := by
  unfold State.railTimeout; refine ⟨?_, ?_, ?_, ?_⟩ <;> 
    (repeat' (first | (simp; done) | split | rw [forEach_fuse] | rw [when_fuse] | rw [forEach_st] | rw [when_st] | rw [forEach_evfcnt] | rw [when_evfcnt] | rw [forEach_guard] | rw [when_guard] | intro _ | simp))
@[simp] theorem State.pgoodLoss_keeps (s : State) (k : Nat) :
    (State.pgoodLoss s k).fuse = s.fuse ∧ (State.pgoodLoss s k).st = s.st ∧ (State.pgoodLoss s k).evf.cnt = s.evf.cnt ∧
    (State.pgoodLoss s k).regs.guard = s.regs.guard := by
  simp [State.pgoodLoss]
@[simp] theorem State.trip_keeps (s : State) (sensor temp : Nat) :
    (State.trip s sensor temp).fuse = s.fuse ∧ (State.trip s sensor temp).st = s.st ∧
    (State.trip s sensor temp).evf.cnt = s.evf.cnt ∧ (State.trip s sensor temp).regs.guard = s.regs.guard := by
  simp [State.trip]
@[simp] theorem State.coolEnd_keeps (s : State) :
    (State.coolEnd s).fuse = s.fuse ∧ (State.coolEnd s).st = s.st ∧ (State.coolEnd s).evf.cnt = s.evf.cnt ∧
    (State.coolEnd s).regs.guard = s.regs.guard := by
  unfold State.coolEnd; simp only []; (repeat' split) <;> simp
@[simp] theorem State.vauxUp_keeps (s : State) :
    (State.vauxUp s).fuse = s.fuse ∧ (State.vauxUp s).st = s.st ∧ (State.vauxUp s).evf.cnt = s.evf.cnt ∧
    (State.vauxUp s).regs.guard = s.regs.guard := by
  simp [State.vauxUp]
@[simp] theorem State.vauxLoss_keeps (s : State) :
    (State.vauxLoss s).fuse = s.fuse ∧ (State.vauxLoss s).st = s.st ∧ (State.vauxLoss s).evf.cnt = s.evf.cnt ∧
    (State.vauxLoss s).regs.guard = s.regs.guard := by
  simp [State.vauxLoss]
@[simp] theorem State.duskStep_keeps (s : State) (n : Nat) :
    (State.duskStep s n).fuse = s.fuse ∧ (State.duskStep s n).st = s.st ∧ (State.duskStep s n).evf.cnt = s.evf.cnt ∧
    (State.duskStep s n).regs.guard = s.regs.guard := by
  simp [State.duskStep]
@[simp] theorem State.duskEnd_keeps (s : State) :
    (State.duskEnd s).fuse = s.fuse ∧ (State.duskEnd s).st = s.st ∧ (State.duskEnd s).evf.cnt = s.evf.cnt ∧
    (State.duskEnd s).regs.guard = s.regs.guard := by
  simp [State.duskEnd]
@[simp] theorem State.duskEnter_keeps (s : State) (n : Nat) :
    (State.duskEnter s n).fuse = s.fuse ∧ (State.duskEnter s n).st = s.st ∧ (State.duskEnter s n).evf.cnt = s.evf.cnt ∧
    (State.duskEnter s n).regs.guard = s.regs.guard := by
  unfold State.duskEnter; refine ⟨?_, ?_, ?_, ?_⟩ <;> 
    (repeat' (first | (simp; done) | split | rw [forEach_fuse] | rw [when_fuse] | rw [forEach_st] | rw [when_st] | rw [forEach_evfcnt] | rw [when_evfcnt] | rw [forEach_guard] | rw [when_guard] | intro _ | simp))
@[simp] theorem State.duskNext_keeps (s : State) :
    (State.duskNext s).fuse = s.fuse ∧ (State.duskNext s).st = s.st ∧ (State.duskNext s).evf.cnt = s.evf.cnt ∧
    (State.duskNext s).regs.guard = s.regs.guard := by
  unfold State.duskNext; refine ⟨?_, ?_, ?_, ?_⟩ <;> 
    (repeat' (first | (simp; done) | split | rw [forEach_fuse] | rw [when_fuse] | rw [forEach_st] | rw [when_st] | rw [forEach_evfcnt] | rw [when_evfcnt] | rw [forEach_guard] | rw [when_guard] | intro _ | simp))
@[simp] theorem State.flushOver_keeps (s : State) :
    (State.flushOver s).fuse = s.fuse ∧ (State.flushOver s).st = s.st ∧ (State.flushOver s).evf.cnt = s.evf.cnt ∧
    (State.flushOver s).regs.guard = s.regs.guard := by
  simp [State.flushOver]
@[simp] theorem State.duskMax_keeps (s : State) :
    (State.duskMax s).fuse = s.fuse ∧ (State.duskMax s).st = s.st ∧ (State.duskMax s).evf.cnt = s.evf.cnt ∧
    (State.duskMax s).regs.guard = s.regs.guard := by
  simp [State.duskMax]

/-! ## Thermal -/

@[simp] theorem State.setSensor_keeps (s : State) (i : Nat) (x : Sensor) :
    (State.setSensor s i x).fuse = s.fuse ∧ (State.setSensor s i x).st = s.st ∧ (State.setSensor s i x).evf.cnt = s.evf.cnt ∧
    (State.setSensor s i x).regs.guard = s.regs.guard := by
  simp [State.setSensor]
@[simp] theorem State.sensorSeen_keeps (s : State) (i : Nat) (t n : BitVec 16) :
    (State.sensorSeen s i t n).fuse = s.fuse ∧ (State.sensorSeen s i t n).st = s.st ∧
    (State.sensorSeen s i t n).evf.cnt = s.evf.cnt ∧ (State.sensorSeen s i t n).regs.guard = s.regs.guard := by
  simp [State.sensorSeen]
@[simp] theorem State.deepen_keeps (s : State) :
    (State.deepen s).fuse = s.fuse ∧ (State.deepen s).st = s.st ∧ (State.deepen s).evf.cnt = s.evf.cnt ∧
    (State.deepen s).regs.guard = s.regs.guard := by
  simp [State.deepen]
@[simp] theorem State.sensorDrop_keeps (s : State) (i : Nat) :
    (State.sensorDrop s i).fuse = s.fuse ∧ (State.sensorDrop s i).st = s.st ∧ (State.sensorDrop s i).evf.cnt = s.evf.cnt ∧
    (State.sensorDrop s i).regs.guard = s.regs.guard := by
  simp [State.sensorDrop]
@[simp] theorem State.sensorOffset_keeps (s : State) (i : Nat) :
    (State.sensorOffset s i).fuse = s.fuse ∧ (State.sensorOffset s i).st = s.st ∧ (State.sensorOffset s i).evf.cnt = s.evf.cnt ∧
    (State.sensorOffset s i).regs.guard = s.regs.guard := by
  simp [State.sensorOffset]
@[simp] theorem State.thermMaxSet_keeps (s : State) :
    (State.thermMaxSet s).fuse = s.fuse ∧ (State.thermMaxSet s).st = s.st ∧ (State.thermMaxSet s).evf.cnt = s.evf.cnt ∧
    (State.thermMaxSet s).regs.guard = s.regs.guard := by
  unfold State.thermMaxSet; simp only []; (repeat' split) <;> simp
@[simp] theorem State.levelSet_keeps (s : State) :
    (State.levelSet s).fuse = s.fuse ∧ (State.levelSet s).st = s.st ∧ (State.levelSet s).evf.cnt = s.evf.cnt ∧
    (State.levelSet s).regs.guard = s.regs.guard := by
  simp [State.levelSet]
@[simp] theorem State.stopReached_keeps (s : State) :
    (State.stopReached s).fuse = s.fuse ∧ (State.stopReached s).st = s.st ∧ (State.stopReached s).evf.cnt = s.evf.cnt ∧
    (State.stopReached s).regs.guard = s.regs.guard := by
  simp [State.stopReached]
@[simp] theorem State.hotSet_keeps (s : State) :
    (State.hotSet s).fuse = s.fuse ∧ (State.hotSet s).st = s.st ∧ (State.hotSet s).evf.cnt = s.evf.cnt ∧
    (State.hotSet s).regs.guard = s.regs.guard := by
  simp [State.hotSet]
@[simp] theorem State.thermRead_keeps (s : State) (temps : List (BitVec 16)) :
    (State.thermRead s temps).fuse = s.fuse ∧ (State.thermRead s temps).st = s.st ∧
    (State.thermRead s temps).evf.cnt = s.evf.cnt ∧ (State.thermRead s temps).regs.guard = s.regs.guard := by
  simp [State.thermRead]
@[simp] theorem State.throttle_keeps (s : State) :
    (State.throttle s).fuse = s.fuse ∧ (State.throttle s).st = s.st ∧ (State.throttle s).evf.cnt = s.evf.cnt ∧
    (State.throttle s).regs.guard = s.regs.guard := by
  simp [State.throttle]

/-! ## LinkTx -/

@[simp] theorem State.delayReq_keeps (s : State) (p : Nat) :
    (State.delayReq s p).fuse = s.fuse ∧ (State.delayReq s p).st = s.st ∧ (State.delayReq s p).evf.cnt = s.evf.cnt ∧
    (State.delayReq s p).regs.guard = s.regs.guard := by
  simp [State.delayReq]
@[simp] theorem State.laneChange_keeps (s : State) (p old new : Nat) :
    (State.laneChange s p old new).fuse = s.fuse ∧ (State.laneChange s p old new).st = s.st ∧
    (State.laneChange s p old new).evf.cnt = s.evf.cnt ∧ (State.laneChange s p old new).regs.guard = s.regs.guard := by
  simp [State.laneChange]
@[simp] theorem State.txIdle_keeps (s : State) (n : Nat) :
    (State.txIdle s n).fuse = s.fuse ∧ (State.txIdle s n).st = s.st ∧ (State.txIdle s n).evf.cnt = s.evf.cnt ∧
    (State.txIdle s n).regs.guard = s.regs.guard := by
  simp [State.txIdle]
@[simp] theorem State.laneJoin_keeps (s : State) (n : Nat) :
    (State.laneJoin s n).fuse = s.fuse ∧ (State.laneJoin s n).st = s.st ∧ (State.laneJoin s n).evf.cnt = s.evf.cnt ∧
    (State.laneJoin s n).regs.guard = s.regs.guard := by
  simp [State.laneJoin]
@[simp] theorem State.startSent_keeps (s : State) (p map : Nat) :
    (State.startSent s p map).fuse = s.fuse ∧ (State.startSent s p map).st = s.st ∧
    (State.startSent s p map).evf.cnt = s.evf.cnt ∧ (State.startSent s p map).regs.guard = s.regs.guard := by
  unfold State.startSent; refine ⟨?_, ?_, ?_, ?_⟩ <;> 
    (repeat' (first | (simp; done) | split | rw [forEach_fuse] | rw [when_fuse] | rw [forEach_st] | rw [when_st] | rw [forEach_evfcnt] | rw [when_evfcnt] | rw [forEach_guard] | rw [when_guard] | intro _ | simp))
@[simp] theorem State.laneOut_keeps (s : State) (p l : Nat) (b : Dword) :
    (State.laneOut s p l b).fuse = s.fuse ∧ (State.laneOut s p l b).st = s.st ∧ (State.laneOut s p l b).evf.cnt = s.evf.cnt ∧
    (State.laneOut s p l b).regs.guard = s.regs.guard := by
  simp [State.laneOut]
@[simp] theorem State.linkOut_keeps (s : State) (p : Nat) (f : Fill) :
    (State.linkOut s p f).fuse = s.fuse ∧ (State.linkOut s p f).st = s.st ∧ (State.linkOut s p f).evf.cnt = s.evf.cnt ∧
    (State.linkOut s p f).regs.guard = s.regs.guard := by
  simp [State.linkOut]
@[simp] theorem State.linkCycle_keeps (s : State) (p : Nat) :
    (State.linkCycle s p).fuse = s.fuse ∧ (State.linkCycle s p).st = s.st ∧ (State.linkCycle s p).evf.cnt = s.evf.cnt ∧
    (State.linkCycle s p).regs.guard = s.regs.guard := by
  unfold State.linkCycle; simp only []; (repeat' split) <;> simp
@[simp] theorem State.trainCycle_keeps (s : State) (p : Nat) :
    (State.trainCycle s p).fuse = s.fuse ∧ (State.trainCycle s p).st = s.st ∧ (State.trainCycle s p).evf.cnt = s.evf.cnt ∧
    (State.trainCycle s p).regs.guard = s.regs.guard := by
  simp [State.trainCycle]
@[simp] theorem State.laneIdle_keeps (s : State) (p l : Nat) :
    (State.laneIdle s p l).fuse = s.fuse ∧ (State.laneIdle s p l).st = s.st ∧ (State.laneIdle s p l).evf.cnt = s.evf.cnt ∧
    (State.laneIdle s p l).regs.guard = s.regs.guard := by
  simp [State.laneIdle]
@[simp] theorem State.idleOut_keeps (s : State) (p : Nat) :
    (State.idleOut s p).fuse = s.fuse ∧ (State.idleOut s p).st = s.st ∧ (State.idleOut s p).evf.cnt = s.evf.cnt ∧
    (State.idleOut s p).regs.guard = s.regs.guard := by
  simp [State.idleOut]
@[simp] theorem State.linkTick_keeps (s : State) :
    (State.linkTick s).fuse = s.fuse ∧ (State.linkTick s).st = s.st ∧ (State.linkTick s).evf.cnt = s.evf.cnt ∧
    (State.linkTick s).regs.guard = s.regs.guard := by
  simp [State.linkTick]

/-! ## LinkRows -/

@[simp] theorem State.checkWindow_keeps (s : State) (p lane : Nat) (window : List (Nat × Dword)) (badLane : Option Nat) (seq : Nat)
    (crc : Option Nat) :
    (State.checkWindow s p lane window badLane seq crc).fuse = s.fuse ∧
    (State.checkWindow s p lane window badLane seq crc).st = s.st ∧
    (State.checkWindow s p lane window badLane seq crc).evf.cnt = s.evf.cnt ∧
    (State.checkWindow s p lane window badLane seq crc).regs.guard = s.regs.guard := by
  simp [State.checkWindow]
@[simp] theorem State.takeCtl_keeps (s : State) (p : Nat) (want : Dword → Bool) (f : Dword → State → State)
    (h : ∀ b t, ((f b t)).fuse = t.fuse ∧ ((f b t)).st = t.st ∧ ((f b t)).evf.cnt = t.evf.cnt ∧ ((f b t)).regs.guard = t.regs.guard) : ((State.takeCtl s p want f)).fuse = s.fuse ∧ ((State.takeCtl s p want f)).st = s.st ∧ ((State.takeCtl s p want f)).evf.cnt = s.evf.cnt ∧ ((State.takeCtl s p want f)).regs.guard = s.regs.guard := by
  unfold State.takeCtl
  simp only []
  (repeat' split) <;> simp [h]
@[simp] theorem State.creditRx_keeps (s : State) (p : Nat) :
    (State.creditRx s p).fuse = s.fuse ∧ (State.creditRx s p).st = s.st ∧ (State.creditRx s p).evf.cnt = s.evf.cnt ∧
    (State.creditRx s p).regs.guard = s.regs.guard := by
  simp [State.creditRx]
@[simp] theorem State.replayFail_keeps (s : State) (p : Nat) :
    (State.replayFail s p).fuse = s.fuse ∧ (State.replayFail s p).st = s.st ∧ (State.replayFail s p).evf.cnt = s.evf.cnt ∧
    (State.replayFail s p).regs.guard = s.regs.guard := by
  simp [State.replayFail]
@[simp] theorem State.replayFromSeq_keeps (s : State) (p q : Nat) :
    (State.replayFromSeq s p q).fuse = s.fuse ∧ (State.replayFromSeq s p q).st = s.st ∧
    (State.replayFromSeq s p q).evf.cnt = s.evf.cnt ∧ (State.replayFromSeq s p q).regs.guard = s.regs.guard := by
  simp [State.replayFromSeq]
@[simp] theorem State.replayRequestRx_keeps (s : State) (p : Nat) (bad : Bool) :
    (State.replayRequestRx s p bad).fuse = s.fuse ∧ (State.replayRequestRx s p bad).st = s.st ∧
    (State.replayRequestRx s p bad).evf.cnt = s.evf.cnt ∧ (State.replayRequestRx s p bad).regs.guard = s.regs.guard := by
  simp [State.replayRequestRx]
@[simp] theorem State.replayTimeout_keeps (s : State) (p : Nat) (bad : Bool) :
    (State.replayTimeout s p bad).fuse = s.fuse ∧ (State.replayTimeout s p bad).st = s.st ∧
    (State.replayTimeout s p bad).evf.cnt = s.evf.cnt ∧ (State.replayTimeout s p bad).regs.guard = s.regs.guard := by
  unfold State.replayTimeout; simp only []; (repeat' split) <;> simp
@[simp] theorem State.replayStartRx_keeps (s : State) (p : Nat) : ((State.replayStartRx s p)).fuse = s.fuse ∧ ((State.replayStartRx s p)).st = s.st ∧ ((State.replayStartRx s p)).evf.cnt = s.evf.cnt ∧ ((State.replayStartRx s p)).regs.guard = s.regs.guard := by
  unfold State.replayStartRx
  apply State.takeCtl_keeps
  intro b t
  refine ⟨?_, ?_, ?_, ?_⟩ <;> (repeat' (first | (simp; done) | split | rw [forEach_fuse] | rw [when_fuse] | rw [forEach_st] | rw [when_st] | rw [forEach_evfcnt] | rw [when_evfcnt] | rw [forEach_guard] | rw [when_guard] | intro _ | simp))
@[simp] theorem State.laneLost_keeps (s : State) (n : Nat) :
    (State.laneLost s n).fuse = s.fuse ∧ (State.laneLost s n).st = s.st ∧ (State.laneLost s n).evf.cnt = s.evf.cnt ∧
    (State.laneLost s n).regs.guard = s.regs.guard := by
  simp [State.laneLost]
@[simp] theorem State.planMap_keeps (s : State) (p : Nat) :
    (State.planMap s p).fuse = s.fuse ∧ (State.planMap s p).st = s.st ∧ (State.planMap s p).evf.cnt = s.evf.cnt ∧
    (State.planMap s p).regs.guard = s.regs.guard := by
  unfold State.planMap; simp only []; (repeat' split) <;> simp
@[simp] theorem State.laneStatusRx_keeps (s : State) (p : Nat) (bad : Bool) :
    (State.laneStatusRx s p bad).fuse = s.fuse ∧ (State.laneStatusRx s p bad).st = s.st ∧
    (State.laneStatusRx s p bad).evf.cnt = s.evf.cnt ∧
    (State.laneStatusRx s p bad).regs.guard = s.regs.guard := by
  unfold State.laneStatusRx
  apply State.takeCtl_keeps
  intro b t
  refine ⟨?_, ?_, ?_, ?_⟩ <;> (repeat' (first | (simp; done) | split | rw [forEach_fuse] | rw [when_fuse] | rw [forEach_st] | rw [when_st] | rw [forEach_evfcnt] | rw [when_evfcnt] | rw [forEach_guard] | rw [when_guard] | intro _ | simp))
@[simp] theorem State.txSleepSet_keeps (s : State) (n : Nat) :
    (State.txSleepSet s n).fuse = s.fuse ∧ (State.txSleepSet s n).st = s.st ∧ (State.txSleepSet s n).evf.cnt = s.evf.cnt ∧
    (State.txSleepSet s n).regs.guard = s.regs.guard := by
  simp [State.txSleepSet]
@[simp] theorem State.txSleepClear_keeps (s : State) (n : Nat) :
    (State.txSleepClear s n).fuse = s.fuse ∧ (State.txSleepClear s n).st = s.st ∧ (State.txSleepClear s n).evf.cnt = s.evf.cnt ∧
    (State.txSleepClear s n).regs.guard = s.regs.guard := by
  simp [State.txSleepClear]
@[simp] theorem State.rxSleepSet_keeps (s : State) (n : Nat) :
    (State.rxSleepSet s n).fuse = s.fuse ∧ (State.rxSleepSet s n).st = s.st ∧ (State.rxSleepSet s n).evf.cnt = s.evf.cnt ∧
    (State.rxSleepSet s n).regs.guard = s.regs.guard := by
  simp [State.rxSleepSet]
@[simp] theorem State.rxSleepClear_keeps (s : State) (n : Nat) :
    (State.rxSleepClear s n).fuse = s.fuse ∧ (State.rxSleepClear s n).st = s.st ∧ (State.rxSleepClear s n).evf.cnt = s.evf.cnt ∧
    (State.rxSleepClear s n).regs.guard = s.regs.guard := by
  simp [State.rxSleepClear]
@[simp] theorem State.laneWake_keeps (s : State) (n : Nat) (rx : Bool) :
    (State.laneWake s n rx).fuse = s.fuse ∧ (State.laneWake s n rx).st = s.st ∧ (State.laneWake s n rx).evf.cnt = s.evf.cnt ∧
    (State.laneWake s n rx).regs.guard = s.regs.guard := by
  simp [State.laneWake]
@[simp] theorem State.auditRx_keeps (s : State) (p : Nat) :
    (State.auditRx s p).fuse = s.fuse ∧ (State.auditRx s p).st = s.st ∧ (State.auditRx s p).evf.cnt = s.evf.cnt ∧
    (State.auditRx s p).regs.guard = s.regs.guard := by
  simp [State.auditRx]
@[simp] theorem State.portIdle_keeps (s : State) (p : Nat) :
    (State.portIdle s p).fuse = s.fuse ∧ (State.portIdle s p).st = s.st ∧ (State.portIdle s p).evf.cnt = s.evf.cnt ∧
    (State.portIdle s p).regs.guard = s.regs.guard := by
  simp [State.portIdle]
@[simp] theorem State.decisionArrives_keeps (s : State) (b : Dword) :
    (State.decisionArrives s b).fuse = s.fuse ∧ (State.decisionArrives s b).st = s.st ∧
    (State.decisionArrives s b).evf.cnt = s.evf.cnt ∧ (State.decisionArrives s b).regs.guard = s.regs.guard := by
  simp [State.decisionArrives]
@[simp] theorem State.forward_keeps (s : State) (p : Nat) (dest hops : Nat) (blocks : List Dword) (bulk : Bool) (drop : State → State) (h0 : ∀ t, (drop t).fuse = t.fuse) (h1 : ∀ t, (drop t).st = t.st) (h2 : ∀ t, (drop t).evf.cnt = t.evf.cnt) (h3 : ∀ t, (drop t).regs.guard = t.regs.guard) :
    (State.forward s p dest hops blocks bulk drop).fuse = s.fuse ∧ (State.forward s p dest hops blocks bulk drop).st = s.st ∧
    (State.forward s p dest hops blocks bulk drop).evf.cnt = s.evf.cnt ∧
    (State.forward s p dest hops blocks bulk drop).regs.guard = s.regs.guard := by
  unfold State.forward; refine ⟨?_, ?_, ?_, ?_⟩ <;> 
    (repeat' (first | (simp [h0, h1, h2, h3]; done) | split | rw [forEach_fuse] | rw [when_fuse] | rw [forEach_st] | rw [when_st] | rw [forEach_evfcnt] | rw [when_evfcnt] | rw [forEach_guard] | rw [when_guard] | intro _ | simp [h0, h1, h2, h3]))
@[simp] theorem State.decisionBlockRx_keeps (s : State) (p : Nat) :
    (State.decisionBlockRx s p).fuse = s.fuse ∧ (State.decisionBlockRx s p).st = s.st ∧
    (State.decisionBlockRx s p).evf.cnt = s.evf.cnt ∧ (State.decisionBlockRx s p).regs.guard = s.regs.guard := by
  unfold State.decisionBlockRx; simp only []; (repeat' split) <;> simp
theorem State.mirrorRow_keeps (s : State) (p : Nat) (bulk : Bool) (kinds : Nat → Bool) (act : Nat → Nat → State → Option State)
    (h : ∀ a b t u, act a b t = some u → (u).fuse = t.fuse ∧ (u).st = t.st ∧ (u).evf.cnt = t.evf.cnt ∧ (u).regs.guard = t.regs.guard) : ((State.mirrorRow s p bulk kinds act)).fuse = s.fuse ∧ ((State.mirrorRow s p bulk kinds act)).st = s.st ∧ ((State.mirrorRow s p bulk kinds act)).evf.cnt = s.evf.cnt ∧ ((State.mirrorRow s p bulk kinds act)).regs.guard = s.regs.guard := by
  unfold State.mirrorRow
  simp only []
  (repeat' split) <;> try simp
  rename_i b cont _ _ _ _
  generalize hs : s.setPort p _ = t
  have ht : (t).fuse = s.fuse ∧ (t).st = s.st ∧ (t).evf.cnt = s.evf.cnt ∧ (t).regs.guard = s.regs.guard := by subst hs; simp
  cases hu : act b.toNat (mirrorBits cont) t with
  | none => simp [ht]
  | some u => have := h _ _ _ _ hu; simp [this, ht]
theorem State.mirrorRow_keeps3 (s : State) (p : Nat) (bulk : Bool) (kinds : Nat → Bool) (act : Nat → Nat → State → Option State)
    (h : ∀ a b t u, act a b t = some u → (u).fuse = t.fuse ∧ (u).st = t.st ∧ (u).regs.guard = t.regs.guard) : ((State.mirrorRow s p bulk kinds act)).fuse = s.fuse ∧ ((State.mirrorRow s p bulk kinds act)).st = s.st ∧ ((State.mirrorRow s p bulk kinds act)).regs.guard = s.regs.guard := by
  unfold State.mirrorRow
  simp only []
  (repeat' split) <;> try simp
  rename_i b cont _ _ _ _
  generalize hs : s.setPort p _ = t
  have ht : (t).fuse = s.fuse ∧ (t).st = s.st ∧ (t).regs.guard = s.regs.guard := by subst hs; simp
  cases hu : act b.toNat (mirrorBits cont) t with
  | none => simp [ht]
  | some u => have := h _ _ _ _ hu; simp [this, ht]
@[simp] theorem State.mirrorEvent_keeps (s : State) (p : Nat) : ((State.mirrorEvent s p)).fuse = s.fuse ∧ ((State.mirrorEvent s p)).st = s.st ∧ ((State.mirrorEvent s p)).regs.guard = s.regs.guard := by
  unfold State.mirrorEvent
  apply State.mirrorRow_keeps3
  intro a b t u hu
  (repeat' split at hu) <;> cases hu <;> simp
@[simp] theorem State.mirrorAsync_keeps (s : State) (p : Nat) : ((State.mirrorAsync s p)).fuse = s.fuse ∧ ((State.mirrorAsync s p)).st = s.st ∧ ((State.mirrorAsync s p)).evf.cnt = s.evf.cnt ∧ ((State.mirrorAsync s p)).regs.guard = s.regs.guard := by
  unfold State.mirrorAsync
  apply State.mirrorRow_keeps
  intro a b t u hu
  simp only [] at hu
  (repeat' split at hu) <;> cases hu <;> (try split) <;> simp
@[simp] theorem State.mirrorFrame_keeps (s : State) (p : Nat) : ((State.mirrorFrame s p)).fuse = s.fuse ∧ ((State.mirrorFrame s p)).st = s.st ∧ ((State.mirrorFrame s p)).evf.cnt = s.evf.cnt ∧ ((State.mirrorFrame s p)).regs.guard = s.regs.guard := by
  unfold State.mirrorFrame
  apply State.mirrorRow_keeps
  intro a b t u hu
  simp only [] at hu
  (repeat' split at hu) <;> cases hu <;> (try split) <;> simp
@[simp] theorem State.mirrorShadow_keeps (s : State) (p : Nat) : ((State.mirrorShadow s p)).fuse = s.fuse ∧ ((State.mirrorShadow s p)).st = s.st ∧ ((State.mirrorShadow s p)).evf.cnt = s.evf.cnt ∧ ((State.mirrorShadow s p)).regs.guard = s.regs.guard := by
  unfold State.mirrorShadow
  apply State.mirrorRow_keeps
  intro a b t u hu
  simp only [] at hu
  (repeat' split at hu) <;> cases hu <;> (try split) <;> simp
@[simp] theorem State.orderFail_keeps (s : State) (p : Nat) :
    (State.orderFail s p).fuse = s.fuse ∧ (State.orderFail s p).st = s.st ∧ (State.orderFail s p).evf.cnt = s.evf.cnt ∧
    (State.orderFail s p).regs.guard = s.regs.guard := by
  simp [State.orderFail]
@[simp] theorem State.stageShown_keeps (s : State) (p : Nat) :
    (State.stageShown s p).fuse = s.fuse ∧ (State.stageShown s p).st = s.st ∧ (State.stageShown s p).evf.cnt = s.evf.cnt ∧
    (State.stageShown s p).regs.guard = s.regs.guard := by
  simp [State.stageShown]
@[simp] theorem State.trainStageEnd_keeps (s : State) (n stage info : Nat) (pass : Bool) :
    (State.trainStageEnd s n stage info pass).fuse = s.fuse ∧ (State.trainStageEnd s n stage info pass).st = s.st ∧
    (State.trainStageEnd s n stage info pass).evf.cnt = s.evf.cnt ∧
    (State.trainStageEnd s n stage info pass).regs.guard = s.regs.guard := by
  unfold State.trainStageEnd; simp only []; (repeat' split) <;> simp
@[simp] theorem State.linkActive_keeps (s : State) (p map : Nat) :
    (State.linkActive s p map).fuse = s.fuse ∧ (State.linkActive s p map).st = s.st ∧
    (State.linkActive s p map).evf.cnt = s.evf.cnt ∧ (State.linkActive s p map).regs.guard = s.regs.guard := by
  unfold State.linkActive; refine ⟨?_, ?_, ?_, ?_⟩ <;>
    (repeat' (first | (simp; done) | split | rw [forEach_fuse] | rw [when_fuse] | rw [forEach_st] | rw [when_st] | rw [forEach_evfcnt] | rw [when_evfcnt] | rw [forEach_guard] | rw [when_guard] | intro _ | simp))
@[simp] theorem State.rejoinEnd_keeps (s : State) (p : Nat) :
    (State.rejoinEnd s p).fuse = s.fuse ∧ (State.rejoinEnd s p).st = s.st ∧ (State.rejoinEnd s p).evf.cnt = s.evf.cnt ∧
    (State.rejoinEnd s p).regs.guard = s.regs.guard := by
  simp [State.rejoinEnd]
@[simp] theorem State.linkUpComplete_keeps (s : State) (p peerOk : Nat) :
    (State.linkUpComplete s p peerOk).fuse = s.fuse ∧ (State.linkUpComplete s p peerOk).st = s.st ∧
    (State.linkUpComplete s p peerOk).evf.cnt = s.evf.cnt ∧ (State.linkUpComplete s p peerOk).regs.guard = s.regs.guard := by
  unfold State.linkUpComplete; simp only []; (repeat' split) <;> simp
@[simp] theorem State.bitslip_keeps (s : State) (n : Nat) :
    (State.bitslip s n).fuse = s.fuse ∧ (State.bitslip s n).st = s.st ∧ (State.bitslip s n).evf.cnt = s.evf.cnt ∧
    (State.bitslip s n).regs.guard = s.regs.guard := by
  simp [State.bitslip]
@[simp] theorem State.keepalive_keeps (s : State) (n : Nat) :
    (State.keepalive s n).fuse = s.fuse ∧ (State.keepalive s n).st = s.st ∧ (State.keepalive s n).evf.cnt = s.evf.cnt ∧
    (State.keepalive s n).regs.guard = s.regs.guard := by
  simp [State.keepalive]
@[simp] theorem State.adaptFreeze_keeps (s : State) (n transitions idle nonIdle : Nat) :
    (State.adaptFreeze s n transitions idle nonIdle).fuse = s.fuse ∧ (State.adaptFreeze s n transitions idle nonIdle).st = s.st ∧
    (State.adaptFreeze s n transitions idle nonIdle).evf.cnt = s.evf.cnt ∧
    (State.adaptFreeze s n transitions idle nonIdle).regs.guard = s.regs.guard := by
  simp [State.adaptFreeze]
@[simp] theorem State.eyeEnd_keeps (s : State) (n : Nat) (errors : Nat) :
    (State.eyeEnd s n errors).fuse = s.fuse ∧ (State.eyeEnd s n errors).st = s.st ∧
    (State.eyeEnd s n errors).evf.cnt = s.evf.cnt ∧ (State.eyeEnd s n errors).regs.guard = s.regs.guard := by
  simp [State.eyeEnd]
@[simp] theorem State.eyeStart_keeps (s : State) (n v : Nat) :
    (State.eyeStart s n v).fuse = s.fuse ∧ (State.eyeStart s n v).st = s.st ∧ (State.eyeStart s n v).evf.cnt = s.evf.cnt ∧
    (State.eyeStart s n v).regs.guard = s.regs.guard := by
  simp [State.eyeStart]
@[simp] theorem State.eyeDone_keeps (s : State) (n errors : Nat) :
    (State.eyeDone s n errors).fuse = s.fuse ∧ (State.eyeDone s n errors).st = s.st ∧
    (State.eyeDone s n errors).evf.cnt = s.evf.cnt ∧ (State.eyeDone s n errors).regs.guard = s.regs.guard := by
  simp [State.eyeDone]

/-! ## TimeRows -/

@[simp] theorem State.stampsOld_keeps (s : State) :
    (State.stampsOld s).fuse = s.fuse ∧ (State.stampsOld s).st = s.st ∧ (State.stampsOld s).evf.cnt = s.evf.cnt ∧
    (State.stampsOld s).regs.guard = s.regs.guard := by
  simp [State.stampsOld]
@[simp] theorem State.midnight_keeps (s : State) (v : Nat) :
    (State.midnight s v).fuse = s.fuse ∧ (State.midnight s v).evf.cnt = s.evf.cnt ∧
    (State.midnight s v).regs.guard = s.regs.guard := by
  simp [State.midnight]
@[simp] theorem State.stepApply_keeps (s : State) :
    (State.stepApply s).fuse = s.fuse ∧ (State.stepApply s).evf.cnt = s.evf.cnt ∧
    (State.stepApply s).regs.guard = s.regs.guard := by
  unfold State.stepApply; simp only []; (repeat' split) <;> simp
@[simp] theorem State.syncin_keeps (s : State) :
    (State.syncin s).fuse = s.fuse ∧ (State.syncin s).evf.cnt = s.evf.cnt ∧ (State.syncin s).regs.guard = s.regs.guard := by
  simp [State.syncin]
@[simp] theorem State.slew_keeps (s : State) (amount : Int) (rate : Nat) :
    (State.slew s amount rate).fuse = s.fuse ∧ (State.slew s amount rate).st = s.st ∧
    (State.slew s amount rate).evf.cnt = s.evf.cnt ∧ (State.slew s amount rate).regs.guard = s.regs.guard := by
  simp [State.slew]
@[simp] theorem State.slewDone_keeps (s : State) :
    (State.slewDone s).fuse = s.fuse ∧ (State.slewDone s).st = s.st ∧ (State.slewDone s).evf.cnt = s.evf.cnt ∧
    (State.slewDone s).regs.guard = s.regs.guard := by
  simp [State.slewDone]
@[simp] theorem State.syncForward_keeps (s : State) (m : SyncOut) :
    (State.syncForward s m).fuse = s.fuse ∧ (State.syncForward s m).st = s.st ∧ (State.syncForward s m).evf.cnt = s.evf.cnt ∧
    (State.syncForward s m).regs.guard = s.regs.guard := by
  simp [State.syncForward]
@[simp] theorem State.syncSend_keeps (s : State) :
    (State.syncSend s).fuse = s.fuse ∧ (State.syncSend s).st = s.st ∧ (State.syncSend s).evf.cnt = s.evf.cnt ∧
    (State.syncSend s).regs.guard = s.regs.guard := by
  simp [State.syncSend]
@[simp] theorem State.takeTime_keeps (s : State) (p kind : Nat) (f : TimeMsg → State → State)
    (h : ∀ b t, ((f b t)).fuse = t.fuse ∧ ((f b t)).st = t.st ∧ ((f b t)).evf.cnt = t.evf.cnt ∧ ((f b t)).regs.guard = t.regs.guard) : ((State.takeTime s p kind f)).fuse = s.fuse ∧ ((State.takeTime s p kind f)).st = s.st ∧ ((State.takeTime s p kind f)).evf.cnt = s.evf.cnt ∧ ((State.takeTime s p kind f)).regs.guard = s.regs.guard := by
  unfold State.takeTime
  simp only []
  (repeat' split) <;> simp [h]
@[simp] theorem State.syncDiscard_keeps (s : State) :
    (State.syncDiscard s).fuse = s.fuse ∧ (State.syncDiscard s).st = s.st ∧ (State.syncDiscard s).evf.cnt = s.evf.cnt ∧
    (State.syncDiscard s).regs.guard = s.regs.guard := by
  simp [State.syncDiscard]
@[simp] theorem State.syncOn_keeps (s : State) (m : TimeMsg) (stamp : Nat) (path : Int) :
    (State.syncOn s m stamp path).fuse = s.fuse ∧ (State.syncOn s m stamp path).st = s.st ∧
    (State.syncOn s m stamp path).evf.cnt = s.evf.cnt ∧ (State.syncOn s m stamp path).regs.guard = s.regs.guard := by
  simp [State.syncOn]
@[simp] theorem State.syncOffset_keeps (s : State) (o : Int) :
    (State.syncOffset s o).fuse = s.fuse ∧ (State.syncOffset s o).st = s.st ∧ (State.syncOffset s o).evf.cnt = s.evf.cnt ∧
    (State.syncOffset s o).regs.guard = s.regs.guard := by
  simp [State.syncOffset]
@[simp] theorem State.syncRx_keeps (s : State) (p stamp : Nat) (replayed : Bool) :
    (State.syncRx s p stamp replayed).fuse = s.fuse ∧ (State.syncRx s p stamp replayed).st = s.st ∧
    (State.syncRx s p stamp replayed).evf.cnt = s.evf.cnt ∧ (State.syncRx s p stamp replayed).regs.guard = s.regs.guard := by
  simp [State.syncRx]
@[simp] theorem State.syncLost_keeps (s : State) :
    (State.syncLost s).fuse = s.fuse ∧ (State.syncLost s).st = s.st ∧ (State.syncLost s).evf.cnt = s.evf.cnt ∧
    (State.syncLost s).regs.guard = s.regs.guard := by
  simp [State.syncLost]
@[simp] theorem State.delayTimer_keeps (s : State) (p : Nat) :
    (State.delayTimer s p).fuse = s.fuse ∧ (State.delayTimer s p).st = s.st ∧ (State.delayTimer s p).evf.cnt = s.evf.cnt ∧
    (State.delayTimer s p).regs.guard = s.regs.guard := by
  simp [State.delayTimer]
@[simp] theorem State.delayAnswer_keeps (s : State) (p stamp : Nat) (replayed : Bool) :
    (State.delayAnswer s p stamp replayed).fuse = s.fuse ∧ (State.delayAnswer s p stamp replayed).st = s.st ∧
    (State.delayAnswer s p stamp replayed).evf.cnt = s.evf.cnt ∧
    (State.delayAnswer s p stamp replayed).regs.guard = s.regs.guard := by
  simp [State.delayAnswer]
@[simp] theorem State.delayStore_keeps (s : State) (p stamp : Nat) (replayed : Bool) :
    ((State.delayStore s p stamp replayed)).fuse = s.fuse ∧ ((State.delayStore s p stamp replayed)).st = s.st ∧ ((State.delayStore s p stamp replayed)).evf.cnt = s.evf.cnt ∧ ((State.delayStore s p stamp replayed)).regs.guard = s.regs.guard := by
  unfold State.delayStore
  split
  · simp
  · apply State.takeTime_keeps
    intro m t
    simp only []
    refine ⟨?_, ?_, ?_, ?_⟩ <;> (repeat' split) <;> simp
@[simp] theorem State.delayLost_keeps (s : State) (p : Nat) :
    (State.delayLost s p).fuse = s.fuse ∧ (State.delayLost s p).st = s.st ∧ (State.delayLost s p).evf.cnt = s.evf.cnt ∧
    (State.delayLost s p).regs.guard = s.regs.guard := by
  unfold State.delayLost; simp only []; (repeat' split) <;> simp
@[simp] theorem State.setTrig_keeps (s : State) (n : Nat) (x : Trig) :
    (State.setTrig s n x).fuse = s.fuse ∧ (State.setTrig s n x).st = s.st ∧ (State.setTrig s n x).evf.cnt = s.evf.cnt ∧
    (State.setTrig s n x).regs.guard = s.regs.guard := by
  simp [State.setTrig]
@[simp] theorem State.trigStamp_keeps (s : State) (n pos : Nat) :
    (State.trigStamp s n pos).fuse = s.fuse ∧ (State.trigStamp s n pos).st = s.st ∧
    (State.trigStamp s n pos).evf.cnt = s.evf.cnt ∧ (State.trigStamp s n pos).regs.guard = s.regs.guard := by
  simp [State.trigStamp]
@[simp] theorem State.trigFire_keeps (s : State) (n : Nat) :
    (State.trigFire s n).fuse = s.fuse ∧ (State.trigFire s n).st = s.st ∧ (State.trigFire s n).evf.cnt = s.evf.cnt ∧
    (State.trigFire s n).regs.guard = s.regs.guard := by
  simp [State.trigFire]
@[simp] theorem State.trigEdge_keeps (s : State) (n : Nat) (rising : Bool) (pos : Nat) :
    (State.trigEdge s n rising pos).fuse = s.fuse ∧ (State.trigEdge s n rising pos).st = s.st ∧
    (State.trigEdge s n rising pos).evf.cnt = s.evf.cnt ∧ (State.trigEdge s n rising pos).regs.guard = s.regs.guard := by
  simp [State.trigEdge]
@[simp] theorem State.trigRead_keeps (s : State) (n : Nat) :
    (State.trigRead s n).fuse = s.fuse ∧ (State.trigRead s n).st = s.st ∧ (State.trigRead s n).evf.cnt = s.evf.cnt ∧
    (State.trigRead s n).regs.guard = s.regs.guard := by
  unfold State.trigRead; simp only []; (repeat' split) <;> simp
@[simp] theorem State.refLost_keeps (s : State) :
    (State.refLost s).fuse = s.fuse ∧ (State.refLost s).st = s.st ∧ (State.refLost s).evf.cnt = s.evf.cnt ∧
    (State.refLost s).regs.guard = s.regs.guard := by
  simp [State.refLost]
@[simp] theorem State.refBack_keeps (s : State) :
    (State.refBack s).fuse = s.fuse ∧ (State.refBack s).st = s.st ∧ (State.refBack s).evf.cnt = s.evf.cnt ∧
    (State.refBack s).regs.guard = s.regs.guard := by
  unfold State.refBack; refine ⟨?_, ?_, ?_, ?_⟩ <;> 
    (repeat' (first | (simp; done) | split | rw [forEach_fuse] | rw [when_fuse] | rw [forEach_st] | rw [when_st] | rw [forEach_evfcnt] | rw [when_evfcnt] | rw [forEach_guard] | rw [when_guard] | intro _ | simp))
@[simp] theorem State.lockLost_keeps (s : State) :
    (State.lockLost s).fuse = s.fuse ∧ (State.lockLost s).st = s.st ∧ (State.lockLost s).evf.cnt = s.evf.cnt ∧
    (State.lockLost s).regs.guard = s.regs.guard := by
  simp [State.lockLost]

/-! ## Access -/

@[simp] theorem State.before_keeps (s : State) :
    (State.before s).fuse = s.fuse ∧ (State.before s).st = s.st ∧ (State.before s).regs.guard = s.regs.guard := by
  simp [State.before]
@[simp] theorem State.lowRead_keeps (s : State) (x : Place) :
    (State.lowRead s x).fuse = s.fuse ∧ (State.lowRead s x).st = s.st ∧ (State.lowRead s x).evf.cnt = s.evf.cnt ∧
    (State.lowRead s x).regs.guard = s.regs.guard := by
  simp [State.lowRead]
@[simp] theorem State.highRead_keeps (s : State) (x : Place) :
    (State.highRead s x).fuse = s.fuse ∧ (State.highRead s x).st = s.st ∧ (State.highRead s x).evf.cnt = s.evf.cnt ∧
    (State.highRead s x).regs.guard = s.regs.guard := by
  simp [State.highRead]
@[simp] theorem State.store64_keeps (s : State) (r : Reg) (i v : Nat) :
    (State.store64 s r i v).fuse = s.fuse ∧ (State.store64 s r i v).st = s.st ∧ (State.store64 s r i v).evf.cnt = s.evf.cnt := by
  unfold State.store64; refine ⟨?_, ?_, ?_⟩ <;> 
    (repeat' (first | (simp; done) | split | rw [forEach_fuse] | rw [when_fuse] | rw [forEach_st] | rw [when_st] | rw [forEach_evfcnt] | rw [when_evfcnt] | intro _ | simp))
@[simp] theorem State.hold64_keeps (s : State) (x : Place) (w : Nat) :
    (State.hold64 s x w).fuse = s.fuse ∧ (State.hold64 s x w).st = s.st ∧ (State.hold64 s x w).evf.cnt = s.evf.cnt ∧
    (State.hold64 s x w).regs.guard = s.regs.guard := by
  simp [State.hold64]
@[simp] theorem State.lowWrite_keeps (s : State) (x : Place) (v : Nat) :
    (State.lowWrite s x v).fuse = s.fuse ∧ (State.lowWrite s x v).st = s.st ∧ (State.lowWrite s x v).evf.cnt = s.evf.cnt ∧
    (State.lowWrite s x v).regs.guard = s.regs.guard := by
  simp [State.lowWrite]
@[simp] theorem State.highWrite_keeps (s : State) (x : Place) (v : Nat) :
    (State.highWrite s x v).fuse = s.fuse ∧ (State.highWrite s x v).st = s.st ∧ (State.highWrite s x v).evf.cnt = s.evf.cnt := by
  simp [State.highWrite]
@[simp] theorem State.wholeWrite_keeps (s : State) (x : Place) (v : Nat) :
    (State.wholeWrite s x v).fuse = s.fuse ∧ (State.wholeWrite s x v).st = s.st ∧
    (State.wholeWrite s x v).evf.cnt = s.evf.cnt := by
  simp [State.wholeWrite]
@[simp] theorem State.plainWrite_keeps (s : State) (r : Reg) (i v : Nat) :
    (State.plainWrite s r i v).fuse = s.fuse ∧ (State.plainWrite s r i v).st = s.st ∧
    (State.plainWrite s r i v).evf.cnt = s.evf.cnt := by
  simp [State.plainWrite]
@[simp] theorem State.sleepWrite_keeps (s : State) (n v : Nat) :
    (State.sleepWrite s n v).fuse = s.fuse ∧ (State.sleepWrite s n v).st = s.st ∧ (State.sleepWrite s n v).evf.cnt = s.evf.cnt ∧
    (State.sleepWrite s n v).regs.guard = s.regs.guard := by
  simp [State.sleepWrite]
@[simp] theorem State.engineWrite_keeps (s : State) (r : Reg) (i v : Nat) :
    (State.engineWrite s r i v).fuse = s.fuse ∧ (State.engineWrite s r i v).st = s.st := by
  unfold State.engineWrite; refine ⟨?_, ?_⟩ <;> 
    (repeat' (first | (simp; done) | split | rw [forEach_fuse] | rw [when_fuse] | rw [forEach_st] | rw [when_st] | intro _ | simp))
@[simp] theorem State.store32_keeps (s : State) (r : Reg) (i v : Nat) :
    (State.store32 s r i v).fuse = s.fuse ∧ (State.store32 s r i v).st = s.st := by
  unfold State.store32; refine ⟨?_, ?_⟩ <;> 
    (repeat' (first | (simp; done) | split | rw [forEach_fuse] | rw [when_fuse] | rw [forEach_st] | rw [when_st] | intro _ | simp))
@[simp] theorem State.write4_keeps (s : State) (offset v : Nat) :
    (State.write4 s offset v).fuse = s.fuse ∧ (State.write4 s offset v).st = s.st := by
  unfold State.write4; refine ⟨?_, ?_⟩ <;> 
    (repeat' (first | (simp; done) | split | rw [forEach_fuse] | rw [when_fuse] | rw [forEach_st] | rw [when_st] | intro _ | simp))
@[simp] theorem State.badAccess_keeps (s : State) :
    (State.badAccess s).fuse = s.fuse ∧ (State.badAccess s).st = s.st ∧ (State.badAccess s).evf.cnt = s.evf.cnt ∧
    (State.badAccess s).regs.guard = s.regs.guard := by
  simp [State.badAccess]
@[simp] theorem State.bar0Write_keeps (s : State) (offset : Nat) (wide : Bool) (v : Nat) :
    (State.bar0Write s offset wide v).fuse = s.fuse ∧ (State.bar0Write s offset wide v).st = s.st := by
  unfold State.bar0Write; refine ⟨?_, ?_⟩ <;> 
    (repeat' (first | (simp; done) | split | rw [forEach_fuse] | rw [when_fuse] | rw [forEach_st] | rw [when_st] | intro _ | simp))
@[simp] theorem State.msixAddrWrite_keeps (s : State) (v : Nat) (x : Dword) :
    (State.msixAddrWrite s v x).fuse = s.fuse ∧ (State.msixAddrWrite s v x).st = s.st ∧
    (State.msixAddrWrite s v x).evf.cnt = s.evf.cnt ∧ (State.msixAddrWrite s v x).regs.guard = s.regs.guard := by
  simp [State.msixAddrWrite]
@[simp] theorem State.msixDataWrite_keeps (s : State) (v : Nat) (x : Word) :
    (State.msixDataWrite s v x).fuse = s.fuse ∧ (State.msixDataWrite s v x).st = s.st ∧
    (State.msixDataWrite s v x).evf.cnt = s.evf.cnt ∧ (State.msixDataWrite s v x).regs.guard = s.regs.guard := by
  simp [State.msixDataWrite]
@[simp] theorem State.msixMaskWrite_keeps (s : State) (v : Fin 64) (b : Bool) :
    (State.msixMaskWrite s v b).fuse = s.fuse ∧ (State.msixMaskWrite s v b).st = s.st ∧
    (State.msixMaskWrite s v b).evf.cnt = s.evf.cnt ∧ (State.msixMaskWrite s v b).regs.guard = s.regs.guard := by
  simp [State.msixMaskWrite]
@[simp] theorem State.bar4Write4_keeps (s : State) (o v : Nat) :
    (State.bar4Write4 s o v).fuse = s.fuse ∧ (State.bar4Write4 s o v).st = s.st ∧ (State.bar4Write4 s o v).evf.cnt = s.evf.cnt ∧
    (State.bar4Write4 s o v).regs.guard = s.regs.guard := by
  unfold State.bar4Write4; refine ⟨?_, ?_, ?_, ?_⟩ <;> 
    (repeat' (first | (simp; done) | split | rw [forEach_fuse] | rw [when_fuse] | rw [forEach_st] | rw [when_st] | rw [forEach_evfcnt] | rw [when_evfcnt] | rw [forEach_guard] | rw [when_guard] | intro _ | simp))
@[simp] theorem State.bar4Write_keeps (s : State) (o : Nat) (wide : Bool) (v : Nat) :
    (State.bar4Write s o wide v).fuse = s.fuse ∧ (State.bar4Write s o wide v).st = s.st ∧
    (State.bar4Write s o wide v).evf.cnt = s.evf.cnt ∧ (State.bar4Write s o wide v).regs.guard = s.regs.guard := by
  simp [State.bar4Write]
@[simp] theorem State.barWrite_keeps (s : State) (k v : Nat) :
    (State.barWrite s k v).fuse = s.fuse ∧ (State.barWrite s k v).st = s.st ∧ (State.barWrite s k v).evf.cnt = s.evf.cnt ∧
    (State.barWrite s k v).regs.guard = s.regs.guard := by
  simp [State.barWrite]
@[simp] theorem State.msixEnable_keeps (s : State) (b : Bool) :
    (State.msixEnable s b).fuse = s.fuse ∧ (State.msixEnable s b).st = s.st ∧ (State.msixEnable s b).evf.cnt = s.evf.cnt ∧
    (State.msixEnable s b).regs.guard = s.regs.guard := by
  simp [State.msixEnable]
@[simp] theorem State.registerWrite_keeps (s : State) (t : RegTarget) (v : Nat) :
    (State.registerWrite s t v).fuse = s.fuse ∧ (State.registerWrite s t v).st = s.st := by
  unfold State.registerWrite; simp only []; (repeat' split) <;> simp
@[simp] theorem State.read4_keeps (s : State) (offset : Nat) :
    (State.read4 s offset).fuse = s.fuse ∧ (State.read4 s offset).st = s.st ∧ (State.read4 s offset).evf.cnt = s.evf.cnt ∧
    (State.read4 s offset).regs.guard = s.regs.guard := by
  unfold State.read4; refine ⟨?_, ?_, ?_, ?_⟩ <;> 
    (repeat' (first | (simp; done) | split | rw [forEach_fuse] | rw [when_fuse] | rw [forEach_st] | rw [when_st] | rw [forEach_evfcnt] | rw [when_evfcnt] | rw [forEach_guard] | rw [when_guard] | intro _ | simp))
@[simp] theorem State.readTwo_keeps (s : State) (offset : Nat) :
    (State.readTwo s offset).fuse = s.fuse ∧ (State.readTwo s offset).st = s.st ∧ (State.readTwo s offset).evf.cnt = s.evf.cnt ∧
    (State.readTwo s offset).regs.guard = s.regs.guard := by
  simp [State.readTwo]
@[simp] theorem State.read8_keeps (s : State) (offset : Nat) :
    (State.read8 s offset).fuse = s.fuse ∧ (State.read8 s offset).st = s.st ∧ (State.read8 s offset).evf.cnt = s.evf.cnt ∧
    (State.read8 s offset).regs.guard = s.regs.guard := by
  unfold State.read8; refine ⟨?_, ?_, ?_, ?_⟩ <;> 
    (repeat' (first | (simp; done) | split | rw [forEach_fuse] | rw [when_fuse] | rw [forEach_st] | rw [when_st] | rw [forEach_evfcnt] | rw [when_evfcnt] | rw [forEach_guard] | rw [when_guard] | intro _ | simp))
@[simp] theorem State.registerRead_keeps (s : State) (t : ReadTarget) :
    (State.registerRead s t).fuse = s.fuse ∧ (State.registerRead s t).st = s.st ∧ (State.registerRead s t).evf.cnt = s.evf.cnt ∧
    (State.registerRead s t).regs.guard = s.regs.guard := by
  unfold State.registerRead; refine ⟨?_, ?_, ?_, ?_⟩ <;> 
    (repeat' (first | (simp; done) | split | rw [forEach_fuse] | rw [when_fuse] | rw [forEach_st] | rw [when_st] | rw [forEach_evfcnt] | rw [when_evfcnt] | rw [forEach_guard] | rw [when_guard] | intro _ | simp))
@[simp] theorem State.snapReg_keeps (s : State) (r : Reg) (t : State) : ((State.snapReg s r t)).fuse = t.fuse ∧ ((State.snapReg s r t)).st = t.st ∧ ((State.snapReg s r t)).evf.cnt = t.evf.cnt ∧ ((State.snapReg s r t)).regs.guard = t.regs.guard := by
  unfold State.snapReg
  refine ⟨?_, ?_, ?_, ?_⟩ <;> simp
@[simp] theorem State.snapTake_keeps (s : State) :
    (State.snapTake s).fuse = s.fuse ∧ (State.snapTake s).st = s.st ∧ (State.snapTake s).evf.cnt = s.evf.cnt ∧
    (State.snapTake s).regs.guard = s.regs.guard := by
  unfold State.snapTake; simp only []; (repeat' split) <;> simp

/-! ## Tick -/

@[simp] theorem State.roleMsg_keeps (s : State) (ch role : Nat) (f : State → State) (h0 : ∀ t, (f t).fuse = t.fuse) (h1 : ∀ t, (f t).st = t.st) (h2 : ∀ t, (f t).evf.cnt = t.evf.cnt) (h3 : ∀ t, (f t).regs.guard = t.regs.guard) :
    (State.roleMsg s ch role f).fuse = s.fuse ∧ (State.roleMsg s ch role f).st = s.st ∧
    (State.roleMsg s ch role f).evf.cnt = s.evf.cnt ∧ (State.roleMsg s ch role f).regs.guard = s.regs.guard := by
  simp [State.roleMsg, h0, h1, h2, h3]
@[simp] theorem State.laterOne_keeps (s : State) (e : Later) :
    (State.laterOne s e).fuse = s.fuse ∧ (State.laterOne s e).st = s.st ∧ (State.laterOne s e).regs.guard = s.regs.guard := by
  unfold State.laterOne; simp only []; (repeat' split) <;> simp
@[simp] theorem State.laterRun_keeps (p : Nat × Later → Bool) (s : State) :
    (State.laterRun p s).fuse = s.fuse ∧ (State.laterRun p s).st = s.st ∧ (State.laterRun p s).regs.guard = s.regs.guard := by
  simp [State.laterRun]
@[simp] theorem State.cycleEnd_keeps (s : State) :
    (State.cycleEnd s).fuse = s.fuse ∧ (State.cycleEnd s).st = s.st ∧ (State.cycleEnd s).regs.guard = s.regs.guard := by
  simp [State.cycleEnd]
@[simp] theorem State.advance_keeps (s : State) :
    (State.advance s).fuse = s.fuse ∧ (State.advance s).evf.cnt = s.evf.cnt ∧ (State.advance s).regs.guard = s.regs.guard := by
  simp [State.advance]
@[simp] theorem State.cycleStart_keeps (s : State) :
    (State.cycleStart s).fuse = s.fuse ∧ (State.cycleStart s).st = s.st ∧ (State.cycleStart s).regs.guard = s.regs.guard := by
  simp [State.cycleStart]
@[simp] theorem State.tick_keeps (s : State) :
    (State.tick s).fuse = s.fuse ∧ (State.tick s).regs.guard = s.regs.guard := by
  simp [State.tick]


end Sys2Proof.Machine
end

