-- ==== Sys2Proof/Laws/Balance.lean ====
section
/-!
SUPPORT. What every operation that fires events, re-bases them or resets them does to the equation of the event fabric.
All other operations keep the counters as they are (the Keep files).
-/

namespace Sys2Proof.Machine

theorem EvBalanced.count {k : EvCounters} (h : EvBalanced k) (d c u : Nat) :
    EvBalanced { k with fired := k.fired + BitVec.ofNat 48 (d + c + u), delivered := k.delivered + BitVec.ofNat 48 d,
                        coalesced := k.coalesced + BitVec.ofNat 48 c, suppressed := k.suppressed + BitVec.ofNat 48 u } := by
  unfold EvBalanced at *
  simp only [BitVec.ofNat_add]
  generalize BitVec.ofNat 48 d = d'
  generalize BitVec.ofNat 48 c = c'
  generalize BitVec.ofNat 48 u = u'
  have hk : k.fired = k.firedBase + ((k.delivered - k.deliveredBase) + (k.coalesced - k.coalescedBase)
      + (k.suppressed - k.suppressedBase)) := by rw [← h]; ring
  rw [hk]; ring

namespace State

theorem evCount_balanced {s : State} (h : EvBalanced s.evf.cnt) (d c u : Nat) :
    EvBalanced (s.evCount (d + c + u) d c u).evf.cnt := by
  simp only [evCount, setEvf_keeps]
  exact h.count d c u

theorem evRebase_balanced (s : State) : EvBalanced s.evRebase.evf.cnt := by
  simp [evRebase, EvBalanced]

theorem forEach_balanced {α : Type} (f : α → State → State)
    (hf : ∀ a t, EvBalanced t.evf.cnt → EvBalanced (f a t).evf.cnt) (l : List α) (s : State) (h : EvBalanced s.evf.cnt) :
    EvBalanced (forEach l f s).evf.cnt := by
  induction l generalizing s with
  | nil => exact h
  | cons a l ih => exact ih _ (hf a s h)

theorem kept_balanced {s t : State} (h : EvBalanced s.evf.cnt) (e : t.evf.cnt = s.evf.cnt) : EvBalanced t.evf.cnt := e ▸ h

theorem fireChannel_balanced (s : State) (ch : Nat) (h : EvBalanced s.evf.cnt) : EvBalanced (s.fireChannel ch).evf.cnt := by
  unfold fireChannel
  simp only []
  (repeat' split)
  · exact evCount_balanced (kept_balanced h (by simp)) 0 0 1
  · exact evCount_balanced (kept_balanced h (by simp)) 0 1 0
  · simp only [consume_keeps, setEvf_keeps]
    exact evCount_balanced (kept_balanced h (by simp)) 1 0 0

theorem fire_balanced (s : State) (p : Nat) (h : EvBalanced s.evf.cnt) : EvBalanced (s.fire p).evf.cnt := by
  unfold fire
  exact forEach_balanced _ (fun ch t => t.fireChannel_balanced ch) _ _ h

theorem settle_balanced (s : State) (h : EvBalanced s.evf.cnt) : EvBalanced s.settle.evf.cnt := by
  unfold settle
  exact forEach_balanced _ (fun p t => t.fire_balanced p) _ _ h

theorem laterOne_balanced (e : Later) (s : State) (h : EvBalanced s.evf.cnt) : EvBalanced (s.laterOne e).evf.cnt := by
  cases e
  case fire p => exact fire_balanced s p h
  case fireLate p => exact fire_balanced s p h
  all_goals exact kept_balanced h (by simp [laterOne])

theorem laterRun_balanced (p : Nat × Later → Bool) (s : State) (h : EvBalanced s.evf.cnt) :
    EvBalanced (s.laterRun p).evf.cnt := by
  unfold laterRun
  exact settle_balanced _ (forEach_balanced _ laterOne_balanced _ _ h)

theorem startsDue_balanced (s : State) (h : EvBalanced s.evf.cnt) : EvBalanced s.startsDue.evf.cnt := by
  unfold startsDue
  split
  · exact forEach_balanced _ (fun p t => t.fire_balanced p) _ _ h
  · exact h

theorem cycleEnd_balanced (s : State) (h : EvBalanced s.evf.cnt) : EvBalanced s.cycleEnd.evf.cnt :=
  kept_balanced (laterRun_balanced (fun e => decide (e.1 ≤ s.cyc)) s h) (by simp [cycleEnd])

theorem tick_balanced (s : State) (h : EvBalanced s.evf.cnt) : EvBalanced s.tick.evf.cnt := by
  unfold tick cycleStart
  exact startsDue_balanced _ (laterRun_balanced _ _ (kept_balanced (cycleEnd_balanced s h) (by simp)))

theorem mirrorEvent_balanced (s : State) (p : Nat) (h : EvBalanced s.evf.cnt) : EvBalanced (s.mirrorEvent p).evf.cnt := by
  unfold mirrorEvent mirrorRow
  simp only []
  (repeat' split)
  all_goals try (refine kept_balanced h ?_; simp; done)
  simp only [Option.getD_some]
  exact fire_balanced _ _ (kept_balanced h (by simp))

theorem engineWrite_balanced (s : State) (r : Reg) (i v : Nat) (h : EvBalanced s.evf.cnt) :
    EvBalanced (s.engineWrite r i v).evf.cnt := by
  unfold engineWrite
  split
  all_goals first
    | exact h
    | (refine kept_balanced h ?_; (try split) <;> simp)
    | exact forEach_balanced _ (fun b t => t.fireChannel_balanced _) _ _ h

theorem store32_balanced (s : State) (r : Reg) (i v : Nat) (h : EvBalanced s.evf.cnt) :
    EvBalanced (s.store32 r i v).evf.cnt := by
  unfold store32
  split
  all_goals first
    | (refine kept_balanced h ?_; simp)
    | exact engineWrite_balanced s _ i v h

theorem write4_balanced (s : State) (a v : Nat) (h : EvBalanced s.evf.cnt) : EvBalanced (s.write4 a v).evf.cnt := by
  unfold write4
  (repeat' split)
  all_goals first
    | exact h
    | (refine kept_balanced h ?_; simp)
    | exact store32_balanced s _ _ v h

theorem bar0Write_balanced (s : State) (a : Nat) (w : Bool) (v : Nat) (h : EvBalanced s.evf.cnt) :
    EvBalanced (s.bar0Write a w v).evf.cnt := by
  have h4 := fun t a v => write4_balanced t a v
  unfold bar0Write
  generalize a % _ = m
  generalize v % _ = lo
  generalize v / _ = hi
  split
  · exact kept_balanced h (by simp)
  split
  · split
    · split
      · split
        · exact h
        · exact kept_balanced h (by simp)
      · exact h4 _ _ _ (h4 _ _ _ h)
    · exact h4 _ _ _ h
  · exact h4 _ _ _ h

theorem registerWrite_balanced (s : State) (t : RegTarget) (v : Nat) (h : EvBalanced s.evf.cnt) :
    EvBalanced (s.registerWrite t v).evf.cnt := by
  cases t
  case bar0 a w => exact bar0Write_balanced s _ w v h
  all_goals exact kept_balanced h (by simp only [registerWrite]; (try unfold when); (repeat' split) <;> simp)

end State

end Sys2Proof.Machine
end

