-- ==== Sys2Proof/Laws/State.lean ====
section
/-!
SUPPORT. What each primitive update of State leaves as it was, field by field, and what its reader finds after it.
-/

set_option linter.all false

namespace Sys2Proof.Machine

/-! ## Fields an update leaves -/

namespace State

@[simp] theorem wr_fields (s : State) (r : Reg) (i v : Nat) :
    (s.wr r i v).pending = s.pending ∧ (s.wr r i v).variant = s.variant ∧ (s.wr r i v).cyc = s.cyc ∧ (s.wr r i v).st = s.st ∧
    (s.wr r i v).fresh = s.fresh ∧ (s.wr r i v).snaps = s.snaps ∧ (s.wr r i v).latch = s.latch ∧ (s.wr r i v).hold = s.hold ∧
    (s.wr r i v).raised = s.raised ∧ (s.wr r i v).counted = s.counted ∧ (s.wr r i v).excess = s.excess ∧
    (s.wr r i v).prior = s.prior ∧ (s.wr r i v).readData = s.readData ∧ (s.wr r i v).poisoned = s.poisoned ∧
    (s.wr r i v).readBytes = s.readBytes ∧ (s.wr r i v).egress = s.egress ∧ (s.wr r i v).later = s.later ∧
    (s.wr r i v).pcie = s.pcie ∧ (s.wr r i v).dma = s.dma ∧ (s.wr r i v).ce = s.ce ∧ (s.wr r i v).evf = s.evf ∧
    (s.wr r i v).time = s.time ∧ (s.wr r i v).shot = s.shot ∧ (s.wr r i v).dec = s.dec ∧ (s.wr r i v).mem = s.mem ∧
    (s.wr r i v).och = s.och ∧ (s.wr r i v).rch = s.rch ∧ (s.wr r i v).descs = s.descs ∧ (s.wr r i v).waits = s.waits ∧
    (s.wr r i v).mrk = s.mrk ∧ (s.wr r i v).bdac = s.bdac ∧ (s.wr r i v).tripAt = s.tripAt ∧ (s.wr r i v).cal = s.cal ∧
    (s.wr r i v).dsp = s.dsp ∧ (s.wr r i v).clm = s.clm ∧ (s.wr r i v).acq = s.acq ∧ (s.wr r i v).jrn = s.jrn ∧
    (s.wr r i v).ports = s.ports ∧ (s.wr r i v).hk = s.hk ∧ (s.wr r i v).nvm = s.nvm ∧ (s.wr r i v).fuse = s.fuse ∧
    (s.wr r i v).scarab = s.scarab ∧ (s.wr r i v).power = s.power ∧ (s.wr r i v).therm = s.therm ∧ (s.wr r i v).jtag = s.jtag :=
  ⟨rfl, rfl, rfl, rfl, rfl, rfl, rfl, rfl, rfl, rfl, rfl, rfl, rfl, rfl, rfl, rfl, rfl, rfl, rfl, rfl, rfl, rfl, rfl, rfl, rfl, rfl, rfl, rfl, rfl, rfl, rfl, rfl, rfl, rfl, rfl, rfl, rfl, rfl, rfl, rfl, rfl, rfl, rfl, rfl, rfl⟩

@[simp] theorem setF_fields (s : State) (f : Fld) (i v : Nat) :
    (s.setF f i v).pending = s.pending ∧ (s.setF f i v).variant = s.variant ∧ (s.setF f i v).cyc = s.cyc ∧
    (s.setF f i v).st = s.st ∧ (s.setF f i v).fresh = s.fresh ∧ (s.setF f i v).snaps = s.snaps ∧ (s.setF f i v).latch = s.latch ∧
    (s.setF f i v).hold = s.hold ∧ (s.setF f i v).counted = s.counted ∧ (s.setF f i v).excess = s.excess ∧
    (s.setF f i v).prior = s.prior ∧ (s.setF f i v).readData = s.readData ∧ (s.setF f i v).poisoned = s.poisoned ∧
    (s.setF f i v).readBytes = s.readBytes ∧ (s.setF f i v).egress = s.egress ∧ (s.setF f i v).later = s.later ∧
    (s.setF f i v).pcie = s.pcie ∧ (s.setF f i v).dma = s.dma ∧ (s.setF f i v).ce = s.ce ∧ (s.setF f i v).evf = s.evf ∧
    (s.setF f i v).time = s.time ∧ (s.setF f i v).shot = s.shot ∧ (s.setF f i v).dec = s.dec ∧ (s.setF f i v).mem = s.mem ∧
    (s.setF f i v).och = s.och ∧ (s.setF f i v).rch = s.rch ∧ (s.setF f i v).descs = s.descs ∧ (s.setF f i v).waits = s.waits ∧
    (s.setF f i v).mrk = s.mrk ∧ (s.setF f i v).bdac = s.bdac ∧ (s.setF f i v).tripAt = s.tripAt ∧ (s.setF f i v).cal = s.cal ∧
    (s.setF f i v).dsp = s.dsp ∧ (s.setF f i v).clm = s.clm ∧ (s.setF f i v).acq = s.acq ∧ (s.setF f i v).jrn = s.jrn ∧
    (s.setF f i v).ports = s.ports ∧ (s.setF f i v).hk = s.hk ∧ (s.setF f i v).nvm = s.nvm ∧ (s.setF f i v).fuse = s.fuse ∧
    (s.setF f i v).scarab = s.scarab ∧ (s.setF f i v).power = s.power ∧ (s.setF f i v).therm = s.therm ∧
    (s.setF f i v).jtag = s.jtag :=
  ⟨rfl, rfl, rfl, rfl, rfl, rfl, rfl, rfl, rfl, rfl, rfl, rfl, rfl, rfl, rfl, rfl, rfl, rfl, rfl, rfl, rfl, rfl, rfl, rfl, rfl, rfl, rfl, rfl, rfl, rfl, rfl, rfl, rfl, rfl, rfl, rfl, rfl, rfl, rfl, rfl, rfl, rfl, rfl, rfl⟩

@[simp] theorem setB_fields (s : State) (f : Fld) (i : Nat) (b : Bool) :
    (s.setB f i b).pending = s.pending ∧ (s.setB f i b).variant = s.variant ∧ (s.setB f i b).cyc = s.cyc ∧
    (s.setB f i b).st = s.st ∧ (s.setB f i b).fresh = s.fresh ∧ (s.setB f i b).snaps = s.snaps ∧ (s.setB f i b).latch = s.latch ∧
    (s.setB f i b).hold = s.hold ∧ (s.setB f i b).counted = s.counted ∧ (s.setB f i b).excess = s.excess ∧
    (s.setB f i b).prior = s.prior ∧ (s.setB f i b).readData = s.readData ∧ (s.setB f i b).poisoned = s.poisoned ∧
    (s.setB f i b).readBytes = s.readBytes ∧ (s.setB f i b).egress = s.egress ∧ (s.setB f i b).later = s.later ∧
    (s.setB f i b).pcie = s.pcie ∧ (s.setB f i b).dma = s.dma ∧ (s.setB f i b).ce = s.ce ∧ (s.setB f i b).evf = s.evf ∧
    (s.setB f i b).time = s.time ∧ (s.setB f i b).shot = s.shot ∧ (s.setB f i b).dec = s.dec ∧ (s.setB f i b).mem = s.mem ∧
    (s.setB f i b).och = s.och ∧ (s.setB f i b).rch = s.rch ∧ (s.setB f i b).descs = s.descs ∧ (s.setB f i b).waits = s.waits ∧
    (s.setB f i b).mrk = s.mrk ∧ (s.setB f i b).bdac = s.bdac ∧ (s.setB f i b).tripAt = s.tripAt ∧ (s.setB f i b).cal = s.cal ∧
    (s.setB f i b).dsp = s.dsp ∧ (s.setB f i b).clm = s.clm ∧ (s.setB f i b).acq = s.acq ∧ (s.setB f i b).jrn = s.jrn ∧
    (s.setB f i b).ports = s.ports ∧ (s.setB f i b).hk = s.hk ∧ (s.setB f i b).nvm = s.nvm ∧ (s.setB f i b).fuse = s.fuse ∧
    (s.setB f i b).scarab = s.scarab ∧ (s.setB f i b).power = s.power ∧ (s.setB f i b).therm = s.therm ∧
    (s.setB f i b).jtag = s.jtag :=
  ⟨rfl, rfl, rfl, rfl, rfl, rfl, rfl, rfl, rfl, rfl, rfl, rfl, rfl, rfl, rfl, rfl, rfl, rfl, rfl, rfl, rfl, rfl, rfl, rfl, rfl, rfl, rfl, rfl, rfl, rfl, rfl, rfl, rfl, rfl, rfl, rfl, rfl, rfl, rfl, rfl, rfl, rfl, rfl, rfl⟩

@[simp] theorem bumpBy_fields (s : State) (r : Reg) (i n : Nat) :
    (s.bumpBy r i n).pending = s.pending ∧ (s.bumpBy r i n).variant = s.variant ∧ (s.bumpBy r i n).cyc = s.cyc ∧
    (s.bumpBy r i n).st = s.st ∧ (s.bumpBy r i n).fresh = s.fresh ∧ (s.bumpBy r i n).snaps = s.snaps ∧
    (s.bumpBy r i n).latch = s.latch ∧ (s.bumpBy r i n).hold = s.hold ∧ (s.bumpBy r i n).raised = s.raised ∧
    (s.bumpBy r i n).excess = s.excess ∧ (s.bumpBy r i n).prior = s.prior ∧ (s.bumpBy r i n).readData = s.readData ∧
    (s.bumpBy r i n).poisoned = s.poisoned ∧ (s.bumpBy r i n).readBytes = s.readBytes ∧ (s.bumpBy r i n).egress = s.egress ∧
    (s.bumpBy r i n).later = s.later ∧ (s.bumpBy r i n).pcie = s.pcie ∧ (s.bumpBy r i n).dma = s.dma ∧
    (s.bumpBy r i n).ce = s.ce ∧ (s.bumpBy r i n).evf = s.evf ∧ (s.bumpBy r i n).time = s.time ∧ (s.bumpBy r i n).shot = s.shot ∧
    (s.bumpBy r i n).dec = s.dec ∧ (s.bumpBy r i n).mem = s.mem ∧ (s.bumpBy r i n).och = s.och ∧ (s.bumpBy r i n).rch = s.rch ∧
    (s.bumpBy r i n).descs = s.descs ∧ (s.bumpBy r i n).waits = s.waits ∧ (s.bumpBy r i n).mrk = s.mrk ∧
    (s.bumpBy r i n).bdac = s.bdac ∧ (s.bumpBy r i n).tripAt = s.tripAt ∧ (s.bumpBy r i n).cal = s.cal ∧
    (s.bumpBy r i n).dsp = s.dsp ∧ (s.bumpBy r i n).clm = s.clm ∧ (s.bumpBy r i n).acq = s.acq ∧ (s.bumpBy r i n).jrn = s.jrn ∧
    (s.bumpBy r i n).ports = s.ports ∧ (s.bumpBy r i n).hk = s.hk ∧ (s.bumpBy r i n).nvm = s.nvm ∧
    (s.bumpBy r i n).fuse = s.fuse ∧ (s.bumpBy r i n).scarab = s.scarab ∧ (s.bumpBy r i n).power = s.power ∧
    (s.bumpBy r i n).therm = s.therm ∧ (s.bumpBy r i n).jtag = s.jtag :=
  ⟨rfl, rfl, rfl, rfl, rfl, rfl, rfl, rfl, rfl, rfl, rfl, rfl, rfl, rfl, rfl, rfl, rfl, rfl, rfl, rfl, rfl, rfl, rfl, rfl, rfl, rfl, rfl, rfl, rfl, rfl, rfl, rfl, rfl, rfl, rfl, rfl, rfl, rfl, rfl, rfl, rfl, rfl, rfl, rfl⟩

@[simp] theorem bump_fields (s : State) (r : Reg) (i : Nat) :
    (s.bump r i).pending = s.pending ∧ (s.bump r i).variant = s.variant ∧ (s.bump r i).cyc = s.cyc ∧ (s.bump r i).st = s.st ∧
    (s.bump r i).fresh = s.fresh ∧ (s.bump r i).snaps = s.snaps ∧ (s.bump r i).latch = s.latch ∧ (s.bump r i).hold = s.hold ∧
    (s.bump r i).raised = s.raised ∧ (s.bump r i).excess = s.excess ∧ (s.bump r i).prior = s.prior ∧
    (s.bump r i).readData = s.readData ∧ (s.bump r i).poisoned = s.poisoned ∧ (s.bump r i).readBytes = s.readBytes ∧
    (s.bump r i).egress = s.egress ∧ (s.bump r i).later = s.later ∧ (s.bump r i).pcie = s.pcie ∧ (s.bump r i).dma = s.dma ∧
    (s.bump r i).ce = s.ce ∧ (s.bump r i).evf = s.evf ∧ (s.bump r i).time = s.time ∧ (s.bump r i).shot = s.shot ∧
    (s.bump r i).dec = s.dec ∧ (s.bump r i).mem = s.mem ∧ (s.bump r i).och = s.och ∧ (s.bump r i).rch = s.rch ∧
    (s.bump r i).descs = s.descs ∧ (s.bump r i).waits = s.waits ∧ (s.bump r i).mrk = s.mrk ∧ (s.bump r i).bdac = s.bdac ∧
    (s.bump r i).tripAt = s.tripAt ∧ (s.bump r i).cal = s.cal ∧ (s.bump r i).dsp = s.dsp ∧ (s.bump r i).clm = s.clm ∧
    (s.bump r i).acq = s.acq ∧ (s.bump r i).jrn = s.jrn ∧ (s.bump r i).ports = s.ports ∧ (s.bump r i).hk = s.hk ∧
    (s.bump r i).nvm = s.nvm ∧ (s.bump r i).fuse = s.fuse ∧ (s.bump r i).scarab = s.scarab ∧ (s.bump r i).power = s.power ∧
    (s.bump r i).therm = s.therm ∧ (s.bump r i).jtag = s.jtag :=
  ⟨rfl, rfl, rfl, rfl, rfl, rfl, rfl, rfl, rfl, rfl, rfl, rfl, rfl, rfl, rfl, rfl, rfl, rfl, rfl, rfl, rfl, rfl, rfl, rfl, rfl, rfl, rfl, rfl, rfl, rfl, rfl, rfl, rfl, rfl, rfl, rfl, rfl, rfl, rfl, rfl, rfl, rfl, rfl, rfl⟩

@[simp] theorem raise_fields (s : State) (r : Reg) (i m : Nat) :
    (s.raise r i m).pending = s.pending ∧ (s.raise r i m).variant = s.variant ∧ (s.raise r i m).cyc = s.cyc ∧
    (s.raise r i m).st = s.st ∧ (s.raise r i m).fresh = s.fresh ∧ (s.raise r i m).regs = s.regs ∧
    (s.raise r i m).snaps = s.snaps ∧ (s.raise r i m).latch = s.latch ∧ (s.raise r i m).hold = s.hold ∧
    (s.raise r i m).counted = s.counted ∧ (s.raise r i m).excess = s.excess ∧ (s.raise r i m).prior = s.prior ∧
    (s.raise r i m).readData = s.readData ∧ (s.raise r i m).poisoned = s.poisoned ∧ (s.raise r i m).readBytes = s.readBytes ∧
    (s.raise r i m).egress = s.egress ∧ (s.raise r i m).later = s.later ∧ (s.raise r i m).pcie = s.pcie ∧
    (s.raise r i m).dma = s.dma ∧ (s.raise r i m).ce = s.ce ∧ (s.raise r i m).evf = s.evf ∧ (s.raise r i m).time = s.time ∧
    (s.raise r i m).shot = s.shot ∧ (s.raise r i m).dec = s.dec ∧ (s.raise r i m).mem = s.mem ∧ (s.raise r i m).och = s.och ∧
    (s.raise r i m).rch = s.rch ∧ (s.raise r i m).descs = s.descs ∧ (s.raise r i m).waits = s.waits ∧
    (s.raise r i m).mrk = s.mrk ∧ (s.raise r i m).bdac = s.bdac ∧ (s.raise r i m).tripAt = s.tripAt ∧
    (s.raise r i m).cal = s.cal ∧ (s.raise r i m).dsp = s.dsp ∧ (s.raise r i m).clm = s.clm ∧ (s.raise r i m).acq = s.acq ∧
    (s.raise r i m).jrn = s.jrn ∧ (s.raise r i m).ports = s.ports ∧ (s.raise r i m).hk = s.hk ∧ (s.raise r i m).nvm = s.nvm ∧
    (s.raise r i m).fuse = s.fuse ∧ (s.raise r i m).scarab = s.scarab ∧ (s.raise r i m).power = s.power ∧
    (s.raise r i m).therm = s.therm ∧ (s.raise r i m).jtag = s.jtag :=
  ⟨rfl, rfl, rfl, rfl, rfl, rfl, rfl, rfl, rfl, rfl, rfl, rfl, rfl, rfl, rfl, rfl, rfl, rfl, rfl, rfl, rfl, rfl, rfl, rfl, rfl, rfl, rfl, rfl, rfl, rfl, rfl, rfl, rfl, rfl, rfl, rfl, rfl, rfl, rfl, rfl, rfl, rfl, rfl, rfl, rfl⟩

@[simp] theorem dev_raise (s : State) (r : Reg) (i m : Nat) : (s.raise r i m).dev = s.dev := rfl

@[simp] theorem noteCount_fields (s : State) (r : Reg) (i : Nat) :
    (s.noteCount r i).pending = s.pending ∧ (s.noteCount r i).variant = s.variant ∧ (s.noteCount r i).cyc = s.cyc ∧
    (s.noteCount r i).st = s.st ∧ (s.noteCount r i).fresh = s.fresh ∧ (s.noteCount r i).regs = s.regs ∧
    (s.noteCount r i).snaps = s.snaps ∧ (s.noteCount r i).latch = s.latch ∧ (s.noteCount r i).hold = s.hold ∧
    (s.noteCount r i).raised = s.raised ∧ (s.noteCount r i).excess = s.excess ∧ (s.noteCount r i).prior = s.prior ∧
    (s.noteCount r i).readData = s.readData ∧ (s.noteCount r i).poisoned = s.poisoned ∧
    (s.noteCount r i).readBytes = s.readBytes ∧ (s.noteCount r i).egress = s.egress ∧ (s.noteCount r i).later = s.later ∧
    (s.noteCount r i).pcie = s.pcie ∧ (s.noteCount r i).dma = s.dma ∧ (s.noteCount r i).ce = s.ce ∧
    (s.noteCount r i).evf = s.evf ∧ (s.noteCount r i).time = s.time ∧ (s.noteCount r i).shot = s.shot ∧
    (s.noteCount r i).dec = s.dec ∧ (s.noteCount r i).mem = s.mem ∧ (s.noteCount r i).och = s.och ∧
    (s.noteCount r i).rch = s.rch ∧ (s.noteCount r i).descs = s.descs ∧ (s.noteCount r i).waits = s.waits ∧
    (s.noteCount r i).mrk = s.mrk ∧ (s.noteCount r i).bdac = s.bdac ∧ (s.noteCount r i).tripAt = s.tripAt ∧
    (s.noteCount r i).cal = s.cal ∧ (s.noteCount r i).dsp = s.dsp ∧ (s.noteCount r i).clm = s.clm ∧
    (s.noteCount r i).acq = s.acq ∧ (s.noteCount r i).jrn = s.jrn ∧ (s.noteCount r i).ports = s.ports ∧
    (s.noteCount r i).hk = s.hk ∧ (s.noteCount r i).nvm = s.nvm ∧ (s.noteCount r i).fuse = s.fuse ∧
    (s.noteCount r i).scarab = s.scarab ∧ (s.noteCount r i).power = s.power ∧ (s.noteCount r i).therm = s.therm ∧
    (s.noteCount r i).jtag = s.jtag :=
  ⟨rfl, rfl, rfl, rfl, rfl, rfl, rfl, rfl, rfl, rfl, rfl, rfl, rfl, rfl, rfl, rfl, rfl, rfl, rfl, rfl, rfl, rfl, rfl, rfl, rfl, rfl, rfl, rfl, rfl, rfl, rfl, rfl, rfl, rfl, rfl, rfl, rfl, rfl, rfl, rfl, rfl, rfl, rfl, rfl, rfl⟩

@[simp] theorem rd_noteCount (s : State) (r : Reg) (i : Nat) (x_ : Reg) (j_ : Nat) : (s.noteCount r i).rd x_ j_ = s.rd x_ j_ := rfl

@[simp] theorem fld_noteCount (s : State) (r : Reg) (i : Nat) (x_ : Fld) (j_ : Nat) : (s.noteCount r i).fld x_ j_ = s.fld x_ j_ := rfl

@[simp] theorem dev_noteCount (s : State) (r : Reg) (i : Nat) : (s.noteCount r i).dev = s.dev := rfl

@[simp] theorem flag_noteCount (s : State) (r : Reg) (i : Nat) (x_ : Fld) (j_ : Nat) : (s.noteCount r i).flag x_ j_ = s.flag x_ j_ := rfl

@[simp] theorem emit_fields (s : State) (e : Egress) :
    (s.emit e).pending = s.pending ∧ (s.emit e).variant = s.variant ∧ (s.emit e).cyc = s.cyc ∧ (s.emit e).st = s.st ∧
    (s.emit e).fresh = s.fresh ∧ (s.emit e).regs = s.regs ∧ (s.emit e).snaps = s.snaps ∧ (s.emit e).latch = s.latch ∧
    (s.emit e).hold = s.hold ∧ (s.emit e).raised = s.raised ∧ (s.emit e).counted = s.counted ∧ (s.emit e).excess = s.excess ∧
    (s.emit e).prior = s.prior ∧ (s.emit e).readData = s.readData ∧ (s.emit e).poisoned = s.poisoned ∧
    (s.emit e).readBytes = s.readBytes ∧ (s.emit e).later = s.later ∧ (s.emit e).pcie = s.pcie ∧ (s.emit e).dma = s.dma ∧
    (s.emit e).ce = s.ce ∧ (s.emit e).evf = s.evf ∧ (s.emit e).time = s.time ∧ (s.emit e).shot = s.shot ∧ (s.emit e).dec = s.dec ∧
    (s.emit e).mem = s.mem ∧ (s.emit e).och = s.och ∧ (s.emit e).rch = s.rch ∧ (s.emit e).descs = s.descs ∧
    (s.emit e).waits = s.waits ∧ (s.emit e).mrk = s.mrk ∧ (s.emit e).bdac = s.bdac ∧ (s.emit e).tripAt = s.tripAt ∧
    (s.emit e).cal = s.cal ∧ (s.emit e).dsp = s.dsp ∧ (s.emit e).clm = s.clm ∧ (s.emit e).acq = s.acq ∧ (s.emit e).jrn = s.jrn ∧
    (s.emit e).ports = s.ports ∧ (s.emit e).hk = s.hk ∧ (s.emit e).nvm = s.nvm ∧ (s.emit e).fuse = s.fuse ∧
    (s.emit e).scarab = s.scarab ∧ (s.emit e).power = s.power ∧ (s.emit e).therm = s.therm ∧ (s.emit e).jtag = s.jtag :=
  ⟨rfl, rfl, rfl, rfl, rfl, rfl, rfl, rfl, rfl, rfl, rfl, rfl, rfl, rfl, rfl, rfl, rfl, rfl, rfl, rfl, rfl, rfl, rfl, rfl, rfl, rfl, rfl, rfl, rfl, rfl, rfl, rfl, rfl, rfl, rfl, rfl, rfl, rfl, rfl, rfl, rfl, rfl, rfl, rfl, rfl⟩

@[simp] theorem rd_emit (s : State) (e : Egress) (x_ : Reg) (j_ : Nat) : (s.emit e).rd x_ j_ = s.rd x_ j_ := rfl

@[simp] theorem fld_emit (s : State) (e : Egress) (x_ : Fld) (j_ : Nat) : (s.emit e).fld x_ j_ = s.fld x_ j_ := rfl

@[simp] theorem dev_emit (s : State) (e : Egress) : (s.emit e).dev = s.dev := rfl

@[simp] theorem flag_emit (s : State) (e : Egress) (x_ : Fld) (j_ : Nat) : (s.emit e).flag x_ j_ = s.flag x_ j_ := rfl

@[simp] theorem after_fields (s : State) (c : Nat) (e : Later) :
    (s.after c e).pending = s.pending ∧ (s.after c e).variant = s.variant ∧ (s.after c e).cyc = s.cyc ∧ (s.after c e).st = s.st ∧
    (s.after c e).fresh = s.fresh ∧ (s.after c e).regs = s.regs ∧ (s.after c e).snaps = s.snaps ∧ (s.after c e).latch = s.latch ∧
    (s.after c e).hold = s.hold ∧ (s.after c e).raised = s.raised ∧ (s.after c e).counted = s.counted ∧
    (s.after c e).excess = s.excess ∧ (s.after c e).prior = s.prior ∧ (s.after c e).readData = s.readData ∧
    (s.after c e).poisoned = s.poisoned ∧ (s.after c e).readBytes = s.readBytes ∧ (s.after c e).egress = s.egress ∧
    (s.after c e).pcie = s.pcie ∧ (s.after c e).dma = s.dma ∧ (s.after c e).ce = s.ce ∧ (s.after c e).evf = s.evf ∧
    (s.after c e).time = s.time ∧ (s.after c e).shot = s.shot ∧ (s.after c e).dec = s.dec ∧ (s.after c e).mem = s.mem ∧
    (s.after c e).och = s.och ∧ (s.after c e).rch = s.rch ∧ (s.after c e).descs = s.descs ∧ (s.after c e).waits = s.waits ∧
    (s.after c e).mrk = s.mrk ∧ (s.after c e).bdac = s.bdac ∧ (s.after c e).tripAt = s.tripAt ∧ (s.after c e).cal = s.cal ∧
    (s.after c e).dsp = s.dsp ∧ (s.after c e).clm = s.clm ∧ (s.after c e).acq = s.acq ∧ (s.after c e).jrn = s.jrn ∧
    (s.after c e).ports = s.ports ∧ (s.after c e).hk = s.hk ∧ (s.after c e).nvm = s.nvm ∧ (s.after c e).fuse = s.fuse ∧
    (s.after c e).scarab = s.scarab ∧ (s.after c e).power = s.power ∧ (s.after c e).therm = s.therm ∧
    (s.after c e).jtag = s.jtag :=
  ⟨rfl, rfl, rfl, rfl, rfl, rfl, rfl, rfl, rfl, rfl, rfl, rfl, rfl, rfl, rfl, rfl, rfl, rfl, rfl, rfl, rfl, rfl, rfl, rfl, rfl, rfl, rfl, rfl, rfl, rfl, rfl, rfl, rfl, rfl, rfl, rfl, rfl, rfl, rfl, rfl, rfl, rfl, rfl, rfl, rfl⟩

@[simp] theorem rd_after (s : State) (c : Nat) (e : Later) (x_ : Reg) (j_ : Nat) : (s.after c e).rd x_ j_ = s.rd x_ j_ := rfl

@[simp] theorem fld_after (s : State) (c : Nat) (e : Later) (x_ : Fld) (j_ : Nat) : (s.after c e).fld x_ j_ = s.fld x_ j_ := rfl

@[simp] theorem dev_after (s : State) (c : Nat) (e : Later) : (s.after c e).dev = s.dev := rfl

@[simp] theorem flag_after (s : State) (c : Nat) (e : Later) (x_ : Fld) (j_ : Nat) : (s.after c e).flag x_ j_ = s.flag x_ j_ := rfl

@[simp] theorem returns_fields (s : State) (v : Nat) :
    (s.returns v).pending = s.pending ∧ (s.returns v).variant = s.variant ∧ (s.returns v).cyc = s.cyc ∧ (s.returns v).st = s.st ∧
    (s.returns v).fresh = s.fresh ∧ (s.returns v).regs = s.regs ∧ (s.returns v).snaps = s.snaps ∧ (s.returns v).latch = s.latch ∧
    (s.returns v).hold = s.hold ∧ (s.returns v).raised = s.raised ∧ (s.returns v).counted = s.counted ∧
    (s.returns v).excess = s.excess ∧ (s.returns v).prior = s.prior ∧ (s.returns v).readBytes = s.readBytes ∧
    (s.returns v).egress = s.egress ∧ (s.returns v).later = s.later ∧ (s.returns v).pcie = s.pcie ∧ (s.returns v).dma = s.dma ∧
    (s.returns v).ce = s.ce ∧ (s.returns v).evf = s.evf ∧ (s.returns v).time = s.time ∧ (s.returns v).shot = s.shot ∧
    (s.returns v).dec = s.dec ∧ (s.returns v).mem = s.mem ∧ (s.returns v).och = s.och ∧ (s.returns v).rch = s.rch ∧
    (s.returns v).descs = s.descs ∧ (s.returns v).waits = s.waits ∧ (s.returns v).mrk = s.mrk ∧ (s.returns v).bdac = s.bdac ∧
    (s.returns v).tripAt = s.tripAt ∧ (s.returns v).cal = s.cal ∧ (s.returns v).dsp = s.dsp ∧ (s.returns v).clm = s.clm ∧
    (s.returns v).acq = s.acq ∧ (s.returns v).jrn = s.jrn ∧ (s.returns v).ports = s.ports ∧ (s.returns v).hk = s.hk ∧
    (s.returns v).nvm = s.nvm ∧ (s.returns v).fuse = s.fuse ∧ (s.returns v).scarab = s.scarab ∧ (s.returns v).power = s.power ∧
    (s.returns v).therm = s.therm ∧ (s.returns v).jtag = s.jtag :=
  ⟨rfl, rfl, rfl, rfl, rfl, rfl, rfl, rfl, rfl, rfl, rfl, rfl, rfl, rfl, rfl, rfl, rfl, rfl, rfl, rfl, rfl, rfl, rfl, rfl, rfl, rfl, rfl, rfl, rfl, rfl, rfl, rfl, rfl, rfl, rfl, rfl, rfl, rfl, rfl, rfl, rfl, rfl, rfl, rfl⟩

@[simp] theorem rd_returns (s : State) (v : Nat) (x_ : Reg) (j_ : Nat) : (s.returns v).rd x_ j_ = s.rd x_ j_ := rfl

@[simp] theorem fld_returns (s : State) (v : Nat) (x_ : Fld) (j_ : Nat) : (s.returns v).fld x_ j_ = s.fld x_ j_ := rfl

@[simp] theorem dev_returns (s : State) (v : Nat) : (s.returns v).dev = s.dev := rfl

@[simp] theorem flag_returns (s : State) (v : Nat) (x_ : Fld) (j_ : Nat) : (s.returns v).flag x_ j_ = s.flag x_ j_ := rfl

@[simp] theorem push_fields (s : State) (c : Instr) :
    (s.push c).variant = s.variant ∧ (s.push c).cyc = s.cyc ∧ (s.push c).st = s.st ∧ (s.push c).fresh = s.fresh ∧
    (s.push c).regs = s.regs ∧ (s.push c).snaps = s.snaps ∧ (s.push c).latch = s.latch ∧ (s.push c).hold = s.hold ∧
    (s.push c).raised = s.raised ∧ (s.push c).counted = s.counted ∧ (s.push c).excess = s.excess ∧ (s.push c).prior = s.prior ∧
    (s.push c).readData = s.readData ∧ (s.push c).poisoned = s.poisoned ∧ (s.push c).readBytes = s.readBytes ∧
    (s.push c).egress = s.egress ∧ (s.push c).later = s.later ∧ (s.push c).pcie = s.pcie ∧ (s.push c).dma = s.dma ∧
    (s.push c).ce = s.ce ∧ (s.push c).evf = s.evf ∧ (s.push c).time = s.time ∧ (s.push c).shot = s.shot ∧ (s.push c).dec = s.dec ∧
    (s.push c).mem = s.mem ∧ (s.push c).och = s.och ∧ (s.push c).rch = s.rch ∧ (s.push c).descs = s.descs ∧
    (s.push c).waits = s.waits ∧ (s.push c).mrk = s.mrk ∧ (s.push c).bdac = s.bdac ∧ (s.push c).tripAt = s.tripAt ∧
    (s.push c).cal = s.cal ∧ (s.push c).dsp = s.dsp ∧ (s.push c).clm = s.clm ∧ (s.push c).acq = s.acq ∧ (s.push c).jrn = s.jrn ∧
    (s.push c).ports = s.ports ∧ (s.push c).hk = s.hk ∧ (s.push c).nvm = s.nvm ∧ (s.push c).fuse = s.fuse ∧
    (s.push c).scarab = s.scarab ∧ (s.push c).power = s.power ∧ (s.push c).therm = s.therm ∧ (s.push c).jtag = s.jtag :=
  ⟨rfl, rfl, rfl, rfl, rfl, rfl, rfl, rfl, rfl, rfl, rfl, rfl, rfl, rfl, rfl, rfl, rfl, rfl, rfl, rfl, rfl, rfl, rfl, rfl, rfl, rfl, rfl, rfl, rfl, rfl, rfl, rfl, rfl, rfl, rfl, rfl, rfl, rfl, rfl, rfl, rfl, rfl, rfl, rfl, rfl⟩

@[simp] theorem rd_push (s : State) (c : Instr) (x_ : Reg) (j_ : Nat) : (s.push c).rd x_ j_ = s.rd x_ j_ := rfl

@[simp] theorem fld_push (s : State) (c : Instr) (x_ : Fld) (j_ : Nat) : (s.push c).fld x_ j_ = s.fld x_ j_ := rfl

@[simp] theorem dev_push (s : State) (c : Instr) : (s.push c).dev = s.dev := rfl

@[simp] theorem flag_push (s : State) (c : Instr) (x_ : Fld) (j_ : Nat) : (s.push c).flag x_ j_ = s.flag x_ j_ := rfl

@[simp] theorem hold64_fields (s : State) (x : Place) (w : Nat) :
    (s.hold64 x w).pending = s.pending ∧ (s.hold64 x w).variant = s.variant ∧ (s.hold64 x w).cyc = s.cyc ∧
    (s.hold64 x w).st = s.st ∧ (s.hold64 x w).fresh = s.fresh ∧ (s.hold64 x w).regs = s.regs ∧ (s.hold64 x w).snaps = s.snaps ∧
    (s.hold64 x w).latch = s.latch ∧ (s.hold64 x w).raised = s.raised ∧ (s.hold64 x w).counted = s.counted ∧
    (s.hold64 x w).excess = s.excess ∧ (s.hold64 x w).prior = s.prior ∧ (s.hold64 x w).readData = s.readData ∧
    (s.hold64 x w).poisoned = s.poisoned ∧ (s.hold64 x w).readBytes = s.readBytes ∧ (s.hold64 x w).egress = s.egress ∧
    (s.hold64 x w).later = s.later ∧ (s.hold64 x w).pcie = s.pcie ∧ (s.hold64 x w).dma = s.dma ∧ (s.hold64 x w).ce = s.ce ∧
    (s.hold64 x w).evf = s.evf ∧ (s.hold64 x w).time = s.time ∧ (s.hold64 x w).shot = s.shot ∧ (s.hold64 x w).dec = s.dec ∧
    (s.hold64 x w).mem = s.mem ∧ (s.hold64 x w).och = s.och ∧ (s.hold64 x w).rch = s.rch ∧ (s.hold64 x w).descs = s.descs ∧
    (s.hold64 x w).waits = s.waits ∧ (s.hold64 x w).mrk = s.mrk ∧ (s.hold64 x w).bdac = s.bdac ∧
    (s.hold64 x w).tripAt = s.tripAt ∧ (s.hold64 x w).cal = s.cal ∧ (s.hold64 x w).dsp = s.dsp ∧ (s.hold64 x w).clm = s.clm ∧
    (s.hold64 x w).acq = s.acq ∧ (s.hold64 x w).jrn = s.jrn ∧ (s.hold64 x w).ports = s.ports ∧ (s.hold64 x w).hk = s.hk ∧
    (s.hold64 x w).nvm = s.nvm ∧ (s.hold64 x w).fuse = s.fuse ∧ (s.hold64 x w).scarab = s.scarab ∧
    (s.hold64 x w).power = s.power ∧ (s.hold64 x w).therm = s.therm ∧ (s.hold64 x w).jtag = s.jtag :=
  ⟨rfl, rfl, rfl, rfl, rfl, rfl, rfl, rfl, rfl, rfl, rfl, rfl, rfl, rfl, rfl, rfl, rfl, rfl, rfl, rfl, rfl, rfl, rfl, rfl, rfl, rfl, rfl, rfl, rfl, rfl, rfl, rfl, rfl, rfl, rfl, rfl, rfl, rfl, rfl, rfl, rfl, rfl, rfl, rfl, rfl⟩

@[simp] theorem rd_hold64 (s : State) (x : Place) (w : Nat) (x_ : Reg) (j_ : Nat) : (s.hold64 x w).rd x_ j_ = s.rd x_ j_ := rfl

@[simp] theorem fld_hold64 (s : State) (x : Place) (w : Nat) (x_ : Fld) (j_ : Nat) : (s.hold64 x w).fld x_ j_ = s.fld x_ j_ := rfl

@[simp] theorem dev_hold64 (s : State) (x : Place) (w : Nat) : (s.hold64 x w).dev = s.dev := rfl

@[simp] theorem flag_hold64 (s : State) (x : Place) (w : Nat) (x_ : Fld) (j_ : Nat) : (s.hold64 x w).flag x_ j_ = s.flag x_ j_ := rfl

@[simp] theorem setQp_fields (s : State) (q : Nat) (p : Qp) :
    (s.setQp q p).pending = s.pending ∧ (s.setQp q p).variant = s.variant ∧ (s.setQp q p).cyc = s.cyc ∧ (s.setQp q p).st = s.st ∧
    (s.setQp q p).fresh = s.fresh ∧ (s.setQp q p).regs = s.regs ∧ (s.setQp q p).snaps = s.snaps ∧ (s.setQp q p).latch = s.latch ∧
    (s.setQp q p).hold = s.hold ∧ (s.setQp q p).raised = s.raised ∧ (s.setQp q p).counted = s.counted ∧
    (s.setQp q p).excess = s.excess ∧ (s.setQp q p).prior = s.prior ∧ (s.setQp q p).readData = s.readData ∧
    (s.setQp q p).poisoned = s.poisoned ∧ (s.setQp q p).readBytes = s.readBytes ∧ (s.setQp q p).egress = s.egress ∧
    (s.setQp q p).later = s.later ∧ (s.setQp q p).pcie = s.pcie ∧ (s.setQp q p).dma = s.dma ∧ (s.setQp q p).evf = s.evf ∧
    (s.setQp q p).time = s.time ∧ (s.setQp q p).shot = s.shot ∧ (s.setQp q p).dec = s.dec ∧ (s.setQp q p).mem = s.mem ∧
    (s.setQp q p).och = s.och ∧ (s.setQp q p).rch = s.rch ∧ (s.setQp q p).descs = s.descs ∧ (s.setQp q p).waits = s.waits ∧
    (s.setQp q p).mrk = s.mrk ∧ (s.setQp q p).bdac = s.bdac ∧ (s.setQp q p).tripAt = s.tripAt ∧ (s.setQp q p).cal = s.cal ∧
    (s.setQp q p).dsp = s.dsp ∧ (s.setQp q p).clm = s.clm ∧ (s.setQp q p).acq = s.acq ∧ (s.setQp q p).jrn = s.jrn ∧
    (s.setQp q p).ports = s.ports ∧ (s.setQp q p).hk = s.hk ∧ (s.setQp q p).nvm = s.nvm ∧ (s.setQp q p).fuse = s.fuse ∧
    (s.setQp q p).scarab = s.scarab ∧ (s.setQp q p).power = s.power ∧ (s.setQp q p).therm = s.therm ∧
    (s.setQp q p).jtag = s.jtag :=
  ⟨rfl, rfl, rfl, rfl, rfl, rfl, rfl, rfl, rfl, rfl, rfl, rfl, rfl, rfl, rfl, rfl, rfl, rfl, rfl, rfl, rfl, rfl, rfl, rfl, rfl, rfl, rfl, rfl, rfl, rfl, rfl, rfl, rfl, rfl, rfl, rfl, rfl, rfl, rfl, rfl, rfl, rfl, rfl, rfl, rfl⟩

@[simp] theorem rd_setQp (s : State) (q : Nat) (p : Qp) (x_ : Reg) (j_ : Nat) : (s.setQp q p).rd x_ j_ = s.rd x_ j_ := rfl

@[simp] theorem fld_setQp (s : State) (q : Nat) (p : Qp) (x_ : Fld) (j_ : Nat) : (s.setQp q p).fld x_ j_ = s.fld x_ j_ := rfl

@[simp] theorem dev_setQp (s : State) (q : Nat) (p : Qp) : (s.setQp q p).dev = s.dev := rfl

@[simp] theorem flag_setQp (s : State) (q : Nat) (p : Qp) (x_ : Fld) (j_ : Nat) : (s.setQp q p).flag x_ j_ = s.flag x_ j_ := rfl

@[simp] theorem setEvf_fields (s : State) (e : Evf) :
    (s.setEvf e).pending = s.pending ∧ (s.setEvf e).variant = s.variant ∧ (s.setEvf e).cyc = s.cyc ∧ (s.setEvf e).st = s.st ∧
    (s.setEvf e).fresh = s.fresh ∧ (s.setEvf e).regs = s.regs ∧ (s.setEvf e).snaps = s.snaps ∧ (s.setEvf e).latch = s.latch ∧
    (s.setEvf e).hold = s.hold ∧ (s.setEvf e).raised = s.raised ∧ (s.setEvf e).counted = s.counted ∧
    (s.setEvf e).excess = s.excess ∧ (s.setEvf e).prior = s.prior ∧ (s.setEvf e).readData = s.readData ∧
    (s.setEvf e).poisoned = s.poisoned ∧ (s.setEvf e).readBytes = s.readBytes ∧ (s.setEvf e).egress = s.egress ∧
    (s.setEvf e).later = s.later ∧ (s.setEvf e).pcie = s.pcie ∧ (s.setEvf e).dma = s.dma ∧ (s.setEvf e).ce = s.ce ∧
    (s.setEvf e).time = s.time ∧ (s.setEvf e).shot = s.shot ∧ (s.setEvf e).dec = s.dec ∧ (s.setEvf e).mem = s.mem ∧
    (s.setEvf e).och = s.och ∧ (s.setEvf e).rch = s.rch ∧ (s.setEvf e).descs = s.descs ∧ (s.setEvf e).waits = s.waits ∧
    (s.setEvf e).mrk = s.mrk ∧ (s.setEvf e).bdac = s.bdac ∧ (s.setEvf e).tripAt = s.tripAt ∧ (s.setEvf e).cal = s.cal ∧
    (s.setEvf e).dsp = s.dsp ∧ (s.setEvf e).clm = s.clm ∧ (s.setEvf e).acq = s.acq ∧ (s.setEvf e).jrn = s.jrn ∧
    (s.setEvf e).ports = s.ports ∧ (s.setEvf e).hk = s.hk ∧ (s.setEvf e).nvm = s.nvm ∧ (s.setEvf e).fuse = s.fuse ∧
    (s.setEvf e).scarab = s.scarab ∧ (s.setEvf e).power = s.power ∧ (s.setEvf e).therm = s.therm ∧ (s.setEvf e).jtag = s.jtag :=
  ⟨rfl, rfl, rfl, rfl, rfl, rfl, rfl, rfl, rfl, rfl, rfl, rfl, rfl, rfl, rfl, rfl, rfl, rfl, rfl, rfl, rfl, rfl, rfl, rfl, rfl, rfl, rfl, rfl, rfl, rfl, rfl, rfl, rfl, rfl, rfl, rfl, rfl, rfl, rfl, rfl, rfl, rfl, rfl, rfl, rfl⟩

@[simp] theorem rd_setEvf (s : State) (e : Evf) (x_ : Reg) (j_ : Nat) : (s.setEvf e).rd x_ j_ = s.rd x_ j_ := rfl

@[simp] theorem fld_setEvf (s : State) (e : Evf) (x_ : Fld) (j_ : Nat) : (s.setEvf e).fld x_ j_ = s.fld x_ j_ := rfl

@[simp] theorem dev_setEvf (s : State) (e : Evf) : (s.setEvf e).dev = s.dev := rfl

@[simp] theorem flag_setEvf (s : State) (e : Evf) (x_ : Fld) (j_ : Nat) : (s.setEvf e).flag x_ j_ = s.flag x_ j_ := rfl

@[simp] theorem setTrig_fields (s : State) (n : Nat) (x : Trig) :
    (s.setTrig n x).pending = s.pending ∧ (s.setTrig n x).variant = s.variant ∧ (s.setTrig n x).cyc = s.cyc ∧
    (s.setTrig n x).st = s.st ∧ (s.setTrig n x).fresh = s.fresh ∧ (s.setTrig n x).regs = s.regs ∧
    (s.setTrig n x).snaps = s.snaps ∧ (s.setTrig n x).latch = s.latch ∧ (s.setTrig n x).hold = s.hold ∧
    (s.setTrig n x).raised = s.raised ∧ (s.setTrig n x).counted = s.counted ∧ (s.setTrig n x).excess = s.excess ∧
    (s.setTrig n x).prior = s.prior ∧ (s.setTrig n x).readData = s.readData ∧ (s.setTrig n x).poisoned = s.poisoned ∧
    (s.setTrig n x).readBytes = s.readBytes ∧ (s.setTrig n x).egress = s.egress ∧ (s.setTrig n x).later = s.later ∧
    (s.setTrig n x).pcie = s.pcie ∧ (s.setTrig n x).dma = s.dma ∧ (s.setTrig n x).ce = s.ce ∧ (s.setTrig n x).evf = s.evf ∧
    (s.setTrig n x).shot = s.shot ∧ (s.setTrig n x).dec = s.dec ∧ (s.setTrig n x).mem = s.mem ∧ (s.setTrig n x).och = s.och ∧
    (s.setTrig n x).rch = s.rch ∧ (s.setTrig n x).descs = s.descs ∧ (s.setTrig n x).waits = s.waits ∧
    (s.setTrig n x).mrk = s.mrk ∧ (s.setTrig n x).bdac = s.bdac ∧ (s.setTrig n x).tripAt = s.tripAt ∧
    (s.setTrig n x).cal = s.cal ∧ (s.setTrig n x).dsp = s.dsp ∧ (s.setTrig n x).clm = s.clm ∧ (s.setTrig n x).acq = s.acq ∧
    (s.setTrig n x).jrn = s.jrn ∧ (s.setTrig n x).ports = s.ports ∧ (s.setTrig n x).hk = s.hk ∧ (s.setTrig n x).nvm = s.nvm ∧
    (s.setTrig n x).fuse = s.fuse ∧ (s.setTrig n x).scarab = s.scarab ∧ (s.setTrig n x).power = s.power ∧
    (s.setTrig n x).therm = s.therm ∧ (s.setTrig n x).jtag = s.jtag :=
  ⟨rfl, rfl, rfl, rfl, rfl, rfl, rfl, rfl, rfl, rfl, rfl, rfl, rfl, rfl, rfl, rfl, rfl, rfl, rfl, rfl, rfl, rfl, rfl, rfl, rfl, rfl, rfl, rfl, rfl, rfl, rfl, rfl, rfl, rfl, rfl, rfl, rfl, rfl, rfl, rfl, rfl, rfl, rfl, rfl, rfl⟩

@[simp] theorem rd_setTrig (s : State) (n : Nat) (x : Trig) (x_ : Reg) (j_ : Nat) : (s.setTrig n x).rd x_ j_ = s.rd x_ j_ := rfl

@[simp] theorem fld_setTrig (s : State) (n : Nat) (x : Trig) (x_ : Fld) (j_ : Nat) : (s.setTrig n x).fld x_ j_ = s.fld x_ j_ := rfl

@[simp] theorem dev_setTrig (s : State) (n : Nat) (x : Trig) : (s.setTrig n x).dev = s.dev := rfl

@[simp] theorem flag_setTrig (s : State) (n : Nat) (x : Trig) (x_ : Fld) (j_ : Nat) : (s.setTrig n x).flag x_ j_ = s.flag x_ j_ := rfl

@[simp] theorem setSlot_fields (s : State) (k : Nat) (x : Slot) :
    (s.setSlot k x).pending = s.pending ∧ (s.setSlot k x).variant = s.variant ∧ (s.setSlot k x).cyc = s.cyc ∧
    (s.setSlot k x).st = s.st ∧ (s.setSlot k x).fresh = s.fresh ∧ (s.setSlot k x).regs = s.regs ∧
    (s.setSlot k x).snaps = s.snaps ∧ (s.setSlot k x).latch = s.latch ∧ (s.setSlot k x).hold = s.hold ∧
    (s.setSlot k x).raised = s.raised ∧ (s.setSlot k x).counted = s.counted ∧ (s.setSlot k x).excess = s.excess ∧
    (s.setSlot k x).prior = s.prior ∧ (s.setSlot k x).readData = s.readData ∧ (s.setSlot k x).poisoned = s.poisoned ∧
    (s.setSlot k x).readBytes = s.readBytes ∧ (s.setSlot k x).egress = s.egress ∧ (s.setSlot k x).later = s.later ∧
    (s.setSlot k x).pcie = s.pcie ∧ (s.setSlot k x).dma = s.dma ∧ (s.setSlot k x).ce = s.ce ∧ (s.setSlot k x).evf = s.evf ∧
    (s.setSlot k x).time = s.time ∧ (s.setSlot k x).shot = s.shot ∧ (s.setSlot k x).mem = s.mem ∧ (s.setSlot k x).och = s.och ∧
    (s.setSlot k x).rch = s.rch ∧ (s.setSlot k x).descs = s.descs ∧ (s.setSlot k x).waits = s.waits ∧
    (s.setSlot k x).mrk = s.mrk ∧ (s.setSlot k x).bdac = s.bdac ∧ (s.setSlot k x).tripAt = s.tripAt ∧
    (s.setSlot k x).cal = s.cal ∧ (s.setSlot k x).dsp = s.dsp ∧ (s.setSlot k x).clm = s.clm ∧ (s.setSlot k x).acq = s.acq ∧
    (s.setSlot k x).jrn = s.jrn ∧ (s.setSlot k x).ports = s.ports ∧ (s.setSlot k x).hk = s.hk ∧ (s.setSlot k x).nvm = s.nvm ∧
    (s.setSlot k x).fuse = s.fuse ∧ (s.setSlot k x).scarab = s.scarab ∧ (s.setSlot k x).power = s.power ∧
    (s.setSlot k x).therm = s.therm ∧ (s.setSlot k x).jtag = s.jtag :=
  ⟨rfl, rfl, rfl, rfl, rfl, rfl, rfl, rfl, rfl, rfl, rfl, rfl, rfl, rfl, rfl, rfl, rfl, rfl, rfl, rfl, rfl, rfl, rfl, rfl, rfl, rfl, rfl, rfl, rfl, rfl, rfl, rfl, rfl, rfl, rfl, rfl, rfl, rfl, rfl, rfl, rfl, rfl, rfl, rfl, rfl⟩

@[simp] theorem rd_setSlot (s : State) (k : Nat) (x : Slot) (x_ : Reg) (j_ : Nat) : (s.setSlot k x).rd x_ j_ = s.rd x_ j_ := rfl

@[simp] theorem fld_setSlot (s : State) (k : Nat) (x : Slot) (x_ : Fld) (j_ : Nat) : (s.setSlot k x).fld x_ j_ = s.fld x_ j_ := rfl

@[simp] theorem dev_setSlot (s : State) (k : Nat) (x : Slot) : (s.setSlot k x).dev = s.dev := rfl

@[simp] theorem flag_setSlot (s : State) (k : Nat) (x : Slot) (x_ : Fld) (j_ : Nat) : (s.setSlot k x).flag x_ j_ = s.flag x_ j_ := rfl

@[simp] theorem setChan_fields (s : State) (n : Nat) (o : Och) :
    (s.setChan n o).pending = s.pending ∧ (s.setChan n o).variant = s.variant ∧ (s.setChan n o).cyc = s.cyc ∧
    (s.setChan n o).st = s.st ∧ (s.setChan n o).fresh = s.fresh ∧ (s.setChan n o).regs = s.regs ∧
    (s.setChan n o).snaps = s.snaps ∧ (s.setChan n o).latch = s.latch ∧ (s.setChan n o).hold = s.hold ∧
    (s.setChan n o).raised = s.raised ∧ (s.setChan n o).counted = s.counted ∧ (s.setChan n o).excess = s.excess ∧
    (s.setChan n o).prior = s.prior ∧ (s.setChan n o).readData = s.readData ∧ (s.setChan n o).poisoned = s.poisoned ∧
    (s.setChan n o).readBytes = s.readBytes ∧ (s.setChan n o).egress = s.egress ∧ (s.setChan n o).later = s.later ∧
    (s.setChan n o).pcie = s.pcie ∧ (s.setChan n o).dma = s.dma ∧ (s.setChan n o).ce = s.ce ∧ (s.setChan n o).evf = s.evf ∧
    (s.setChan n o).time = s.time ∧ (s.setChan n o).shot = s.shot ∧ (s.setChan n o).dec = s.dec ∧ (s.setChan n o).mem = s.mem ∧
    (s.setChan n o).rch = s.rch ∧ (s.setChan n o).descs = s.descs ∧ (s.setChan n o).waits = s.waits ∧
    (s.setChan n o).mrk = s.mrk ∧ (s.setChan n o).bdac = s.bdac ∧ (s.setChan n o).tripAt = s.tripAt ∧
    (s.setChan n o).cal = s.cal ∧ (s.setChan n o).dsp = s.dsp ∧ (s.setChan n o).clm = s.clm ∧ (s.setChan n o).acq = s.acq ∧
    (s.setChan n o).jrn = s.jrn ∧ (s.setChan n o).ports = s.ports ∧ (s.setChan n o).hk = s.hk ∧ (s.setChan n o).nvm = s.nvm ∧
    (s.setChan n o).fuse = s.fuse ∧ (s.setChan n o).scarab = s.scarab ∧ (s.setChan n o).power = s.power ∧
    (s.setChan n o).therm = s.therm ∧ (s.setChan n o).jtag = s.jtag :=
  ⟨rfl, rfl, rfl, rfl, rfl, rfl, rfl, rfl, rfl, rfl, rfl, rfl, rfl, rfl, rfl, rfl, rfl, rfl, rfl, rfl, rfl, rfl, rfl, rfl, rfl, rfl, rfl, rfl, rfl, rfl, rfl, rfl, rfl, rfl, rfl, rfl, rfl, rfl, rfl, rfl, rfl, rfl, rfl, rfl, rfl⟩

@[simp] theorem rd_setChan (s : State) (n : Nat) (o : Och) (x_ : Reg) (j_ : Nat) : (s.setChan n o).rd x_ j_ = s.rd x_ j_ := rfl

@[simp] theorem fld_setChan (s : State) (n : Nat) (o : Och) (x_ : Fld) (j_ : Nat) : (s.setChan n o).fld x_ j_ = s.fld x_ j_ := rfl

@[simp] theorem dev_setChan (s : State) (n : Nat) (o : Och) : (s.setChan n o).dev = s.dev := rfl

@[simp] theorem flag_setChan (s : State) (n : Nat) (o : Och) (x_ : Fld) (j_ : Nat) : (s.setChan n o).flag x_ j_ = s.flag x_ j_ := rfl

@[simp] theorem updChan_fields (s : State) (n : Nat) (f : Och → Och) :
    (s.updChan n f).pending = s.pending ∧ (s.updChan n f).variant = s.variant ∧ (s.updChan n f).cyc = s.cyc ∧
    (s.updChan n f).st = s.st ∧ (s.updChan n f).fresh = s.fresh ∧ (s.updChan n f).regs = s.regs ∧
    (s.updChan n f).snaps = s.snaps ∧ (s.updChan n f).latch = s.latch ∧ (s.updChan n f).hold = s.hold ∧
    (s.updChan n f).raised = s.raised ∧ (s.updChan n f).counted = s.counted ∧ (s.updChan n f).excess = s.excess ∧
    (s.updChan n f).prior = s.prior ∧ (s.updChan n f).readData = s.readData ∧ (s.updChan n f).poisoned = s.poisoned ∧
    (s.updChan n f).readBytes = s.readBytes ∧ (s.updChan n f).egress = s.egress ∧ (s.updChan n f).later = s.later ∧
    (s.updChan n f).pcie = s.pcie ∧ (s.updChan n f).dma = s.dma ∧ (s.updChan n f).ce = s.ce ∧ (s.updChan n f).evf = s.evf ∧
    (s.updChan n f).time = s.time ∧ (s.updChan n f).shot = s.shot ∧ (s.updChan n f).dec = s.dec ∧ (s.updChan n f).mem = s.mem ∧
    (s.updChan n f).rch = s.rch ∧ (s.updChan n f).descs = s.descs ∧ (s.updChan n f).waits = s.waits ∧
    (s.updChan n f).mrk = s.mrk ∧ (s.updChan n f).bdac = s.bdac ∧ (s.updChan n f).tripAt = s.tripAt ∧
    (s.updChan n f).cal = s.cal ∧ (s.updChan n f).dsp = s.dsp ∧ (s.updChan n f).clm = s.clm ∧ (s.updChan n f).acq = s.acq ∧
    (s.updChan n f).jrn = s.jrn ∧ (s.updChan n f).ports = s.ports ∧ (s.updChan n f).hk = s.hk ∧ (s.updChan n f).nvm = s.nvm ∧
    (s.updChan n f).fuse = s.fuse ∧ (s.updChan n f).scarab = s.scarab ∧ (s.updChan n f).power = s.power ∧
    (s.updChan n f).therm = s.therm ∧ (s.updChan n f).jtag = s.jtag :=
  ⟨rfl, rfl, rfl, rfl, rfl, rfl, rfl, rfl, rfl, rfl, rfl, rfl, rfl, rfl, rfl, rfl, rfl, rfl, rfl, rfl, rfl, rfl, rfl, rfl, rfl, rfl, rfl, rfl, rfl, rfl, rfl, rfl, rfl, rfl, rfl, rfl, rfl, rfl, rfl, rfl, rfl, rfl, rfl, rfl, rfl⟩

@[simp] theorem rd_updChan (s : State) (n : Nat) (f : Och → Och) (x_ : Reg) (j_ : Nat) : (s.updChan n f).rd x_ j_ = s.rd x_ j_ := rfl

@[simp] theorem fld_updChan (s : State) (n : Nat) (f : Och → Och) (x_ : Fld) (j_ : Nat) : (s.updChan n f).fld x_ j_ = s.fld x_ j_ := rfl

@[simp] theorem dev_updChan (s : State) (n : Nat) (f : Och → Och) : (s.updChan n f).dev = s.dev := rfl

@[simp] theorem flag_updChan (s : State) (n : Nat) (f : Och → Och) (x_ : Fld) (j_ : Nat) : (s.updChan n f).flag x_ j_ = s.flag x_ j_ := rfl

@[simp] theorem setVoice_fields (s : State) (n v : Nat) (x : Voice) :
    (s.setVoice n v x).pending = s.pending ∧ (s.setVoice n v x).variant = s.variant ∧ (s.setVoice n v x).cyc = s.cyc ∧
    (s.setVoice n v x).st = s.st ∧ (s.setVoice n v x).fresh = s.fresh ∧ (s.setVoice n v x).regs = s.regs ∧
    (s.setVoice n v x).snaps = s.snaps ∧ (s.setVoice n v x).latch = s.latch ∧ (s.setVoice n v x).hold = s.hold ∧
    (s.setVoice n v x).raised = s.raised ∧ (s.setVoice n v x).counted = s.counted ∧ (s.setVoice n v x).excess = s.excess ∧
    (s.setVoice n v x).prior = s.prior ∧ (s.setVoice n v x).readData = s.readData ∧ (s.setVoice n v x).poisoned = s.poisoned ∧
    (s.setVoice n v x).readBytes = s.readBytes ∧ (s.setVoice n v x).egress = s.egress ∧ (s.setVoice n v x).later = s.later ∧
    (s.setVoice n v x).pcie = s.pcie ∧ (s.setVoice n v x).dma = s.dma ∧ (s.setVoice n v x).ce = s.ce ∧
    (s.setVoice n v x).evf = s.evf ∧ (s.setVoice n v x).time = s.time ∧ (s.setVoice n v x).shot = s.shot ∧
    (s.setVoice n v x).dec = s.dec ∧ (s.setVoice n v x).mem = s.mem ∧ (s.setVoice n v x).rch = s.rch ∧
    (s.setVoice n v x).descs = s.descs ∧ (s.setVoice n v x).waits = s.waits ∧ (s.setVoice n v x).mrk = s.mrk ∧
    (s.setVoice n v x).bdac = s.bdac ∧ (s.setVoice n v x).tripAt = s.tripAt ∧ (s.setVoice n v x).cal = s.cal ∧
    (s.setVoice n v x).dsp = s.dsp ∧ (s.setVoice n v x).clm = s.clm ∧ (s.setVoice n v x).acq = s.acq ∧
    (s.setVoice n v x).jrn = s.jrn ∧ (s.setVoice n v x).ports = s.ports ∧ (s.setVoice n v x).hk = s.hk ∧
    (s.setVoice n v x).nvm = s.nvm ∧ (s.setVoice n v x).fuse = s.fuse ∧ (s.setVoice n v x).scarab = s.scarab ∧
    (s.setVoice n v x).power = s.power ∧ (s.setVoice n v x).therm = s.therm ∧ (s.setVoice n v x).jtag = s.jtag :=
  ⟨rfl, rfl, rfl, rfl, rfl, rfl, rfl, rfl, rfl, rfl, rfl, rfl, rfl, rfl, rfl, rfl, rfl, rfl, rfl, rfl, rfl, rfl, rfl, rfl, rfl, rfl, rfl, rfl, rfl, rfl, rfl, rfl, rfl, rfl, rfl, rfl, rfl, rfl, rfl, rfl, rfl, rfl, rfl, rfl, rfl⟩

@[simp] theorem rd_setVoice (s : State) (n v : Nat) (x : Voice) (x_ : Reg) (j_ : Nat) : (s.setVoice n v x).rd x_ j_ = s.rd x_ j_ := rfl

@[simp] theorem fld_setVoice (s : State) (n v : Nat) (x : Voice) (x_ : Fld) (j_ : Nat) : (s.setVoice n v x).fld x_ j_ = s.fld x_ j_ := rfl

@[simp] theorem dev_setVoice (s : State) (n v : Nat) (x : Voice) : (s.setVoice n v x).dev = s.dev := rfl

@[simp] theorem flag_setVoice (s : State) (n v : Nat) (x : Voice) (x_ : Fld) (j_ : Nat) : (s.setVoice n v x).flag x_ j_ = s.flag x_ j_ := rfl

@[simp] theorem updVoice_fields (s : State) (n v : Nat) (f : Voice → Voice) :
    (s.updVoice n v f).pending = s.pending ∧ (s.updVoice n v f).variant = s.variant ∧ (s.updVoice n v f).cyc = s.cyc ∧
    (s.updVoice n v f).st = s.st ∧ (s.updVoice n v f).fresh = s.fresh ∧ (s.updVoice n v f).regs = s.regs ∧
    (s.updVoice n v f).snaps = s.snaps ∧ (s.updVoice n v f).latch = s.latch ∧ (s.updVoice n v f).hold = s.hold ∧
    (s.updVoice n v f).raised = s.raised ∧ (s.updVoice n v f).counted = s.counted ∧ (s.updVoice n v f).excess = s.excess ∧
    (s.updVoice n v f).prior = s.prior ∧ (s.updVoice n v f).readData = s.readData ∧ (s.updVoice n v f).poisoned = s.poisoned ∧
    (s.updVoice n v f).readBytes = s.readBytes ∧ (s.updVoice n v f).egress = s.egress ∧ (s.updVoice n v f).later = s.later ∧
    (s.updVoice n v f).pcie = s.pcie ∧ (s.updVoice n v f).dma = s.dma ∧ (s.updVoice n v f).ce = s.ce ∧
    (s.updVoice n v f).evf = s.evf ∧ (s.updVoice n v f).time = s.time ∧ (s.updVoice n v f).shot = s.shot ∧
    (s.updVoice n v f).dec = s.dec ∧ (s.updVoice n v f).mem = s.mem ∧ (s.updVoice n v f).rch = s.rch ∧
    (s.updVoice n v f).descs = s.descs ∧ (s.updVoice n v f).waits = s.waits ∧ (s.updVoice n v f).mrk = s.mrk ∧
    (s.updVoice n v f).bdac = s.bdac ∧ (s.updVoice n v f).tripAt = s.tripAt ∧ (s.updVoice n v f).cal = s.cal ∧
    (s.updVoice n v f).dsp = s.dsp ∧ (s.updVoice n v f).clm = s.clm ∧ (s.updVoice n v f).acq = s.acq ∧
    (s.updVoice n v f).jrn = s.jrn ∧ (s.updVoice n v f).ports = s.ports ∧ (s.updVoice n v f).hk = s.hk ∧
    (s.updVoice n v f).nvm = s.nvm ∧ (s.updVoice n v f).fuse = s.fuse ∧ (s.updVoice n v f).scarab = s.scarab ∧
    (s.updVoice n v f).power = s.power ∧ (s.updVoice n v f).therm = s.therm ∧ (s.updVoice n v f).jtag = s.jtag :=
  ⟨rfl, rfl, rfl, rfl, rfl, rfl, rfl, rfl, rfl, rfl, rfl, rfl, rfl, rfl, rfl, rfl, rfl, rfl, rfl, rfl, rfl, rfl, rfl, rfl, rfl, rfl, rfl, rfl, rfl, rfl, rfl, rfl, rfl, rfl, rfl, rfl, rfl, rfl, rfl, rfl, rfl, rfl, rfl, rfl, rfl⟩

@[simp] theorem rd_updVoice (s : State) (n v : Nat) (f : Voice → Voice) (x_ : Reg) (j_ : Nat) : (s.updVoice n v f).rd x_ j_ = s.rd x_ j_ := rfl

@[simp] theorem fld_updVoice (s : State) (n v : Nat) (f : Voice → Voice) (x_ : Fld) (j_ : Nat) : (s.updVoice n v f).fld x_ j_ = s.fld x_ j_ := rfl

@[simp] theorem dev_updVoice (s : State) (n v : Nat) (f : Voice → Voice) : (s.updVoice n v f).dev = s.dev := rfl

@[simp] theorem flag_updVoice (s : State) (n v : Nat) (f : Voice → Voice) (x_ : Fld) (j_ : Nat) : (s.updVoice n v f).flag x_ j_ = s.flag x_ j_ := rfl

@[simp] theorem setStrm_fields (s : State) (n : Nat) (t : Strm) :
    (s.setStrm n t).pending = s.pending ∧ (s.setStrm n t).variant = s.variant ∧ (s.setStrm n t).cyc = s.cyc ∧
    (s.setStrm n t).st = s.st ∧ (s.setStrm n t).fresh = s.fresh ∧ (s.setStrm n t).regs = s.regs ∧
    (s.setStrm n t).snaps = s.snaps ∧ (s.setStrm n t).latch = s.latch ∧ (s.setStrm n t).hold = s.hold ∧
    (s.setStrm n t).raised = s.raised ∧ (s.setStrm n t).counted = s.counted ∧ (s.setStrm n t).excess = s.excess ∧
    (s.setStrm n t).prior = s.prior ∧ (s.setStrm n t).readData = s.readData ∧ (s.setStrm n t).poisoned = s.poisoned ∧
    (s.setStrm n t).readBytes = s.readBytes ∧ (s.setStrm n t).egress = s.egress ∧ (s.setStrm n t).later = s.later ∧
    (s.setStrm n t).pcie = s.pcie ∧ (s.setStrm n t).dma = s.dma ∧ (s.setStrm n t).ce = s.ce ∧ (s.setStrm n t).evf = s.evf ∧
    (s.setStrm n t).time = s.time ∧ (s.setStrm n t).shot = s.shot ∧ (s.setStrm n t).dec = s.dec ∧ (s.setStrm n t).mem = s.mem ∧
    (s.setStrm n t).rch = s.rch ∧ (s.setStrm n t).descs = s.descs ∧ (s.setStrm n t).waits = s.waits ∧
    (s.setStrm n t).mrk = s.mrk ∧ (s.setStrm n t).bdac = s.bdac ∧ (s.setStrm n t).tripAt = s.tripAt ∧
    (s.setStrm n t).cal = s.cal ∧ (s.setStrm n t).dsp = s.dsp ∧ (s.setStrm n t).clm = s.clm ∧ (s.setStrm n t).acq = s.acq ∧
    (s.setStrm n t).jrn = s.jrn ∧ (s.setStrm n t).ports = s.ports ∧ (s.setStrm n t).hk = s.hk ∧ (s.setStrm n t).nvm = s.nvm ∧
    (s.setStrm n t).fuse = s.fuse ∧ (s.setStrm n t).scarab = s.scarab ∧ (s.setStrm n t).power = s.power ∧
    (s.setStrm n t).therm = s.therm ∧ (s.setStrm n t).jtag = s.jtag :=
  ⟨rfl, rfl, rfl, rfl, rfl, rfl, rfl, rfl, rfl, rfl, rfl, rfl, rfl, rfl, rfl, rfl, rfl, rfl, rfl, rfl, rfl, rfl, rfl, rfl, rfl, rfl, rfl, rfl, rfl, rfl, rfl, rfl, rfl, rfl, rfl, rfl, rfl, rfl, rfl, rfl, rfl, rfl, rfl, rfl, rfl⟩

@[simp] theorem rd_setStrm (s : State) (n : Nat) (t : Strm) (x_ : Reg) (j_ : Nat) : (s.setStrm n t).rd x_ j_ = s.rd x_ j_ := rfl

@[simp] theorem fld_setStrm (s : State) (n : Nat) (t : Strm) (x_ : Fld) (j_ : Nat) : (s.setStrm n t).fld x_ j_ = s.fld x_ j_ := rfl

@[simp] theorem dev_setStrm (s : State) (n : Nat) (t : Strm) : (s.setStrm n t).dev = s.dev := rfl

@[simp] theorem flag_setStrm (s : State) (n : Nat) (t : Strm) (x_ : Fld) (j_ : Nat) : (s.setStrm n t).flag x_ j_ = s.flag x_ j_ := rfl

@[simp] theorem setRchan_fields (s : State) (n : Nat) (r : Rch) :
    (s.setRchan n r).pending = s.pending ∧ (s.setRchan n r).variant = s.variant ∧ (s.setRchan n r).cyc = s.cyc ∧
    (s.setRchan n r).st = s.st ∧ (s.setRchan n r).fresh = s.fresh ∧ (s.setRchan n r).regs = s.regs ∧
    (s.setRchan n r).snaps = s.snaps ∧ (s.setRchan n r).latch = s.latch ∧ (s.setRchan n r).hold = s.hold ∧
    (s.setRchan n r).raised = s.raised ∧ (s.setRchan n r).counted = s.counted ∧ (s.setRchan n r).excess = s.excess ∧
    (s.setRchan n r).prior = s.prior ∧ (s.setRchan n r).readData = s.readData ∧ (s.setRchan n r).poisoned = s.poisoned ∧
    (s.setRchan n r).readBytes = s.readBytes ∧ (s.setRchan n r).egress = s.egress ∧ (s.setRchan n r).later = s.later ∧
    (s.setRchan n r).pcie = s.pcie ∧ (s.setRchan n r).dma = s.dma ∧ (s.setRchan n r).ce = s.ce ∧ (s.setRchan n r).evf = s.evf ∧
    (s.setRchan n r).time = s.time ∧ (s.setRchan n r).shot = s.shot ∧ (s.setRchan n r).dec = s.dec ∧
    (s.setRchan n r).mem = s.mem ∧ (s.setRchan n r).och = s.och ∧ (s.setRchan n r).descs = s.descs ∧
    (s.setRchan n r).waits = s.waits ∧ (s.setRchan n r).mrk = s.mrk ∧ (s.setRchan n r).bdac = s.bdac ∧
    (s.setRchan n r).tripAt = s.tripAt ∧ (s.setRchan n r).cal = s.cal ∧ (s.setRchan n r).dsp = s.dsp ∧
    (s.setRchan n r).clm = s.clm ∧ (s.setRchan n r).acq = s.acq ∧ (s.setRchan n r).jrn = s.jrn ∧
    (s.setRchan n r).ports = s.ports ∧ (s.setRchan n r).hk = s.hk ∧ (s.setRchan n r).nvm = s.nvm ∧
    (s.setRchan n r).fuse = s.fuse ∧ (s.setRchan n r).scarab = s.scarab ∧ (s.setRchan n r).power = s.power ∧
    (s.setRchan n r).therm = s.therm ∧ (s.setRchan n r).jtag = s.jtag :=
  ⟨rfl, rfl, rfl, rfl, rfl, rfl, rfl, rfl, rfl, rfl, rfl, rfl, rfl, rfl, rfl, rfl, rfl, rfl, rfl, rfl, rfl, rfl, rfl, rfl, rfl, rfl, rfl, rfl, rfl, rfl, rfl, rfl, rfl, rfl, rfl, rfl, rfl, rfl, rfl, rfl, rfl, rfl, rfl, rfl, rfl⟩

@[simp] theorem rd_setRchan (s : State) (n : Nat) (r : Rch) (x_ : Reg) (j_ : Nat) : (s.setRchan n r).rd x_ j_ = s.rd x_ j_ := rfl

@[simp] theorem fld_setRchan (s : State) (n : Nat) (r : Rch) (x_ : Fld) (j_ : Nat) : (s.setRchan n r).fld x_ j_ = s.fld x_ j_ := rfl

@[simp] theorem dev_setRchan (s : State) (n : Nat) (r : Rch) : (s.setRchan n r).dev = s.dev := rfl

@[simp] theorem flag_setRchan (s : State) (n : Nat) (r : Rch) (x_ : Fld) (j_ : Nat) : (s.setRchan n r).flag x_ j_ = s.flag x_ j_ := rfl

@[simp] theorem updRchan_fields (s : State) (n : Nat) (f : Rch → Rch) :
    (s.updRchan n f).pending = s.pending ∧ (s.updRchan n f).variant = s.variant ∧ (s.updRchan n f).cyc = s.cyc ∧
    (s.updRchan n f).st = s.st ∧ (s.updRchan n f).fresh = s.fresh ∧ (s.updRchan n f).regs = s.regs ∧
    (s.updRchan n f).snaps = s.snaps ∧ (s.updRchan n f).latch = s.latch ∧ (s.updRchan n f).hold = s.hold ∧
    (s.updRchan n f).raised = s.raised ∧ (s.updRchan n f).counted = s.counted ∧ (s.updRchan n f).excess = s.excess ∧
    (s.updRchan n f).prior = s.prior ∧ (s.updRchan n f).readData = s.readData ∧ (s.updRchan n f).poisoned = s.poisoned ∧
    (s.updRchan n f).readBytes = s.readBytes ∧ (s.updRchan n f).egress = s.egress ∧ (s.updRchan n f).later = s.later ∧
    (s.updRchan n f).pcie = s.pcie ∧ (s.updRchan n f).dma = s.dma ∧ (s.updRchan n f).ce = s.ce ∧ (s.updRchan n f).evf = s.evf ∧
    (s.updRchan n f).time = s.time ∧ (s.updRchan n f).shot = s.shot ∧ (s.updRchan n f).dec = s.dec ∧
    (s.updRchan n f).mem = s.mem ∧ (s.updRchan n f).och = s.och ∧ (s.updRchan n f).descs = s.descs ∧
    (s.updRchan n f).waits = s.waits ∧ (s.updRchan n f).mrk = s.mrk ∧ (s.updRchan n f).bdac = s.bdac ∧
    (s.updRchan n f).tripAt = s.tripAt ∧ (s.updRchan n f).cal = s.cal ∧ (s.updRchan n f).dsp = s.dsp ∧
    (s.updRchan n f).clm = s.clm ∧ (s.updRchan n f).acq = s.acq ∧ (s.updRchan n f).jrn = s.jrn ∧
    (s.updRchan n f).ports = s.ports ∧ (s.updRchan n f).hk = s.hk ∧ (s.updRchan n f).nvm = s.nvm ∧
    (s.updRchan n f).fuse = s.fuse ∧ (s.updRchan n f).scarab = s.scarab ∧ (s.updRchan n f).power = s.power ∧
    (s.updRchan n f).therm = s.therm ∧ (s.updRchan n f).jtag = s.jtag :=
  ⟨rfl, rfl, rfl, rfl, rfl, rfl, rfl, rfl, rfl, rfl, rfl, rfl, rfl, rfl, rfl, rfl, rfl, rfl, rfl, rfl, rfl, rfl, rfl, rfl, rfl, rfl, rfl, rfl, rfl, rfl, rfl, rfl, rfl, rfl, rfl, rfl, rfl, rfl, rfl, rfl, rfl, rfl, rfl, rfl, rfl⟩

@[simp] theorem rd_updRchan (s : State) (n : Nat) (f : Rch → Rch) (x_ : Reg) (j_ : Nat) : (s.updRchan n f).rd x_ j_ = s.rd x_ j_ := rfl

@[simp] theorem fld_updRchan (s : State) (n : Nat) (f : Rch → Rch) (x_ : Fld) (j_ : Nat) : (s.updRchan n f).fld x_ j_ = s.fld x_ j_ := rfl

@[simp] theorem dev_updRchan (s : State) (n : Nat) (f : Rch → Rch) : (s.updRchan n f).dev = s.dev := rfl

@[simp] theorem flag_updRchan (s : State) (n : Nat) (f : Rch → Rch) (x_ : Fld) (j_ : Nat) : (s.updRchan n f).flag x_ j_ = s.flag x_ j_ := rfl

@[simp] theorem setTone_fields (s : State) (r t : Nat) (y : Tone) :
    (s.setTone r t y).pending = s.pending ∧ (s.setTone r t y).variant = s.variant ∧ (s.setTone r t y).cyc = s.cyc ∧
    (s.setTone r t y).st = s.st ∧ (s.setTone r t y).fresh = s.fresh ∧ (s.setTone r t y).regs = s.regs ∧
    (s.setTone r t y).snaps = s.snaps ∧ (s.setTone r t y).latch = s.latch ∧ (s.setTone r t y).hold = s.hold ∧
    (s.setTone r t y).raised = s.raised ∧ (s.setTone r t y).counted = s.counted ∧ (s.setTone r t y).excess = s.excess ∧
    (s.setTone r t y).prior = s.prior ∧ (s.setTone r t y).readData = s.readData ∧ (s.setTone r t y).poisoned = s.poisoned ∧
    (s.setTone r t y).readBytes = s.readBytes ∧ (s.setTone r t y).egress = s.egress ∧ (s.setTone r t y).later = s.later ∧
    (s.setTone r t y).pcie = s.pcie ∧ (s.setTone r t y).dma = s.dma ∧ (s.setTone r t y).ce = s.ce ∧
    (s.setTone r t y).evf = s.evf ∧ (s.setTone r t y).time = s.time ∧ (s.setTone r t y).shot = s.shot ∧
    (s.setTone r t y).dec = s.dec ∧ (s.setTone r t y).mem = s.mem ∧ (s.setTone r t y).och = s.och ∧
    (s.setTone r t y).descs = s.descs ∧ (s.setTone r t y).waits = s.waits ∧ (s.setTone r t y).mrk = s.mrk ∧
    (s.setTone r t y).bdac = s.bdac ∧ (s.setTone r t y).tripAt = s.tripAt ∧ (s.setTone r t y).cal = s.cal ∧
    (s.setTone r t y).dsp = s.dsp ∧ (s.setTone r t y).clm = s.clm ∧ (s.setTone r t y).acq = s.acq ∧
    (s.setTone r t y).jrn = s.jrn ∧ (s.setTone r t y).ports = s.ports ∧ (s.setTone r t y).hk = s.hk ∧
    (s.setTone r t y).nvm = s.nvm ∧ (s.setTone r t y).fuse = s.fuse ∧ (s.setTone r t y).scarab = s.scarab ∧
    (s.setTone r t y).power = s.power ∧ (s.setTone r t y).therm = s.therm ∧ (s.setTone r t y).jtag = s.jtag :=
  ⟨rfl, rfl, rfl, rfl, rfl, rfl, rfl, rfl, rfl, rfl, rfl, rfl, rfl, rfl, rfl, rfl, rfl, rfl, rfl, rfl, rfl, rfl, rfl, rfl, rfl, rfl, rfl, rfl, rfl, rfl, rfl, rfl, rfl, rfl, rfl, rfl, rfl, rfl, rfl, rfl, rfl, rfl, rfl, rfl, rfl⟩

@[simp] theorem rd_setTone (s : State) (r t : Nat) (y : Tone) (x_ : Reg) (j_ : Nat) : (s.setTone r t y).rd x_ j_ = s.rd x_ j_ := rfl

@[simp] theorem fld_setTone (s : State) (r t : Nat) (y : Tone) (x_ : Fld) (j_ : Nat) : (s.setTone r t y).fld x_ j_ = s.fld x_ j_ := rfl

@[simp] theorem dev_setTone (s : State) (r t : Nat) (y : Tone) : (s.setTone r t y).dev = s.dev := rfl

@[simp] theorem flag_setTone (s : State) (r t : Nat) (y : Tone) (x_ : Fld) (j_ : Nat) : (s.setTone r t y).flag x_ j_ = s.flag x_ j_ := rfl

@[simp] theorem setWait_fields (s : State) (k : Nat) (w : Option Wait) :
    (s.setWait k w).pending = s.pending ∧ (s.setWait k w).variant = s.variant ∧ (s.setWait k w).cyc = s.cyc ∧
    (s.setWait k w).st = s.st ∧ (s.setWait k w).fresh = s.fresh ∧ (s.setWait k w).regs = s.regs ∧
    (s.setWait k w).snaps = s.snaps ∧ (s.setWait k w).latch = s.latch ∧ (s.setWait k w).hold = s.hold ∧
    (s.setWait k w).raised = s.raised ∧ (s.setWait k w).counted = s.counted ∧ (s.setWait k w).excess = s.excess ∧
    (s.setWait k w).prior = s.prior ∧ (s.setWait k w).readData = s.readData ∧ (s.setWait k w).poisoned = s.poisoned ∧
    (s.setWait k w).readBytes = s.readBytes ∧ (s.setWait k w).egress = s.egress ∧ (s.setWait k w).later = s.later ∧
    (s.setWait k w).pcie = s.pcie ∧ (s.setWait k w).dma = s.dma ∧ (s.setWait k w).ce = s.ce ∧ (s.setWait k w).evf = s.evf ∧
    (s.setWait k w).time = s.time ∧ (s.setWait k w).shot = s.shot ∧ (s.setWait k w).dec = s.dec ∧ (s.setWait k w).mem = s.mem ∧
    (s.setWait k w).och = s.och ∧ (s.setWait k w).rch = s.rch ∧ (s.setWait k w).descs = s.descs ∧ (s.setWait k w).mrk = s.mrk ∧
    (s.setWait k w).bdac = s.bdac ∧ (s.setWait k w).tripAt = s.tripAt ∧ (s.setWait k w).cal = s.cal ∧
    (s.setWait k w).dsp = s.dsp ∧ (s.setWait k w).clm = s.clm ∧ (s.setWait k w).acq = s.acq ∧ (s.setWait k w).jrn = s.jrn ∧
    (s.setWait k w).ports = s.ports ∧ (s.setWait k w).hk = s.hk ∧ (s.setWait k w).nvm = s.nvm ∧ (s.setWait k w).fuse = s.fuse ∧
    (s.setWait k w).scarab = s.scarab ∧ (s.setWait k w).power = s.power ∧ (s.setWait k w).therm = s.therm ∧
    (s.setWait k w).jtag = s.jtag :=
  ⟨rfl, rfl, rfl, rfl, rfl, rfl, rfl, rfl, rfl, rfl, rfl, rfl, rfl, rfl, rfl, rfl, rfl, rfl, rfl, rfl, rfl, rfl, rfl, rfl, rfl, rfl, rfl, rfl, rfl, rfl, rfl, rfl, rfl, rfl, rfl, rfl, rfl, rfl, rfl, rfl, rfl, rfl, rfl, rfl, rfl⟩

@[simp] theorem rd_setWait (s : State) (k : Nat) (w : Option Wait) (x_ : Reg) (j_ : Nat) : (s.setWait k w).rd x_ j_ = s.rd x_ j_ := rfl

@[simp] theorem fld_setWait (s : State) (k : Nat) (w : Option Wait) (x_ : Fld) (j_ : Nat) : (s.setWait k w).fld x_ j_ = s.fld x_ j_ := rfl

@[simp] theorem dev_setWait (s : State) (k : Nat) (w : Option Wait) : (s.setWait k w).dev = s.dev := rfl

@[simp] theorem flag_setWait (s : State) (k : Nat) (w : Option Wait) (x_ : Fld) (j_ : Nat) : (s.setWait k w).flag x_ j_ = s.flag x_ j_ := rfl

@[simp] theorem setPin_fields (s : State) (m : Nat) (p : Pin) :
    (s.setPin m p).pending = s.pending ∧ (s.setPin m p).variant = s.variant ∧ (s.setPin m p).cyc = s.cyc ∧
    (s.setPin m p).st = s.st ∧ (s.setPin m p).fresh = s.fresh ∧ (s.setPin m p).regs = s.regs ∧ (s.setPin m p).snaps = s.snaps ∧
    (s.setPin m p).latch = s.latch ∧ (s.setPin m p).hold = s.hold ∧ (s.setPin m p).raised = s.raised ∧
    (s.setPin m p).counted = s.counted ∧ (s.setPin m p).excess = s.excess ∧ (s.setPin m p).prior = s.prior ∧
    (s.setPin m p).readData = s.readData ∧ (s.setPin m p).poisoned = s.poisoned ∧ (s.setPin m p).readBytes = s.readBytes ∧
    (s.setPin m p).egress = s.egress ∧ (s.setPin m p).later = s.later ∧ (s.setPin m p).pcie = s.pcie ∧
    (s.setPin m p).dma = s.dma ∧ (s.setPin m p).ce = s.ce ∧ (s.setPin m p).evf = s.evf ∧ (s.setPin m p).time = s.time ∧
    (s.setPin m p).shot = s.shot ∧ (s.setPin m p).dec = s.dec ∧ (s.setPin m p).mem = s.mem ∧ (s.setPin m p).och = s.och ∧
    (s.setPin m p).rch = s.rch ∧ (s.setPin m p).descs = s.descs ∧ (s.setPin m p).waits = s.waits ∧ (s.setPin m p).bdac = s.bdac ∧
    (s.setPin m p).tripAt = s.tripAt ∧ (s.setPin m p).cal = s.cal ∧ (s.setPin m p).dsp = s.dsp ∧ (s.setPin m p).clm = s.clm ∧
    (s.setPin m p).acq = s.acq ∧ (s.setPin m p).jrn = s.jrn ∧ (s.setPin m p).ports = s.ports ∧ (s.setPin m p).hk = s.hk ∧
    (s.setPin m p).nvm = s.nvm ∧ (s.setPin m p).fuse = s.fuse ∧ (s.setPin m p).scarab = s.scarab ∧
    (s.setPin m p).power = s.power ∧ (s.setPin m p).therm = s.therm ∧ (s.setPin m p).jtag = s.jtag :=
  ⟨rfl, rfl, rfl, rfl, rfl, rfl, rfl, rfl, rfl, rfl, rfl, rfl, rfl, rfl, rfl, rfl, rfl, rfl, rfl, rfl, rfl, rfl, rfl, rfl, rfl, rfl, rfl, rfl, rfl, rfl, rfl, rfl, rfl, rfl, rfl, rfl, rfl, rfl, rfl, rfl, rfl, rfl, rfl, rfl, rfl⟩

@[simp] theorem rd_setPin (s : State) (m : Nat) (p : Pin) (x_ : Reg) (j_ : Nat) : (s.setPin m p).rd x_ j_ = s.rd x_ j_ := rfl

@[simp] theorem fld_setPin (s : State) (m : Nat) (p : Pin) (x_ : Fld) (j_ : Nat) : (s.setPin m p).fld x_ j_ = s.fld x_ j_ := rfl

@[simp] theorem dev_setPin (s : State) (m : Nat) (p : Pin) : (s.setPin m p).dev = s.dev := rfl

@[simp] theorem flag_setPin (s : State) (m : Nat) (p : Pin) (x_ : Fld) (j_ : Nat) : (s.setPin m p).flag x_ j_ = s.flag x_ j_ := rfl

@[simp] theorem setBd_fields (s : State) (k : Nat) (b : Bdac) :
    (s.setBd k b).pending = s.pending ∧ (s.setBd k b).variant = s.variant ∧ (s.setBd k b).cyc = s.cyc ∧ (s.setBd k b).st = s.st ∧
    (s.setBd k b).fresh = s.fresh ∧ (s.setBd k b).regs = s.regs ∧ (s.setBd k b).snaps = s.snaps ∧ (s.setBd k b).latch = s.latch ∧
    (s.setBd k b).hold = s.hold ∧ (s.setBd k b).raised = s.raised ∧ (s.setBd k b).counted = s.counted ∧
    (s.setBd k b).excess = s.excess ∧ (s.setBd k b).prior = s.prior ∧ (s.setBd k b).readData = s.readData ∧
    (s.setBd k b).poisoned = s.poisoned ∧ (s.setBd k b).readBytes = s.readBytes ∧ (s.setBd k b).egress = s.egress ∧
    (s.setBd k b).later = s.later ∧ (s.setBd k b).pcie = s.pcie ∧ (s.setBd k b).dma = s.dma ∧ (s.setBd k b).ce = s.ce ∧
    (s.setBd k b).evf = s.evf ∧ (s.setBd k b).time = s.time ∧ (s.setBd k b).shot = s.shot ∧ (s.setBd k b).dec = s.dec ∧
    (s.setBd k b).mem = s.mem ∧ (s.setBd k b).och = s.och ∧ (s.setBd k b).rch = s.rch ∧ (s.setBd k b).descs = s.descs ∧
    (s.setBd k b).waits = s.waits ∧ (s.setBd k b).mrk = s.mrk ∧ (s.setBd k b).tripAt = s.tripAt ∧ (s.setBd k b).cal = s.cal ∧
    (s.setBd k b).dsp = s.dsp ∧ (s.setBd k b).clm = s.clm ∧ (s.setBd k b).acq = s.acq ∧ (s.setBd k b).jrn = s.jrn ∧
    (s.setBd k b).ports = s.ports ∧ (s.setBd k b).hk = s.hk ∧ (s.setBd k b).nvm = s.nvm ∧ (s.setBd k b).fuse = s.fuse ∧
    (s.setBd k b).scarab = s.scarab ∧ (s.setBd k b).power = s.power ∧ (s.setBd k b).therm = s.therm ∧
    (s.setBd k b).jtag = s.jtag :=
  ⟨rfl, rfl, rfl, rfl, rfl, rfl, rfl, rfl, rfl, rfl, rfl, rfl, rfl, rfl, rfl, rfl, rfl, rfl, rfl, rfl, rfl, rfl, rfl, rfl, rfl, rfl, rfl, rfl, rfl, rfl, rfl, rfl, rfl, rfl, rfl, rfl, rfl, rfl, rfl, rfl, rfl, rfl, rfl, rfl, rfl⟩

@[simp] theorem rd_setBd (s : State) (k : Nat) (b : Bdac) (x_ : Reg) (j_ : Nat) : (s.setBd k b).rd x_ j_ = s.rd x_ j_ := rfl

@[simp] theorem fld_setBd (s : State) (k : Nat) (b : Bdac) (x_ : Fld) (j_ : Nat) : (s.setBd k b).fld x_ j_ = s.fld x_ j_ := rfl

@[simp] theorem dev_setBd (s : State) (k : Nat) (b : Bdac) : (s.setBd k b).dev = s.dev := rfl

@[simp] theorem flag_setBd (s : State) (k : Nat) (b : Bdac) (x_ : Fld) (j_ : Nat) : (s.setBd k b).flag x_ j_ = s.flag x_ j_ := rfl

@[simp] theorem setCalUnit_fields (s : State) (k i : Nat) (u : CalUnit) :
    (s.setCalUnit k i u).pending = s.pending ∧ (s.setCalUnit k i u).variant = s.variant ∧ (s.setCalUnit k i u).cyc = s.cyc ∧
    (s.setCalUnit k i u).st = s.st ∧ (s.setCalUnit k i u).fresh = s.fresh ∧ (s.setCalUnit k i u).regs = s.regs ∧
    (s.setCalUnit k i u).snaps = s.snaps ∧ (s.setCalUnit k i u).latch = s.latch ∧ (s.setCalUnit k i u).hold = s.hold ∧
    (s.setCalUnit k i u).raised = s.raised ∧ (s.setCalUnit k i u).counted = s.counted ∧ (s.setCalUnit k i u).excess = s.excess ∧
    (s.setCalUnit k i u).prior = s.prior ∧ (s.setCalUnit k i u).readData = s.readData ∧
    (s.setCalUnit k i u).poisoned = s.poisoned ∧ (s.setCalUnit k i u).readBytes = s.readBytes ∧
    (s.setCalUnit k i u).egress = s.egress ∧ (s.setCalUnit k i u).later = s.later ∧ (s.setCalUnit k i u).pcie = s.pcie ∧
    (s.setCalUnit k i u).dma = s.dma ∧ (s.setCalUnit k i u).ce = s.ce ∧ (s.setCalUnit k i u).evf = s.evf ∧
    (s.setCalUnit k i u).time = s.time ∧ (s.setCalUnit k i u).shot = s.shot ∧ (s.setCalUnit k i u).dec = s.dec ∧
    (s.setCalUnit k i u).mem = s.mem ∧ (s.setCalUnit k i u).och = s.och ∧ (s.setCalUnit k i u).rch = s.rch ∧
    (s.setCalUnit k i u).descs = s.descs ∧ (s.setCalUnit k i u).waits = s.waits ∧ (s.setCalUnit k i u).mrk = s.mrk ∧
    (s.setCalUnit k i u).bdac = s.bdac ∧ (s.setCalUnit k i u).tripAt = s.tripAt ∧ (s.setCalUnit k i u).dsp = s.dsp ∧
    (s.setCalUnit k i u).clm = s.clm ∧ (s.setCalUnit k i u).acq = s.acq ∧ (s.setCalUnit k i u).jrn = s.jrn ∧
    (s.setCalUnit k i u).ports = s.ports ∧ (s.setCalUnit k i u).hk = s.hk ∧ (s.setCalUnit k i u).nvm = s.nvm ∧
    (s.setCalUnit k i u).fuse = s.fuse ∧ (s.setCalUnit k i u).scarab = s.scarab ∧ (s.setCalUnit k i u).power = s.power ∧
    (s.setCalUnit k i u).therm = s.therm ∧ (s.setCalUnit k i u).jtag = s.jtag :=
  ⟨rfl, rfl, rfl, rfl, rfl, rfl, rfl, rfl, rfl, rfl, rfl, rfl, rfl, rfl, rfl, rfl, rfl, rfl, rfl, rfl, rfl, rfl, rfl, rfl, rfl, rfl, rfl, rfl, rfl, rfl, rfl, rfl, rfl, rfl, rfl, rfl, rfl, rfl, rfl, rfl, rfl, rfl, rfl, rfl, rfl⟩

@[simp] theorem rd_setCalUnit (s : State) (k i : Nat) (u : CalUnit) (x_ : Reg) (j_ : Nat) : (s.setCalUnit k i u).rd x_ j_ = s.rd x_ j_ := rfl

@[simp] theorem fld_setCalUnit (s : State) (k i : Nat) (u : CalUnit) (x_ : Fld) (j_ : Nat) : (s.setCalUnit k i u).fld x_ j_ = s.fld x_ j_ := rfl

@[simp] theorem dev_setCalUnit (s : State) (k i : Nat) (u : CalUnit) : (s.setCalUnit k i u).dev = s.dev := rfl

@[simp] theorem flag_setCalUnit (s : State) (k i : Nat) (u : CalUnit) (x_ : Fld) (j_ : Nat) : (s.setCalUnit k i u).flag x_ j_ = s.flag x_ j_ := rfl

@[simp] theorem setCore_fields (s : State) (q : Nat) (c : Core) :
    (s.setCore q c).pending = s.pending ∧ (s.setCore q c).variant = s.variant ∧ (s.setCore q c).cyc = s.cyc ∧
    (s.setCore q c).st = s.st ∧ (s.setCore q c).fresh = s.fresh ∧ (s.setCore q c).regs = s.regs ∧
    (s.setCore q c).snaps = s.snaps ∧ (s.setCore q c).latch = s.latch ∧ (s.setCore q c).hold = s.hold ∧
    (s.setCore q c).raised = s.raised ∧ (s.setCore q c).counted = s.counted ∧ (s.setCore q c).excess = s.excess ∧
    (s.setCore q c).prior = s.prior ∧ (s.setCore q c).readData = s.readData ∧ (s.setCore q c).poisoned = s.poisoned ∧
    (s.setCore q c).readBytes = s.readBytes ∧ (s.setCore q c).egress = s.egress ∧ (s.setCore q c).later = s.later ∧
    (s.setCore q c).pcie = s.pcie ∧ (s.setCore q c).dma = s.dma ∧ (s.setCore q c).ce = s.ce ∧ (s.setCore q c).evf = s.evf ∧
    (s.setCore q c).time = s.time ∧ (s.setCore q c).shot = s.shot ∧ (s.setCore q c).dec = s.dec ∧ (s.setCore q c).mem = s.mem ∧
    (s.setCore q c).och = s.och ∧ (s.setCore q c).rch = s.rch ∧ (s.setCore q c).descs = s.descs ∧
    (s.setCore q c).waits = s.waits ∧ (s.setCore q c).mrk = s.mrk ∧ (s.setCore q c).bdac = s.bdac ∧
    (s.setCore q c).tripAt = s.tripAt ∧ (s.setCore q c).cal = s.cal ∧ (s.setCore q c).clm = s.clm ∧ (s.setCore q c).acq = s.acq ∧
    (s.setCore q c).jrn = s.jrn ∧ (s.setCore q c).ports = s.ports ∧ (s.setCore q c).hk = s.hk ∧ (s.setCore q c).nvm = s.nvm ∧
    (s.setCore q c).fuse = s.fuse ∧ (s.setCore q c).scarab = s.scarab ∧ (s.setCore q c).power = s.power ∧
    (s.setCore q c).therm = s.therm ∧ (s.setCore q c).jtag = s.jtag :=
  ⟨rfl, rfl, rfl, rfl, rfl, rfl, rfl, rfl, rfl, rfl, rfl, rfl, rfl, rfl, rfl, rfl, rfl, rfl, rfl, rfl, rfl, rfl, rfl, rfl, rfl, rfl, rfl, rfl, rfl, rfl, rfl, rfl, rfl, rfl, rfl, rfl, rfl, rfl, rfl, rfl, rfl, rfl, rfl, rfl, rfl⟩

@[simp] theorem rd_setCore (s : State) (q : Nat) (c : Core) (x_ : Reg) (j_ : Nat) : (s.setCore q c).rd x_ j_ = s.rd x_ j_ := rfl

@[simp] theorem fld_setCore (s : State) (q : Nat) (c : Core) (x_ : Fld) (j_ : Nat) : (s.setCore q c).fld x_ j_ = s.fld x_ j_ := rfl

@[simp] theorem dev_setCore (s : State) (q : Nat) (c : Core) : (s.setCore q c).dev = s.dev := rfl

@[simp] theorem flag_setCore (s : State) (q : Nat) (c : Core) (x_ : Fld) (j_ : Nat) : (s.setCore q c).flag x_ j_ = s.flag x_ j_ := rfl

@[simp] theorem updCore_fields (s : State) (q : Nat) (f : Core → Core) :
    (s.updCore q f).pending = s.pending ∧ (s.updCore q f).variant = s.variant ∧ (s.updCore q f).cyc = s.cyc ∧
    (s.updCore q f).st = s.st ∧ (s.updCore q f).fresh = s.fresh ∧ (s.updCore q f).regs = s.regs ∧
    (s.updCore q f).snaps = s.snaps ∧ (s.updCore q f).latch = s.latch ∧ (s.updCore q f).hold = s.hold ∧
    (s.updCore q f).raised = s.raised ∧ (s.updCore q f).counted = s.counted ∧ (s.updCore q f).excess = s.excess ∧
    (s.updCore q f).prior = s.prior ∧ (s.updCore q f).readData = s.readData ∧ (s.updCore q f).poisoned = s.poisoned ∧
    (s.updCore q f).readBytes = s.readBytes ∧ (s.updCore q f).egress = s.egress ∧ (s.updCore q f).later = s.later ∧
    (s.updCore q f).pcie = s.pcie ∧ (s.updCore q f).dma = s.dma ∧ (s.updCore q f).ce = s.ce ∧ (s.updCore q f).evf = s.evf ∧
    (s.updCore q f).time = s.time ∧ (s.updCore q f).shot = s.shot ∧ (s.updCore q f).dec = s.dec ∧ (s.updCore q f).mem = s.mem ∧
    (s.updCore q f).och = s.och ∧ (s.updCore q f).rch = s.rch ∧ (s.updCore q f).descs = s.descs ∧
    (s.updCore q f).waits = s.waits ∧ (s.updCore q f).mrk = s.mrk ∧ (s.updCore q f).bdac = s.bdac ∧
    (s.updCore q f).tripAt = s.tripAt ∧ (s.updCore q f).cal = s.cal ∧ (s.updCore q f).clm = s.clm ∧ (s.updCore q f).acq = s.acq ∧
    (s.updCore q f).jrn = s.jrn ∧ (s.updCore q f).ports = s.ports ∧ (s.updCore q f).hk = s.hk ∧ (s.updCore q f).nvm = s.nvm ∧
    (s.updCore q f).fuse = s.fuse ∧ (s.updCore q f).scarab = s.scarab ∧ (s.updCore q f).power = s.power ∧
    (s.updCore q f).therm = s.therm ∧ (s.updCore q f).jtag = s.jtag :=
  ⟨rfl, rfl, rfl, rfl, rfl, rfl, rfl, rfl, rfl, rfl, rfl, rfl, rfl, rfl, rfl, rfl, rfl, rfl, rfl, rfl, rfl, rfl, rfl, rfl, rfl, rfl, rfl, rfl, rfl, rfl, rfl, rfl, rfl, rfl, rfl, rfl, rfl, rfl, rfl, rfl, rfl, rfl, rfl, rfl, rfl⟩

@[simp] theorem rd_updCore (s : State) (q : Nat) (f : Core → Core) (x_ : Reg) (j_ : Nat) : (s.updCore q f).rd x_ j_ = s.rd x_ j_ := rfl

@[simp] theorem fld_updCore (s : State) (q : Nat) (f : Core → Core) (x_ : Fld) (j_ : Nat) : (s.updCore q f).fld x_ j_ = s.fld x_ j_ := rfl

@[simp] theorem dev_updCore (s : State) (q : Nat) (f : Core → Core) : (s.updCore q f).dev = s.dev := rfl

@[simp] theorem flag_updCore (s : State) (q : Nat) (f : Core → Core) (x_ : Fld) (j_ : Nat) : (s.updCore q f).flag x_ j_ = s.flag x_ j_ := rfl

@[simp] theorem setG_fields (s : State) (q i v : Nat) :
    (s.setG q i v).pending = s.pending ∧ (s.setG q i v).variant = s.variant ∧ (s.setG q i v).cyc = s.cyc ∧
    (s.setG q i v).st = s.st ∧ (s.setG q i v).fresh = s.fresh ∧ (s.setG q i v).regs = s.regs ∧ (s.setG q i v).snaps = s.snaps ∧
    (s.setG q i v).latch = s.latch ∧ (s.setG q i v).hold = s.hold ∧ (s.setG q i v).raised = s.raised ∧
    (s.setG q i v).counted = s.counted ∧ (s.setG q i v).excess = s.excess ∧ (s.setG q i v).prior = s.prior ∧
    (s.setG q i v).readData = s.readData ∧ (s.setG q i v).poisoned = s.poisoned ∧ (s.setG q i v).readBytes = s.readBytes ∧
    (s.setG q i v).egress = s.egress ∧ (s.setG q i v).later = s.later ∧ (s.setG q i v).pcie = s.pcie ∧
    (s.setG q i v).dma = s.dma ∧ (s.setG q i v).ce = s.ce ∧ (s.setG q i v).evf = s.evf ∧ (s.setG q i v).time = s.time ∧
    (s.setG q i v).shot = s.shot ∧ (s.setG q i v).dec = s.dec ∧ (s.setG q i v).mem = s.mem ∧ (s.setG q i v).och = s.och ∧
    (s.setG q i v).rch = s.rch ∧ (s.setG q i v).descs = s.descs ∧ (s.setG q i v).waits = s.waits ∧ (s.setG q i v).mrk = s.mrk ∧
    (s.setG q i v).bdac = s.bdac ∧ (s.setG q i v).tripAt = s.tripAt ∧ (s.setG q i v).cal = s.cal ∧ (s.setG q i v).clm = s.clm ∧
    (s.setG q i v).acq = s.acq ∧ (s.setG q i v).jrn = s.jrn ∧ (s.setG q i v).ports = s.ports ∧ (s.setG q i v).hk = s.hk ∧
    (s.setG q i v).nvm = s.nvm ∧ (s.setG q i v).fuse = s.fuse ∧ (s.setG q i v).scarab = s.scarab ∧
    (s.setG q i v).power = s.power ∧ (s.setG q i v).therm = s.therm ∧ (s.setG q i v).jtag = s.jtag := by
  unfold setG updBank; split <;> simp

@[simp] theorem rd_setG (s : State) (q i v : Nat) (x_ : Reg) (j_ : Nat) : (s.setG q i v).rd x_ j_ = s.rd x_ j_ := by simp [rd]

@[simp] theorem fld_setG (s : State) (q i v : Nat) (x_ : Fld) (j_ : Nat) : (s.setG q i v).fld x_ j_ = s.fld x_ j_ := by simp [fld]

@[simp] theorem dev_setG (s : State) (q i v : Nat) : (s.setG q i v).dev = s.dev := by simp [dev]

@[simp] theorem flag_setG (s : State) (q i v : Nat) (x_ : Fld) (j_ : Nat) : (s.setG q i v).flag x_ j_ = s.flag x_ j_ := by simp [flag]

@[simp] theorem setPtr_fields (s : State) (q i v : Nat) :
    (s.setPtr q i v).pending = s.pending ∧ (s.setPtr q i v).variant = s.variant ∧ (s.setPtr q i v).cyc = s.cyc ∧
    (s.setPtr q i v).st = s.st ∧ (s.setPtr q i v).fresh = s.fresh ∧ (s.setPtr q i v).regs = s.regs ∧
    (s.setPtr q i v).snaps = s.snaps ∧ (s.setPtr q i v).latch = s.latch ∧ (s.setPtr q i v).hold = s.hold ∧
    (s.setPtr q i v).raised = s.raised ∧ (s.setPtr q i v).counted = s.counted ∧ (s.setPtr q i v).excess = s.excess ∧
    (s.setPtr q i v).prior = s.prior ∧ (s.setPtr q i v).readData = s.readData ∧ (s.setPtr q i v).poisoned = s.poisoned ∧
    (s.setPtr q i v).readBytes = s.readBytes ∧ (s.setPtr q i v).egress = s.egress ∧ (s.setPtr q i v).later = s.later ∧
    (s.setPtr q i v).pcie = s.pcie ∧ (s.setPtr q i v).dma = s.dma ∧ (s.setPtr q i v).ce = s.ce ∧ (s.setPtr q i v).evf = s.evf ∧
    (s.setPtr q i v).time = s.time ∧ (s.setPtr q i v).shot = s.shot ∧ (s.setPtr q i v).dec = s.dec ∧
    (s.setPtr q i v).mem = s.mem ∧ (s.setPtr q i v).och = s.och ∧ (s.setPtr q i v).rch = s.rch ∧
    (s.setPtr q i v).descs = s.descs ∧ (s.setPtr q i v).waits = s.waits ∧ (s.setPtr q i v).mrk = s.mrk ∧
    (s.setPtr q i v).bdac = s.bdac ∧ (s.setPtr q i v).tripAt = s.tripAt ∧ (s.setPtr q i v).cal = s.cal ∧
    (s.setPtr q i v).clm = s.clm ∧ (s.setPtr q i v).acq = s.acq ∧ (s.setPtr q i v).jrn = s.jrn ∧
    (s.setPtr q i v).ports = s.ports ∧ (s.setPtr q i v).hk = s.hk ∧ (s.setPtr q i v).nvm = s.nvm ∧
    (s.setPtr q i v).fuse = s.fuse ∧ (s.setPtr q i v).scarab = s.scarab ∧ (s.setPtr q i v).power = s.power ∧
    (s.setPtr q i v).therm = s.therm ∧ (s.setPtr q i v).jtag = s.jtag := by
  unfold setPtr updBank; split <;> simp

@[simp] theorem rd_setPtr (s : State) (q i v : Nat) (x_ : Reg) (j_ : Nat) : (s.setPtr q i v).rd x_ j_ = s.rd x_ j_ := by simp [rd]

@[simp] theorem fld_setPtr (s : State) (q i v : Nat) (x_ : Fld) (j_ : Nat) : (s.setPtr q i v).fld x_ j_ = s.fld x_ j_ := by simp [fld]

@[simp] theorem dev_setPtr (s : State) (q i v : Nat) : (s.setPtr q i v).dev = s.dev := by simp [dev]

@[simp] theorem flag_setPtr (s : State) (q i v : Nat) (x_ : Fld) (j_ : Nat) : (s.setPtr q i v).flag x_ j_ = s.flag x_ j_ := by simp [flag]

@[simp] theorem setAcc_fields (s : State) (q i : Nat) (v : Int) :
    (s.setAcc q i v).pending = s.pending ∧ (s.setAcc q i v).variant = s.variant ∧ (s.setAcc q i v).cyc = s.cyc ∧
    (s.setAcc q i v).st = s.st ∧ (s.setAcc q i v).fresh = s.fresh ∧ (s.setAcc q i v).regs = s.regs ∧
    (s.setAcc q i v).snaps = s.snaps ∧ (s.setAcc q i v).latch = s.latch ∧ (s.setAcc q i v).hold = s.hold ∧
    (s.setAcc q i v).raised = s.raised ∧ (s.setAcc q i v).counted = s.counted ∧ (s.setAcc q i v).excess = s.excess ∧
    (s.setAcc q i v).prior = s.prior ∧ (s.setAcc q i v).readData = s.readData ∧ (s.setAcc q i v).poisoned = s.poisoned ∧
    (s.setAcc q i v).readBytes = s.readBytes ∧ (s.setAcc q i v).egress = s.egress ∧ (s.setAcc q i v).later = s.later ∧
    (s.setAcc q i v).pcie = s.pcie ∧ (s.setAcc q i v).dma = s.dma ∧ (s.setAcc q i v).ce = s.ce ∧ (s.setAcc q i v).evf = s.evf ∧
    (s.setAcc q i v).time = s.time ∧ (s.setAcc q i v).shot = s.shot ∧ (s.setAcc q i v).dec = s.dec ∧
    (s.setAcc q i v).mem = s.mem ∧ (s.setAcc q i v).och = s.och ∧ (s.setAcc q i v).rch = s.rch ∧
    (s.setAcc q i v).descs = s.descs ∧ (s.setAcc q i v).waits = s.waits ∧ (s.setAcc q i v).mrk = s.mrk ∧
    (s.setAcc q i v).bdac = s.bdac ∧ (s.setAcc q i v).tripAt = s.tripAt ∧ (s.setAcc q i v).cal = s.cal ∧
    (s.setAcc q i v).clm = s.clm ∧ (s.setAcc q i v).acq = s.acq ∧ (s.setAcc q i v).jrn = s.jrn ∧
    (s.setAcc q i v).ports = s.ports ∧ (s.setAcc q i v).hk = s.hk ∧ (s.setAcc q i v).nvm = s.nvm ∧
    (s.setAcc q i v).fuse = s.fuse ∧ (s.setAcc q i v).scarab = s.scarab ∧ (s.setAcc q i v).power = s.power ∧
    (s.setAcc q i v).therm = s.therm ∧ (s.setAcc q i v).jtag = s.jtag := by
  unfold setAcc updBank; split <;> simp

@[simp] theorem rd_setAcc (s : State) (q i : Nat) (v : Int) (x_ : Reg) (j_ : Nat) : (s.setAcc q i v).rd x_ j_ = s.rd x_ j_ := by simp [rd]

@[simp] theorem fld_setAcc (s : State) (q i : Nat) (v : Int) (x_ : Fld) (j_ : Nat) : (s.setAcc q i v).fld x_ j_ = s.fld x_ j_ := by simp [fld]

@[simp] theorem dev_setAcc (s : State) (q i : Nat) (v : Int) : (s.setAcc q i v).dev = s.dev := by simp [dev]

@[simp] theorem flag_setAcc (s : State) (q i : Nat) (v : Int) (x_ : Fld) (j_ : Nat) : (s.setAcc q i v).flag x_ j_ = s.flag x_ j_ := by simp [flag]

@[simp] theorem setAcq_fields (s : State) (u : Nat) (a : Acq) :
    (s.setAcq u a).pending = s.pending ∧ (s.setAcq u a).variant = s.variant ∧ (s.setAcq u a).cyc = s.cyc ∧
    (s.setAcq u a).st = s.st ∧ (s.setAcq u a).fresh = s.fresh ∧ (s.setAcq u a).regs = s.regs ∧ (s.setAcq u a).snaps = s.snaps ∧
    (s.setAcq u a).latch = s.latch ∧ (s.setAcq u a).hold = s.hold ∧ (s.setAcq u a).raised = s.raised ∧
    (s.setAcq u a).counted = s.counted ∧ (s.setAcq u a).excess = s.excess ∧ (s.setAcq u a).prior = s.prior ∧
    (s.setAcq u a).readData = s.readData ∧ (s.setAcq u a).poisoned = s.poisoned ∧ (s.setAcq u a).readBytes = s.readBytes ∧
    (s.setAcq u a).egress = s.egress ∧ (s.setAcq u a).later = s.later ∧ (s.setAcq u a).pcie = s.pcie ∧
    (s.setAcq u a).dma = s.dma ∧ (s.setAcq u a).ce = s.ce ∧ (s.setAcq u a).evf = s.evf ∧ (s.setAcq u a).time = s.time ∧
    (s.setAcq u a).shot = s.shot ∧ (s.setAcq u a).dec = s.dec ∧ (s.setAcq u a).mem = s.mem ∧ (s.setAcq u a).och = s.och ∧
    (s.setAcq u a).rch = s.rch ∧ (s.setAcq u a).descs = s.descs ∧ (s.setAcq u a).waits = s.waits ∧ (s.setAcq u a).mrk = s.mrk ∧
    (s.setAcq u a).bdac = s.bdac ∧ (s.setAcq u a).tripAt = s.tripAt ∧ (s.setAcq u a).cal = s.cal ∧ (s.setAcq u a).dsp = s.dsp ∧
    (s.setAcq u a).clm = s.clm ∧ (s.setAcq u a).jrn = s.jrn ∧ (s.setAcq u a).ports = s.ports ∧ (s.setAcq u a).hk = s.hk ∧
    (s.setAcq u a).nvm = s.nvm ∧ (s.setAcq u a).fuse = s.fuse ∧ (s.setAcq u a).scarab = s.scarab ∧
    (s.setAcq u a).power = s.power ∧ (s.setAcq u a).therm = s.therm ∧ (s.setAcq u a).jtag = s.jtag :=
  ⟨rfl, rfl, rfl, rfl, rfl, rfl, rfl, rfl, rfl, rfl, rfl, rfl, rfl, rfl, rfl, rfl, rfl, rfl, rfl, rfl, rfl, rfl, rfl, rfl, rfl, rfl, rfl, rfl, rfl, rfl, rfl, rfl, rfl, rfl, rfl, rfl, rfl, rfl, rfl, rfl, rfl, rfl, rfl, rfl, rfl⟩

@[simp] theorem rd_setAcq (s : State) (u : Nat) (a : Acq) (x_ : Reg) (j_ : Nat) : (s.setAcq u a).rd x_ j_ = s.rd x_ j_ := rfl

@[simp] theorem fld_setAcq (s : State) (u : Nat) (a : Acq) (x_ : Fld) (j_ : Nat) : (s.setAcq u a).fld x_ j_ = s.fld x_ j_ := rfl

@[simp] theorem dev_setAcq (s : State) (u : Nat) (a : Acq) : (s.setAcq u a).dev = s.dev := rfl

@[simp] theorem flag_setAcq (s : State) (u : Nat) (a : Acq) (x_ : Fld) (j_ : Nat) : (s.setAcq u a).flag x_ j_ = s.flag x_ j_ := rfl

@[simp] theorem updAcq_fields (s : State) (u : Nat) (f : Acq → Acq) :
    (s.updAcq u f).pending = s.pending ∧ (s.updAcq u f).variant = s.variant ∧ (s.updAcq u f).cyc = s.cyc ∧
    (s.updAcq u f).st = s.st ∧ (s.updAcq u f).fresh = s.fresh ∧ (s.updAcq u f).regs = s.regs ∧ (s.updAcq u f).snaps = s.snaps ∧
    (s.updAcq u f).latch = s.latch ∧ (s.updAcq u f).hold = s.hold ∧ (s.updAcq u f).raised = s.raised ∧
    (s.updAcq u f).counted = s.counted ∧ (s.updAcq u f).excess = s.excess ∧ (s.updAcq u f).prior = s.prior ∧
    (s.updAcq u f).readData = s.readData ∧ (s.updAcq u f).poisoned = s.poisoned ∧ (s.updAcq u f).readBytes = s.readBytes ∧
    (s.updAcq u f).egress = s.egress ∧ (s.updAcq u f).later = s.later ∧ (s.updAcq u f).pcie = s.pcie ∧
    (s.updAcq u f).dma = s.dma ∧ (s.updAcq u f).ce = s.ce ∧ (s.updAcq u f).evf = s.evf ∧ (s.updAcq u f).time = s.time ∧
    (s.updAcq u f).shot = s.shot ∧ (s.updAcq u f).dec = s.dec ∧ (s.updAcq u f).mem = s.mem ∧ (s.updAcq u f).och = s.och ∧
    (s.updAcq u f).rch = s.rch ∧ (s.updAcq u f).descs = s.descs ∧ (s.updAcq u f).waits = s.waits ∧ (s.updAcq u f).mrk = s.mrk ∧
    (s.updAcq u f).bdac = s.bdac ∧ (s.updAcq u f).tripAt = s.tripAt ∧ (s.updAcq u f).cal = s.cal ∧ (s.updAcq u f).dsp = s.dsp ∧
    (s.updAcq u f).clm = s.clm ∧ (s.updAcq u f).jrn = s.jrn ∧ (s.updAcq u f).ports = s.ports ∧ (s.updAcq u f).hk = s.hk ∧
    (s.updAcq u f).nvm = s.nvm ∧ (s.updAcq u f).fuse = s.fuse ∧ (s.updAcq u f).scarab = s.scarab ∧
    (s.updAcq u f).power = s.power ∧ (s.updAcq u f).therm = s.therm ∧ (s.updAcq u f).jtag = s.jtag :=
  ⟨rfl, rfl, rfl, rfl, rfl, rfl, rfl, rfl, rfl, rfl, rfl, rfl, rfl, rfl, rfl, rfl, rfl, rfl, rfl, rfl, rfl, rfl, rfl, rfl, rfl, rfl, rfl, rfl, rfl, rfl, rfl, rfl, rfl, rfl, rfl, rfl, rfl, rfl, rfl, rfl, rfl, rfl, rfl, rfl, rfl⟩

@[simp] theorem rd_updAcq (s : State) (u : Nat) (f : Acq → Acq) (x_ : Reg) (j_ : Nat) : (s.updAcq u f).rd x_ j_ = s.rd x_ j_ := rfl

@[simp] theorem fld_updAcq (s : State) (u : Nat) (f : Acq → Acq) (x_ : Fld) (j_ : Nat) : (s.updAcq u f).fld x_ j_ = s.fld x_ j_ := rfl

@[simp] theorem dev_updAcq (s : State) (u : Nat) (f : Acq → Acq) : (s.updAcq u f).dev = s.dev := rfl

@[simp] theorem flag_updAcq (s : State) (u : Nat) (f : Acq → Acq) (x_ : Fld) (j_ : Nat) : (s.updAcq u f).flag x_ j_ = s.flag x_ j_ := rfl

@[simp] theorem setJrn_fields (s : State) (j : Jrn) :
    (s.setJrn j).pending = s.pending ∧ (s.setJrn j).variant = s.variant ∧ (s.setJrn j).cyc = s.cyc ∧ (s.setJrn j).st = s.st ∧
    (s.setJrn j).fresh = s.fresh ∧ (s.setJrn j).regs = s.regs ∧ (s.setJrn j).snaps = s.snaps ∧ (s.setJrn j).latch = s.latch ∧
    (s.setJrn j).hold = s.hold ∧ (s.setJrn j).raised = s.raised ∧ (s.setJrn j).counted = s.counted ∧
    (s.setJrn j).excess = s.excess ∧ (s.setJrn j).prior = s.prior ∧ (s.setJrn j).readData = s.readData ∧
    (s.setJrn j).poisoned = s.poisoned ∧ (s.setJrn j).readBytes = s.readBytes ∧ (s.setJrn j).egress = s.egress ∧
    (s.setJrn j).later = s.later ∧ (s.setJrn j).pcie = s.pcie ∧ (s.setJrn j).dma = s.dma ∧ (s.setJrn j).ce = s.ce ∧
    (s.setJrn j).evf = s.evf ∧ (s.setJrn j).time = s.time ∧ (s.setJrn j).shot = s.shot ∧ (s.setJrn j).dec = s.dec ∧
    (s.setJrn j).mem = s.mem ∧ (s.setJrn j).och = s.och ∧ (s.setJrn j).rch = s.rch ∧ (s.setJrn j).descs = s.descs ∧
    (s.setJrn j).waits = s.waits ∧ (s.setJrn j).mrk = s.mrk ∧ (s.setJrn j).bdac = s.bdac ∧ (s.setJrn j).tripAt = s.tripAt ∧
    (s.setJrn j).cal = s.cal ∧ (s.setJrn j).dsp = s.dsp ∧ (s.setJrn j).clm = s.clm ∧ (s.setJrn j).acq = s.acq ∧
    (s.setJrn j).ports = s.ports ∧ (s.setJrn j).hk = s.hk ∧ (s.setJrn j).nvm = s.nvm ∧ (s.setJrn j).fuse = s.fuse ∧
    (s.setJrn j).scarab = s.scarab ∧ (s.setJrn j).power = s.power ∧ (s.setJrn j).therm = s.therm ∧ (s.setJrn j).jtag = s.jtag :=
  ⟨rfl, rfl, rfl, rfl, rfl, rfl, rfl, rfl, rfl, rfl, rfl, rfl, rfl, rfl, rfl, rfl, rfl, rfl, rfl, rfl, rfl, rfl, rfl, rfl, rfl, rfl, rfl, rfl, rfl, rfl, rfl, rfl, rfl, rfl, rfl, rfl, rfl, rfl, rfl, rfl, rfl, rfl, rfl, rfl, rfl⟩

@[simp] theorem rd_setJrn (s : State) (j : Jrn) (x_ : Reg) (j_ : Nat) : (s.setJrn j).rd x_ j_ = s.rd x_ j_ := rfl

@[simp] theorem fld_setJrn (s : State) (j : Jrn) (x_ : Fld) (j_ : Nat) : (s.setJrn j).fld x_ j_ = s.fld x_ j_ := rfl

@[simp] theorem dev_setJrn (s : State) (j : Jrn) : (s.setJrn j).dev = s.dev := rfl

@[simp] theorem flag_setJrn (s : State) (j : Jrn) (x_ : Fld) (j_ : Nat) : (s.setJrn j).flag x_ j_ = s.flag x_ j_ := rfl

@[simp] theorem setPort_fields (s : State) (p : Nat) (x : Port) :
    (s.setPort p x).pending = s.pending ∧ (s.setPort p x).variant = s.variant ∧ (s.setPort p x).cyc = s.cyc ∧
    (s.setPort p x).st = s.st ∧ (s.setPort p x).fresh = s.fresh ∧ (s.setPort p x).regs = s.regs ∧
    (s.setPort p x).snaps = s.snaps ∧ (s.setPort p x).latch = s.latch ∧ (s.setPort p x).hold = s.hold ∧
    (s.setPort p x).raised = s.raised ∧ (s.setPort p x).counted = s.counted ∧ (s.setPort p x).excess = s.excess ∧
    (s.setPort p x).prior = s.prior ∧ (s.setPort p x).readData = s.readData ∧ (s.setPort p x).poisoned = s.poisoned ∧
    (s.setPort p x).readBytes = s.readBytes ∧ (s.setPort p x).egress = s.egress ∧ (s.setPort p x).later = s.later ∧
    (s.setPort p x).pcie = s.pcie ∧ (s.setPort p x).dma = s.dma ∧ (s.setPort p x).ce = s.ce ∧ (s.setPort p x).evf = s.evf ∧
    (s.setPort p x).time = s.time ∧ (s.setPort p x).shot = s.shot ∧ (s.setPort p x).dec = s.dec ∧ (s.setPort p x).mem = s.mem ∧
    (s.setPort p x).och = s.och ∧ (s.setPort p x).rch = s.rch ∧ (s.setPort p x).descs = s.descs ∧
    (s.setPort p x).waits = s.waits ∧ (s.setPort p x).mrk = s.mrk ∧ (s.setPort p x).bdac = s.bdac ∧
    (s.setPort p x).tripAt = s.tripAt ∧ (s.setPort p x).cal = s.cal ∧ (s.setPort p x).dsp = s.dsp ∧ (s.setPort p x).clm = s.clm ∧
    (s.setPort p x).acq = s.acq ∧ (s.setPort p x).jrn = s.jrn ∧ (s.setPort p x).hk = s.hk ∧ (s.setPort p x).nvm = s.nvm ∧
    (s.setPort p x).fuse = s.fuse ∧ (s.setPort p x).scarab = s.scarab ∧ (s.setPort p x).power = s.power ∧
    (s.setPort p x).therm = s.therm ∧ (s.setPort p x).jtag = s.jtag :=
  ⟨rfl, rfl, rfl, rfl, rfl, rfl, rfl, rfl, rfl, rfl, rfl, rfl, rfl, rfl, rfl, rfl, rfl, rfl, rfl, rfl, rfl, rfl, rfl, rfl, rfl, rfl, rfl, rfl, rfl, rfl, rfl, rfl, rfl, rfl, rfl, rfl, rfl, rfl, rfl, rfl, rfl, rfl, rfl, rfl, rfl⟩

@[simp] theorem rd_setPort (s : State) (p : Nat) (x : Port) (x_ : Reg) (j_ : Nat) : (s.setPort p x).rd x_ j_ = s.rd x_ j_ := rfl

@[simp] theorem fld_setPort (s : State) (p : Nat) (x : Port) (x_ : Fld) (j_ : Nat) : (s.setPort p x).fld x_ j_ = s.fld x_ j_ := rfl

@[simp] theorem dev_setPort (s : State) (p : Nat) (x : Port) : (s.setPort p x).dev = s.dev := rfl

@[simp] theorem flag_setPort (s : State) (p : Nat) (x : Port) (x_ : Fld) (j_ : Nat) : (s.setPort p x).flag x_ j_ = s.flag x_ j_ := rfl

@[simp] theorem updPort_fields (s : State) (p : Nat) (f : Port → Port) :
    (s.updPort p f).pending = s.pending ∧ (s.updPort p f).variant = s.variant ∧ (s.updPort p f).cyc = s.cyc ∧
    (s.updPort p f).st = s.st ∧ (s.updPort p f).fresh = s.fresh ∧ (s.updPort p f).regs = s.regs ∧
    (s.updPort p f).snaps = s.snaps ∧ (s.updPort p f).latch = s.latch ∧ (s.updPort p f).hold = s.hold ∧
    (s.updPort p f).raised = s.raised ∧ (s.updPort p f).counted = s.counted ∧ (s.updPort p f).excess = s.excess ∧
    (s.updPort p f).prior = s.prior ∧ (s.updPort p f).readData = s.readData ∧ (s.updPort p f).poisoned = s.poisoned ∧
    (s.updPort p f).readBytes = s.readBytes ∧ (s.updPort p f).egress = s.egress ∧ (s.updPort p f).later = s.later ∧
    (s.updPort p f).pcie = s.pcie ∧ (s.updPort p f).dma = s.dma ∧ (s.updPort p f).ce = s.ce ∧ (s.updPort p f).evf = s.evf ∧
    (s.updPort p f).time = s.time ∧ (s.updPort p f).shot = s.shot ∧ (s.updPort p f).dec = s.dec ∧ (s.updPort p f).mem = s.mem ∧
    (s.updPort p f).och = s.och ∧ (s.updPort p f).rch = s.rch ∧ (s.updPort p f).descs = s.descs ∧
    (s.updPort p f).waits = s.waits ∧ (s.updPort p f).mrk = s.mrk ∧ (s.updPort p f).bdac = s.bdac ∧
    (s.updPort p f).tripAt = s.tripAt ∧ (s.updPort p f).cal = s.cal ∧ (s.updPort p f).dsp = s.dsp ∧ (s.updPort p f).clm = s.clm ∧
    (s.updPort p f).acq = s.acq ∧ (s.updPort p f).jrn = s.jrn ∧ (s.updPort p f).hk = s.hk ∧ (s.updPort p f).nvm = s.nvm ∧
    (s.updPort p f).fuse = s.fuse ∧ (s.updPort p f).scarab = s.scarab ∧ (s.updPort p f).power = s.power ∧
    (s.updPort p f).therm = s.therm ∧ (s.updPort p f).jtag = s.jtag :=
  ⟨rfl, rfl, rfl, rfl, rfl, rfl, rfl, rfl, rfl, rfl, rfl, rfl, rfl, rfl, rfl, rfl, rfl, rfl, rfl, rfl, rfl, rfl, rfl, rfl, rfl, rfl, rfl, rfl, rfl, rfl, rfl, rfl, rfl, rfl, rfl, rfl, rfl, rfl, rfl, rfl, rfl, rfl, rfl, rfl, rfl⟩

@[simp] theorem rd_updPort (s : State) (p : Nat) (f : Port → Port) (x_ : Reg) (j_ : Nat) : (s.updPort p f).rd x_ j_ = s.rd x_ j_ := rfl

@[simp] theorem fld_updPort (s : State) (p : Nat) (f : Port → Port) (x_ : Fld) (j_ : Nat) : (s.updPort p f).fld x_ j_ = s.fld x_ j_ := rfl

@[simp] theorem dev_updPort (s : State) (p : Nat) (f : Port → Port) : (s.updPort p f).dev = s.dev := rfl

@[simp] theorem flag_updPort (s : State) (p : Nat) (f : Port → Port) (x_ : Fld) (j_ : Nat) : (s.updPort p f).flag x_ j_ = s.flag x_ j_ := rfl

@[simp] theorem setDma_fields (s : State) (i : Nat) (x : DmaChan) :
    (s.setDma i x).pending = s.pending ∧ (s.setDma i x).variant = s.variant ∧ (s.setDma i x).cyc = s.cyc ∧
    (s.setDma i x).st = s.st ∧ (s.setDma i x).fresh = s.fresh ∧ (s.setDma i x).regs = s.regs ∧ (s.setDma i x).snaps = s.snaps ∧
    (s.setDma i x).latch = s.latch ∧ (s.setDma i x).hold = s.hold ∧ (s.setDma i x).raised = s.raised ∧
    (s.setDma i x).counted = s.counted ∧ (s.setDma i x).excess = s.excess ∧ (s.setDma i x).prior = s.prior ∧
    (s.setDma i x).readData = s.readData ∧ (s.setDma i x).poisoned = s.poisoned ∧ (s.setDma i x).readBytes = s.readBytes ∧
    (s.setDma i x).egress = s.egress ∧ (s.setDma i x).later = s.later ∧ (s.setDma i x).pcie = s.pcie ∧ (s.setDma i x).ce = s.ce ∧
    (s.setDma i x).evf = s.evf ∧ (s.setDma i x).time = s.time ∧ (s.setDma i x).shot = s.shot ∧ (s.setDma i x).dec = s.dec ∧
    (s.setDma i x).mem = s.mem ∧ (s.setDma i x).och = s.och ∧ (s.setDma i x).rch = s.rch ∧ (s.setDma i x).descs = s.descs ∧
    (s.setDma i x).waits = s.waits ∧ (s.setDma i x).mrk = s.mrk ∧ (s.setDma i x).bdac = s.bdac ∧
    (s.setDma i x).tripAt = s.tripAt ∧ (s.setDma i x).cal = s.cal ∧ (s.setDma i x).dsp = s.dsp ∧ (s.setDma i x).clm = s.clm ∧
    (s.setDma i x).acq = s.acq ∧ (s.setDma i x).jrn = s.jrn ∧ (s.setDma i x).ports = s.ports ∧ (s.setDma i x).hk = s.hk ∧
    (s.setDma i x).nvm = s.nvm ∧ (s.setDma i x).fuse = s.fuse ∧ (s.setDma i x).scarab = s.scarab ∧
    (s.setDma i x).power = s.power ∧ (s.setDma i x).therm = s.therm ∧ (s.setDma i x).jtag = s.jtag :=
  ⟨rfl, rfl, rfl, rfl, rfl, rfl, rfl, rfl, rfl, rfl, rfl, rfl, rfl, rfl, rfl, rfl, rfl, rfl, rfl, rfl, rfl, rfl, rfl, rfl, rfl, rfl, rfl, rfl, rfl, rfl, rfl, rfl, rfl, rfl, rfl, rfl, rfl, rfl, rfl, rfl, rfl, rfl, rfl, rfl, rfl⟩

@[simp] theorem rd_setDma (s : State) (i : Nat) (x : DmaChan) (x_ : Reg) (j_ : Nat) : (s.setDma i x).rd x_ j_ = s.rd x_ j_ := rfl

@[simp] theorem fld_setDma (s : State) (i : Nat) (x : DmaChan) (x_ : Fld) (j_ : Nat) : (s.setDma i x).fld x_ j_ = s.fld x_ j_ := rfl

@[simp] theorem dev_setDma (s : State) (i : Nat) (x : DmaChan) : (s.setDma i x).dev = s.dev := rfl

@[simp] theorem flag_setDma (s : State) (i : Nat) (x : DmaChan) (x_ : Fld) (j_ : Nat) : (s.setDma i x).flag x_ j_ = s.flag x_ j_ := rfl

@[simp] theorem updDma_fields (s : State) (i : Nat) (f : DmaChan → DmaChan) :
    (s.updDma i f).pending = s.pending ∧ (s.updDma i f).variant = s.variant ∧ (s.updDma i f).cyc = s.cyc ∧
    (s.updDma i f).st = s.st ∧ (s.updDma i f).fresh = s.fresh ∧ (s.updDma i f).regs = s.regs ∧ (s.updDma i f).snaps = s.snaps ∧
    (s.updDma i f).latch = s.latch ∧ (s.updDma i f).hold = s.hold ∧ (s.updDma i f).raised = s.raised ∧
    (s.updDma i f).counted = s.counted ∧ (s.updDma i f).excess = s.excess ∧ (s.updDma i f).prior = s.prior ∧
    (s.updDma i f).readData = s.readData ∧ (s.updDma i f).poisoned = s.poisoned ∧ (s.updDma i f).readBytes = s.readBytes ∧
    (s.updDma i f).egress = s.egress ∧ (s.updDma i f).later = s.later ∧ (s.updDma i f).pcie = s.pcie ∧ (s.updDma i f).ce = s.ce ∧
    (s.updDma i f).evf = s.evf ∧ (s.updDma i f).time = s.time ∧ (s.updDma i f).shot = s.shot ∧ (s.updDma i f).dec = s.dec ∧
    (s.updDma i f).mem = s.mem ∧ (s.updDma i f).och = s.och ∧ (s.updDma i f).rch = s.rch ∧ (s.updDma i f).descs = s.descs ∧
    (s.updDma i f).waits = s.waits ∧ (s.updDma i f).mrk = s.mrk ∧ (s.updDma i f).bdac = s.bdac ∧
    (s.updDma i f).tripAt = s.tripAt ∧ (s.updDma i f).cal = s.cal ∧ (s.updDma i f).dsp = s.dsp ∧ (s.updDma i f).clm = s.clm ∧
    (s.updDma i f).acq = s.acq ∧ (s.updDma i f).jrn = s.jrn ∧ (s.updDma i f).ports = s.ports ∧ (s.updDma i f).hk = s.hk ∧
    (s.updDma i f).nvm = s.nvm ∧ (s.updDma i f).fuse = s.fuse ∧ (s.updDma i f).scarab = s.scarab ∧
    (s.updDma i f).power = s.power ∧ (s.updDma i f).therm = s.therm ∧ (s.updDma i f).jtag = s.jtag :=
  ⟨rfl, rfl, rfl, rfl, rfl, rfl, rfl, rfl, rfl, rfl, rfl, rfl, rfl, rfl, rfl, rfl, rfl, rfl, rfl, rfl, rfl, rfl, rfl, rfl, rfl, rfl, rfl, rfl, rfl, rfl, rfl, rfl, rfl, rfl, rfl, rfl, rfl, rfl, rfl, rfl, rfl, rfl, rfl, rfl, rfl⟩

@[simp] theorem rd_updDma (s : State) (i : Nat) (f : DmaChan → DmaChan) (x_ : Reg) (j_ : Nat) : (s.updDma i f).rd x_ j_ = s.rd x_ j_ := rfl

@[simp] theorem fld_updDma (s : State) (i : Nat) (f : DmaChan → DmaChan) (x_ : Fld) (j_ : Nat) : (s.updDma i f).fld x_ j_ = s.fld x_ j_ := rfl

@[simp] theorem dev_updDma (s : State) (i : Nat) (f : DmaChan → DmaChan) : (s.updDma i f).dev = s.dev := rfl

@[simp] theorem flag_updDma (s : State) (i : Nat) (f : DmaChan → DmaChan) (x_ : Fld) (j_ : Nat) : (s.updDma i f).flag x_ j_ = s.flag x_ j_ := rfl

@[simp] theorem setPower_fields (s : State) (p : Power) :
    (s.setPower p).pending = s.pending ∧ (s.setPower p).variant = s.variant ∧ (s.setPower p).cyc = s.cyc ∧
    (s.setPower p).st = s.st ∧ (s.setPower p).fresh = s.fresh ∧ (s.setPower p).regs = s.regs ∧ (s.setPower p).snaps = s.snaps ∧
    (s.setPower p).latch = s.latch ∧ (s.setPower p).hold = s.hold ∧ (s.setPower p).raised = s.raised ∧
    (s.setPower p).counted = s.counted ∧ (s.setPower p).excess = s.excess ∧ (s.setPower p).prior = s.prior ∧
    (s.setPower p).readData = s.readData ∧ (s.setPower p).poisoned = s.poisoned ∧ (s.setPower p).readBytes = s.readBytes ∧
    (s.setPower p).egress = s.egress ∧ (s.setPower p).later = s.later ∧ (s.setPower p).pcie = s.pcie ∧
    (s.setPower p).dma = s.dma ∧ (s.setPower p).ce = s.ce ∧ (s.setPower p).evf = s.evf ∧ (s.setPower p).time = s.time ∧
    (s.setPower p).shot = s.shot ∧ (s.setPower p).dec = s.dec ∧ (s.setPower p).mem = s.mem ∧ (s.setPower p).och = s.och ∧
    (s.setPower p).rch = s.rch ∧ (s.setPower p).descs = s.descs ∧ (s.setPower p).waits = s.waits ∧ (s.setPower p).mrk = s.mrk ∧
    (s.setPower p).bdac = s.bdac ∧ (s.setPower p).tripAt = s.tripAt ∧ (s.setPower p).cal = s.cal ∧ (s.setPower p).dsp = s.dsp ∧
    (s.setPower p).clm = s.clm ∧ (s.setPower p).acq = s.acq ∧ (s.setPower p).jrn = s.jrn ∧ (s.setPower p).ports = s.ports ∧
    (s.setPower p).hk = s.hk ∧ (s.setPower p).nvm = s.nvm ∧ (s.setPower p).fuse = s.fuse ∧ (s.setPower p).scarab = s.scarab ∧
    (s.setPower p).therm = s.therm ∧ (s.setPower p).jtag = s.jtag :=
  ⟨rfl, rfl, rfl, rfl, rfl, rfl, rfl, rfl, rfl, rfl, rfl, rfl, rfl, rfl, rfl, rfl, rfl, rfl, rfl, rfl, rfl, rfl, rfl, rfl, rfl, rfl, rfl, rfl, rfl, rfl, rfl, rfl, rfl, rfl, rfl, rfl, rfl, rfl, rfl, rfl, rfl, rfl, rfl, rfl, rfl⟩

@[simp] theorem rd_setPower (s : State) (p : Power) (x_ : Reg) (j_ : Nat) : (s.setPower p).rd x_ j_ = s.rd x_ j_ := rfl

@[simp] theorem fld_setPower (s : State) (p : Power) (x_ : Fld) (j_ : Nat) : (s.setPower p).fld x_ j_ = s.fld x_ j_ := rfl

@[simp] theorem dev_setPower (s : State) (p : Power) : (s.setPower p).dev = s.dev := rfl

@[simp] theorem flag_setPower (s : State) (p : Power) (x_ : Fld) (j_ : Nat) : (s.setPower p).flag x_ j_ = s.flag x_ j_ := rfl

@[simp] theorem setSensor_fields (s : State) (i : Nat) (x : Sensor) :
    (s.setSensor i x).pending = s.pending ∧ (s.setSensor i x).variant = s.variant ∧ (s.setSensor i x).cyc = s.cyc ∧
    (s.setSensor i x).st = s.st ∧ (s.setSensor i x).fresh = s.fresh ∧ (s.setSensor i x).regs = s.regs ∧
    (s.setSensor i x).snaps = s.snaps ∧ (s.setSensor i x).latch = s.latch ∧ (s.setSensor i x).hold = s.hold ∧
    (s.setSensor i x).raised = s.raised ∧ (s.setSensor i x).counted = s.counted ∧ (s.setSensor i x).excess = s.excess ∧
    (s.setSensor i x).prior = s.prior ∧ (s.setSensor i x).readData = s.readData ∧ (s.setSensor i x).poisoned = s.poisoned ∧
    (s.setSensor i x).readBytes = s.readBytes ∧ (s.setSensor i x).egress = s.egress ∧ (s.setSensor i x).later = s.later ∧
    (s.setSensor i x).pcie = s.pcie ∧ (s.setSensor i x).dma = s.dma ∧ (s.setSensor i x).ce = s.ce ∧
    (s.setSensor i x).evf = s.evf ∧ (s.setSensor i x).time = s.time ∧ (s.setSensor i x).shot = s.shot ∧
    (s.setSensor i x).dec = s.dec ∧ (s.setSensor i x).mem = s.mem ∧ (s.setSensor i x).och = s.och ∧
    (s.setSensor i x).rch = s.rch ∧ (s.setSensor i x).descs = s.descs ∧ (s.setSensor i x).waits = s.waits ∧
    (s.setSensor i x).mrk = s.mrk ∧ (s.setSensor i x).bdac = s.bdac ∧ (s.setSensor i x).tripAt = s.tripAt ∧
    (s.setSensor i x).cal = s.cal ∧ (s.setSensor i x).dsp = s.dsp ∧ (s.setSensor i x).clm = s.clm ∧
    (s.setSensor i x).acq = s.acq ∧ (s.setSensor i x).jrn = s.jrn ∧ (s.setSensor i x).ports = s.ports ∧
    (s.setSensor i x).hk = s.hk ∧ (s.setSensor i x).nvm = s.nvm ∧ (s.setSensor i x).fuse = s.fuse ∧
    (s.setSensor i x).scarab = s.scarab ∧ (s.setSensor i x).power = s.power ∧ (s.setSensor i x).jtag = s.jtag :=
  ⟨rfl, rfl, rfl, rfl, rfl, rfl, rfl, rfl, rfl, rfl, rfl, rfl, rfl, rfl, rfl, rfl, rfl, rfl, rfl, rfl, rfl, rfl, rfl, rfl, rfl, rfl, rfl, rfl, rfl, rfl, rfl, rfl, rfl, rfl, rfl, rfl, rfl, rfl, rfl, rfl, rfl, rfl, rfl, rfl, rfl⟩

@[simp] theorem rd_setSensor (s : State) (i : Nat) (x : Sensor) (x_ : Reg) (j_ : Nat) : (s.setSensor i x).rd x_ j_ = s.rd x_ j_ := rfl

@[simp] theorem fld_setSensor (s : State) (i : Nat) (x : Sensor) (x_ : Fld) (j_ : Nat) : (s.setSensor i x).fld x_ j_ = s.fld x_ j_ := rfl

@[simp] theorem dev_setSensor (s : State) (i : Nat) (x : Sensor) : (s.setSensor i x).dev = s.dev := rfl

@[simp] theorem flag_setSensor (s : State) (i : Nat) (x : Sensor) (x_ : Fld) (j_ : Nat) : (s.setSensor i x).flag x_ j_ = s.flag x_ j_ := rfl

/-- CMD_HEAD passes a slot: only the engine changes. -/
@[simp] theorem passHead_fields (s : State) (q : Nat) :
    (s.passHead q).pending = s.pending ∧ (s.passHead q).variant = s.variant ∧ (s.passHead q).cyc = s.cyc ∧
    (s.passHead q).st = s.st ∧ (s.passHead q).fresh = s.fresh ∧ (s.passHead q).regs = s.regs ∧ (s.passHead q).snaps = s.snaps ∧
    (s.passHead q).latch = s.latch ∧ (s.passHead q).hold = s.hold ∧ (s.passHead q).raised = s.raised ∧
    (s.passHead q).counted = s.counted ∧ (s.passHead q).excess = s.excess ∧ (s.passHead q).prior = s.prior ∧
    (s.passHead q).readData = s.readData ∧ (s.passHead q).poisoned = s.poisoned ∧ (s.passHead q).readBytes = s.readBytes ∧
    (s.passHead q).egress = s.egress ∧ (s.passHead q).later = s.later ∧ (s.passHead q).pcie = s.pcie ∧
    (s.passHead q).dma = s.dma ∧ (s.passHead q).evf = s.evf ∧ (s.passHead q).time = s.time ∧ (s.passHead q).shot = s.shot ∧
    (s.passHead q).dec = s.dec ∧ (s.passHead q).mem = s.mem ∧ (s.passHead q).och = s.och ∧ (s.passHead q).rch = s.rch ∧
    (s.passHead q).descs = s.descs ∧ (s.passHead q).waits = s.waits ∧ (s.passHead q).mrk = s.mrk ∧ (s.passHead q).bdac = s.bdac ∧
    (s.passHead q).tripAt = s.tripAt ∧ (s.passHead q).cal = s.cal ∧ (s.passHead q).dsp = s.dsp ∧ (s.passHead q).clm = s.clm ∧
    (s.passHead q).acq = s.acq ∧ (s.passHead q).jrn = s.jrn ∧ (s.passHead q).ports = s.ports ∧ (s.passHead q).hk = s.hk ∧
    (s.passHead q).nvm = s.nvm ∧ (s.passHead q).fuse = s.fuse ∧ (s.passHead q).scarab = s.scarab ∧
    (s.passHead q).power = s.power ∧ (s.passHead q).therm = s.therm ∧ (s.passHead q).jtag = s.jtag := by
  unfold passHead; simp only []; split <;> simp

@[simp] theorem dev_passHead (s : State) (q : Nat) : (s.passHead q).dev = s.dev := by simp [dev, fld, rd]

@[simp] theorem rd_passHead (s : State) (q : Nat) (r : Reg) (j : Nat) : (s.passHead q).rd r j = s.rd r j := by simp [rd]

@[simp] theorem fld_passHead (s : State) (q : Nat) (r : Fld) (j : Nat) : (s.passHead q).fld r j = s.fld r j := by simp [fld, rd]

@[simp] theorem flag_passHead (s : State) (q : Nat) (r : Fld) (j : Nat) : (s.passHead q).flag r j = s.flag r j := by simp [flag, fld, rd]

/-- A command's outcome is its effect, with the queue and the variant as they were. -/
@[simp] theorem act_fields (f : State → State) (s : State) :
    (s.act f).pending = s.pending ∧ (s.act f).variant = s.variant ∧ (s.act f).cyc = (f s).cyc ∧ (s.act f).st = (f s).st ∧ (s.act f).fresh = (f s).fresh ∧ (s.act f).regs = (f s).regs
    ∧ (s.act f).snaps = (f s).snaps ∧ (s.act f).latch = (f s).latch ∧ (s.act f).hold = (f s).hold
    ∧ (s.act f).raised = (f s).raised ∧ (s.act f).counted = (f s).counted ∧ (s.act f).excess = (f s).excess
    ∧ (s.act f).prior = (f s).prior ∧ (s.act f).readData = (f s).readData ∧ (s.act f).poisoned = (f s).poisoned
    ∧ (s.act f).readBytes = (f s).readBytes ∧ (s.act f).egress = (f s).egress ∧ (s.act f).later = (f s).later
    ∧ (s.act f).pcie = (f s).pcie ∧ (s.act f).dma = (f s).dma ∧ (s.act f).ce = (f s).ce ∧ (s.act f).evf = (f s).evf
    ∧ (s.act f).time = (f s).time ∧ (s.act f).shot = (f s).shot ∧ (s.act f).dec = (f s).dec ∧ (s.act f).mem = (f s).mem
    ∧ (s.act f).och = (f s).och ∧ (s.act f).rch = (f s).rch ∧ (s.act f).descs = (f s).descs ∧ (s.act f).waits = (f s).waits
    ∧ (s.act f).mrk = (f s).mrk ∧ (s.act f).bdac = (f s).bdac ∧ (s.act f).tripAt = (f s).tripAt ∧ (s.act f).cal = (f s).cal
    ∧ (s.act f).dsp = (f s).dsp ∧ (s.act f).clm = (f s).clm ∧ (s.act f).acq = (f s).acq ∧ (s.act f).jrn = (f s).jrn
    ∧ (s.act f).ports = (f s).ports ∧ (s.act f).hk = (f s).hk ∧ (s.act f).nvm = (f s).nvm ∧ (s.act f).fuse = (f s).fuse
    ∧ (s.act f).scarab = (f s).scarab ∧ (s.act f).power = (f s).power ∧ (s.act f).therm = (f s).therm
    ∧ (s.act f).jtag = (f s).jtag :=
  ⟨rfl, rfl, rfl, rfl, rfl, rfl, rfl, rfl, rfl, rfl, rfl, rfl, rfl, rfl, rfl, rfl, rfl, rfl, rfl, rfl, rfl, rfl, rfl, rfl, rfl, rfl, rfl, rfl, rfl, rfl, rfl, rfl, rfl, rfl, rfl, rfl, rfl, rfl, rfl, rfl, rfl, rfl, rfl, rfl, rfl, rfl⟩

/-! ## Readers after updates -/

@[simp] theorem chan_setChan (s : State) (n : Nat) (x : Och) : (s.setChan n x).chan n = x := SMap.get_put_same _ _ _ _

theorem chan_setChan_ne (s : State) (n m : Nat) (x : Och) (h : m ≠ n) : (s.setChan n x).chan m = s.chan m :=
  SMap.get_put_ne _ _ _ _ _ _ h

@[simp] theorem rchan_setRchan (s : State) (n : Nat) (x : Rch) : (s.setRchan n x).rchan n = x := SMap.get_put_same _ _ _ _

theorem rchan_setRchan_ne (s : State) (n m : Nat) (x : Rch) (h : m ≠ n) : (s.setRchan n x).rchan m = s.rchan m :=
  SMap.get_put_ne _ _ _ _ _ _ h

@[simp] theorem port_setPort (s : State) (n : Nat) (x : Port) : (s.setPort n x).port n = x := SMap.get_put_same _ _ _ _

theorem port_setPort_ne (s : State) (n m : Nat) (x : Port) (h : m ≠ n) : (s.setPort n x).port m = s.port m :=
  SMap.get_put_ne _ _ _ _ _ _ h

@[simp] theorem dmaOf_setDma (s : State) (n : Nat) (x : DmaChan) : (s.setDma n x).dmaOf n = x := SMap.get_put_same _ _ _ _

theorem dmaOf_setDma_ne (s : State) (n m : Nat) (x : DmaChan) (h : m ≠ n) : (s.setDma n x).dmaOf m = s.dmaOf m :=
  SMap.get_put_ne _ _ _ _ _ _ h

@[simp] theorem core_setCore (s : State) (n : Nat) (x : Core) : (s.setCore n x).core n = x := SMap.get_put_same _ _ _ _

theorem core_setCore_ne (s : State) (n m : Nat) (x : Core) (h : m ≠ n) : (s.setCore n x).core m = s.core m :=
  SMap.get_put_ne _ _ _ _ _ _ h

@[simp] theorem acqOf_setAcq (s : State) (n : Nat) (x : Acq) : (s.setAcq n x).acqOf n = x := SMap.get_put_same _ _ _ _

theorem acqOf_setAcq_ne (s : State) (n m : Nat) (x : Acq) (h : m ≠ n) : (s.setAcq n x).acqOf m = s.acqOf m :=
  SMap.get_put_ne _ _ _ _ _ _ h

@[simp] theorem slot_setSlot (s : State) (n : Nat) (x : Slot) : (s.setSlot n x).slot n = x := SMap.get_put_same _ _ _ _

theorem slot_setSlot_ne (s : State) (n m : Nat) (x : Slot) (h : m ≠ n) : (s.setSlot n x).slot m = s.slot m :=
  SMap.get_put_ne _ _ _ _ _ _ h

@[simp] theorem qp_setQp (s : State) (n : Nat) (x : Qp) : (s.setQp n x).qp n = x := SMap.get_put_same _ _ _ _

theorem qp_setQp_ne (s : State) (n m : Nat) (x : Qp) (h : m ≠ n) : (s.setQp n x).qp m = s.qp m :=
  SMap.get_put_ne _ _ _ _ _ _ h

@[simp] theorem pin_setPin (s : State) (n : Nat) (x : Pin) : (s.setPin n x).pin n = x := SMap.get_put_same _ _ _ _

theorem pin_setPin_ne (s : State) (n m : Nat) (x : Pin) (h : m ≠ n) : (s.setPin n x).pin m = s.pin m :=
  SMap.get_put_ne _ _ _ _ _ _ h

@[simp] theorem bd_setBd (s : State) (n : Nat) (x : Bdac) : (s.setBd n x).bd n = x := SMap.get_put_same _ _ _ _

theorem bd_setBd_ne (s : State) (n m : Nat) (x : Bdac) (h : m ≠ n) : (s.setBd n x).bd m = s.bd m :=
  SMap.get_put_ne _ _ _ _ _ _ h

@[simp] theorem waitOf_setWait (s : State) (n : Nat) (x : Option Wait) : (s.setWait n x).waitOf n = x := SMap.get_put_same _ _ _ _

theorem waitOf_setWait_ne (s : State) (n m : Nat) (x : Option Wait) (h : m ≠ n) : (s.setWait n x).waitOf m = s.waitOf m :=
  SMap.get_put_ne _ _ _ _ _ _ h

@[simp] theorem trigOf_setTrig (s : State) (n : Nat) (x : Trig) : (s.setTrig n x).trigOf n = x := SMap.get_put_same _ _ _ _

theorem trigOf_setTrig_ne (s : State) (n m : Nat) (x : Trig) (h : m ≠ n) : (s.setTrig n x).trigOf m = s.trigOf m :=
  SMap.get_put_ne _ _ _ _ _ _ h

@[simp] theorem sensor_setSensor (s : State) (n : Nat) (x : Sensor) : (s.setSensor n x).sensor n = x := SMap.get_put_same _ _ _ _

theorem sensor_setSensor_ne (s : State) (n m : Nat) (x : Sensor) (h : m ≠ n) : (s.setSensor n x).sensor m = s.sensor m :=
  SMap.get_put_ne _ _ _ _ _ _ h

@[simp] theorem chan_updChan (s : State) (n : Nat) (f : Och → Och) : (s.updChan n f).chan n = f (s.chan n) := SMap.get_put_same _ _ _ _

theorem chan_updChan_ne (s : State) (n m : Nat) (f : Och → Och) (h : m ≠ n) : (s.updChan n f).chan m = s.chan m :=
  SMap.get_put_ne _ _ _ _ _ _ h

@[simp] theorem rchan_updRchan (s : State) (n : Nat) (f : Rch → Rch) : (s.updRchan n f).rchan n = f (s.rchan n) := SMap.get_put_same _ _ _ _

theorem rchan_updRchan_ne (s : State) (n m : Nat) (f : Rch → Rch) (h : m ≠ n) : (s.updRchan n f).rchan m = s.rchan m :=
  SMap.get_put_ne _ _ _ _ _ _ h

@[simp] theorem port_updPort (s : State) (n : Nat) (f : Port → Port) : (s.updPort n f).port n = f (s.port n) := SMap.get_put_same _ _ _ _

theorem port_updPort_ne (s : State) (n m : Nat) (f : Port → Port) (h : m ≠ n) : (s.updPort n f).port m = s.port m :=
  SMap.get_put_ne _ _ _ _ _ _ h

@[simp] theorem dmaOf_updDma (s : State) (n : Nat) (f : DmaChan → DmaChan) : (s.updDma n f).dmaOf n = f (s.dmaOf n) := SMap.get_put_same _ _ _ _

theorem dmaOf_updDma_ne (s : State) (n m : Nat) (f : DmaChan → DmaChan) (h : m ≠ n) : (s.updDma n f).dmaOf m = s.dmaOf m :=
  SMap.get_put_ne _ _ _ _ _ _ h

@[simp] theorem core_updCore (s : State) (n : Nat) (f : Core → Core) : (s.updCore n f).core n = f (s.core n) := SMap.get_put_same _ _ _ _

theorem core_updCore_ne (s : State) (n m : Nat) (f : Core → Core) (h : m ≠ n) : (s.updCore n f).core m = s.core m :=
  SMap.get_put_ne _ _ _ _ _ _ h

@[simp] theorem acqOf_updAcq (s : State) (n : Nat) (f : Acq → Acq) : (s.updAcq n f).acqOf n = f (s.acqOf n) := SMap.get_put_same _ _ _ _

theorem acqOf_updAcq_ne (s : State) (n m : Nat) (f : Acq → Acq) (h : m ≠ n) : (s.updAcq n f).acqOf m = s.acqOf m :=
  SMap.get_put_ne _ _ _ _ _ _ h

end State

/-! ## Outcomes -/

/-- Steps that each leave a state as it is leave it so together. -/
theorem forEach_idle {α : Type} (l : List α) (f : α → State → State) (s : State) (h : ∀ a, f a s = s) : forEach l f s = s := by
  unfold forEach
  induction l with
  | nil => rfl
  | cons a l ih => simpa [h a] using ih

@[simp] theorem run_next (f : State → State) (s t : State) : run f s = .next t ↔ t = s.act f := by
  simp [run, eq_comm]

/-- A row's outcome, from what its effect is in the state at hand. -/
theorem run_act {f g : State → State} {s : State} (h : f s = g s) : run f s = .next (s.act g) := by
  simp only [run, State.act, h]

theorem run_to {f : State → State} {s t : State} (h : f s = t) (hp : t.pending = s.pending) (hv : t.variant = s.variant) :
    run f s = .next t := by
  subst h; simp only [run, State.act, ← hp, ← hv]

theorem act_congr {f g : State → State} {s : State} (h : f s = g s) : s.act f = s.act g := by simp only [State.act, h]

@[simp] theorem step_push (c : Instr) (s : State) : step (s.push c) = exec c s := rfl

/-- A command able to start is no FENCE that waits. -/
theorem State.fenceWaits_of_canStart {s : State} {c : HostCmd} (h : s.canStart c = true) : s.fenceWaits c = false := by
  simp only [State.canStart, Bool.and_eq_true] at h
  simp [State.fenceWaits, h.1.2]

/-- An accepted command that answers has its effect, then its reply. -/
theorem command_accepted (sp : CmdSpec) (c : HostCmd) (s : State) (h : Accepted sp c s) (hs : sp.silent = false) :
    command sp c s = .next (s.act fun s =>
      let r := sp.app (s.passHead c.qp) c
      r.1.answer c (if r.2.long then 1 else 0) 0 (if r.2.long then 0 else r.2.info0) (if r.2.long then 0 else r.2.info1)
        s.st.toNat r.2.result) := by
  obtain ⟨h1, h2, h3⟩ := h
  simp [command, run, State.act, hostCmd, h1, h2, h3, hs, State.fenceWaits_of_canStart h1]

/-- The same for a command that may fire producers. -/
theorem commandFires_accepted (sp : CmdSpec) (c : HostCmd) (s : State) (h : Accepted sp c s) (hs : sp.silent = false) :
    commandFires sp c s = .next (s.act (State.fires fun s =>
      let r := sp.app (s.passHead c.qp) c
      r.1.answer c (if r.2.long then 1 else 0) 0 (if r.2.long then 0 else r.2.info0) (if r.2.long then 0 else r.2.info1)
        s.st.toNat r.2.result)) := by
  obtain ⟨h1, h2, h3⟩ := h
  simp [commandFires, perform, run, State.act, State.fires, hostCmd, h1, h2, h3, hs, State.fenceWaits_of_canStart h1]

/-- A command that is not able to start, and is no FENCE that waits, changes nothing. -/
theorem command_waits (sp : CmdSpec) (c : HostCmd) (s : State) (h : s.canStart c = false) (hf : s.fenceWaits c = false) :
    command sp c s = .next s := by
  simp [command, run, State.act, hostCmd, h, hf]

/-- A FENCE that waits is held at the head of its pair, and nothing else changes. -/
theorem command_fenced (sp : CmdSpec) (c : HostCmd) (s : State) (h2 : opcodeOf c = sp.opcode) (hf : s.fenceWaits c = true) :
    command sp c s = .next (s.setQp c.qp { s.qp c.qp with fenced := some c.words }) := by
  simp [command, run, State.act, State.setQp, hostCmd, h2, hf]

/-- A refused command passes its slot, leaves the trace of a LOCKED refusal, and is answered. -/
theorem command_refused (sp : CmdSpec) (c : HostCmd) (s : State) (r : Reject) (h1 : s.canStart c = true)
    (h2 : opcodeOf c = sp.opcode) (h3 : s.check sp c = some r) :
    command sp c s = .next (s.act fun s =>
      (if r.status = 6 then sp.onLocked (s.passHead c.qp) c r else s.passHead c.qp).answer c r.status
        (if r.status = 3 then sp.states else 0) r.info0 r.info1 s.st.toNat 0) := by
  simp [command, run, State.act, hostCmd, h1, h2, h3, State.fenceWaits_of_canStart h1]

end Sys2Proof.Machine
end

