-- ==== Sys2Proof/Laws/Dsp.lean ====
section
/-!
SUPPORT. The issue of a DSP instruction: what waking a core leaves, and a row of an instruction that the core issues, from
what its effect answers.
-/

namespace Sys2Proof.Machine
open State

/-- A field of DSP_STATUS above SLEEP reads the same on the core that wakes. -/
theorem fld_wake (s : State) (q w : Nat) (b : Bool) (f : Fld) (hr : f.reg = .dspStatus) (hf : f.lo + f.width ≤ 32)
    (ha : Fld.dspStatusSleep.lo + 1 ≤ f.lo ∨ f.lo + f.width ≤ Fld.dspStatusSleep.lo) :
    (s.wake q w b).fld f q = s.fld f q :=
  fld_setF_apart s .dspStatusSleep f q _ hr hf (by rcases ha with h | h <;> [right; left] <;> exact h)

/-- Any other register reads the same. -/
@[simp] theorem rd_wake (s : State) (q w : Nat) (b : Bool) (r : Reg) (i : Nat) (h : r ≠ .dspStatus) :
    (s.wake q w b).rd r i = s.rd r i := rd_setB_reg s .dspStatusSleep r q i false h

/-- The core that wakes keeps all but its place in time. -/
@[simp] theorem core_wake (s : State) (q w : Nat) (b : Bool) :
    (s.wake q w b).core q = { s.core q with
      issueAt := max (s.core q).free (2 * s.cyc + ofBool b)
      free := max (s.core q).free (2 * s.cyc + ofBool b) + s.dspCost q w } := by
  simp only [State.wake, core_updCore]
  rfl

@[simp] theorem pcOf_wake (s : State) (q w : Nat) (b : Bool) : (s.wake q w b).pcOf q = s.pcOf q :=
  fld_wake s q w b .dspStatusPc rfl (by decide) (by decide)

@[simp] theorem pcNext_wake (s : State) (q w : Nat) (b : Bool) : (s.wake q w b).pcNext q = s.pcNext q := by
  simp only [State.pcNext, pcOf_wake]

@[simp] theorem pcBranch_wake (s : State) (q w v : Nat) (b : Bool) : (s.wake q w b).pcBranch q v = s.pcBranch q v := by
  simp only [State.pcBranch, pcOf_wake]

@[simp] theorem inHandler_wake (s : State) (q w : Nat) (b : Bool) :
    (s.wake q w b).flag .dspStatusInHandler q = s.flag .dspStatusInHandler q := by
  simp only [State.flag]
  rw [fld_wake s q w b .dspStatusInHandler rfl (by decide) (by decide)]

@[simp] theorem coreBank_wake (s : State) (q w : Nat) (b : Bool) : (s.wake q w b).coreBank q = s.coreBank q := by
  simp only [State.coreBank, inHandler_wake, core_wake]

@[simp] theorem gReg_wake (s : State) (q w i : Nat) (b : Bool) : (s.wake q w b).gReg q i = s.gReg q i := by
  simp only [State.gReg, coreBank_wake]

@[simp] theorem ptr_wake (s : State) (q w i : Nat) (b : Bool) : (s.wake q w b).ptr q i = s.ptr q i := by
  simp only [State.ptr, coreBank_wake]

@[simp] theorem dspAddr_wake (s : State) (q w v : Nat) (b : Bool) : (s.wake q w b).dspAddr q v = s.dspAddr q v := by
  simp only [State.dspAddr, ptr_wake]

/-- A row of an instruction that the core issues, and that goes on. -/
theorem dspRow_issued {s : State} {q w pc : Nat} {op : DspOp} {f : Nat → State → DspEnd} {g : State → State} {b : Bool}
    (h : s.Issues q w op) (hf : f w (s.wake q w b) = .go (g (s.wake q w b)) pc) :
    dspRow q op .clean f s b = .next (s.act fun s => s.issued q pc g b) := by
  obtain ⟨hc, hb, hw, ho⟩ := h
  refine congrArg Host.Outcome.next (act_congr ?_)
  simp only [State.issue, State.eccSeen, hc, hb, hw, ho, hf, State.issued]
  rfl

/-- A row of an instruction that the core issues, and that faults. -/
theorem dspRow_faulted {s : State} {q w cause addr : Nat} {op : DspOp} {f : Nat → State → DspEnd} {b : Bool}
    (h : s.Issues q w op) (hf : f w (s.wake q w b) = .fault cause addr) :
    dspRow q op .clean f s b = .next (s.act (fires fun s => s.coreFault q cause addr)) := by
  obtain ⟨hc, hb, hw, ho⟩ := h
  refine congrArg Host.Outcome.next (act_congr ?_)
  simp only [State.issue, State.eccSeen, hc, hb, hw, ho, hf, fires]
  rfl

/-- A row of an instruction that the core issues, and that stalls (R294): the core is awake and issues it again. -/
theorem dspRow_stalled {s : State} {q w : Nat} {op : DspOp} {f : Nat → State → DspEnd} {b : Bool}
    (h : s.Issues q w op) (hf : f w (s.wake q w b) = .stall) :
    dspRow q op .clean f s b = .next (s.act (fires fun s =>
      (s.setB .dspStatusSleep q false).updCore q fun c => { c with free := max c.free (2 * s.cyc) + 1 })) := by
  obtain ⟨hc, hb, hw, ho⟩ := h
  refine congrArg Host.Outcome.next (act_congr ?_)
  simp only [State.issue, State.eccSeen, hc, hb, hw, ho, hf, fires]
  rfl

end Sys2Proof.Machine
end

