-- ==== Sys2Proof/Laws/Memory.lean ====
section
/-!
SUPPORT. The memories: reading after writing, and that every operation on memory keeps its canonical form.
-/

namespace Sys2Proof.Machine

namespace Memory

@[simp] theorem read_write_same (m : List Host.Cell) (a : Nat) (b : Byte) : read (write m a b) a = b :=
  SMap.get_put_same 0 m a b

theorem read_write_ne (m : List Host.Cell) (a k : Nat) (b : Byte) (h : k ≠ a) : read (write m a b) k = read m k :=
  SMap.get_put_ne 0 0 m a k b h

theorem read_writeBytes_out (l : List Byte) (m : List Host.Cell) (a k : Nat) (h : k < a ∨ a + l.length ≤ k) :
    read (writeBytes m a l) k = read m k := by
  induction l generalizing m a with
  | nil => rfl
  | cons b t ih =>
    simp only [List.length_cons] at h
    rw [writeBytes, ih _ _ (by omega), read_write_ne _ _ _ _ (by omega)]

theorem read_writeBytes_in (l : List Byte) (m : List Host.Cell) (a k : Nat) (h : k < l.length) :
    read (writeBytes m a l) (a + k) = l.getD k 0 := by
  induction l generalizing m a k with
  | nil => simp at h
  | cons b t ih =>
    cases k with
    | zero => rw [writeBytes, read_writeBytes_out _ _ _ _ (.inl (by omega))]; simp
    | succ k =>
      have h' : k < t.length := by simpa using h
      rw [writeBytes, show a + (k + 1) = (a + 1) + k by omega, ih _ _ _ h']; rfl

/-- What was written reads back. -/
theorem readBytes_writeBytes (m : List Host.Cell) (a : Nat) (l : List Byte) :
    readBytes (writeBytes m a l) a l.length = l := by
  apply List.ext_getElem
  · simp [readBytes]
  · intro k h1 h2
    simp only [readBytes, List.getElem_map, List.getElem_range]
    rw [read_writeBytes_in l m a k h2, List.getD_eq_getElem _ _ h2]

theorem write_wf (m : List Host.Cell) (a : Nat) (b : Byte) (h : wf m = true) : wf (write m a b) = true :=
  SMap.put_wf 0 m a b h

theorem writeBytes_wf (l : List Byte) (m : List Host.Cell) (a : Nat) (h : wf m = true) : wf (writeBytes m a l) = true := by
  induction l generalizing m a with
  | nil => exact h
  | cons b t ih => exact ih _ _ (write_wf m a b h)

theorem rising_filter (p : Host.Cell → Bool) (m : List Host.Cell) (b c : Nat) (hb : c ≤ b)
    (h : SMap.rising b m = true) : SMap.rising c (m.filter p) = true := by
  induction m generalizing b c with
  | nil => rfl
  | cons x t ih =>
    obtain ⟨j, v⟩ := x
    simp only [SMap.rising, Bool.and_eq_true, decide_eq_true_eq] at h
    rw [List.filter_cons]
    split
    · simp only [SMap.rising, Bool.and_eq_true, decide_eq_true_eq]
      exact ⟨by omega, ih (j + 1) (j + 1) (Nat.le_refl _) h.2⟩
    · exact ih (j + 1) c (by omega) h.2

theorem clear_wf (m : List Host.Cell) (lo hi : Nat) (h : wf m = true) : wf (clear m lo hi) = true := by
  unfold wf SMap.wf at h ⊢
  simp only [Bool.and_eq_true] at h ⊢
  refine ⟨rising_filter _ m 0 0 (Nat.le_refl _) h.1, ?_⟩
  rw [List.all_eq_true] at h ⊢
  intro x hx
  exact h.2 x (List.mem_filter.1 hx).1

end Memory

theorem reset_mem_wf : Memory.wf State.reset.mem.bytes = true := by decide

@[simp] theorem State.bar2Store_bytes (s : State) (a : Nat) (b : List Byte) :
    (s.bar2Store a b).mem.bytes = Memory.writeBytes s.mem.bytes a b := rfl

theorem State.bar2Store_wf (s : State) (a : Nat) (b : List Byte) (h : Memory.wf s.mem.bytes = true) :
    Memory.wf (s.bar2Store a b).mem.bytes = true := Memory.writeBytes_wf b _ a h

theorem State.clearGroup_wf (s : State) (g : Nat) (h : Memory.wf s.mem.bytes = true) :
    Memory.wf (s.clearGroup g).mem.bytes = true := by
  unfold State.clearGroup
  simp only []
  (repeat' split) <;> first | exact h | exact Memory.clear_wf _ _ _ h

theorem State.zeroBanks_bytes (s : State) (g : Nat) (h : Memory.wf s.mem.bytes = true) :
    Memory.wf (s.zeroBanks g).mem.bytes = true := by
  unfold State.zeroBanks
  simp only []
  (repeat' split) <;> exact h

theorem State.writeRefused_mem (s : State) (n k a b : Nat) : (s.writeRefused n k a b).mem = s.mem := rfl

theorem State.bar2Write_wf (k : Nat) (s : State) (a : Nat) (b : List Byte) (h : Memory.wf s.mem.bytes = true) :
    Memory.wf (s.bar2Write a b k).mem.bytes = true := by
  induction k generalizing s a b with
  | zero => exact h
  | succ k ih =>
    unfold State.bar2Write
    split
    · exact h
    · apply ih
      split
      · exact s.bar2Store_wf _ _ h
      · exact h
      · rw [State.writeRefused_mem]; exact h
      · exact h

theorem State.dmaWrite_wf (k : Nat) (s : State) (i a : Nat) (b : List Byte) (h : Memory.wf s.mem.bytes = true) :
    Memory.wf (s.dmaWrite i a b k).mem.bytes = true := by
  induction k generalizing s a b with
  | zero => exact h
  | succ k ih =>
    unfold State.dmaWrite
    split
    · exact h
    · simp only []
      split
      · exact ih _ _ _ (s.bar2Store_wf _ _ h)
      · split
        · rw [show ∀ t : State, ∀ x y z w u, (t.dmaErr x y z w u).mem = t.mem from fun _ _ _ _ _ _ => rfl,
            State.writeRefused_mem]
          exact h
        · exact h

theorem State.acqLand_wf (s : State) (u k : Nat) (e : BitVec 256) (h : Memory.wf s.mem.bytes = true) :
    Memory.wf (s.acqLand u k e).mem.bytes = true := by
  unfold State.acqLand when
  split
  · exact s.bar2Store_wf _ _ h
  · exact h

theorem State.acqStore_wf (s : State) (u k : Nat) (e : BitVec 256) (h : Memory.wf s.mem.bytes = true) :
    Memory.wf (s.acqStore u k e).mem.bytes = true := h

end Sys2Proof.Machine
end

