-- ==== Sys2Proof/Laws/Settle.lean ====
section
/-!
SUPPORT. What a firing of a producer, and the settling of a cycle's firings, leaves as it was: what the last host read
returned, the running shot, and the voices' waits.
-/

set_option linter.all false

namespace Sys2Proof.Machine

/-- The parts of the state that no event's delivery touches. -/
def State.calm (s : State) : List Byte × Bool × Dword × Bool × Part × Option (Nat × Nat) × Nat :=
  (s.readBytes, s.poisoned, s.readData, s.shot.running, s.shot.part, s.shot.abort, s.cyc)

@[simp] theorem State.after_calm (s : State) (c : Nat) (e : Later) : (s.after c e).calm = s.calm := rfl
@[simp] theorem State.emit_calm (s : State) (e : Egress) : (s.emit e).calm = s.calm := rfl
@[simp] theorem State.wr_calm (s : State) (r : Reg) (i v : Nat) : (s.wr r i v).calm = s.calm := rfl
@[simp] theorem State.raise_calm (s : State) (r : Reg) (i m : Nat) : (s.raise r i m).calm = s.calm := rfl
@[simp] theorem State.setF_calm (s : State) (f : Fld) (i v : Nat) : (s.setF f i v).calm = s.calm := rfl
@[simp] theorem State.setB_calm (s : State) (f : Fld) (i : Nat) (b : Bool) : (s.setB f i b).calm = s.calm := rfl
@[simp] theorem State.bumpBy_calm (s : State) (r : Reg) (i n : Nat) : (s.bumpBy r i n).calm = s.calm := rfl
@[simp] theorem State.bump_calm (s : State) (r : Reg) (i : Nat) : (s.bump r i).calm = s.calm := rfl
@[simp] theorem State.bumpHeld_calm (s : State) (r : Reg) (i : Nat) : (s.bumpHeld r i).calm = s.calm := by
  unfold State.bumpHeld; (try simp only [when]); split <;> rfl
@[simp] theorem State.unbump_calm (s : State) (r : Reg) (i : Nat) : (s.unbump r i).calm = s.calm := by
  unfold State.unbump; simp only []; split <;> rfl
@[simp] theorem State.setEvf_calm (s : State) (e : Evf) : (s.setEvf e).calm = s.calm := rfl
@[simp] theorem State.setCore_calm (s : State) (q : Nat) (c : Core) : (s.setCore q c).calm = s.calm := rfl
@[simp] theorem State.setPin_calm (s : State) (m : Nat) (x : Pin) : (s.setPin m x).calm = s.calm := rfl
@[simp] theorem State.setAcq_calm (s : State) (u : Nat) (a : Acq) : (s.setAcq u a).calm = s.calm := rfl
@[simp] theorem State.updPort_calm (s : State) (n : Nat) (f : Port → Port) : (s.updPort n f).calm = s.calm := rfl
@[simp] theorem State.updVoice_calm (s : State) (n v : Nat) (f : Voice → Voice) : (s.updVoice n v f).calm = s.calm := rfl
@[simp] theorem State.msixSend_calm (s : State) (v : Nat) : (s.msixSend v).calm = s.calm := by
  unfold State.msixSend
  (try simp only [when])
  (repeat' split) <;> first | rfl | (simp; done) | (simp; rfl)
@[simp] theorem State.irq_calm (s : State) (v : Nat) : (s.irq v).calm = s.calm := by
  unfold State.irq
  by_cases h : v < 32 <;> simp only [h, if_true, if_false] <;> split <;> simp
@[simp] theorem State.setDev_calm (s : State) (d : Nat) : (s.setDev d).calm = s.calm := by
  unfold State.setDev
  (try simp only [when])
  (repeat' split) <;> first | rfl | (simp; done) | (simp; rfl)
@[simp] theorem State.evCount_calm (s : State) (f d c u : Nat) : (s.evCount f d c u).calm = s.calm := by
  unfold State.evCount
  (try simp only [when])
  (repeat' split) <;> first | rfl | (simp; done) | (simp; rfl)
@[simp] theorem State.setSuppressed_calm (s : State) (ch : Nat) (b : Bool) : (s.setSuppressed ch b).calm = s.calm := by
  unfold State.setSuppressed
  (try simp only [when])
  (repeat' split) <;> first | rfl | (simp; done) | (simp; rfl)
@[simp] theorem State.stormCheck_calm (s : State) (ch : Nat) : (s.stormCheck ch).calm = s.calm := by
  unfold State.stormCheck
  (try simp only [when])
  (repeat' split) <;> first | rfl | (simp; done) | (simp; rfl)
@[simp] theorem State.stormFiring_calm (s : State) (ch : Nat) : (s.stormFiring ch).calm = s.calm := by
  unfold State.stormFiring
  (try simp only [when])
  (repeat' split) <;> first | rfl | (simp; done) | (simp; rfl)
@[simp] theorem State.snapLatch_calm (s : State) : s.snapLatch.calm = s.calm := by
  unfold State.snapLatch
  (try simp only [when])
  (repeat' split) <;> first | rfl | (simp; done) | (simp; rfl)
@[simp] theorem State.snapTrigger_calm (s : State) (n : Nat) : (s.snapTrigger n).calm = s.calm := by
  unfold State.snapTrigger
  (try simp only [when])
  (repeat' split) <;> first | rfl | (simp; done) | (simp; rfl)
@[simp] theorem State.hostEvent_calm (s : State) (ch : Nat) : (s.hostEvent ch).calm = s.calm := by
  unfold State.hostEvent
  (try simp only [when])
  (repeat' split) <;> first | rfl | (simp; done) | (simp; rfl)
@[simp] theorem State.startMade_calm (s : State) : (s.startMade).calm = s.calm := by
  unfold State.startMade
  (try simp only [when])
  (repeat' split) <;> first | rfl | (simp; done) | (simp; rfl)
@[simp] theorem State.startIgnored_calm (s : State) : (s.startIgnored).calm = s.calm := by
  unfold State.startIgnored
  (try simp only [when])
  (repeat' split) <;> first | rfl | (simp; done) | (simp; rfl)
@[simp] theorem State.startEvent_calm (s : State) : (s.startEvent).calm = s.calm := by
  unfold State.startEvent
  (try simp only [when])
  (repeat' split) <;> first | rfl | (simp; done) | (simp; rfl)
@[simp] theorem State.asyncOne_calm (s : State) (n v : Nat) : (s.asyncOne n v).calm = s.calm := by
  unfold State.asyncOne
  (try simp only [when])
  (repeat' split) <;> first | rfl | (simp; done) | (simp; rfl)
@[simp] theorem State.asyncPost_calm (s : State) (n m : Nat) : (s.asyncPost n m).calm = s.calm := by
  unfold State.asyncPost
  exact forEach_keeps State.calm _ (fun a t => by simp) _ s
@[simp] theorem State.einEvent_calm (s : State) (n k : Nat) : (s.einEvent n k).calm = s.calm := by
  unfold State.einEvent
  simp only []
  have h : ∀ t : State, (forEach (List.range 8) (fun v t => t.updVoice n v fun x => { x with
      chain := x.chain.map (latchEvent t.cyc k)
      spec := x.spec.map (fun p => { p with lane := latchEvent t.cyc k p.lane, hist := p.hist.map (latchEvent t.cyc k) })
      hist := x.hist.map (latchEvent t.cyc k) }) t).calm = t.calm :=
    fun t => forEach_keeps State.calm _ (fun _ _ => by simp) _ t
  split
  · rw [State.asyncPost_calm]; exact h s
  · exact h s
@[simp] theorem State.coreLine_calm (s : State) (q i : Nat) : (s.coreLine q i).calm = s.calm := by
  unfold State.coreLine
  (try simp only [when])
  (repeat' split) <;> first | rfl | (simp; done) | (simp; rfl)
@[simp] theorem State.pinEdge_calm (s : State) (m t : Nat) (a : Bool) : (s.pinEdge m t a).calm = s.calm := by
  unfold State.pinEdge
  (try simp only [when])
  (repeat' split) <;> first | rfl | (simp; done) | (simp; rfl)
@[simp] theorem State.pinPulse_calm (s : State) (m t w : Nat) : (s.pinPulse m t w).calm = s.calm := by
  unfold State.pinPulse
  (try simp only [when])
  (repeat' split) <;> first | rfl | (simp; done) | (simp; rfl)
@[simp] theorem State.pinEvent_calm (s : State) (m : Nat) : (s.pinEvent m).calm = s.calm := by
  unfold State.pinEvent
  (try simp only [when])
  (repeat' split) <;> first | rfl | (simp; done) | (simp; rfl)
@[simp] theorem State.sendBlocks_calm (s : State) (p : Nat) (b : Bool) (bs : List Dword) : (s.sendBlocks p b bs).calm = s.calm := by
  unfold State.sendBlocks
  (try simp only [when])
  (repeat' split) <;> first | rfl | (simp; done) | (simp; rfl)
@[simp] theorem State.sendTo_calm (s : State) (d : Nat) (b : Bool) (bs : List Dword) : (s.sendTo d b bs).calm = s.calm := by
  unfold State.sendTo
  (try simp only [when])
  (repeat' split) <;> first | rfl | (simp; done) | (simp; rfl)
@[simp] theorem State.linkEvent_calm (s : State) (n : Nat) : (s.linkEvent n).calm = s.calm := by
  unfold State.linkEvent
  (try simp only [when])
  (repeat' split) <;> first | rfl | (simp; done) | (simp; rfl)
@[simp] theorem State.updAcq_calm (s : State) (u : Nat) (f : Acq → Acq) : (s.updAcq u f).calm = s.calm := rfl
@[simp] theorem State.bar2Store_calm (s : State) (a : Nat) (b : List Byte) : (s.bar2Store a b).calm = s.calm := by
  unfold State.bar2Store; rfl
@[simp] theorem State.acqStore_calm (s : State) (u k : Nat) (e : BitVec 256) : (s.acqStore u k e).calm = s.calm := rfl
@[simp] theorem State.acqLand_calm (s : State) (u k : Nat) (e : BitVec 256) : (s.acqLand u k e).calm = s.calm := by
  unfold State.acqLand; exact when_keeps State.calm _ (fun t => t.bar2Store_calm _ _) _ s
@[simp] theorem State.acqRecEntry_calm (s : State) (u : Nat) (b : Bool) (r : Rec) (e : Nat × BitVec 256) :
    (s.acqRecEntry u b r e).2.calm = s.calm := by
  unfold State.acqRecEntry
  (repeat' split) <;> first | rfl | simp
theorem State.acqEntries_calm (u : Nat) (b : Bool) (l : List (Nat × BitVec 256)) (q : Rec × State) :
    (l.foldl (fun (q : Rec × State) e => q.2.acqRecEntry u b q.1 e) q).2.calm = q.2.calm := by
  induction l generalizing q with
  | nil => rfl
  | cons a l ih => rw [List.foldl_cons, ih, State.acqRecEntry_calm]
@[simp] theorem State.acqRecCycle_calm (s : State) (u : Nat) (r : Rec) (c : Nat) (v : BitVec 256) (b : Bool) :
    (s.acqRecCycle u r c v b).2.calm = s.calm := by
  unfold State.acqRecCycle
  split
  · rfl
  · exact State.acqEntries_calm u b _ _
theorem State.acqPast_calm (u : Nat) (l : List (Nat × BitVec 256)) (q : Rec × State) :
    (l.foldl (fun (q : Rec × State) h => q.2.acqRecCycle u q.1 h.1 h.2 true) q).2.calm = q.2.calm := by
  induction l generalizing q with
  | nil => rfl
  | cons a l ih => rw [List.foldl_cons, ih, State.acqRecCycle_calm]
@[simp] theorem State.acqOpen_calm (s : State) (u : Nat) (t : AcqTrig) : (s.acqOpen u t).calm = s.calm := by
  unfold State.acqOpen
  simp only [when]
  split <;> simp [State.acqPast_calm, -List.foldl_reverse]
@[simp] theorem State.acqTake_calm (s : State) (u : Nat) (t : AcqTrig) : (s.acqTake u t).calm = s.calm := by
  unfold State.acqTake
  (try simp only [when])
  (repeat' split) <;> first | rfl | (simp; done) | (simp; rfl)
@[simp] theorem State.acqAccept_calm (s : State) (u : Nat) (t : AcqTrig) : (s.acqAccept u t).calm = s.calm := by
  unfold State.acqAccept
  simp only []
  rw [State.acqTake_calm, forEach_keeps State.calm _ (fun _ _ => by simp)]
  rfl
@[simp] theorem State.acqDecide_calm (s : State) (u : Nat) (t : AcqTrig) (h : Nat) : (s.acqDecide u t h).calm = s.calm := by
  unfold State.acqDecide
  simp only []
  (repeat' split) <;> first | rfl | simp
@[simp] theorem State.acqRestamp_calm (s : State) (u : Nat) (t : AcqTrig) : (s.acqRestamp u t).calm = s.calm := rfl
@[simp] theorem State.acqTrig1_calm (s : State) (u : Nat) (t : AcqTrig) : (s.acqTrig1 u t).1.calm = s.calm := by
  unfold State.acqTrig1
  simp only []
  (repeat' split) <;> simp
@[simp] theorem State.acqTrigNow_calm (s : State) (u src : Nat) : (s.acqTrigNow u src).calm = s.calm := by
  unfold State.acqTrigNow State.acqTrigger
  simp only []
  split <;> simp [forEach_keeps State.calm]
@[simp] theorem State.acqEvent_calm (s : State) (u : Nat) : (s.acqEvent u).calm = s.calm := by
  unfold State.acqEvent
  (try simp only [when])
  (repeat' split) <;> first | rfl | (simp; done) | (simp; rfl)
@[simp] theorem State.consume_calm (s : State) (ch input : Nat) : (s.consume ch input).calm = s.calm := by
  unfold State.consume
  (try simp only [when])
  (repeat' split) <;> first | rfl | (simp; done) | (simp; rfl)
@[simp] theorem State.fireChannel_calm (s : State) (ch : Nat) : (s.fireChannel ch).calm = s.calm := by
  unfold State.fireChannel
  (try simp only [when])
  (repeat' split) <;> first | rfl | (simp; done) | (simp; rfl)
@[simp] theorem State.fire_calm (s : State) (p : Nat) : (s.fire p).calm = s.calm := by
  unfold State.fire
  exact forEach_keeps State.calm _ (fun a t => by simp) _ s
@[simp] theorem State.settle_calm (s : State) : (s.settle).calm = s.calm := by
  unfold State.settle
  exact forEach_keeps State.calm _ (fun a t => by simp) _ _

end Sys2Proof.Machine
end

