-- ==== Sys2Proof/Tests/Slice0.lean ====
section
/-!
SUPPORT. Small tests: ill-formed commands are refused by the well-formedness checks, and every statement with
  hypotheses
has states and operands that meet them.
-/

open Sys2Proof Sys2Proof.Machine Sys2Proof.Machine.State

namespace Sys2Proof.Tests

/-- The block in device state d with its link up and queue pair 0 holding one command. -/
def inState (d : Nat) : State :=
  let s := ((((State.reset.wr .glbDevState 0 d).wr .glbDawnStatus 0 9).setF .qpLenCmdLen 0 16).setF .qpLenRplLen 0
    16).wr
    .qpCtrl 0 1
  { s with
    pcie := { s.pcie with linkUp := true }
    ce := { s.ce with qps := [(0, ⟨0, 1, 0, 0, true, [], none, false⟩)] }
    time := { s.time with running := true } }

/-- A packet: its opcode, KIND, INDEX, and (packet byte, value) for what stands from byte 16 on; its buffer, and
  the key
that the buffer's signature verifies under. -/
def pkt (op kind index : Nat) (body : List (Nat × Nat) := []) (buf : Option (List Byte) := none)
    (signer : Option Signer := none) : HostCmd :=
  let n := body.foldl (fun a p => a + p.2 <<< (8 * p.1)) (op + 48 <<< 32 + kind <<< 64 + index <<< 68)
  ⟨0, (List.range 16).map (fun k => BitVec.ofNat 32 (n >>> (32 * k))), buf, signer⟩

/-- A running shot. -/
def shotState : State :=
  let s := inState 4
  { s with shot := { s.shot with running := true } }

/-- The block at cycle 1000, ST running with it. -/
def late (s : State) : State := { s with cyc := 1000, st := 32000 }

/-- A chain of entry 0, at cycle 0. -/
def chain0 : Chain := ⟨0, 0, 0, 0, 0, 0, 0, [0, 0, 0, 0], none, none, 0, false, false, 0, 0, [], [], false⟩

/-- A speculation of chain0 in flight. -/
def spec0 : Spec := ⟨chain0, [], [], 0, 0, 0, none⟩

/-- A wait entered at cycle 0 with one condition, of channel 0 and voice 0. -/
def wait0 (r : Option (Bool × Nat)) : Wait := ⟨0, 0, [⟨0, 0, 0, 0, r⟩], none, none⟩

/-- Port 3 ACTIVE with record x. -/
def linked (x : Port) : State := ((inState 2).setF .blpStatusState 3 2).setPort 3 x

/-- The block with one long command of an opcode, unit and argument in progress. -/
def busyWith (d opcode unit arg : Nat) : State :=
  let s := inState d
  { s with ce := { s.ce with longs := [⟨0, opcode, 0, .test, unit, arg, 0, 0, 0, []⟩] } }

/-- That long command. -/
def long0 (opcode unit arg : Nat) : LongCmd := ⟨0, opcode, 0, .test, unit, arg, 0, 0, 0, []⟩

/-- An empty journal packet. -/
def packet0 : Packet := ⟨1, false, false, false, 0, 0, 0, 0, 0, 0, 0, 0, []⟩

/-- Core 31 runs word w at its entry, with its memories and registers as f makes them. -/
def dspRun (w : Nat) (f : Core → Core := id) : State :=
  ((inState 2).setF .dspStatusState 31 2).setCore 31 (f { Core.init with imem := [(0, BitVec.ofNat 32 w)] })

/-- A core with G 0 to 15 as listed. -/
def withG (g : SMap Word) (c : Core) : Core := { c with bank0 := { c.bank0 with g := g } }

/-- A core with P 0 at an address. -/
def withP (a : Word) (c : Core) : Core := { c with bank0 := { c.bank0 with p := [(0, a)] } }

/-! ## Ill-formed commands are refused -/

theorem wf_packet : Instr.wf (.nop ⟨0, [], none, none⟩) = false := by decide
theorem wf_buffer_packet : Instr.wf (.internalAnswer ⟨0, [], none, none⟩) = false := by decide
theorem wf_ecc_instance : Instr.wf (.scrubLine (.correctable 2 96 0)) = false := by decide
theorem wf_ecc_row : Instr.wf (.scrubLine (.uncorrectable 15 0 0)) = false := by decide
theorem wf_ecc_address : Instr.wf (.scrubLine (.uncorrectable 0 0 (2 ^ 32))) = false := by decide
theorem wf_reply : Instr.wf (.dmaCompletionRx 0 0 (.data []) .clean) = false := by decide
theorem wf_reply_ecc : Instr.wf (.dmaCompletionRx 0 0 .aborted (.correctable 15 0 0)) = false := by decide
theorem wf_register_width : Instr.wf (.registerWrite (.bar0 0 false) (2 ^ 32)) = false := by decide
theorem wf_msix_address : Instr.wf (.registerWrite (.msixAddr 0) 2) = false := by decide
theorem wf_msix_data : Instr.wf (.registerWrite (.msixData 0) (2 ^ 32)) = false := by decide
theorem wf_msix_mask : Instr.wf (.registerWrite (.msixMask 0) 2) = false := by decide
theorem wf_msix_enable : Instr.wf (.registerWrite .msixEnable 2) = false := by decide
theorem wf_function_mask : Instr.wf (.registerWrite .functionMask 2) = false := by decide
theorem wf_max_payload : Instr.wf (.registerWrite .maxPayload 10) = false := by decide
theorem wf_max_read : Instr.wf (.registerWrite .maxRead 6) = false := by decide
theorem wf_bar4_write : Instr.wf (.registerWrite (.bar4 4 true) 0) = false := by decide
theorem wf_bar4_width : Instr.wf (.registerWrite (.bar4 4 false) (2 ^ 32)) = false := by decide
theorem wf_low_read : Instr.wf (.reg64LowRead (.bar0 4 false)) = false := by decide
theorem wf_bar4_read : Instr.wf (.reg64LowRead (.bar4 4 true)) = false := by decide
theorem wf_high_read : Instr.wf (.reg64HighRead 8) = false := by decide
theorem wf_low_write : Instr.wf (.reg64LowWrite 4 0) = false := by decide
theorem wf_high_write : Instr.wf (.reg64HighWrite 8 0) = false := by decide
theorem wf_memory_write : Instr.wf (.bar2Write 0 []) = false := by decide
theorem wf_memory_write_end : Instr.wf (.bar2Write (BitVec.allOnes 36) [0, 0]) = false := by decide
theorem wf_memory_read : Instr.wf (.bar2Read 0 0 .clean) = false := by decide
theorem wf_memory_read_end : Instr.wf (.bar2Read (BitVec.allOnes 36) 2 .clean) = false := by decide
theorem wf_check_window : Instr.wf (.checkWindow 0 0 (List.replicate 29 (0, 0)) none 0 none) = false := by decide
theorem wf_descriptor : Instr.wf (.dmaDescriptorStart 0 [0]) = false := by decide
theorem wf_prefetch_kind : Instr.wf (.dmaPrefetchFail 0 5) = false := by decide
theorem wf_temperatures : Instr.wf (.thermReading []) = false := by decide
theorem wf_trims : Instr.wf (.calSliceEnd 0 0 (List.replicate 18 0)) = false := by decide
theorem wf_group : Instr.wf (.rxGroup 0 [] .clean) = false := by decide
theorem wf_link_rate : Instr.wf (.pcieLinkReturn 26 16) = false := by decide
theorem wf_link_width : Instr.wf (.pcieLinkReturn 25 3) = false := by decide
theorem wf_accepts : (Instr.nop (pkt 0x100 0 0)).wf = true ∧ (Instr.scrubLine (.correctable 2 95 0)).wf = true :=
  by decide

/-! ## States and operands that the statements speak of -/


theorem witness_StepTakesTheFrontCommand :
    (∃ (c : Instr) (rest : List Instr) (s : State), s.pending = c :: rest) :=
  ⟨.startEvent, [], State.reset.push .startEvent, by decide⟩

theorem witness_EmptyQueuePassesACycle :
    (∃ (s : State), s.pending = []) ∧
    (∃ (s : State) (t : State), s.pending = [] ∧ s.later = [] ∧ s.shotChans = [] ∧ s.evf.snap = none ∧ (∀ u,
      (s.acqOf u).fifo = []) ∧ (∀ p < 4, s.portUp p = false ∧ (s.port p).train = 0) ∧ t =
        { s with cyc := s.cyc + 1, st := if s.time.running then s.st + 32 else s.st, raised := [], counted := [], prior := ⟨s.dec, s.evf, s.dma, s.jrn, s.ports, s.och⟩ } ∧ (∀ n ∈ s.och.map (·.1), t.uses n = (s.chan n).was)) :=
  ⟨⟨State.reset, by decide⟩,
  ⟨State.reset, _, by decide, by decide, by decide, by decide, fun _ => rfl, by decide, rfl, by decide⟩⟩

theorem witness_CommandsLeaveTheQueue :
    (∃ (i : Instr) (s : State) (t : State), exec i s = .next t) :=
  ⟨.pcieD3hot, State.reset, _, rfl⟩

theorem witness_RefusedCommandChangesNothing :
    (∃ (s : State) (c : HostCmd) (p : Instr × CmdSpec) (r : Reject), p ∈ [(Instr.nop c, nopSpec), (.arm c,
      armSpec), (.shotAbort c, shotAbortSpec), (.memPower c, memPowerSpec), (.acqStart c, acqStartSpec)] ∧
        s.canStart c = true ∧ opcodeOf c = p.2.opcode ∧ s.check p.2 c = some r ∧ r.status ≠ 6 ∧ 2 ≤ r.status) :=
  ⟨inState 3, pkt 0x101 0 0, (.arm (pkt 0x101 0 0), armSpec), ⟨3, 0, 0⟩, by simp, by decide, by decide, by decide,
    by decide, by decide⟩

/-- NOP with FENCE. -/
def fencedNop : HostCmd := pkt (0x100 + 2 ^ 41) 0 0

theorem witness_CommandNotAbleToStart :
    (∃ (s : State) (c : HostCmd) (i : Instr), i ∈ [Instr.nop c, .disarm c, .decAssign c, .linkUp c, .guardRaise c]
      ∧ s.canStart c = false ∧ s.fenceWaits c = false) ∧
    (∃ (s : State) (c : HostCmd) (p : Instr × CmdSpec), p ∈ [(Instr.nop c, nopSpec), (.disarm c, disarmSpec),
      (.decAssign c, decAssignSpec), (.linkUp c, linkUpSpec), (.guardRaise c, guardRaiseSpec)] ∧ opcodeOf c =
        p.2.opcode ∧ s.fenceWaits c = true) ∧
    (∃ (s : State) (c : HostCmd) (ws : List Word), (s.qp c.qp).fenced = some ws ∧ c.words ≠ ws) :=
  ⟨⟨State.reset, pkt 0x100 0 0, .nop (pkt 0x100 0 0), by simp, by decide, by decide⟩,
  ⟨busyWith 2 0x901 0 0, fencedNop, (.nop fencedNop, nopSpec), by simp, by decide, by decide⟩,
  ⟨(inState 2).setQp 0 ⟨0, 1, 0, 0, true, [], some [], false⟩, pkt 0x100 0 0, [], by decide, by decide⟩⟩

theorem witness_ShotCommandsApply :
    (∃ (s : State) (c : HostCmd), Accepted nopSpec c s) ∧
    (∃ (s : State) (c : HostCmd), Accepted armSpec c s) ∧
    (∃ (s : State) (c : HostCmd), Accepted disarmSpec c s) ∧
    (∃ (s : State) (c : HostCmd), Accepted shotScheduleSpec c s) ∧
    (∃ (s : State) (c : HostCmd), Accepted runStopSpec c s ∧ s.shotOn = true) ∧
    (∃ (s : State) (c : HostCmd), Accepted runStopSpec c s ∧ s.shotOn = false) ∧
    (∃ (s : State) (c : HostCmd), Accepted shotAbortSpec c s ∧ s.shot.running = true ∧ bit (pByte c 16) 0 = false) ∧
    (∃ (s : State) (c : HostCmd), Accepted shotAbortSpec c s ∧ s.shot.running = true ∧ bit (pByte c 16) 0 = true) ∧
    (∃ (s : State) (c : HostCmd), Accepted shotAbortSpec c s ∧ s.shot.running = false ∧ s.shot.accepted ≠ none ∧
      bit (pByte c 16) 0 = false) ∧
    (∃ (s : State) (c : HostCmd), Accepted shotAbortSpec c s ∧ s.shotOn = false ∧ bit (pByte c 16) 0 = true) ∧
    (∃ (s : State) (c : HostCmd), Accepted shotAbortSpec c s ∧ s.shotOn = false ∧ bit (pByte c 16) 0 = false) :=
  ⟨⟨inState 2, pkt 0x100 0 0, by unfold Accepted; decide⟩,
  ⟨inState 2, pkt 0x101 0 0 [] (some (List.replicate 64 0)), by unfold Accepted; decide⟩,
  ⟨inState 3, pkt 0x102 0 0, by unfold Accepted; decide⟩,
  ⟨inState 3, pkt 0x103 0 0 [(16, 1024)], by unfold Accepted; decide⟩,
  ⟨shotState, pkt 0x104 0 0, by unfold Accepted; decide, by decide⟩,
  ⟨inState 4, pkt 0x104 0 0, by unfold Accepted; decide, by decide⟩,
  ⟨shotState, pkt 0x105 0 0, by unfold Accepted; decide, by decide, by decide⟩,
  ⟨shotState, pkt 0x105 0 0 [(16, 1)], by unfold Accepted; decide, by decide, by decide⟩,
  ⟨(let s := inState 4; { s with shot := { s.shot with accepted := some 9 } }), pkt 0x105 0 0,
    by unfold Accepted; decide, by decide, by decide, by decide⟩,
  ⟨inState 4, pkt 0x105 0 0 [(16, 1)], by unfold Accepted; decide, by decide, by decide⟩,
  ⟨inState 4, pkt 0x105 0 0, by unfold Accepted; decide, by decide, by decide⟩⟩

theorem witness_QueuePairRows :
    (∃ (s : State) (q : Fin 4) (v : Word), s.hostBar4 = true ∧ inSpan (s.cmdLen q) (s.qp q).tail ((s.qp q).head +
      s.cmdLen q - 1) v.toNat = true) ∧
    (∃ (s : State) (q : Fin 4) (v : Word), s.hostBar4 = true ∧ inSpan (s.cmdLen q) (s.qp q).tail ((s.qp q).head +
      s.cmdLen q - 1) v.toNat = false) ∧
    (∃ (s : State) (q : Fin 4) (v : Word), s.hostBar4 = true ∧ inSpan (s.rplLen q) (s.qp q).rplHead (s.qp
      q).rplTail v.toNat = true) ∧
    (∃ (s : State) (q : Fin 4) (v : Word), s.hostBar4 = true ∧ inSpan (s.rplLen q) (s.qp q).rplHead (s.qp
      q).rplTail v.toNat = false) ∧
    (∃ (s : State) (q : Fin 4), s.hostCe = true ∧ s.qpEn q = false ∧ s.qpFieldsOk q = true ∧ (s.qp q).held = []) ∧
    (∃ (s : State) (q : Fin 4), s.hostCe = true ∧ s.qpEn q = false ∧ s.qpFieldsOk q = false) ∧
    (∃ (s : State) (q : Fin 4), s.hostCe = true ∧ s.qpEn q = true) ∧
    (∃ (s : State) (q : Fin 4), s.canServe q = true) ∧
    (∃ (s : State) (q : Fin 4), s.hostCe = true ∧ bit (s.raisedBits .qpStatus q) 2 = false) ∧
    (∃ (s : State) (q : Fin 4), bit (s.raisedBits .qpStatus q) 2 = true) ∧
    (∃ (s : State) (q : Fin 4) (ws : List Word) (rest : _), (s.qp q).held = ws :: rest ∧ s.qpEn q = true ∧ s.served
      = true ∧ s.pcie.linkUp = true ∧ 0 < s.rplFree q) :=
  ⟨⟨inState 2, 0, 4, by decide, by decide⟩,
  ⟨inState 2, 0, 99, by decide, by decide⟩,
  ⟨inState 2, 0, 0, by decide, by decide⟩,
  ⟨inState 2, 0, 1, by decide, by decide⟩,
  ⟨(inState 2).wr .qpCtrl 0 0, 0, by decide, by decide, by decide, by decide⟩,
  ⟨(((inState 2).wr .qpCtrl 0 0).setF .qpLenCmdLen 0 0), 0, by decide, by decide, by decide⟩,
  ⟨inState 2, 0, by decide, by decide⟩,
  ⟨inState 2, 0, by decide⟩,
  ⟨inState 2, 0, by decide, by decide⟩,
  ⟨(inState 2).raise .qpStatus 0 4, 0, by decide⟩,
  ⟨(inState 2).setQp 0 ⟨0, 1, 0, 0, true, [[1]], none, false⟩, 0, [1], [], by decide, by decide, by decide,
    by decide, by decide⟩⟩

theorem witness_EngineRestartRows :
    (∃ (s : State), s.served = true) ∧
    (∃ (s : State) (b : BitVec 14), s.served = true ∧ s.ce.micro = .call b ∧ s.ce.ustack.length < 8) ∧
    (∃ (s : State) (b : BitVec 14) (l : _), s.served = true ∧ s.ce.micro = .ret ∧ s.ce.ustack = b :: l) ∧
    (∃ (s : State), s.served = true ∧ (s.ce.micro = .fetch true ∨ (s.ce.micro = .ret ∧ s.ce.ustack = []) ∨ (∃ b,
      s.ce.micro = .call b ∧ 8 ≤ s.ce.ustack.length))) ∧
    (∃ (s : State), s.served = true ∧ s.ce.micro = .fetch false) ∧
    (∃ (s : State), s.served = false) ∧
    (∃ (s : State), s.flag .ceStatusRestart = true ∧ (∀ l ∈ s.ce.longs, l.opcode ≠ 0x804)) ∧
    (∃ (s : State), (∀ l ∈ s.ce.longs, l.opcode ∉ [0x700, 0x701, 0x803, 0x804])) ∧
    (∃ (s : State) (c : HostCmd), s.flag .ceStatusRestart = true ∧ s.canServe c.qp = true) :=
  ⟨⟨inState 2, by decide⟩,
  ⟨(let s := inState 2; { s with ce := { s.ce with micro := .call 5 } }), 5, by decide, by decide, by decide⟩,
  ⟨(let s := inState 2; { s with ce := { s.ce with micro := .ret, ustack := [7] } }), 7, [], by decide, by decide,
    by decide⟩,
  ⟨inState 2, by decide, .inl (by decide)⟩,
  ⟨(let s := inState 2; { s with ce := { s.ce with micro := .fetch false } }), by decide, by decide⟩,
  ⟨State.reset, by decide⟩,
  ⟨(inState 2).setB .ceStatusRestart 0 true, by decide, by decide⟩,
  ⟨inState 2, by decide⟩,
  ⟨(inState 2).setB .ceStatusRestart 0 true, pkt 0x100 0 0, by decide, by decide⟩⟩

theorem witness_StartRows :
    (∃ (s : State), s.mayStart = true) ∧
    (∃ (s : State), s.mayStart = true ∧ s.shot.count = s.shot.started + 1) ∧
    (∃ (s : State), s.mayStart = true ∧ s.shot.count ≠ s.shot.started + 1) ∧
    (∃ (s : State), s.mayStart = true) ∧
    (∃ (s : State), s.mayStart = false ∧ s.startHeld = false ∧ s.served = true) ∧
    (∃ (s : State), s.mayStart = false ∧ s.startHeld = true ∧ (s.dev = 3 ∨ s.dev = 4)) ∧
    (∃ (s : State) (t : _), s.shot.sched = some t ∧ t = s.stIn 32 ∧ s.mayStart = true) ∧
    (∃ (s : State) (t : _), s.shot.sched = some t ∧ t = s.stIn 32 ∧ s.mayStart = false ∧ s.startHeld = false) ∧
    (∃ (s : State), s.shot.accepted = some (s.cyc + 31)) ∧
    (∃ (s : State), s.shot.accepted = some s.cyc) :=
  ⟨⟨inState 3, by decide⟩,
  ⟨(let s := inState 3; { s with shot := { s.shot with count := 1 } }), by decide, by decide⟩,
  ⟨inState 3, by decide, by decide⟩,
  ⟨inState 3, by decide⟩,
  ⟨inState 2, by decide, by decide, by decide⟩,
  ⟨(let s := inState 3; { s with shot := { s.shot with hold := 9 } }), by decide, by decide, by decide⟩,
  ⟨(let s := inState 3; { s with shot := { s.shot with sched := some 1024 } }), 1024, by decide, rfl, by decide⟩,
  ⟨(let s := inState 2; { s with shot := { s.shot with sched := some 1024 } }), 1024, by decide, rfl, by decide,
    by decide⟩,
  ⟨(let s := inState 4; { s with shot := { s.shot with accepted := some 31 } }), by decide⟩,
  ⟨(let s := inState 4; { s with shot := { s.shot with accepted := some 0 } }), by decide⟩⟩

theorem witness_ShotEnds :
    (∃ (s : State), s.shotOver = true ∧ s.shotEndCyc ≤ s.cyc ∧ s.dev = 4 ∧ s.runOver = true) ∧
    (∃ (s : State), s.shotOver = true ∧ s.shotEndCyc ≤ s.cyc ∧ s.dev = 4 ∧ s.runOver = false) ∧
    (∃ (s : State), s.shotOver = true ∧ s.shotEndCyc ≤ s.cyc) ∧
    (∃ (s : State), s.shotOver = false) :=
  ⟨⟨(let s := late shotState; { s with shot := { s.shot with count := 1, started := 1 } }), by decide, by decide,
    by decide, by decide⟩,
  ⟨late shotState, by decide, by decide, by decide, by decide⟩,
  ⟨late shotState, by decide, by decide⟩,
  ⟨inState 4, by decide⟩⟩

theorem witness_OutputCommandsApply :
    (∃ (s : State) (c : HostCmd), Accepted chOutputSpec c s ∧ bit (pByte c 16) 0 = true) ∧
    (∃ (s : State) (c : HostCmd), Accepted chOutputSpec c s ∧ bit (pByte c 16) 0 = false) ∧
    (∃ (s : State) (c : HostCmd), Accepted chFdelaySpec c s) ∧
    (∃ (s : State) (c : HostCmd), Accepted synConfigSpec c s) ∧
    (∃ (s : State) (c : HostCmd), Accepted chRoleSpec c s ∧ kindOf c = 1 ∧ pBits c 16 0 3 ≠ 3) ∧
    (∃ (s : State) (c : HostCmd), Accepted chRoleSpec c s ∧ kindOf c ≠ 1) ∧
    (∃ (s : State) (c : HostCmd), Accepted chRoleSpec c s ∧ kindOf c = 1 ∧ pBits c 16 0 3 = 3) ∧
    (∃ (s : State) (c : HostCmd), Accepted bdacConfigSpec c s ∧ s.fld .bdacCfgRange (indexOf c) ≠ pBits c 16 0 1) ∧
    (∃ (s : State) (c : HostCmd), Accepted bdacConfigSpec c s ∧ s.fld .bdacCfgRange (indexOf c) = pBits c 16 0 1 ∧
      bit (pByte c 16) 2 = false) ∧
    (∃ (s : State) (c : HostCmd), Accepted bdacConfigSpec c s ∧ s.fld .bdacCfgRange (indexOf c) = pBits c 16 0 1 ∧
      bit (pByte c 16) 2 = true) ∧
    (∃ (s : State) (c : HostCmd), Accepted bdacSlewSpec c s) ∧
    (∃ (s : State) (c : HostCmd), Accepted bdacListWriteSpec c s) :=
  ⟨⟨inState 2, pkt 0x201 1 5 [(16, 3), (17, 9)], by unfold Accepted; decide, by decide⟩,
  ⟨inState 2, pkt 0x201 1 5, by unfold Accepted; decide, by decide⟩,
  ⟨inState 2, pkt 0x202 1 5 [(16, 128)], by unfold Accepted; decide⟩,
  ⟨inState 2, pkt 0x203 1 5 [(16, 3)], by unfold Accepted; decide⟩,
  ⟨inState 2, pkt 0x200 1 5 [(16, 2)], by unfold Accepted; decide, by decide, by decide⟩,
  ⟨inState 2, pkt 0x200 2 23 [(16, 1)], by unfold Accepted; decide, by decide⟩,
  ⟨inState 2, pkt 0x200 1 95 [(16, 3)], by unfold Accepted; decide, by decide, by decide⟩,
  ⟨inState 2, pkt 0x20B 4 47 [(16, 1)], by unfold Accepted; decide, by decide⟩,
  ⟨inState 2, pkt 0x20B 4 47, by unfold Accepted; decide, by decide, by decide⟩,
  ⟨inState 2, pkt 0x20B 4 47 [(16, 4)], by unfold Accepted; decide, by decide, by decide⟩,
  ⟨inState 2, pkt 0x20C 4 47 [(16, 1), (18, 20000)], by unfold Accepted; decide⟩,
  ⟨inState 2, pkt 0x20D 4 0 [(18, 1)] (some [0, 0, 0, 0]), by unfold Accepted; decide⟩⟩

theorem witness_OutputRows :
    (∃ (s : State) (n : Fin 96), s.outState n = 1 ∧ (s.chan n).enableFrom ≤ s.cyc ∧ s.inSlice 0 n = false ∧
      s.inSlice 1 n = false) ∧
    (∃ (s : State) (n : Fin 96), s.outState n = 3 ∧ (s.chan n).rangeMute ≤ s.cyc) ∧
    (∃ (s : State) (k : Fin 48), s.hostPage 3 = true ∧ s.bdTargetOk k = true) ∧
    (∃ (s : State) (k : Fin 48), s.hostPage 3 = true ∧ s.bdTargetOk k = false) ∧
    (∃ (s : State), s.hostPage 3 = false ∧ (s.dev = 0 ∨ s.dev = 1 ∨ s.dev = 7)) ∧
    (∃ (s : State) (k : Fin 48) (t : Nat), (s.bd k).nextStep = some t ∧ t ≤ s.now10 + 15 ∧ s.bdTripped k = false ∧
      (s.bd k).parkAfter = false ∧ (s.bd k).phase = 0 ∧ (s.bd k).fastStep = 0 ∧ s.bdCode k < (s.bd k).goal ∧
        (s.setBd k { s.bd k with nextStep := some (t + s.bdInterval k) }).bdBreach k (min (s.bd k).goal (s.bdCode k
        + (s.fld .bdacSlewStep k : Int))) t = 0 ∧ s.bdCode k + (s.fld .bdacSlewStep k : Int) < (s.bd k).goal) ∧
    (∃ (s : State) (k : Fin 48) (code : Int) (t : Nat) (rest : List (Nat × Int)), (s.bd k).held = (t, code) :: rest
      ∧ t ≤ s.now10 + 15) ∧
    (∃ (s : State) (k : Fin 48) (code : Int) (t : Nat), (s.bd k).degl = some (code, t) ∧ t ≤ s.now10 + 15 ∧ (s.bd
      k).parkAfter = false) ∧
    (∃ (s : State) (k : Fin 48), (s.bd k).phase = 2 ∧ (s.bd k).parkEnd ≤ s.now10 + 15 ∧ (s.bd k).rampCode ≠ 0 ∧
      s.flag .bdacCfgActive k = true) ∧
    (∃ (s : State) (k : Fin 48), (s.bd k).phase = 2 ∧ (s.bd k).parkEnd ≤ s.now10 + 15 ∧ s.flag .bdacCfgActive k =
      false) ∧
    (∃ (s : State) (k : Fin 48), s.flag .bdacStatusOt k = false) :=
  ⟨⟨(inState 2).setF .ochOutStatusState 95 1, 95, by decide, by decide, by decide, by decide⟩,
  ⟨(inState 2).setF .ochOutStatusState 95 3, 95, by decide, by decide⟩,
  ⟨inState 2, 47, by decide, by decide⟩,
  ⟨inState 5, 0, by decide, by decide⟩,
  ⟨inState 1, by decide, by decide⟩,
  ⟨late ((((inState 2).setBd 0 { Bdac.init with nextStep := some 10000, goal := 5 }).wr .bdacSlew 0 0x10001).wr
    .guardBrate 0 0xFFFFFF), 0, 10000, by decide, by decide, by decide, by decide, by decide, by decide, by decide,
      by decide, by decide⟩,
  ⟨(inState 2).setBd 0 { Bdac.init with held := [(0, 5)] }, 0, 5, 0, [], by decide, by decide⟩,
  ⟨(inState 2).setBd 0 { Bdac.init with degl := some (5, 0) }, 0, 5, 0, by decide, by decide, by decide⟩,
  ⟨((inState 2).setBd 0 { Bdac.init with phase := 2, rampCode := 5 }).setB .bdacCfgActive 0 true, 0, by decide,
    by decide, by decide, by decide⟩,
  ⟨(inState 2).setBd 0 { Bdac.init with phase := 2, rampCode := 5 }, 0, by decide, by decide, by decide⟩,
  ⟨inState 2, 47, by decide⟩⟩

theorem witness_GuardRowsAct :
    (∃ (s : State) (l : Fin 6) (i : Fin 96) (v : Word), s.hostGuard = true ∧ s.limitPresent (Limit.ofFin l) i =
      true ∧ (s.flag .guardLockLocked = false ∨ (Limit.ofFin l).loosens (s.rd (Limit.ofFin l).reg i) (v.toNat &&&
        (Limit.ofFin l).mask) = false)) ∧
    (∃ (s : State) (l : Fin 6) (i : Fin 96) (v : Word), s.hostGuard = true ∧ s.limitPresent (Limit.ofFin l) i =
      true ∧ s.flag .guardLockLocked = true ∧ (Limit.ofFin l).loosens (s.rd (Limit.ofFin l).reg i) (v.toNat &&&
        (Limit.ofFin l).mask) = true) ∧
    (∃ (s : State) (v : Word), s.hostGuard = true ∧ bit v.toNat 0 = true) ∧
    (∃ (s : State), s.hostGuard = true) ∧
    (∃ (s : State), s.hostGuard = true) ∧
    (∃ (s : State), s.hostGuard = true) :=
  ⟨⟨inState 2, 1, 95, 0x1234, by decide, by decide, by decide⟩,
  ⟨((inState 2).setB .guardLockLocked 0 true).wr .guardPeak 3 5, 0, 3, 6, by decide, by decide, by decide, by decide⟩,
  ⟨inState 2, 1, by decide, by decide⟩,
  ⟨inState 2, by decide⟩,
  ⟨inState 2, by decide⟩,
  ⟨inState 2, by decide⟩⟩

theorem witness_TripLatches :
    (∃ (s : State) (n : Nat) (causes : Nat), n < 96 ∧ causes < 16 ∧ s.guardTripped n = false) ∧
    (∃ (s : State) (n : Nat) (causes : Nat), n < 96 ∧ causes < 16 ∧ s.guardTripped n = true) ∧
    (∃ (s : State) (n : Nat), n < 96 ∧ s.guardTripped n = true ∧ SMap.get 0 s.tripAt n ≠ s.cyc + 1 ∧ s.rmsBreach n
      = false ∧ s.dutyBreach n = false) ∧
    (∃ (s : State) (n : Nat), s.guardTripped n = true ∧ SMap.get 0 s.tripAt n ≠ s.cyc + 1 ∧ (s.rmsBreach n = true ∨
      s.dutyBreach n = true)) :=
  ⟨⟨inState 4, 95, 15, by decide, by decide, by decide⟩,
  ⟨(inState 4).guardTrip 95 1, 95, 2, by decide, by decide, by decide⟩,
  ⟨{ (inState 4).guardTrip 95 1 with cyc := 5 }, 95, by decide, by decide, by decide, by decide, by decide⟩,
  ⟨{ ((inState 4).guardTrip 95 1).setChan 95 { Och.init with rms := [(5, 9)] } with cyc := 5 }.wr .guardRms 95 0,
    95, by decide, by decide, by decide⟩⟩

theorem witness_FrameAndMarkerCommands :
    (∃ (s : State) (c : HostCmd), Accepted frameWriteSpec c s) ∧
    (∃ (s : State) (c : HostCmd), Accepted frameVzAddSpec c s) ∧
    (∃ (s : State) (c : HostCmd), Accepted frameReadSpec c s) ∧
    (∃ (s : State) (c : HostCmd), Accepted tsetWriteSpec c s) ∧
    (∃ (s : State) (c : HostCmd), Accepted tsetReadSpec c s) ∧
    (∃ (s : State) (c : HostCmd), Accepted mrkClaimSpec c s ∧ pBits c 16 0 2 ≠ 2) ∧
    (∃ (s : State) (c : HostCmd), Accepted mrkClaimSpec c s ∧ pBits c 16 0 2 = 2) ∧
    (∃ (s : State) (c : HostCmd), Accepted mrkReleaseSpec c s) ∧
    (∃ (s : State) (m : Fin 48) (u : _), (s.pin m).pulseEnd = some u ∧ u / 256 ≤ s.cyc) ∧
    (∃ (s : State) (m : Fin 48), (s.pin m).pulseEnd = none) :=
  ⟨⟨inState 2, pkt 0x204 1 95 [(16, 511), (18, 31), (19, 1), (24, 2048)], by unfold Accepted; decide⟩,
  ⟨inState 4, pkt 0x205 2 23 [(16, 511)], by unfold Accepted; decide⟩,
  ⟨inState 2, pkt 0x206 1 0 [(16, 511)], by unfold Accepted; decide⟩,
  ⟨inState 2, pkt 0x207 1 0 [(16, 7)], by unfold Accepted; decide⟩,
  ⟨inState 2, pkt 0x208 1 0 [(16, 7)], by unfold Accepted; decide⟩,
  ⟨inState 2, pkt 0x209 9 47 [(16, 1), (18, 95), (20, 3)], by unfold Accepted; decide, by decide⟩,
  ⟨inState 2, pkt 0x209 9 47 [(16, 2), (18, 255)], by unfold Accepted; decide, by decide⟩,
  ⟨inState 2, pkt 0x20A 9 47, by unfold Accepted; decide⟩,
  ⟨(inState 2).setPin 47 { Pin.init with pulseEnd := some 0 }, 47, 0, by decide, by decide⟩,
  ⟨inState 2, 47, by decide⟩⟩

theorem witness_DecisionFileCommands :
    (∃ (s : State) (c : HostCmd), Accepted decClearSpec c s) ∧
    (∃ (s : State) (c : HostCmd), Accepted decAssignSpec c s) ∧
    (∃ (s : State) (c : HostCmd), Accepted fbConfigSpec c s ∧ kindOf c = 1) ∧
    (∃ (s : State) (c : HostCmd), Accepted fbConfigSpec c s ∧ kindOf c ≠ 1) :=
  ⟨⟨inState 2, pkt 0x307 10 4095 [(16, 1)], by unfold Accepted; decide⟩,
  ⟨inState 2, pkt 0x306 10 384 [(16, 640), (18, 31)], by unfold Accepted; decide⟩,
  ⟨inState 2, pkt 0x20E 1 95 [(16, 31), (20, 4096)], by unfold Accepted; decide, by decide⟩,
  ⟨inState 2, pkt 0x20E 2 23 [(16, 31)], by unfold Accepted; decide, by decide⟩⟩

theorem witness_TableCommandsApply :
    (∃ (s : State) (c : HostCmd), Accepted seqConfigSpec c s) ∧
    (∃ (s : State) (c : HostCmd), Accepted seqWriteSpec c s) ∧
    (∃ (s : State) (c : HostCmd), Accepted condWriteSpec c s) ∧
    (∃ (s : State) (c : HostCmd), Accepted streamDescWriteSpec c s) ∧
    (∃ (s : State) (c : HostCmd), Accepted streamOpenSpec c s) ∧
    (∃ (s : State) (c : HostCmd), Accepted streamCloseSpec c s ∧ s.strmOpen (indexOf c) = true) ∧
    (∃ (s : State) (c : HostCmd), Accepted streamCloseSpec c s ∧ s.strmOpen (indexOf c) = false) :=
  ⟨⟨inState 2, pkt 0x300 1 0, by unfold Accepted; decide⟩,
  ⟨inState 2, pkt 0x301 1 0 [(16, 4095), (18, 1)] (some [0, 0, 16, 0]), by unfold Accepted; decide⟩,
  ⟨inState 2, pkt 0x302 1 0 [(16, 255), (18, 1)] (some []), by unfold Accepted; decide +kernel⟩,
  ⟨inState 2, pkt 0x303 11 1023 [(20, 1)], by unfold Accepted; decide⟩,
  ⟨{ inState 2 with descs := [(1023, (1#256 <<< 112) + (1#256 <<< 32))] }, pkt 0x304 1 0 [(16, 1023)],
    by unfold Accepted; decide⟩,
  ⟨(inState 2).setB .ochStrmStatusOpen 0 true, pkt 0x305 1 0, by unfold Accepted; decide, by decide⟩,
  ⟨inState 2, pkt 0x305 1 0, by unfold Accepted; decide, by decide⟩⟩

theorem witness_SequencerWindowRows :
    (∃ (s : State) (n : Fin 96), s.hostOch n = true ∧ s.tblVoid n = true) ∧
    (∃ (s : State) (n : Fin 96), s.hostOch n = true ∧ s.tblVoid n = false ∧ s.fld .ochTblAddrWord n ≠ tblLast
      (s.fld .ochTblAddrTable n)) ∧
    (∃ (s : State) (n : Fin 96), s.hostOch n = true ∧ s.tblVoid n = false ∧ s.fld .ochTblAddrTable n = 0 ∧ s.fld
      .ochTblAddrWord n = 3 ∧ s.groupOn n = true) ∧
    (∃ (s : State) (n : Fin 96), s.hostOch n = true ∧ s.tblVoid n = true) ∧
    (∃ (s : State) (n : Fin 96), s.hostOch n = true ∧ s.tblVoid n = false ∧ s.groupOn n = true) ∧
    (∃ (s : State) (n : Fin 96), s.hostOch n = true ∧ s.tblVoid n = false ∧ s.groupOn n = false) ∧
    (∃ (s : State) (n : Fin 96), s.hostOch n = true) ∧
    (∃ (s : State) (n : Fin 96), s.hostOch n = true) ∧
    (∃ (s : State) (n : Fin 96), s.hostOch n = true) :=
  ⟨⟨(inState 2).setF .ochTblAddrTable 0 2, 0, by decide, by decide⟩,
  ⟨inState 2, 0, by decide, by decide, by decide⟩,
  ⟨(inState 2).setF .ochTblAddrWord 0 3, 0, by decide, by decide, by decide, by decide, by decide⟩,
  ⟨(inState 2).setF .ochTblAddrTable 0 2, 0, by decide, by decide⟩,
  ⟨inState 2, 0, by decide, by decide, by decide⟩,
  ⟨(inState 2).wr .glbBankPwr 0 1, 0, by decide, by decide, by decide⟩,
  ⟨inState 2, 95, by decide⟩,
  ⟨inState 2, 95, by decide⟩,
  ⟨inState 2, 95, by decide⟩⟩

theorem witness_SequencerRows :
    (∃ (s : State) (n : Fin 96) (v : Fin 8) (c : _), (s.voice n v).chain = some c ∧ c.stop = s.cyc ∧ c.ended =
      false ∧ c.held = false ∧ s.frozenAt n = none ∧ segMode c.seg ≠ 4) ∧
    (∃ (s : State) (n : Fin 96) (v : Fin 8) (c : _), (s.voice n v).chain = some c ∧ c.stop = s.cyc ∧ c.ended =
      false ∧ c.held = false ∧ s.frozenAt n = none ∧ segMode c.seg = 4) ∧
    (∃ (s : State) (n : Fin 96) (v : Fin 8) (p : _), (s.voice n v).spec = some p ∧ p.lane.stop = s.cyc ∧
      p.lane.ended = false ∧ p.lane.held = false ∧ s.frozenAt n = none) ∧
    (∃ (s : State) (n : Fin 96) (v : Fin 8) (p : _), (s.voice n v).spec = some p ∧ p.bound = s.cyc ∧ p.result =
      some (some true)) ∧
    (∃ (s : State) (n : Fin 96) (v : Fin 8) (p : _) (c : _), (s.voice n v).spec = some p ∧ p.bound = s.cyc ∧
      p.result = some (some false) ∧ (s.voice n v).chain = some c) ∧
    (∃ (s : State) (n : Fin 96) (v : Fin 8) (p : _) (c : _), (s.voice n v).spec = some p ∧ p.bound = s.cyc ∧
      p.result = some none ∧ p.late ≠ 2 ∧ (s.voice n v).chain = some c) ∧
    (∃ (s : State) (k : Fin 128) (w : _) (c : _), (∀ n ∈ s.waitMembers k, ∀ x, s.waitOf (s.waitKey n) = some x →
      x.conds.all (fun q => q.result.isSome) = true) ∧ s.waitOf k = some w ∧ waitReady w = some c ∧ w.resume = none
        ∧ max (c + 4) (w.entered + 1) = s.cyc) ∧
    (∃ (s : State) (n : Fin 96) (v : Fin 8) (q : _), s.atWaitLimit n v = some q) ∧
    (∃ (s : State) (n : Fin 96) (v : Fin 8), s.atWaitLimit n v = none) ∧
    (∃ (s : State) (n : Nat) (v : Nat) (q : _), (s.resolveReady n).atWaitLimit n v = some q) ∧
    (∃ (s : State) (n : Fin 96), s.hasOch n = true ∧ (s.chan n).lastGran ≠ s.cyc + 1) ∧
    (∃ (s : State) (n : Fin 96), (s.chan n).lastGran = s.cyc + 1) ∧
    (∃ (s : State) (n : Fin 96) (k : Nat), s.strmOpen n = true ∧ k = (s.chan n).strm.to_ ∧ s.bufLevel n < 512 ∧
      tapeOver (s.openDesc n) (k * fmtPerBlock (descFormat (s.openDesc n))) = false ∧ s.bar2On (dramAddr (64 *
        (descBase (s.openDesc n) + tapeBlock (s.openDesc n) k))) = true ∧ s.groupOn n = true ∧ s.bar2Bad (dramAddr
        (64 * (descBase (s.openDesc n) + tapeBlock (s.openDesc n) k))) 64 = false) ∧
    (∃ (s : State) (n : Fin 96) (cause : _) (c : _), s.shot.abort = some (cause, c) ∧ (cause = 2 ∨ cause = 3) ∧
      (s.chan n).stopping = true ∧ c + 6250 < s.cyc) :=
  ⟨⟨shotState.setVoice 0 7 { Voice.init with chain := some chain0 }, 0, 7, chain0, by decide, by decide, by decide,
    by decide, by decide, by decide⟩,
  ⟨shotState.setVoice 0 7 { Voice.init with chain := some { chain0 with seg := 7#128 <<< 78 } }, 0, 7, { chain0
    with seg := 7#128 <<< 78 }, by decide, by decide, by decide, by decide, by decide, by decide⟩,
  ⟨shotState.setVoice 0 7 { Voice.init with spec := some spec0 }, 0, 7, spec0, by decide, by decide, by decide,
    by decide, by decide⟩,
  ⟨shotState.setVoice 0 7 { Voice.init with spec := some { spec0 with result := some (some true) } }, 0, 7, { spec0
    with result := some (some true) }, by decide, by decide, by decide⟩,
  ⟨shotState.setVoice 0 7 { Voice.init with chain := some chain0, spec := some { spec0 with result := some (some
    false) } }, 0, 7, { spec0 with result := some (some false) }, chain0, by decide, by decide, by decide, by decide⟩,
  ⟨shotState.setVoice 0 7 { Voice.init with chain := some chain0, spec := some { spec0 with result := some none }
    }, 0, 7, { spec0 with result := some none }, chain0, by decide, by decide, by decide, by decide, by decide⟩,
  ⟨{ shotState.setWait 127 (some (wait0 (some (true, 5)))) with cyc := 9 }, 127, wait0 (some (true, 5)), 5,
    fun n h => (nomatch (show n ∈ ([] : List Nat) from h)), by decide, by decide, by decide, by decide⟩,
  ⟨(shotState.setWait 127 (some ⟨0, 0, [⟨95, 7, 0, 0, none⟩], none, none⟩)).setF .ochFbCfgWaitMax 95 1, 95, 7, ⟨95,
    7, 0, 0, none⟩, by decide⟩,
  ⟨inState 4, 95, 7, by decide⟩,
  ⟨(let s := (shotState.setWait 127 (some ⟨0, 0, [⟨95, 7, 0, 0, none⟩], none, none⟩)).setF .ochFbCfgWaitMax 95 1;
    s.updChan 95 fun o => { o with conds := [(0, BitVec.ofNat 512 (2 ^ 384))] }), 95, 7, ⟨95, 7, 0, 0, none⟩,
      by decide⟩,
  ⟨inState 4, 95, by decide, by decide⟩,
  ⟨(inState 4).setChan 95 { Och.init with lastGran := 1 }, 95, by decide⟩,
  ⟨({ inState 4 with descs := [(0, (1#256 <<< 112) + (1#256 <<< 32))] }).setB .ochStrmStatusOpen 0 true, 0, 0,
    by decide, by decide, by decide, by decide, by decide, by decide, by decide⟩,
  ⟨{ ({ shotState with shot := { shotState.shot with abort := some (2, 0) } }.setChan 0 { Och.init with stopping :=
    true }) with cyc := 9999 }, 0, 2, 0, by decide, by decide, by decide, by decide⟩⟩

theorem witness_SuccessorRule :
    (∃ (c : Chain), segMode c.seg = 0) ∧
    (∃ (s : State) (c : Chain), segMode c.seg = 2 ∧ s.sampled c.async = true) ∧
    (∃ (s : State) (c : Chain), segMode c.seg = 2 ∧ s.sampled c.async = false) ∧
    (∃ (c : Chain), segMode c.seg = 3 ∧ c.loops.getD (segLctr c.seg) 0 = 0) ∧
    (∃ (c : Chain), segMode c.seg = 3 ∧ c.loops.getD (segLctr c.seg) 0 ≠ 0) ∧
    (∃ (s : State) (c : Chain), segMode c.seg = 5 ∧ s.sampled c.event = true) ∧
    (∃ (s : State) (c : Chain), segMode c.seg = 5 ∧ s.sampled c.event = false ∧ c.plays < segRepeat c.seg) ∧
    (∃ (s : State) (c : Chain), segMode c.seg = 5 ∧ s.sampled c.event = false ∧ segRepeat c.seg ≤ c.plays) ∧
    (∃ (c : Chain), segMode c.seg = 4) :=
  ⟨⟨chain0, by decide⟩,
  ⟨{ inState 4 with cyc := 2 }, { chain0 with seg := 2#128 <<< 78, async := some 0 }, by decide, by decide⟩,
  ⟨{ inState 4 with cyc := 1 }, { chain0 with seg := 2#128 <<< 78, async := some 0 }, by decide, by decide⟩,
  ⟨{ chain0 with seg := 3#128 <<< 78 }, by decide, by decide⟩,
  ⟨{ chain0 with seg := 3#128 <<< 78, loops := [1, 0, 0, 0] }, by decide, by decide⟩,
  ⟨{ inState 4 with cyc := 2 }, { chain0 with seg := 5#128 <<< 78, event := some 0 }, by decide, by decide⟩,
  ⟨inState 4, { chain0 with seg := (5#128 <<< 78) + (1#128 <<< 38) }, by decide, by decide, by decide⟩,
  ⟨inState 4, { chain0 with seg := 5#128 <<< 78 }, by decide, by decide, by decide⟩,
  ⟨{ chain0 with seg := 7#128 <<< 78 }, by decide⟩⟩

theorem witness_ReceiveCommandsApply :
    (∃ (s : State) (c : HostCmd), Accepted rxConfigSpec c s ∧ bit (pByte c 16) 0 = false) ∧
    (∃ (s : State) (c : HostCmd), Accepted rxConfigSpec c s ∧ bit (pByte c 16) 0 = true ∧ s.rxState (indexOf c) = 0) ∧
    (∃ (s : State) (c : HostCmd), Accepted rxConfigSpec c s ∧ bit (pByte c 16) 0 = true ∧ s.rxState (indexOf c) = 2
      ∧ s.flag .rchRxCfgMode (indexOf c) ≠ bit (pByte c 16) 1) ∧
    (∃ (s : State) (c : HostCmd), Accepted toneWriteSpec c s ∧ bit (pByte c 18) 0 = false) ∧
    (∃ (s : State) (c : HostCmd), Accepted kernelWriteSpec c s) ∧
    (∃ (s : State) (c : HostCmd), Accepted toneReadSpec c s) ∧
    (∃ (s : State) (c : HostCmd), Accepted acqConfigSpec c s) ∧
    (∃ (s : State) (c : HostCmd), Accepted acqStartSpec c s) ∧
    (∃ (s : State) (c : HostCmd), Accepted acqStopSpec c s) :=
  ⟨⟨inState 2, pkt 0x400 2 23, by unfold Accepted; decide, by decide⟩,
  ⟨inState 2, pkt 0x400 2 23 [(16, 1)], by unfold Accepted; decide, by decide, by decide⟩,
  ⟨(inState 2).setF .rchRxStatusState 23 2, pkt 0x400 2 23 [(16, 3)], by unfold Accepted; decide, by decide,
    by decide, by decide⟩,
  ⟨inState 2, pkt 0x401 2 23 [(16, 15), (17, 1)] (some []), by unfold Accepted; decide +kernel, by decide⟩,
  ⟨inState 2, pkt 0x402 2 23 [(16, 0x3FFF), (18, 1)] (some []), by unfold Accepted; decide⟩,
  ⟨inState 2, pkt 0x403 3 383, by unfold Accepted; decide⟩,
  ⟨inState 2, pkt 0x500 6 23 [(16, 0x170), (24, 1), (36, 1), (44, 1)], by unfold Accepted; decide⟩,
  ⟨(inState 2).setAcq 0 { Acq.init with configured := true }, pkt 0x501 0 0 [(16, 1)], by unfold Accepted; decide⟩,
  ⟨inState 2, pkt 0x502 0 0 [(16, 1)], by unfold Accepted; decide⟩⟩

theorem witness_ReceiveRows :
    (∃ (s : State) (r : Fin 24), s.rxState r = 1 ∧ s.cyc ≤ (s.rchan r).settle) ∧
    (∃ (s : State) (r : Fin 24), s.hasRch r = true ∧ s.rxValid r = true ∧ (s.rchan r).lastOwn ≠ some (s.cyc + 1)) ∧
    (∃ (s : State) (r : Fin 24), s.hasRch r = true ∧ s.rxValid r = true ∧ (s.rchan r).lastOwn ≠ some (s.cyc + 1) ∧
      (s.rchan r).lastClamp ≠ some (s.cyc + 1)) ∧
    (∃ (s : State) (r : Fin 24), s.hasRch r = true ∧ s.rxValid r = false) ∧
    (∃ (s : State) (r : Fin 24), (s.rchan r).lastOwn = some s.cyc ∧ (s.rchan r).newOwn = true ∧ (s.rchan
      r).lastClamp ≠ some s.cyc) ∧
    (∃ (s : State) (r : Fin 24), (s.rxValid r && bit (s.rxMarks r s.cyc).toNat 0) = false) ∧
    (∃ (s : State) (r : Fin 24) (xs : List (BitVec 12)), s.hasRch r = true ∧ s.rxValid r = true ∧ (s.rchan r).next
      = none ∧ xs ≠ []) ∧
    (∃ (s : State) (r : Fin 24) (xs : List (BitVec 12)), s.hasRch r = true ∧ (s.rxValid r = false ∨ xs = []) ∧
      (s.rchan r).next = none) ∧
    (∃ (s : State) (r : Nat) (xs : List (BitVec 12)), (s.rchan r).next = some xs ∧ xs ≠ []) ∧
    (∃ (s : State) (r : Fin 24) (t : Fin 16), (s.tone r t).active = true ∧ (s.tone r t).due = some s.cyc ∧
      s.windowHeld r s.cyc = false) ∧
    (∃ (s : State) (r : Fin 24) (t : Fin 16) (e : _), (s.tone r t).endCyc = some e ∧ (s.tone r t).isOpen = true ∧ e
      ≤ s.cyc) ∧
    (∃ (s : State) (r : Fin 24) (t : Fin 16), s.toneDue r t = true ∧ tdMode (s.toneDesc r t) = 3) ∧
    (∃ (s : State) (r : Fin 24) (t : Fin 16), s.toneDue r t = true ∧ tdMode (s.toneDesc r t) ≠ 3) ∧
    (∃ (s : State) (r : Fin 24) (t : Fin 16), s.toneDue r t = false) :=
  ⟨⟨(inState 2).setF .rchRxStatusState 23 1, 23, by decide, by decide⟩,
  ⟨(inState 2).setF .rchRxStatusState 23 2, 23, by decide, by decide, by decide⟩,
  ⟨(inState 2).setF .rchRxStatusState 23 2, 23, by decide, by decide, by decide, by decide⟩,
  ⟨inState 2, 23, by decide, by decide⟩,
  ⟨(inState 2).updRchan 23 (fun q => { q with lastOwn := some 0, newOwn := true }), 23, by decide, by decide,
    by decide⟩,
  ⟨inState 2, 23, by decide⟩,
  ⟨(inState 2).setF .rchRxStatusState 23 2, 23, [5], by decide, by decide, by decide, by decide⟩,
  ⟨inState 2, 23, [5], by decide, .inl (by decide), by decide⟩,
  ⟨(inState 2).updRchan 23 (fun q => { q with next := some [5] }), 23, [5], by decide, by decide⟩,
  ⟨shotState.setTone 23 15 { Tone.init with active := true, due := some 0 }, 23, 15, by decide, by decide, by decide⟩,
  ⟨shotState.setTone 23 15 { Tone.init with isOpen := true, endCyc := some 0 }, 23, 15, 0, by decide, by decide,
    by decide⟩,
  ⟨{ (shotState.setTone 23 15 { Tone.init with active := true, endCyc := some 0 }).updRchan 23 (fun q => { q with
    descs := [(15, 3#512 <<< 0)] }) with cyc := 20 }, 23, 15, by decide, by decide +kernel⟩,
  ⟨{ shotState.setTone 23 15 { Tone.init with active := true, endCyc := some 0 } with cyc := 20 }, 23, 15,
    by decide, by decide +kernel⟩,
  ⟨shotState, 23, 15, by decide⟩⟩

theorem witness_ResultRecordReadsBack :
    (∃ (tag : Nat) (slot : Nat) (ticks : Nat) (epoch : Nat), tag < 2 ^ 16 ∧ slot < 2 ^ 12 ∧ ticks < 2 ^ 16 ∧ epoch
      < 2 ^ 8) :=
  ⟨0xFFFF, 0xFFF, 0xFFFF, 0xFF, by decide, by decide, by decide, by decide⟩

/-- A full record of an empty trigger. -/
def rec0 : Rec := ⟨⟨0, 0, 0, 0, 0, 0, false⟩, 0, 0, 0, 0, Pack.init, 0, 0, false, false, 0, true⟩

theorem witness_AcqRowsAct :
    (∃ (s : State), s.hostPage 0x1A0 = true) ∧
    (∃ (s : State) (u : Fin 24) (v : Word), s.hostPage 0x1A0 = true ∧ s.hasAcq u = true ∧ slice v.toNat 0 29 <
      s.acqLen u ∧ (slice v.toNat 0 29 + s.acqLen u - s.fld .acqRdPtrPtr u) % s.acqLen u ≤ (s.fld .acqWrPtrPtr u +
        s.acqLen u - s.fld .acqRdPtrPtr u) % s.acqLen u) ∧
    (∃ (s : State) (u : Fin 24) (v : Word), s.hostPage 0x1A0 = true ∧ s.hasAcq u = true ∧ s.acqLen u ≤ slice
      v.toNat 0 29) ∧
    (∃ (s : State) (u : Fin 24) (r : _), s.acqOn u = true ∧ (s.acqOf u).recs = [r] ∧ r.full = true ∧ s.acqWritten u
      r = true) ∧
    (∃ (s : State) (u : Fin 24) (r : _) (r2 : _) (rest : _), s.acqOn u = true ∧ (s.acqOf u).recs = r :: r2 :: rest
      ∧ r.full = true ∧ s.acqWritten u r = true) ∧
    (∃ (s : State) (u : Fin 24) (c : Nat) (b : Bool), s.acqOn u = true ∧ (s.acqOf u).lost = some (c, b)) ∧
    (∃ (s : State) (u : Fin 24), (s.acqOf u).lost = none) ∧
    (∃ (s : State) (u : Fin 24), s.acqOn u = true ∧ (s.acqOf u).done = true) ∧
    (∃ (s : State) (u : Nat), s.acqTailLost u = none ∧ s.flag .acqCfgMode u = true) ∧
    (∃ (s : State) (u : Nat) (c : Nat) (b : Bool), s.acqTailLost u = some (c, b)) ∧
    (∃ (s : State) (u : Fin 24), (s.acqOf u).done = false) :=
  ⟨⟨inState 2, by decide⟩,
  ⟨((inState 2).wr .acqPartLen 23 1).wr .acqWrPtr 23 2, 23, 2, by decide, by decide, by decide, by decide⟩,
  ⟨inState 2, 23, 0, by decide, by decide, by decide⟩,
  ⟨((inState 2).setF .acqStatusState 0 1).setAcq 0 { Acq.init with recs := [rec0] }, 0, rec0, by decide, by decide,
    by decide, by decide⟩,
  ⟨((inState 2).setF .acqStatusState 0 1).setAcq 0 { Acq.init with recs := [rec0, rec0] }, 0, rec0, rec0, [],
    by decide, by decide, by decide, by decide⟩,
  ⟨((inState 2).setF .acqStatusState 0 1).setAcq 0 { Acq.init with lost := some (5, true) }, 0, 5, true, by decide,
    by decide⟩,
  ⟨inState 2, 23, by decide⟩,
  ⟨((inState 2).setF .acqStatusState 0 1).setAcq 0 { Acq.init with done := true }, 0, by decide, by decide⟩,
  ⟨(inState 2).setB .acqCfgMode 23 true, 23, by decide, by decide⟩,
  ⟨(inState 2).setAcq 23 { Acq.init with lost := some (5, true) }, 23, 5, true, by decide⟩,
  ⟨inState 2, 23, by decide⟩⟩

theorem witness_EventCommandsApply :
    (∃ (s : State) (c : HostCmd), Accepted evtRouteSpec c s ∧ evrAppend c = false ∧ isLinkOut (evrCons c) = false ∧
      isLinkOut (s.stagedOf (indexOf c)) = false) ∧
    (∃ (s : State) (c : HostCmd), Accepted evtRouteSpec c s ∧ evrAppend c = false ∧ isLinkOut (evrCons c) = true ∧
      isLinkOut (s.stagedOf (indexOf c)) = false) ∧
    (∃ (s : State) (c : HostCmd), Accepted evtRouteSpec c s ∧ evrAppend c = false ∧ isLinkOut (evrCons c) = false ∧
      isLinkOut (s.stagedOf (indexOf c)) = true) ∧
    (∃ (s : State) (c : HostCmd), Accepted evtRouteSpec c s ∧ evrAppend c = true) ∧
    (∃ (s : State) (c : HostCmd), Accepted evtCommitSpec c s) ∧
    (∃ (s : State) (c : HostCmd), Accepted snapshotSpec c s ∧ s.evf.snap = none ∧ s.flag .evfSnapStatusHeld = false
      ∧ s.flag .evfSnapCfgHold = false) ∧
    (∃ (s : State) (c : HostCmd) (c0 : _) (t : _) (src : _), Accepted snapshotSpec c s ∧ s.evf.snap = some (c0, t,
      src) ∧ s.cyc < c0 + 8) :=
  ⟨⟨inState 2, pkt 0x109 8 255 [(16, 1), (18, 1), (20, 0x28)], by unfold Accepted; decide, by decide, by decide,
    by decide⟩,
  ⟨inState 2, pkt 0x109 8 255 [(16, 0x350), (18, 1), (20, 0x28), (50, 63)], by unfold Accepted; decide, by decide,
    by decide, by decide⟩,
  ⟨(inState 2).setEvf { (inState 2).evf with staged := [(255, some ⟨0x350, []⟩)] }, pkt 0x109 8 255 [(16, 1), (18,
    1), (20, 0x28)], by unfold Accepted; decide, by decide, by decide, by decide⟩,
  ⟨inState 2, pkt 0x109 8 255 [(18, 1), (19, 1), (20, 0x28)], by unfold Accepted; decide, by decide⟩,
  ⟨inState 2, pkt 0x10A 0 0, by unfold Accepted; decide⟩,
  ⟨inState 2, pkt 0x10B 0 0, by unfold Accepted; decide, by decide, by decide, by decide⟩,
  ⟨(inState 2).setEvf { (inState 2).evf with snap := some (0, 0, 0) }, pkt 0x10B 0 0, 0, 0, 0,
    by unfold Accepted; decide, by decide, by decide⟩⟩

theorem witness_EventRows :
    (∃ (s : State), s.hostPage 5 = true) ∧
    (∃ (s : State), s.hostPage 5 = true) ∧
    (∃ (s : State), s.hostPage 5 = true ∧ s.flag .evfDbgEn = true) ∧
    (∃ (s : State), s.hostPage 5 = true ∧ s.flag .evfDbgEn = true) ∧
    (∃ (s : State), s.flag .evfDbgEn = false) ∧
    (∃ (s : State) (v : Word), s.hostPage 5 = true ∧ bit v.toNat 0 = true ∧ bit (s.raisedBits .evfSnapStatus 0) 0 =
      false) ∧
    (∃ (s : State), s.flag .evfSnapCfgSnapinEn = true ∧ s.jtag.hold = false) ∧
    (∃ (s : State) (k : Fin 8) (v : Word), s.hostPage 5 = true ∧ s.flag .timerCtrlEn k = false ∧ bit v.toNat 0 =
      true) ∧
    (∃ (s : State) (k : Fin 8) (t : _), s.timerNext k = some t ∧ t = s.st.toNat) ∧
    (∃ (s : State) (c : _) (t : _) (src : _), s.evf.snap = some (c, t, src) ∧ s.cyc = c + 7) ∧
    (∃ (s : State) (c : _) (t : _) (src : _), s.served = true ∧ s.evf.snap = some (c, t, src) ∧ s.cyc = c + 8) :=
  ⟨⟨inState 2, by decide⟩,
  ⟨inState 2, by decide⟩,
  ⟨(inState 2).setB .evfDbgEn 0 true, by decide, by decide⟩,
  ⟨(inState 2).setB .evfDbgEn 0 true, by decide, by decide⟩,
  ⟨inState 2, by decide⟩,
  ⟨inState 2, 1, by decide, by decide, by decide⟩,
  ⟨(inState 2).setB .evfSnapCfgSnapinEn 0 true, by decide, by decide⟩,
  ⟨inState 2, 7, 1, by decide, by decide, by decide⟩,
  ⟨(inState 2).setEvf { (inState 2).evf with timerNext := [(7, some 0)] }, 7, 0, by decide, rfl⟩,
  ⟨{ (inState 2).setEvf { (inState 2).evf with snap := some (0, 0, 0) } with cyc := 7 }, 0, 0, 0, by decide,
    by decide⟩,
  ⟨{ (inState 2).setEvf { (inState 2).evf with snap := some (0, 0, 0) } with cyc := 8 }, 0, 0, 0, by decide,
    by decide, by decide⟩⟩

theorem witness_OneFiringOfOneChannel :
    (∃ (s : State) (ch : Nat), s.suppressed ch = true) ∧
    (∃ (s : State) (ch : Nat), s.suppressed ch = false ∧ SMap.get 0 s.evf.lastDeliv ch = s.cyc + 1) ∧
    (∃ (s : State) (ch : Nat), s.suppressed ch = false ∧ SMap.get 0 s.evf.lastDeliv ch ≠ s.cyc + 1) :=
  ⟨⟨(inState 2).setSuppressed 255 true, 255, by decide⟩,
  ⟨(inState 2).setEvf { (inState 2).evf with lastDeliv := [(255, 1)] }, 255, by decide, by decide⟩,
  ⟨inState 2, 255, by decide, by decide⟩⟩

theorem witness_EventInvariantKept :
    (∃ (s : State) (t : State), EvBalanced s.evf.cnt ∧ step s = .next t) :=
  ⟨inState 2, _, by unfold EvBalanced; decide, rfl⟩

theorem witness_MemoryCommandsApply :
    (∃ (s : State) (c : HostCmd), Accepted memPowerSpec c s ∧ s.groupState (indexOf c) = pBits c 16 0 2) ∧
    (∃ (s : State) (c : HostCmd), Accepted memPowerSpec c s ∧ s.groupState (indexOf c) ≠ pBits c 16 0 2) ∧
    (∃ (s : State) (g : Fin 158) (t : _), SMap.get none s.mem.moving g = some t ∧ t ≠ 2 ∧ s.groupState g ≠ 2) ∧
    (∃ (s : State) (g : Fin 158), SMap.get none s.mem.moving g = some 2) ∧
    (∃ (s : State) (c : HostCmd) (keep : Bool), Accepted (memTestSpec keep) c s ∧ bit (pByte c 16) 0 = keep ∧
      indexOf c < 158) ∧
    (∃ (s : State) (g : Fin 165) (l : _), s.findLong 0x901 (some g.val) = some l ∧ l.arg = 0 ∧ g.val < 158) ∧
    (∃ (s : State) (g : Fin 165) (l : _), s.findLong 0x901 (some g.val) = some l ∧ l.arg ≠ 0 ∧ 158 ≤ g.val) ∧
    (∃ (s : State) (l : _) (n : _), s.fld .glbScrubCfgRate ≠ 0 ∧ s.scrubFrom s.mem.scrubAt = some l ∧ s.scrubFrom
      (l + 1) = some n) ∧
    (∃ (s : State) (l : _), s.fld .glbScrubCfgRate ≠ 0 ∧ s.scrubFrom s.mem.scrubAt = some l ∧ s.scrubFrom (l + 1) =
      none) ∧
    (∃ (s : State) (a : BitVec 36) (b : List Byte), s.hostMem = true ∧ b ≠ [] ∧ b.length ≤ 0x1000 - a.toNat %
      0x1000 ∧ s.bar2No a.toNat b.length true = none) ∧
    (∃ (s : State) (a : BitVec 36) (b : List Byte) (n : _) (k : _), s.hostMem = true ∧ b ≠ [] ∧ b.length ≤ 0x1000 -
      a.toNat % 0x1000 ∧ s.bar2No a.toNat b.length true = some (.envelope n k)) ∧
    (∃ (s : State) (a : BitVec 36) (n : Nat), s.hostMem = true ∧ 0 < n ∧ n ≤ 0x1000 - a.toNat % 0x1000 ∧ s.bar2No
      a.toNat n false = some .off) ∧
    (∃ (s : State), s.hostMem = false) :=
  ⟨⟨inState 2, pkt 0x900 12 157, by unfold Accepted; decide, by decide⟩,
  ⟨inState 2, pkt 0x900 12 157 [(16, 2)], by unfold Accepted; decide, by decide⟩,
  ⟨{ inState 2 with mem := { (inState 2).mem with moving := [(157, some 1)] } }, 157, 1, by decide, by decide,
    by decide⟩,
  ⟨{ inState 2 with mem := { (inState 2).mem with moving := [(157, some 2)] } }, 157, by decide⟩,
  ⟨inState 2, pkt 0x901 12 119, false, by unfold Accepted; decide, by decide, by decide⟩,
  ⟨busyWith 2 0x901 157 0, 157, long0 0x901 157 0, by decide, by decide, by decide⟩,
  ⟨busyWith 2 0x901 164 1, 164, long0 0x901 164 1, by decide, by decide, by decide⟩,
  ⟨(inState 2).wr .glbScrubCfg 0 1, 0, 1, by decide, by decide, by decide⟩,
  ⟨{ (inState 2).wr .glbScrubCfg 0 1 with mem := { (inState 2).mem with scrubAt := 16384 * 120 - 1 } }, 16384 * 120
    - 1, by decide, by decide, by decide⟩,
  ⟨inState 2, 0x400000000, [1], by decide, by decide, by decide, by decide +kernel⟩,
  ⟨shotState.updVoice 0 0 (fun x => { x with chain := some { chain0 with seg := 4#128 <<< 18, stop := 9 } }), 0,
    [1], 0, 0, by decide, by decide, by decide, by decide +kernel⟩,
  ⟨(inState 2).wr .glbBankPwr 0 1, 0, 1, by decide, by decide, by decide, by decide⟩,
  ⟨inState 0, by decide⟩⟩

theorem witness_HostMemoryReadsBack :
    ∃ (s : State) (a : BitVec 36) (b : List Byte), s.hostMem = true ∧ b ≠ [] ∧ b.length ≤ 0x1000 - a.toNat % 0x1000 ∧
      s.bar2No a.toNat b.length true = none :=
  ⟨inState 2, 0x97FFFFF, [7], by decide, by decide, by decide, by decide +kernel⟩

theorem witness_MemoryKeepsItsForm :
    ∃ (s t : State) (i : Instr), ((∃ a b, i = .bar2Write a b) ∨ (∃ g, i = .memPowerDone g) ∨
      (∃ g f, i = .memTestComplete g f)) ∧ Memory.wf s.mem.bytes = true ∧ exec i s = .next t :=
  ⟨State.reset, _, .memPowerDone 157, .inr (.inl ⟨157, rfl⟩), by decide, rfl⟩

theorem witness_JournalCommandsApply :
    (∃ (s : State) (c : HostCmd), Accepted jrnConfigSpec c s) ∧
    (∃ (s : State) (p : _) (rest : _), s.jrn.head = p :: rest ∧ s.headToSpill = true) ∧
    (∃ (s : State), s.headToSpill = true) ∧
    (∃ (s : State) (p : _) (rest : _), s.jrn.tail.length < 64 ∧ s.jrn.spill = p :: rest) ∧
    (∃ (s : State) (p : _) (rest : _), s.jrn.tail.length < 64 ∧ s.jrn.spill = p :: rest) ∧
    (∃ (s : State) (p : _) (rest : _), s.jrn.tail.length < 64 ∧ s.jrn.spill = [] ∧ s.jrn.head = p :: rest) ∧
    (∃ (s : State) (p : _) (rest : _), s.jrn.tail = p :: rest ∧ p.blocks ≤ s.hostBlocks - s.fld .jrnHostWrBlk ∧
      s.hostBlocks ≠ 0 ∧ p.blocks ≤ s.hostFree ∧ s.pcie.linkUp = true) ∧
    (∃ (s : State), s.jrn.tail = []) ∧
    (∃ (s : State) (v : Word), s.hostPage 0x010 = true ∧ slice v.toNat 0 24 < max 1 s.hostBlocks ∧ (slice v.toNat 0
      24 + max 1 s.hostBlocks - s.fld .jrnHostRdBlk) % max 1 s.hostBlocks ≤ s.hostHeld ∧ s.jrn.rdAt ≠ s.cyc + 1) ∧
    (∃ (s : State) (v : Word), s.hostPage 0x010 = true ∧ slice v.toNat 0 24 < max 1 s.hostBlocks ∧ (slice v.toNat 0
      24 + max 1 s.hostBlocks - s.fld .jrnHostRdBlk) % max 1 s.hostBlocks ≤ s.hostHeld ∧ s.jrn.rdAt = s.cyc + 1) ∧
    (∃ (s : State) (v : Word), s.hostPage 0x010 = true ∧ max 1 s.hostBlocks ≤ slice v.toNat 0 24) :=
  ⟨⟨inState 2, pkt 0x902 0 0 [(16, 1), (20, 128), (40, 2)], by unfold Accepted; decide⟩,
  ⟨(((inState 2).wr .jrnCfg 0 1).wr .jrnSpillLen 0 1).setJrn { Jrn.reset with head := [packet0], spill := [packet0]
    }, packet0, [], by decide, by decide⟩,
  ⟨(((inState 2).wr .jrnCfg 0 1).wr .jrnSpillLen 0 1).setJrn { Jrn.reset with head := [packet0], spill := [packet0]
    }, by decide⟩,
  ⟨(inState 2).setJrn { Jrn.reset with spill := [packet0] }, packet0, [], by decide, by decide⟩,
  ⟨(inState 2).setJrn { Jrn.reset with spill := [packet0] }, packet0, [], by decide, by decide⟩,
  ⟨(inState 2).setJrn { Jrn.reset with head := [packet0] }, packet0, [], by decide, by decide, by decide⟩,
  ⟨((inState 2).wr .jrnHostLen 0 2).setJrn { Jrn.reset with tail := [packet0] }, packet0, [], by decide, by decide,
    by decide, by decide, by decide⟩,
  ⟨inState 2, by decide⟩,
  ⟨(inState 2).wr .jrnHostLen 0 2, 0, by decide, by decide, by decide, by decide⟩,
  ⟨((inState 2).wr .jrnHostLen 0 2).setJrn { Jrn.reset with rdAt := 1 }, 0, by decide, by decide, by decide,
    by decide⟩,
  ⟨(inState 2).wr .jrnHostLen 0 2, 128, by decide, by decide⟩⟩

theorem witness_TimeCommandsApply :
    (∃ (s : State) (c : HostCmd), Accepted timeStepSpec c s ∧ pBits c 16 0 2 = 0) ∧
    (∃ (s : State) (c : HostCmd), Accepted timeStepSpec c s ∧ pBits c 16 0 2 = 1) ∧
    (∃ (s : State) (c : HostCmd), Accepted timeStepSpec c s ∧ pBits c 16 0 2 = 2) ∧
    (∃ (s : State) (c : HostCmd), Accepted timeUnlockSpec c s) ∧
    (∃ (s : State) (c : HostCmd), Accepted (timeSlewSpec (s.flag .timeStatusPllLock)) c s) ∧
    (∃ (s : State) (c : HostCmd), Accepted timeSyncCfgSpec c s) ∧
    (∃ (s : State) (c : HostCmd), Accepted timeSyncinArmSpec c s ∧ bit (pByte c 16) 0 = false) ∧
    (∃ (s : State) (c : HostCmd), Accepted timeSyncinArmSpec c s ∧ bit (pByte c 16) 0 = true) ∧
    (∃ (s : State) (c : HostCmd), Accepted trigConfigSpec c s) :=
  ⟨⟨inState 2, pkt 0x600 0 0 [(24, 32)], by unfold Accepted; decide, by decide⟩,
  ⟨inState 2, pkt 0x600 0 0 [(16, 1), (24, 32)], by unfold Accepted; decide, by decide⟩,
  ⟨(let s := inState 2; { s with time := { s.time with offsetValid := true } }), pkt 0x600 0 0 [(16, 2)],
    by unfold Accepted; decide, by decide⟩,
  ⟨inState 2, pkt 0x601 0 0, by unfold Accepted; decide⟩,
  ⟨inState 2, pkt 0x602 0 0 [(20, 1000)], by unfold Accepted; decide⟩,
  ⟨inState 2, pkt 0x603 0 0 [(17, 0x0C), (18, 2), (20, 1)], by unfold Accepted; decide⟩,
  ⟨inState 2, pkt 0x604 0 0 [(24, 32)], by unfold Accepted; decide, by decide⟩,
  ⟨inState 2, pkt 0x604 0 0 [(16, 1)], by unfold Accepted; decide, by decide⟩,
  ⟨inState 2, pkt 0x605 0 0 [(16, 15), (17, 15)], by unfold Accepted; decide⟩⟩

theorem witness_MidnightIsPlaced :
    (∃ (s : State) (x : _) (c0 : _), s.time.step = some (x, c0) ∧ s.midnightOk = true ∧ s.flag
      .timeStatusSyncinArmed = false) ∧
    (∃ (s : State), s.flag .timeStatusSyncinArmed = true ∧ s.midnightOk = true) ∧
    (∃ (s : State), (s.time.step = none ∨ s.midnightOk = false ∨ s.flag .timeStatusSyncinArmed = true)) ∧
    (∃ (s : State), (s.flag .timeStatusSyncinArmed = false ∨ s.midnightOk = false)) :=
  ⟨⟨(let s := inState 2; { s with time := { s.time with step := some (.abs 64, 0) } }), .abs 64, 0, by decide,
    by decide, by decide⟩,
  ⟨(inState 2).setB .timeStatusSyncinArmed 0 true, by decide, by decide⟩,
  ⟨inState 2, by decide⟩,
  ⟨inState 2, by decide⟩⟩

theorem witness_ClockRows :
    (∃ (s : State), s.slewRemain = 0) ∧
    (∃ (s : State), s.flag .timeStatusRefPresent = true) ∧
    (∃ (s : State), s.flag .timeStatusRefPresent = false) ∧
    (∃ (s : State), (s.fld .timeStatusRefFreq == 1 || s.fld .timeStatusRefFreq == 2) = true ∧ s.flag
      .timeStatusPllLock = true) ∧
    (∃ (s : State), (s.fld .timeStatusRefFreq == 1 || s.fld .timeStatusRefFreq == 2) = true ∧ s.flag
      .timeStatusPllLock = false) ∧
    (∃ (s : State), s.flag .timeStatusPllLock = true ∧ s.flag .timeStatusRefPresent = true) ∧
    (∃ (s : State) (n : Fin 16), s.jtag.hold = false ∧ s.inSlice 4 n = true) ∧
    (∃ (s : State) (n : Fin 16) (up : Bool), s.jtag.hold = false ∧ s.inSlice 4 n = false ∧ s.flag .trigCfgEn n =
      true ∧ s.edgeWanted n up = true) ∧
    (∃ (s : State) (n : Fin 16) (a : _) (rest : _), s.hostPage 1 = true ∧ (s.trigOf n).fifo = a :: rest) ∧
    (∃ (s : State) (n : Fin 16), s.hostPage 1 = true ∧ (s.trigOf n).fifo = []) ∧
    (∃ (s : State), s.power.pgood = 15) :=
  ⟨⟨inState 2, by decide⟩,
  ⟨(inState 2).setB .timeStatusRefPresent 0 true, by decide⟩,
  ⟨(inState 2).setB .timeStatusHoldover 0 true, by decide⟩,
  ⟨((inState 2).setF .timeStatusRefFreq 0 1).setB .timeStatusPllLock 0 true, by decide, by decide⟩,
  ⟨(inState 2).setF .timeStatusRefFreq 0 2, by decide, by decide⟩,
  ⟨((inState 2).setB .timeStatusRefPresent 0 true).setB .timeStatusPllLock 0 true, by decide, by decide⟩,
  ⟨(inState 2).setCalUnit 4 15 { CalUnit.init with slice := some 0 }, 15, by decide, by decide⟩,
  ⟨(inState 2).wr .trigCfg 15 15, 15, false, by decide, by decide, by decide, by decide⟩,
  ⟨{ inState 2 with time := { (inState 2).time with trig := [(15, ⟨[⟨5, false⟩], none, 0⟩)] } }, 15, ⟨5, false⟩,
    [], by decide, by decide⟩,
  ⟨inState 2, 15, by decide, by decide⟩,
  ⟨inState 2, by decide⟩⟩

theorem witness_NetworkTimeRows :
    (∃ (s : State), s.syncRole = 1 ∧ s.time.syncNext ≤ s.cyc) ∧
    (∃ (s : State) (p : Fin 4) (m : _) (bs : _), timeMsg (s.port p) = some (m, bs) ∧ m.kind = 0) ∧
    (∃ (s : State) (p : Fin 4) (m : _) (bs : _), timeMsg (s.port p) = some (m, bs) ∧ m.kind = 0 ∧ s.syncRole = 2 ∧
      s.upPort = p.val ∧ s.seqNewer m.seq = true ∧ bit s.time.anew p = false ∧ s.flag .timePdelayValid p = true) ∧
    (∃ (s : State), s.syncRole = 2 ∧ s.time.lastSync + 4 * s.syncEvery ≤ s.cyc) ∧
    (∃ (s : State) (p : Fin 4), s.portUp p = true ∧ SMap.get 0 s.time.reqNext p ≤ s.cyc) ∧
    (∃ (s : State) (p : Fin 4) (m : _) (bs : _), timeMsg (s.port p) = some (m, bs) ∧ m.kind = 1) ∧
    (∃ (s : State) (p : Fin 4) (st : BitVec 68) (m : _) (bs : _) (q : _), timeMsg (s.port p) = some (m, bs) ∧
      m.kind = 2 ∧ (SMap.get [] s.time.req p).find? (·.seq == m.seq) = some q ∧ 2 ∣ ((st.toNat : Int) - q.t1 -
        m.corr)) ∧
    (∃ (s : State) (p : Fin 4) (q : _) (rest : _), SMap.get [] s.time.req p = q :: rest ∧ q.sent + 65536 ≤ s.cyc) :=
  ⟨⟨(inState 2).wr .timeSyncCfg 0 1, by decide, by decide⟩,
  ⟨linked { Port.init with inbox := [0x20 <<< 56, 0x20 <<< 56, 0x20 <<< 56] }, 3, ⟨0, 0, 0, 0, 0⟩, [0x2000 <<< 48,
    0x20 <<< 56, 0x20 <<< 56], rfl, by decide⟩,
  ⟨((linked { Port.init with inbox := [0x20 <<< 56, 0x20 <<< 56, 0x20 <<< 56] }).wr .timeSyncCfg 0 14).setB
    .timePdelayValid 3 true, 3, ⟨0, 0, 0, 0, 0⟩, [0x2000 <<< 48, 0x20 <<< 56, 0x20 <<< 56], rfl, by decide,
      by decide, by decide, by decide, by decide, by decide⟩,
  ⟨{ (inState 2).wr .timeSyncCfg 0 2 with cyc := 4 }, by decide, by decide⟩,
  ⟨linked Port.init, 3, by decide, by decide⟩,
  ⟨linked { Port.init with inbox := [0x2001 <<< 48, 0x20 <<< 56, 0x20 <<< 56] }, 3, ⟨1, 0, 0, 0, 0⟩, [0x2001 <<<
    48, 0x20 <<< 56, 0x20 <<< 56], rfl, by decide⟩,
  ⟨(let s := linked { Port.init with inbox := [0x2002 <<< 48, 0x20 <<< 56, 0x20 <<< 56] }; { s with time := {
    s.time with req := [(3, [⟨0, 0, 0, false⟩])] } }), 3, 2, ⟨2, 0, 0, 0, 0⟩, [0x2002 <<< 48, 0x20 <<< 56, 0x20 <<<
      56], ⟨0, 0, 0, false⟩, rfl, by decide, by decide, by decide⟩,
  ⟨(let s := linked Port.init; { s with cyc := 65536, time := { s.time with req := [(3, [⟨0, 0, 0, false⟩])] } }),
    3, ⟨0, 0, 0, false⟩, [], by decide, by decide⟩⟩

theorem witness_LinkCommandsApply :
    (∃ (s : State) (c : HostCmd), Accepted linkUpSpec c s ∧ bit (pByte c 16) 5 = false) ∧
    (∃ (s : State) (c : HostCmd), Accepted linkDownSpec c s) ∧
    (∃ (s : State) (c : HostCmd), Accepted mirrorExportSpec c s) ∧
    (∃ (s : State) (c : HostCmd), Accepted mirrorRouteSpec c s) ∧
    (∃ (s : State) (p : Fin 4) (ok : BitVec 4) (l : _), s.findLong 0x606 (some p.val) = some l ∧ l.arg ≠ 1 ∧
      s.portState p = 1 ∧ (s.port p).credInit = true ∧ ((s.port p).rxOk &&& (s.port p).train) &&& ok.toNat ≠ 0) ∧
    (∃ (s : State) (p : Fin 4) (l : _), s.findLong 0x606 (some p.val) = some l ∧ l.arg ≠ 1 ∧ (s.port p).credInit =
      false ∧ l.accCyc + 625000 * s.fld .blpCfgLinkTimeout p ≤ s.cyc) ∧
    (∃ (s : State) (p : Fin 4), s.findLong 0x606 (some p.val) = none) :=
  ⟨⟨inState 2, pkt 0x606 7 3 [(16, 15), (18, 1)], by unfold Accepted; decide, by decide⟩,
  ⟨linked Port.init, pkt 0x607 7 3, by unfold Accepted; decide⟩,
  ⟨inState 2, pkt 0x608 0 0 [(16, 1023), (18, 1)] (some [0, 0, 255, 15, 0, 0, 0, 0]), by unfold Accepted; decide⟩,
  ⟨inState 2, pkt 0x609 0 0 [(16, 63), (17, 3), (18, 1)], by unfold Accepted; decide⟩,
  ⟨((busyWith 2 0x606 3 0).setF .blpStatusState 3 1).setPort 3 { Port.init with credInit := true, rxOk := 8, train
    := 8 }, 3, 8, long0 0x606 3 0, by decide, by decide, by decide, by decide, by decide⟩,
  ⟨{ (busyWith 2 0x606 3 0).setF .blpCfgLinkTimeout 3 1 with cyc := 625000 }, 3, long0 0x606 3 0, by decide,
    by decide, by decide, by decide⟩,
  ⟨inState 2, 3, by decide⟩⟩

theorem witness_LinkReceiverRows :
    (∃ (s : State) (p : Fin 4) (bs : List (Fin 4 × Dword)) (q : BitVec 16) (crc : Word), s.portUp p = true ∧
      (bs.map (·.2)).all blkKnown = true ∧ crc.toNat = linkCrc (bs.map (·.2)) ∧ ((bs.map (·.2)).filter
        blkProtected).length ≠ 0 ∧ seqWanted { s.port p with busyAt := s.cyc, audited := false } (bs.map (·.2)) =
        q.toNat) ∧
    (∃ (l : List Dword), l.any blkProtected = true) ∧
    (∃ (l : List Dword), l.any blkStart = false) ∧
    (∃ (s : State) (p : Fin 4) (bs : List (Fin 4 × Dword)) (k : Fin 4) (b : Dword), s.portUp p = true ∧ bs.find?
      (fun b => !blkKnown b.2) = some (k, b)) ∧
    (∃ (s : State) (p : Fin 4) (bs : List (Fin 4 × Dword)), s.portUp p = true ∧ (bs.map (·.2)).all blkKnown = true
      ∧ ((bs.map (·.2)).filter blkProtected).length ≠ 0) ∧
    (∃ (s : State) (p : Fin 4) (b : _), s.portUp p = true ∧ (s.port p).ctl.find? (fun b => blkType b == 4) = some b
      ∧ bit b.toNat 15 = true) ∧
    (∃ (s : State) (p : Fin 4) (b : _), s.portUp p = true ∧ (s.port p).ctl.find? (fun b => blkType b == 5 &&
      blkField b 52 4 == 0) = some b) ∧
    (∃ (s : State) (p : Fin 4) (b : _), s.portUp p = true ∧ (s.port p).ctl.find? (fun b => blkType b == 5 &&
      blkField b 52 4 == 1) = some b) ∧
    (∃ (s : State) (p : Fin 4) (q : _) (u : _) (rest : _), (s.port p).unacked = (q, u) :: rest ∧ s.portUp p = true
      ∧ (s.port p).ackAt + 256 ≤ s.cyc ∧ (s.port p).tries < 16) ∧
    (∃ (s : State) (p : Fin 4) (q : _) (u : _) (rest : _), (s.port p).unacked = (q, u) :: rest ∧ s.portUp p = true
      ∧ (s.port p).ackAt + 256 ≤ s.cyc ∧ 16 ≤ (s.port p).tries) ∧
    (∃ (s : State) (p : Fin 4) (bad : Bool) (b : _), s.portUp p = true ∧ (s.port p).ctl.find? (fun b => blkType b
      == 6 && blkField b 52 4 == 3) = some b ∧ s.txMap p &&& blkField b 48 4 = 0) ∧
    (∃ (s : State) (p : Fin 4) (bad : Bool) (b : _), s.portUp p = true ∧ (s.port p).ctl.find? (fun b => blkType b
      == 6 && blkField b 52 4 == 3) = some b ∧ s.txMap p &&& blkField b 48 4 ≠ 0 ∧ s.txMap p &&& (15 - blkField b
        48 4) = 0) ∧
    (∃ (s : State) (p : Fin 4) (bad : Bool) (b : _), s.portUp p = true ∧ (s.port p).ctl.find? (fun b => blkType b
      == 6 && blkField b 52 4 == 3) = some b ∧ s.txMap p &&& blkField b 48 4 ≠ 0 ∧ s.txMap p &&& (15 - blkField b
        48 4) ≠ 0 ∧ (bad = false ∨ (s.port p).unacked = [])) ∧
    (∃ (s : State) (p : Fin 4) (b : _), s.portUp p = true ∧ (s.port p).ctl.find? (fun b => blkType b == 6 &&
      blkField b 52 4 == 3) = some b ∧ s.txMap p &&& blkField b 48 4 ≠ 0 ∧ s.txMap p &&& (15 - blkField b 48 4) ≠ 0
        ∧ (s.port p).unacked ≠ []) ∧
    (∃ (s : State) (p : Fin 4), (s.port p).ctl.find? (fun b => blkType b == 6 && blkField b 52 4 == 3) = none) ∧
    (∃ (s : State) (p : Fin 4) (b : _), s.portUp p = true ∧ (s.port p).ctl.find? (fun b => blkType b == 6 &&
      blkField b 52 4 == 4) = some b ∧ BitVec.ofNat 48 (blkField b 0 48) = (s.port p).cnt.acked) ∧
    (∃ (s : State) (p : Fin 4), s.portUp p = true ∧ (s.port p).unacked = [] ∧ (s.port p).audited = false ∧ (s.port
      p).busyAt + 64 ≤ s.cyc ∧ (s.port p).cnt.outDec = 0 ∧ (s.port p).cnt.outBulk = 0) :=
  ⟨⟨linked Port.init, 3, [(1, 0x10 <<< 56)], 0, BitVec.ofNat 32 (linkCrc [0x10 <<< 56]), by decide, by decide,
    by decide +kernel, by decide, by decide⟩,
  ⟨[0x10 <<< 56], by decide⟩,
  ⟨[0x10 <<< 56], by decide⟩,
  ⟨linked Port.init, 3, [(1, 0x10 <<< 56), (3, 0x70 <<< 56)], 3, 0x70 <<< 56, by decide, by decide⟩,
  ⟨linked Port.init, 3, [(3, 0x10 <<< 56)], by decide, by decide, by decide⟩,
  ⟨linked { Port.init with ctl := [0x4000000000008000] }, 3, 0x4000000000008000, by decide, by decide, by decide⟩,
  ⟨linked { Port.init with ctl := [0x5000000000000000] }, 3, 0x5000000000000000, by decide, by decide⟩,
  ⟨linked { Port.init with ctl := [0x5010000000000000] }, 3, 0x5010000000000000, by decide, by decide⟩,
  ⟨{ linked { Port.init with unacked := [(0, 5)] } with cyc := 256 }, 3, 0, 5, [], by decide, by decide, by decide,
    by decide⟩,
  ⟨{ linked { Port.init with unacked := [(0, 5)], tries := 16 } with cyc := 256 }, 3, 0, 5, [], by decide,
    by decide, by decide, by decide⟩,
  ⟨linked { Port.init with ctl := [0x6030000000000000] }, 3, true, 0x6030000000000000, by decide, by decide,
    by decide⟩,
  ⟨(linked { Port.init with ctl := [0x6031000000000000] }).setF .blpStatusTxMap 3 1, 3, true, 0x6031000000000000,
    by decide, by decide, by decide, by decide⟩,
  ⟨(linked { Port.init with ctl := [0x6031000000000000] }).setF .blpStatusTxMap 3 3, 3, true, 0x6031000000000000,
    by decide, by decide, by decide, by decide, .inr (by decide)⟩,
  ⟨(linked { Port.init with ctl := [0x6031000000000000], unacked := [(0, 5)] }).setF .blpStatusTxMap 3 3, 3,
    0x6031000000000000, by decide, by decide, by decide, by decide, by decide⟩,
  ⟨linked Port.init, 3, by decide⟩,
  ⟨linked { Port.init with ctl := [0x6040000000000000] }, 3, 0x6040000000000000, by decide, by decide, by decide⟩,
  ⟨{ linked Port.init with cyc := 64 }, 3, by decide, by decide, by decide, by decide, by decide, by decide⟩⟩

theorem witness_LinkLaneRows :
    (∃ (s : State) (n : Fin 16), bit (s.port (n / 4)).train (n % 4) = true ∧ SMap.get 0 (s.port (n / 4)).stage (n %
      4) = 0) ∧
    (∃ (s : State) (n : Fin 16), bit (s.port (n / 4)).train (n % 4) = true ∧ SMap.get 0 (s.port (n / 4)).stage (n %
      4) = 0) ∧
    (∃ (s : State) (n : Fin 16), s.portUp (n / 4) = true ∧ bit (s.rxLive (n / 4)) (n % 4) = true ∧ s.rxAsleep n =
      false ∧ s.rxMap (n / 4) = 2 ^ (n.val % 4)) ∧
    (∃ (s : State) (n : Fin 16), s.portUp (n / 4) = true ∧ bit (s.rxLive (n / 4)) (n % 4) = true ∧ s.rxAsleep n =
      false ∧ s.rxMap (n / 4) &&& setBit (s.port (n / 4)).rxOk (n % 4) false ≠ 0) ∧
    (∃ (s : State) (n : Fin 16), s.portUp (n / 4) = true ∧ bit (s.port (n / 4)).rxOk (n % 4) = true ∧ s.rxAsleep n
      = false ∧ bit (s.rxMap (n / 4)) (n % 4) = false) ∧
    (∃ (s : State) (n : Fin 16), (s.portUp (n / 4) = false ∨ s.rxAsleep n = true ∨ bit (s.port (n / 4)).rxOk (n %
      4) = false)) ∧
    (∃ (s : State) (n : Fin 16), s.hostLane n = true ∧ s.portUp (n / 4) = true ∧ s.txMap (n / 4) ≠ 2 ^ (n.val % 4)
      ∧ bit (s.txMap (n / 4)) (n % 4) = true ∧ (s.setB .bllSleepTxSleep n true).wantedMap (n / 4) ≠ 0) ∧
    (∃ (s : State) (p : Nat), s.portUp p = true ∧ s.wantedMap p ≠ 0 ∧ (s.port p).startDue = none) ∧
    (∃ (s : State) (n : Fin 16), s.hostLane n = true ∧ s.portUp (n / 4) = true ∧ s.txMap (n / 4) = 2 ^ (n.val % 4)) ∧
    (∃ (s : State) (n : Fin 16), s.hostLane n = true ∧ s.portUp (n / 4) = false) ∧
    (∃ (s : State) (n : Fin 16), s.hostLane n = true) ∧
    (∃ (s : State) (n : Fin 16), s.hostLane n = true ∧ s.portUp (n / 4) = true ∧ bit (s.rxMap (n / 4)) (n % 4) =
      true) ∧
    (∃ (s : State) (n : Fin 16), s.hostLane n = true) ∧
    (∃ (s : State) (n : Fin 16), s.portUp (n / 4) = true ∧ s.fld .bllStatusState n = 4 ∧ s.flag .bllSleepRxSleep n
      = false ∧ bit (s.port (n / 4)).rxOk (n % 4) = false ∧ s.flag .bllSleepTxSleep n = true) ∧
    (∃ (s : State) (n : Fin 16), s.portUp (n / 4) = true ∧ bit (s.port (n / 4)).txLive (n % 4) = true ∧ SMap.get 0
      (s.port (n / 4)).laneBusy (n % 4) < s.cyc ∧ (s.cyc - SMap.get 0 (s.port (n / 4)).laneBusy (n % 4)) % 1024 = 0) ∧
    (∃ (s : State) (p : Nat) (l : Nat), bit (s.port p).keep l = false) ∧
    (∃ (s : State) (p : Nat) (l : Nat), bit (s.port p).keep l = true) ∧
    (∃ (s : State) (n : Fin 16) (tr i k : BitVec 13), s.portUp (n / 4) = true ∧ bit (s.port (n / 4)).rxOk (n % 4) =
      true ∧ s.flag .bllStatusAdaptFrozen n = false ∧ (tr.toNat < 64 * s.fld .bllAdaptTdMin n ∨ 4096 ≤ i.toNat)) ∧
    (∃ (s : State) (n : Fin 16) (tr i k : BitVec 13), s.portUp (n / 4) = true ∧ bit (s.port (n / 4)).rxOk (n % 4) =
      true ∧ s.flag .bllStatusAdaptFrozen n = true ∧ 256 ≤ k.toNat) ∧
    (∃ (s : State) (n : Fin 16), s.hostLane n = true) ∧
    (∃ (s : State) (n : Fin 16), s.hostLane n = true ∧ s.fld .bllStatusState n = 2) ∧
    (∃ (s : State) (n : Fin 16), SMap.get 0 (s.port (n / 4)).eye (n % 4) ≠ 0 ∧ s.fld .bllStatusState n = 2 ∧ 2 ^
      s.fld .bllEyeCtrlDwell n ≤ 66 * (s.cyc + 1 - SMap.get 0 (s.port (n / 4)).eye (n % 4))) :=
  ⟨⟨(inState 2).setPort 3 { Port.init with train := 8 }, 15, by decide, by decide⟩,
  ⟨(inState 2).setPort 3 { Port.init with train := 8 }, 15, by decide, by decide⟩,
  ⟨((linked { Port.init with rxOk := 8 }).setF .bllStatusState 15 2).setF .blpStatusRxMap 3 8, 15, by decide,
    by decide, by decide, by decide⟩,
  ⟨(((linked { Port.init with rxOk := 12 }).setF .bllStatusState 15 2).setF .blpStatusRxMap 3 12), 15, by decide,
    by decide, by decide, by decide⟩,
  ⟨linked { Port.init with rxOk := 8 }, 15, by decide, by decide, by decide, by decide⟩,
  ⟨linked Port.init, 15, .inr (.inr (by decide))⟩,
  ⟨(linked { Port.init with txLive := 4, peerOk := 4 }).setF .blpStatusTxMap 3 12, 15, by decide, by decide,
    by decide, by decide, by decide⟩,
  ⟨linked { Port.init with txLive := 4, peerOk := 4 }, 3, by decide, by decide, by decide⟩,
  ⟨(linked Port.init).setF .blpStatusTxMap 3 8, 15, by decide, by decide, by decide⟩,
  ⟨inState 2, 15, by decide, by decide⟩,
  ⟨inState 2, 15, by decide⟩,
  ⟨(linked Port.init).setF .blpStatusRxMap 3 8, 15, by decide, by decide, by decide⟩,
  ⟨inState 2, 15, by decide⟩,
  ⟨((linked Port.init).setF .bllStatusState 15 4).setB .bllSleepTxSleep 15 true, 15, by decide, by decide,
    by decide, by decide, by decide⟩,
  ⟨{ linked { Port.init with txLive := 8 } with cyc := 1024 }, 15, by decide, by decide, by decide, by decide⟩,
  ⟨inState 2, 3, 3, by decide⟩,
  ⟨linked { Port.init with keep := 8 }, 3, 3, by decide⟩,
  ⟨linked { Port.init with rxOk := 8 }, 15, 0, 4096, 0, by decide, by decide, by decide, .inr (by decide)⟩,
  ⟨(linked { Port.init with rxOk := 8 }).setB .bllStatusAdaptFrozen 15 true, 15, 0, 0, 256, by decide, by decide,
    by decide, by decide⟩,
  ⟨inState 2, 15, by decide⟩,
  ⟨(inState 2).setF .bllStatusState 15 2, 15, by decide, by decide⟩,
  ⟨{ (((inState 2).setPort 3 { Port.init with eye := [(3, 1)] }).setF .bllStatusState 15 2).wr .bllEyeCtrl 15 0
    with cyc := 1 }, 15, by decide, by decide, by decide⟩⟩

theorem witness_LinkMessageRows :
    (∃ (s : State) (p : Fin 4) (b : _), (s.port p).inbox.find? (fun b => blkType b == 1) = some b ∧ blkField b 50 6
      = s.deviceId) ∧
    (∃ (s : State) (p : Fin 4) (b : _) (q : _), (s.port p).inbox.find? (fun b => blkType b == 1) = some b ∧
      blkField b 50 6 ≠ s.deviceId ∧ s.routeTo (blkField b 50 6) = some q ∧ q ≠ p.val ∧ blkField b 0 4 < 14) ∧
    (∃ (s : State) (p : Fin 4) (b : _), (s.port p).inbox.find? (fun b => blkType b == 1) = some b ∧ blkField b 50 6
      ≠ s.deviceId ∧ s.routeTo (blkField b 50 6) = none) ∧
    (∃ (s : State) (p : Fin 4) (b : _) (cont : _), mirrorMessage (s.port p) false = some (b, cont) ∧ blkField b 40
      4 = 0 ∧ blkCont b = false ∧ blkField b 50 6 = s.deviceId) ∧
    (∃ (s : State) (p : Fin 4) (b : _) (cont : _), mirrorMessage (s.port p) false = some (b, cont) ∧ blkField b 40
      4 = 1 ∧ blkCont b = false ∧ blkField b 50 6 = s.deviceId ∧ s.hasOch (slice b.toNat 26 7) = true) ∧
    (∃ (s : State) (p : Fin 4) (b : _) (cont : _), mirrorMessage (s.port p) true = some (b, cont) ∧ blkField b 40 4
      = 2 ∧ blkCont b = false ∧ blkField b 50 6 = s.deviceId ∧ bit b.toNat 25 = false ∧ s.hasOch (slice b.toNat 26
        7) = true) ∧
    (∃ (s : State) (p : Fin 4) (b : _) (cont : _), mirrorMessage (s.port p) true = some (b, cont) ∧ blkField b 40 4
      = 3 ∧ blkCont b = false ∧ blkField b 50 6 = s.deviceId ∧ s.hasOch (slice b.toNat 26 7) = true ∧ slice b.toNat
        24 2 = 2) ∧
    (∃ (s : State) (p : Fin 4) (b : _) (cont : _), mirrorMessage (s.port p) true = some (b, cont) ∧ blkField b 40 4
      = 3 ∧ blkCont b = false ∧ blkField b 50 6 = s.deviceId ∧ s.hasOch (slice b.toNat 26 7) = false) :=
  ⟨⟨linked { Port.init with inbox := [0x10 <<< 56] }, 3, 0x10 <<< 56, by decide, by decide⟩,
  ⟨(linked { Port.init with inbox := [0x1004000000000000] }).wr .glbRoute 0 0x40, 3, 0x1004000000000000, 0,
    by decide, by decide, by decide, by decide, by decide⟩,
  ⟨linked { Port.init with inbox := [0x1004000000000000] }, 3, 0x1004000000000000, by decide, by decide, by decide⟩,
  ⟨linked { Port.init with inbox := [0x3000000000000000] }, 3, 0x3000000000000000, [], by decide, by decide,
    by decide, by decide⟩,
  ⟨linked { Port.init with inbox := [0x3000010000000000] }, 3, 0x3000010000000000, [], by decide, by decide,
    by decide, by decide, by decide⟩,
  ⟨linked { Port.init with inbox := [0x3800020000000000] }, 3, 0x3800020000000000, [], by decide, by decide,
    by decide, by decide, by decide, by decide⟩,
  ⟨linked { Port.init with inbox := [0x3800030002000000] }, 3, 0x3800030002000000, [], by decide, by decide,
    by decide, by decide, by decide, by decide⟩,
  ⟨linked { Port.init with inbox := [0x38000301FC000000] }, 3, 0x38000301FC000000, [], by decide, by decide,
    by decide, by decide, by decide⟩⟩

theorem witness_DspArithmetic :
    (∃ (s : State) (q : Fin 32) (w : _) (i : Instr) (op : DspOp) (f : Nat → Nat → Nat), (i, op, f) ∈ [(.dspAdd q
      .clean, .add, fun a b => a + b), (.dspSub q .clean, .sub, fun a b => a + 2 ^ 32 - b), (.dspAnd q .clean,
        .and, fun a b => a &&& b), (.dspOr q .clean, .or, fun a b => a ||| b), (.dspXor q .clean, .xor, fun a b =>
        a ^^^ b), (.dspMul q .clean, .mul, fun a b => a * b)] ∧ s.Issues q w op) ∧
    (∃ (s : State) (q : Fin 32) (w : _) (i : Instr) (op : DspOp) (f : Nat → Nat → Nat), (i, op, f) ∈ [(.dspShl q
      .clean, .shl, fun a b => a <<< b), (.dspShr q .clean, .shr, fun a b => a >>> b), (.dspSar q .clean, .sar, fun
        a b => unsgn 32 (sgn 32 a >>> b))] ∧ s.Issues q w op ∧ s.gReg q (iS2 w) < 32) ∧
    (∃ (s : State) (q : Fin 32) (w : _) (i : Instr) (op : DspOp) (k : Nat), (i, op, k) ∈ [(.dspShl q .clean, .shl,
      5), (.dspShr q .clean, .shr, 6), (.dspSar q .clean, .sar, 7)] ∧ s.Issues q w op ∧ 32 ≤ s.gReg q (iS2 w)) ∧
    (∃ (s : State) (q : Fin 32) (w : _), s.Issues q w .addi) ∧
    (∃ (s : State) (q : Fin 32) (w : _), s.Issues q w .movi) ∧
    (∃ (s : State) (q : Fin 32) (w : _), s.Issues q w .movhi) ∧
    (∃ (s : State) (q : Fin 32) (w : _), s.Issues q w .norm) ∧
    (∃ (s : State) (q : Fin 32) (w : _), s.Issues q w .exp) ∧
    (∃ (s : State) (q : Fin 32) (w : _), s.Issues q w .normA) ∧
    (∃ (s : State) (q : Fin 32) (w : _), s.Issues q w .expA) :=
  ⟨⟨dspRun 0x04000008, 31, 0x04000008, .dspMul 31 .clean, .mul, fun a b => a * b, by simp,
    by unfold State.Issues; decide⟩,
  ⟨dspRun 0x04000007, 31, 0x04000007, .dspSar 31 .clean, .sar, fun a b => unsgn 32 (sgn 32 a >>> b), by simp,
    by unfold State.Issues; decide, by decide⟩,
  ⟨dspRun 0x04004007 (withG [(1, 32)]), 31, 0x04004007, .dspSar 31 .clean, .sar, 7, by simp,
    by unfold State.Issues; decide, by decide⟩,
  ⟨dspRun 0x08000000, 31, 0x08000000, by unfold State.Issues; decide⟩,
  ⟨dspRun 0x0C000000, 31, 0x0C000000, by unfold State.Issues; decide⟩,
  ⟨dspRun 0x10000000, 31, 0x10000000, by unfold State.Issues; decide⟩,
  ⟨dspRun 0x30000000, 31, 0x30000000, by unfold State.Issues; decide⟩,
  ⟨dspRun 0x30000001, 31, 0x30000001, by unfold State.Issues; decide⟩,
  ⟨dspRun 0x34000000, 31, 0x34000000, by unfold State.Issues; decide⟩,
  ⟨dspRun 0x34000001, 31, 0x34000001, by unfold State.Issues; decide⟩⟩

theorem witness_DspComplex :
    (∃ (s : State) (q : Fin 32) (w : _) (i : Instr) (op : DspOp) (f : Int → Int → Int), (i, op, f) ∈ [(.dspCadds q
      .clean, .cadds, fun a b => a + b), (.dspCsubs q .clean, .csubs, fun a b => a - b)] ∧ s.Issues q w op) ∧
    (∃ (s : State) (q : Fin 32) (w : _) (k : Nat) (re : Nat → Int) (im : Nat → Int), (k, re, im) ∈ [(0, fun g =>
      reOf g, fun g => imOf g), (1, fun g => -imOf g, fun g => reOf g), (2, fun g => -reOf g, fun g => -imOf g),
        (3, fun g => imOf g, fun g => -reOf g)] ∧ s.Issues q w .crotq ∧ iSh w = k) ∧
    (∃ (s : State) (q : Fin 32) (w : _) (i : Instr) (op : DspOp) (add : Bool), (i, op, add) ∈ [(.dspCmul q .clean,
      .cmul, false), (.dspCmac q .clean, .cmac, true)] ∧ s.Issues q w op) ∧
    (∃ (s : State) (q : Fin 32) (w : _) (i : Instr) (op : DspOp) (add : Bool), (i, op, add) ∈ [(.dspCmul2 q .clean,
      .cmul2, false), (.dspCmac2 q .clean, .cmac2, true)] ∧ s.Issues q w op) ∧
    (∃ (s : State) (q : Fin 32) (w : _), s.Issues q w .crnd) ∧
    (∃ (s : State) (q : Fin 32) (w : _), s.Issues q w .mva) ∧
    (∃ (s : State) (q : Fin 32) (w : _), s.Issues q w .mvah) :=
  ⟨⟨dspRun 0x20000001, 31, 0x20000001, .dspCsubs 31 .clean, .csubs, fun a b => a - b, by simp,
    by unfold State.Issues; decide⟩,
  ⟨dspRun 0x24000300, 31, 0x24000300, 3, fun g => imOf g, fun g => -reOf g, by simp,
    by unfold State.Issues; decide, by decide⟩,
  ⟨dspRun 0x84000000, 31, 0x84000000, .dspCmac 31 .clean, .cmac, true, by simp, by unfold State.Issues; decide⟩,
  ⟨dspRun 0x8C000000, 31, 0x8C000000, .dspCmac2 31 .clean, .cmac2, true, by simp, by unfold State.Issues; decide⟩,
  ⟨dspRun 0x90000000, 31, 0x90000000, by unfold State.Issues; decide⟩,
  ⟨dspRun 0x94000000, 31, 0x94000000, by unfold State.Issues; decide⟩,
  ⟨dspRun 0x98000000, 31, 0x98000000, by unfold State.Issues; decide⟩⟩

theorem witness_DspLoadsAndStores :
    (∃ (s : State) (q : Fin 32) (w : _) (i : Instr) (op : DspOp) (n : Nat), (i, op, n) ∈ [(.dspLdB q .clean, .ldB,
      1), (.dspLdH q .clean, .ldH, 2), (.dspLdW q .clean, .ldW, 4)] ∧ s.Issues q w op ∧ inDmem (s.dspAddr q w) n =
        true ∧ s.dmemBad q (s.dspAddr q w) n = false) ∧
    (∃ (s : State) (q : Fin 32) (w : _), s.Issues q w .ldD ∧ inDmem (s.dspAddr q w) 8 = true ∧ s.dmemBad q
      (s.dspAddr q w) 8 = false) ∧
    (∃ (s : State) (q : Fin 32) (w : _), s.Issues q w .ldD ∧ s.dspAddr q w = 0x860000) ∧
    (∃ (s : State) (q : Fin 32) (w : _) (i : Instr) (op : DspOp) (n : Nat), (i, op, n) ∈ [(.dspStB q .clean, .stB,
      1), (.dspStH q .clean, .stH, 2), (.dspStW q .clean, .stW, 4)] ∧ s.Issues q w op ∧ inDmem (s.dspAddr q w) n =
        true ∧ (s.dspAddr q w % n = 0 ∨ s.dmemBad q (s.dspAddr q w) n = false)) ∧
    (∃ (s : State) (q : Fin 32) (w : _) (i : Instr) (op : DspOp) (n : Nat), (i, op, n) ∈ [(.dspStB q .clean, .stB,
      1), (.dspStH q .clean, .stH, 2), (.dspStW q .clean, .stW, 4), (.dspStD q .clean, .stD, 8)] ∧ s.Issues q w op
        ∧ inDmem (s.dspAddr q w) n = true ∧ s.dspAddr q w % n ≠ 0 ∧ s.dmemBad q (s.dspAddr q w) n = true) ∧
    (∃ (s : State) (q : Fin 32) (w : _), s.Issues q w .stD ∧ inDmem (s.dspAddr q w) 8 = true ∧ (s.dspAddr q w % 8 =
      0 ∨ s.dmemBad q (s.dspAddr q w) 8 = false)) ∧
    (∃ (s : State) (q : Fin 32) (w : _), s.Issues q w .bexpL ∧ inDmem (s.dspAddr q w) 4 = true ∧ s.dmemBad q
      (s.dspAddr q w) 4 = false) ∧
    (∃ (s : State) (q : Fin 32) (w : _), s.Issues q w .ldW ∧ s.dspAddr q w < 0x100000) :=
  ⟨⟨dspRun 0xC8000000 (withP 0x13FFFC), 31, 0xC8000000, .dspLdW 31 .clean, .ldW, 4, by simp,
    by unfold State.Issues; decide, by decide, by decide⟩,
  ⟨dspRun 0xCC000000 (withP 0x13FFF8), 31, 0xCC000000, by unfold State.Issues; decide, by decide, by decide⟩,
  ⟨dspRun 0xCC000000 (withP 0x860000), 31, 0xCC000000, by unfold State.Issues; decide, by decide⟩,
  ⟨dspRun 0xD8000000 (withP 0x13FFFC), 31, 0xD8000000, .dspStW 31 .clean, .stW, 4, by simp,
    by unfold State.Issues; decide, by decide, by decide⟩,
  ⟨{ dspRun 0xDC000000 (withP 0x100004) with mem := { (dspRun 0).mem with bad := [(9, 31, 0x2000)] } }, 31,
    0xDC000000, .dspStD 31 .clean, .stD, 8, by simp, by unfold State.Issues; decide, by decide, by decide, by decide⟩,
  ⟨dspRun 0xDC000000 (withP 0x13FFF8), 31, 0xDC000000, by unfold State.Issues; decide, by decide, by decide⟩,
  ⟨dspRun 0x40000000 (withP 0x100000), 31, 0x40000000, by unfold State.Issues; decide, by decide, by decide⟩,
  ⟨dspRun 0xC8000000, 31, 0xC8000000, by unfold State.Issues; decide, by decide⟩⟩

theorem witness_DspControl :
    (∃ (s : State) (q : Fin 32) (w : _) (i : Instr) (op : DspOp) (c : Nat → Bool), (i, op, c) ∈ [(.dspB q .clean,
      .b, fun _ => true), (.dspBeqz q .clean, .beqz, fun g => g == 0), (.dspBnez q .clean, .bnez, fun g => g != 0),
        (.dspBltz q .clean, .bltz, fun g => bit g 31), (.dspBgez q .clean, .bgez, fun g => !bit g 31)] ∧ s.Issues q
        w op) ∧
    (∃ (s : State) (q : Fin 32) (w : _), s.Issues q w .dbnz) ∧
    (∃ (s : State) (q : Fin 32) (w : _) (o : _), s.Issues q w .repeat ∧ dspOp (s.imemWord q (s.pcNext q)) = some o
      ∧ o.control = false ∧ o.bytes = 0) ∧
    (∃ (s : State) (q : Fin 32) (w : _), s.Issues q w .mvc) ∧
    (∃ (s : State) (q : Fin 32) (w : _), s.Issues q w .mvct) ∧
    (∃ (s : State) (q : Fin 32) (w : _), s.Issues q w .reti) ∧
    (∃ (s : State) (q : Fin 32) (w : _), s.Issues q w .halt) ∧
    (∃ (s : State) (q : Fin 32) (w : _), s.Issues q w .waiti ∧ s.lineFirst q = none) ∧
    (∃ (s : State) (q : Fin 32) (w : _), s.Issues q w .ien) ∧
    (∃ (s : State) (q : Fin 32) (w : _), s.Issues q w .idis) ∧
    (∃ (s : State) (q : Fin 32) (k : _), s.hasDsp q = true ∧ s.coreState q = 2 ∧ s.flag .dspStatusInHandler q =
      false ∧ (s.core q).ien = true ∧ (s.core q).rep = none ∧ s.lineFirst q = some k) ∧
    (∃ (s : State) (q : Fin 32), s.flag .dspStatusInHandler q = true) ∧
    (∃ (s : State) (q : Fin 32), s.hasDsp q = true ∧ s.st.toNat ≤ (s.core q).tcmp.toNat ∧ (s.core q).tcmp.toNat <
      s.st.toNat + 32) ∧
    (∃ (s : State) (q : Fin 32), s.hostPage (0x40 + q.val / 8) = true ∧ s.hasDsp q = true) :=
  ⟨⟨dspRun 0xF0000000, 31, 0xF0000000, .dspBgez 31 .clean, .bgez, fun g => !bit g 31, by simp,
    by unfold State.Issues; decide⟩,
  ⟨dspRun 0xF4000000, 31, 0xF4000000, by unfold State.Issues; decide⟩,
  ⟨dspRun 0xF8000000 (fun c => { c with imem := c.imem ++ [(1, 0x04000000)] }), 31, 0xF8000000, .add,
    by unfold State.Issues; decide, by decide, by decide, by decide⟩,
  ⟨dspRun 0xFC000000, 31, 0xFC000000, by unfold State.Issues; decide⟩,
  ⟨dspRun 0xFC000100, 31, 0xFC000100, by unfold State.Issues; decide⟩,
  ⟨dspRun 0xFC000200, 31, 0xFC000200, by unfold State.Issues; decide⟩,
  ⟨dspRun 0xFC000300, 31, 0xFC000300, by unfold State.Issues; decide⟩,
  ⟨dspRun 0xFC000400, 31, 0xFC000400, by unfold State.Issues; decide, by decide⟩,
  ⟨dspRun 0xFC000500, 31, 0xFC000500, by unfold State.Issues; decide⟩,
  ⟨dspRun 0xFC000600, 31, 0xFC000600, by unfold State.Issues; decide⟩,
  ⟨dspRun 0 (fun c => { c with ien := true, imask := 128, ipend := [(7, 1)] }), 31, 7, by decide, by decide,
    by decide, by decide, by decide, by decide⟩,
  ⟨(inState 2).setB .dspStatusInHandler 31 true, 31, by decide⟩,
  ⟨dspRun 0 (fun c => { c with tcmp := 31 }), 31, by decide, by decide, by decide⟩,
  ⟨inState 2, 31, by decide, by decide⟩⟩

theorem witness_DspCommandsApply :
    (∃ (s : State) (c : HostCmd), Accepted dspCtrlSpec c s ∧ pByte c 16 = 0) ∧
    (∃ (s : State) (c : HostCmd), Accepted dspCtrlSpec c s ∧ pByte c 16 = 1) ∧
    (∃ (s : State) (c : HostCmd), Accepted dspCtrlSpec c s ∧ pByte c 16 = 2) ∧
    (∃ (s : State) (c : HostCmd), Accepted dspLoadSpec c s ∧ pByte c 16 = 0) ∧
    (∃ (s : State) (c : HostCmd), Accepted dspLoadSpec c s ∧ pByte c 16 = 1) ∧
    (∃ (s : State) (c : HostCmd), Accepted dspLoadSpec c s ∧ pByte c 16 = 2) ∧
    (∃ (s : State) (c : HostCmd), Accepted dspReadSpec c s) ∧
    (∃ (s : State) (c : HostCmd), Accepted dspFeedSpec c s) :=
  ⟨⟨inState 2, pkt 0x10D 5 31, by unfold Accepted; decide, by decide⟩,
  ⟨inState 2, pkt 0x10D 5 31 [(16, 1), (18, 0x3FFF)], by unfold Accepted; decide, by decide⟩,
  ⟨inState 2, pkt 0x10D 5 31 [(16, 2)], by unfold Accepted; decide, by decide⟩,
  ⟨inState 2, pkt 0x10E 5 31 [(20, 0xFFFC), (32, 4)] (some []), by unfold Accepted; decide, by decide⟩,
  ⟨inState 2, pkt 0x10E 5 31 [(16, 1), (20, 0x3FFFC), (32, 4)] (some []), by unfold Accepted; decide, by decide⟩,
  ⟨inState 2, pkt 0x10E 5 31 [(16, 2), (20, 0x1FFFFC), (32, 4)] (some []), by unfold Accepted; decide, by decide⟩,
  ⟨inState 2, pkt 0x10F 5 31 [(16, 1), (20, 0x3FFFC), (32, 4)], by unfold Accepted; decide⟩,
  ⟨inState 2, pkt 0x110 5 31 [(16, 0x800000), (20, 64)], by unfold Accepted; decide⟩⟩

theorem witness_DspResultAndFrame :
    (∃ (s : State) (q : Fin 32) (w : Nat) (i : Instr) (op : DspOp) (f : Nat → Nat → Nat) (j : _), (i, op, f) ∈
      [(.dspAdd q .clean, .add, fun a b => a + b), (.dspSub q .clean, .sub, fun a b => a + 2 ^ 32 - b), (.dspAnd q
        .clean, .and, fun a b => a &&& b), (.dspOr q .clean, .or, fun a b => a ||| b), (.dspXor q .clean, .xor, fun
        a b => a ^^^ b), (.dspMul q .clean, .mul, fun a b => a * b)] ∧ s.Issues q w op ∧ (s.core q).rep = none ∧ (∀
        e ∈ s.later, ∀ p, e.2 = .fire p → e.1 ≠ s.cyc) ∧ j ≠ iD w) ∧
    (∃ (s : State) (q : Fin 32) (w : Nat) (i : Instr) (op : DspOp) (f : Nat → Nat → Nat) (k : _), (i, op, f) ∈
      [(.dspAdd q .clean, .add, fun a b => a + b), (.dspSub q .clean, .sub, fun a b => a + 2 ^ 32 - b), (.dspAnd q
        .clean, .and, fun a b => a &&& b), (.dspOr q .clean, .or, fun a b => a ||| b), (.dspXor q .clean, .xor, fun
        a b => a ^^^ b), (.dspMul q .clean, .mul, fun a b => a * b)] ∧ s.Issues q w op ∧ (s.core q).rep = none ∧ (∀
        e ∈ s.later, ∀ p, e.2 = .fire p → e.1 ≠ s.cyc) ∧ k ≠ q.val) ∧
    (∃ (s : State) (q : Fin 32) (w : Nat) (i : Instr) (op : DspOp) (f : Nat → Nat → Nat), (i, op, f) ∈ [(.dspAdd q
      .clean, .add, fun a b => a + b), (.dspSub q .clean, .sub, fun a b => a + 2 ^ 32 - b), (.dspAnd q .clean,
        .and, fun a b => a &&& b), (.dspOr q .clean, .or, fun a b => a ||| b), (.dspXor q .clean, .xor, fun a b =>
        a ^^^ b), (.dspMul q .clean, .mul, fun a b => a * b)] ∧ s.Issues q w op ∧ (s.core q).rep = none ∧ (∀ e ∈
        s.later, ∀ p, e.2 = .fire p → e.1 ≠ s.cyc)) :=
  ⟨⟨dspRun 0x04000008, 31, 0x04000008, .dspMul 31 .clean, .mul, fun a b => a * b, 15, by simp,
    by unfold State.Issues; decide, by decide, fun _ h => absurd h List.not_mem_nil, by decide⟩,
  ⟨dspRun 0x04000008, 31, 0x04000008, .dspMul 31 .clean, .mul, fun a b => a * b, 30, by simp,
    by unfold State.Issues; decide, by decide, fun _ h => absurd h List.not_mem_nil, by decide⟩,
  ⟨dspRun 0x04000008, 31, 0x04000008, .dspMul 31 .clean, .mul, fun a b => a * b, by simp,
    by unfold State.Issues; decide, by decide, fun _ h => absurd h List.not_mem_nil⟩⟩

theorem witness_DspFaults :
    (∃ (s : State) (q : Fin 32) (i : Instr) (op : DspOp), (i, op) ∈ [(.dspAdd q .clean, DspOp.add), (.dspMovi q
      .clean, .movi), (.dspCadds q .clean, .cadds), (.dspCmac q .clean, .cmac), (.dspLdW q .clean, .ldW), (.dspStD
        q .clean, .stD), (.dspB q .clean, .b), (.dspRepeat q .clean, .repeat), (.dspMvc q .clean, .mvc), (.dspHalt
        q .clean, .halt)] ∧ s.coreIssues q = true ∧ s.badIn 9 q (s.pcOf q / 2) (s.pcOf q / 2 + 1) = true) ∧
    (∃ (s : State) (q : Fin 32) (i : Instr) (op : DspOp), (i, op) ∈ [(.dspAdd q .clean, DspOp.add), (.dspMovi q
      .clean, .movi), (.dspCadds q .clean, .cadds), (.dspCmac q .clean, .cmac), (.dspLdW q .clean, .ldW), (.dspStD
        q .clean, .stD), (.dspB q .clean, .b), (.dspRepeat q .clean, .repeat), (.dspMvc q .clean, .mvc), (.dspHalt
        q .clean, .halt)] ∧ s.coreIssues q = true ∧ s.badIn 9 q (s.pcOf q / 2) (s.pcOf q / 2 + 1) = false ∧ dspOp
        (s.imemWord q (s.pcOf q)) = none) ∧
    (∃ (s : State) (q : Fin 32) (i : Instr) (op : DspOp), (i, op) ∈ [(.dspAdd q .clean, DspOp.add), (.dspMovi q
      .clean, .movi), (.dspCadds q .clean, .cadds), (.dspCmac q .clean, .cmac), (.dspLdW q .clean, .ldW), (.dspStD
        q .clean, .stD), (.dspB q .clean, .b), (.dspRepeat q .clean, .repeat), (.dspMvc q .clean, .mvc), (.dspHalt
        q .clean, .halt)] ∧ s.coreIssues q = true ∧ s.badIn 9 q (s.pcOf q / 2) (s.pcOf q / 2 + 1) = false ∧ (∃ o,
        dspOp (s.imemWord q (s.pcOf q)) = some o ∧ o ≠ op)) ∧
    (∃ (s : State) (q : Fin 32) (i : Instr) (op : DspOp), (i, op) ∈ [(.dspAdd q .clean, DspOp.add), (.dspMovi q
      .clean, .movi), (.dspCadds q .clean, .cadds), (.dspCmac q .clean, .cmac), (.dspLdW q .clean, .ldW), (.dspStD
        q .clean, .stD), (.dspB q .clean, .b), (.dspRepeat q .clean, .repeat), (.dspMvc q .clean, .mvc), (.dspHalt
        q .clean, .halt)] ∧ s.coreIssues q = true) :=
  ⟨⟨{ dspRun 0 with mem := { (dspRun 0).mem with bad := [(9, 31, 0)] } }, 31, .dspAdd 31 .clean, .add, by simp,
    by decide, by decide⟩,
  ⟨dspRun 0, 31, .dspMovi 31 .clean, .movi, by simp, by decide, by decide, by decide⟩,
  ⟨dspRun 0x04000000, 31, .dspMovi 31 .clean, .movi, by simp, by decide, by decide, ⟨.add, by decide, by decide⟩⟩,
  ⟨dspRun 0, 31, .dspHalt 31 .clean, .halt, by simp, by decide⟩⟩

/-- A descriptor of eight bytes. -/
def desc0 (op dir : Nat) : DmaDesc := ⟨op, dir, 0, false, false, 8, 0, 0, false⟩

/-- Channel 31 runs that descriptor with a full bucket. -/
def dmaWith (op dir : Nat) (f : DmaChan → DmaChan) : State :=
  (((inState 2).setB .dmaCtrlRun 31 true).setF .dmaStatusState 31 1).setDma 31
    (f { DmaChan.init with desc := some (desc0 op dir), bucket := bucketUnit * 64 })

theorem witness_DmaRowsAct :
    (∃ (s : State) (i : Fin 32) (v : Word), s.hostDma i = true ∧ v.toNat % 65536 < s.ringLen i) ∧
    (∃ (s : State) (i : Fin 32) (v : Word), s.hostDma i = true ∧ s.ringLen i ≤ v.toNat % 65536) ∧
    (∃ (s : State) (t : _) (i : Fin 32) (v : Word), s.hostDma i = true ∧ t = ((s.updDma i fun x =>
      { x with bucket := s.bucketNow i, bucketAt := s.cyc }).setF .dmaCtrlShare i (slice v.toNat 8 8)).setF
        .dmaCtrlBurst i (slice v.toNat 16 3) ∧ 1 < s.dev ∧ s.flag .dmaStatusErr i = false ∧ s.flag
        .dmaStatusGroupHalt i = false ∧ s.flag .grpPfStatusPfErr (i / 8) = false ∧ s.flag .dmaCtrlRun i = true) ∧
    (∃ (s : State) (t : _) (i : Fin 32) (v : Word), s.hostDma i = true ∧ t = ((s.updDma i fun x =>
      { x with bucket := s.bucketNow i, bucketAt := s.cyc }).setF .dmaCtrlShare i (slice v.toNat 8 8)).setF
        .dmaCtrlBurst i (slice v.toNat 16 3) ∧ 1 < s.dev ∧ s.flag .dmaStatusErr i = false ∧ s.flag
        .dmaStatusGroupHalt i = false ∧ s.flag .grpPfStatusPfErr (i / 8) = false ∧ s.flag .dmaCtrlRun i = false ∧ 2
        ≤ s.ringLen i) ∧
    (∃ (s : State) (t : _) (i : Fin 32) (v : Word), s.hostDma i = true ∧ t = ((s.updDma i fun x =>
      { x with bucket := s.bucketNow i, bucketAt := s.cyc }).setF .dmaCtrlShare i (slice v.toNat 8 8)).setF
        .dmaCtrlBurst i (slice v.toNat 16 3) ∧ 1 < s.dev ∧ s.flag .dmaStatusErr i = false ∧ s.flag
        .dmaStatusGroupHalt i = false ∧ s.flag .grpPfStatusPfErr (i / 8) = false ∧ s.flag .dmaCtrlRun i = false ∧
        s.ringLen i < 2) ∧
    (∃ (s : State) (i : Fin 32), (s.dev ≤ 1 ∨ s.flag .dmaStatusErr i = true ∨ s.flag .dmaStatusGroupHalt i = true ∨
      s.flag .grpPfStatusPfErr (i / 8) = true)) ∧
    (∃ (s : State) (t : _) (i : Fin 32) (v : Word), s.hostDma i = true ∧ t = ((s.updDma i fun x =>
      { x with bucket := s.bucketNow i, bucketAt := s.cyc }).setF .dmaCtrlShare i (slice v.toNat 8 8)).setF
        .dmaCtrlBurst i (slice v.toNat 16 3) ∧ t.flag .dmaCtrlRun i = true ∧ (t.dmaOf i).desc = none) ∧
    (∃ (s : State) (t : _) (i : Fin 32) (v : Word), s.hostDma i = true ∧ t = ((s.updDma i fun x =>
      { x with bucket := s.bucketNow i, bucketAt := s.cyc }).setF .dmaCtrlShare i (slice v.toNat 8 8)).setF
        .dmaCtrlBurst i (slice v.toNat 16 3) ∧ t.flag .dmaCtrlRun i = true ∧ (t.dmaOf i).desc ≠ none) ∧
    (∃ (s : State) (i : Fin 32) (w : List Word) (d : List Word) (ds : _), s.pcie.linkUp = true ∧ s.pcie.d3hot =
      false ∧ s.flag .dmaCtrlRun i = true ∧ s.fld .dmaStatusState i = 1 ∧ (s.dmaOf i).desc = none ∧ s.fld
        .dmaHeadIndex i ≠ s.fld .dmaTailIndex i ∧ s.flag .dmaStatusGroupHalt i = false ∧ (s.dmaOf i).copies ++
        descWords w = d :: ds) ∧
    (∃ (s : State) (d : _) (i : Fin 32), (s.dmaOf i).desc = some d ∧ readsHost d = true ∧ s.dmaReady i = true ∧
      s.dmaTurn i = true) ∧
    (∃ (s : State) (d : _) (i : Fin 32), (s.dmaOf i).desc = some d ∧ d.op = 1 ∧ d.dir = 1 ∧ s.dmaReady i = true ∧
      s.dmaTurn i = true) ∧
    (∃ (s : State) (d : _) (i : Fin 32), (s.dmaOf i).desc = some d ∧ d.op = 1 ∧ d.dir ≠ 1 ∧ s.dmaReady i = true) ∧
    (∃ (s : State) (t : _) (d : _) (i : Fin 32) (e : _) (b : _), (s.dmaOf i).desc = some d ∧ d.op = 0 ∧ d.dir = 1 ∧
      s.dmaReady i = true ∧ s.dmaTurn i = true ∧ 0 < (s.dmaOf i).issued ∧ (d.src + (s.dmaOf i).issued) % 0x1000 ≠ 0
        ∧ t = ((((State.bucketTake { s with pcie := { s.pcie with served := i } } i (s.dmaLen i d (s.dmaOf
        i).issued)).wr .dmaRemain i (d.len - (s.dmaOf i).issued - s.dmaLen i d (s.dmaOf i).issued)).updDma i fun x
        => { x with issued := (s.dmaOf i).issued + s.dmaLen i d (s.dmaOf i).issued }).eccSeen e) ∧ t.dmaRead (d.src
        + (s.dmaOf i).issued) (s.dmaLen i d (s.dmaOf i).issued) = .inr b) ∧
    (∃ (d : _), readsHost d = true) ∧
    (∃ (d : _), readsHost d = false ∧ writesHost d = true) ∧
    (∃ (s : State) (i : Fin 32) (off : _), (∀ r ∈ (s.dmaOf i).pend, r.off ≠ off)) ∧
    (∃ (s : State) (d : DmaDesc) (r : DmaReq) (i : Fin 32) (b : List Byte) (e : Ecc), e = .clean ∧ (s.dmaOf i).desc
      = some d ∧ (s.dmaOf i).pend = [r] ∧ r.kind = 0 ∧ r.data = none ∧ (s.dmaOf i).err = none) ∧
    (∃ (s : State) (d : _) (r : _) (i : Fin 32), (s.dmaOf i).desc = some d ∧ (s.dmaOf i).pend = [r] ∧ r.kind = 0 ∧
      r.data = none ∧ (s.dmaOf i).err = none) ∧
    (∃ (s : State) (i : Fin 32) (off : Nat) (e : Ecc), e = .clean ∧ s.pcie.linkUp = true ∧ (∀ r ∈ (s.dmaOf i).pend,
      ¬ (r.off = off ∧ r.kind = 0 ∧ r.data = none))) ∧
    (∃ (s : State) (d : _) (i : Fin 32), (s.dmaOf i).desc = some d ∧ (s.dmaOf i).pend = [] ∧ (s.dmaOf i).err = none
      ∧ (s.dmaOf i).aborting = false ∧ d.len ≤ (s.dmaOf i).issued ∧ (s.dmaOf i).mism = none ∧ (s.dmaOf i).haltDue =
        false) ∧
    (∃ (s : State) (d : _) (m : _) (i : Fin 32), (s.dmaOf i).desc = some d ∧ (s.dmaOf i).pend = [] ∧ (s.dmaOf
      i).err = none ∧ (s.dmaOf i).aborting = false ∧ d.len ≤ (s.dmaOf i).issued ∧ (s.dmaOf i).mism = some m ∧
        d.haltMism = false ∧ (s.dmaOf i).haltDue = false) ∧
    (∃ (s : State) (d : _) (i : Fin 32), (s.dmaOf i).desc = some d ∧ (s.dmaOf i).pend = [] ∧ (s.dmaOf i).aborting =
      true ∧ (s.dmaOf i).haltDue = false ∧ s.flag .dmaCtrlRun i = false) ∧
    (∃ (s : State) (d : _) (k : _) (w : _) (dv : _) (a : _) (i : Fin 32), (s.dmaOf i).desc = some d ∧ (s.dmaOf
      i).pend = [] ∧ (s.dmaOf i).err = some (k, w, dv, a) ∧ (s.dmaOf i).aborting = false) ∧
    (∃ (kind : Fin 32), kind.val ∈ [1, 2, 3, 4, 10]) :=
  ⟨⟨(inState 2).wr .dmaRingLen 31 2, 31, 1, by decide, by decide⟩,
  ⟨(inState 2).wr .dmaRingLen 31 2, 31, 2, by decide, by decide⟩,
  ⟨(inState 2).setB .dmaCtrlRun 31 true, _, 31, 0, by decide, rfl, by decide, by decide, by decide, by decide,
    by decide⟩,
  ⟨(inState 2).wr .dmaRingLen 31 2, _, 31, 0, by decide, rfl, by decide, by decide, by decide, by decide,
    by decide, by decide⟩,
  ⟨(inState 2).wr .dmaRingLen 31 1, _, 31, 0, by decide, rfl, by decide, by decide, by decide, by decide,
    by decide, by decide⟩,
  ⟨(inState 2).setB .dmaStatusErr 31 true, 31, .inr (.inl (by decide))⟩,
  ⟨(inState 2).setB .dmaCtrlRun 31 true, _, 31, 0, by decide, rfl, by decide, by decide⟩,
  ⟨dmaWith 0 0 id, _, 31, 0, by decide, rfl, by decide, by decide⟩,
  ⟨(((inState 2).setB .dmaCtrlRun 31 true).setF .dmaStatusState 31 1).wr .dmaTail 31 1, 31, List.replicate 8 0,
    List.replicate 8 0, [], by decide, by decide, by decide, by decide, by decide, by decide, by decide, by decide⟩,
  ⟨dmaWith 0 0 id, desc0 0 0, 31, by decide, by decide, by decide, by decide⟩,
  ⟨dmaWith 1 1 id, desc0 1 1, 31, by decide, by decide, by decide, by decide, by decide⟩,
  ⟨dmaWith 1 0 id, desc0 1 0, 31, by decide, by decide, by decide, by decide⟩,
  ⟨dmaWith 0 1 (fun x => { x with issued := 4 }), _, desc0 0 1, 31, .clean, [0, 0, 0, 0], by decide, by decide,
    by decide, by decide, by decide, by decide, by decide, rfl, by decide⟩,
  ⟨desc0 2 1, by decide⟩,
  ⟨desc0 1 1, by decide, by decide⟩,
  ⟨inState 2, 31, 0, by decide⟩,
  ⟨dmaWith 0 0 (fun x => { x with issued := 8, pend := [⟨0, 8, none, 0⟩] }), desc0 0 0, ⟨0, 8, none, 0⟩, 31, [1],
    .clean, by decide, by decide, by decide, by decide, by decide, by decide⟩,
  ⟨dmaWith 0 0 (fun x => { x with issued := 8, pend := [⟨0, 8, none, 0⟩] }), desc0 0 0, ⟨0, 8, none, 0⟩, 31,
    by decide, by decide, by decide, by decide, by decide⟩,
  ⟨inState 2, 31, 0, .clean, by decide, by decide, by decide⟩,
  ⟨dmaWith 0 0 (fun x => { x with issued := 8 }), desc0 0 0, 31, by decide, by decide, by decide, by decide,
    by decide, by decide, by decide⟩,
  ⟨dmaWith 2 0 (fun x => { x with issued := 8, mism := some 7 }), desc0 2 0, 7, 31, by decide, by decide,
    by decide, by decide, by decide, by decide, by decide, by decide⟩,
  ⟨(dmaWith 0 0 (fun x => { x with aborting := true })).setB .dmaCtrlRun 31 false, desc0 0 0, 31, by decide,
    by decide, by decide, by decide, by decide⟩,
  ⟨dmaWith 0 0 (fun x => { x with err := some (1, true, false, 5) }), desc0 0 0, 1, true, false, 5, 31, by decide,
    by decide, by decide, by decide⟩,
  ⟨10, by decide⟩⟩

theorem witness_D3hotStopsTheEngine :
    (∃ (s : State), s.pcie.linkUp = true) ∧
    (∃ (s : State) (i : Fin 32), s.hostDma i = true) :=
  ⟨⟨inState 2, by decide⟩,
  ⟨inState 2, 31, by decide⟩⟩

theorem witness_HostBusRows :
    (∃ (rate : Nat) (width : Nat), rate ∈ [25, 50, 80, 160, 320] ∧ width ∈ [1, 2, 4, 8, 16]) ∧
    (∃ (s : State) (v : Fin 64), s.pcie.linkUp = true ∧ s.pcie.d3hot = false ∧ s.pcie.msixEn = true ∧ s.pcie.fmask
      = false ∧ bit s.pcie.pba.toNat v = true) ∧
    (∃ (s : State), s.pcie.linkUp = true ∧ s.pcie.d3hot = false) ∧
    (∃ (s : State), s.hostPage 0 = true) ∧
    (∃ (s : State), s.pcie.linkUp = true ∧ s.pcie.d3hot = false ∧ s.dev ≠ 0) ∧
    (∃ (s : State) (o : BitVec 24) (x : _), place? o.toNat = some x ∧ x.reg.info.wide = true ∧ x.high = false ∧
      s.regOpen x.reg x.inst = true) ∧
    (∃ (s : State) (o : BitVec 24) (x : _), place? o.toNat = some x ∧ x.high = true ∧ s.regOpen x.reg x.inst = true
      ∧ SMap.get 0 s.latch (placeKey x) ≠ 0) ∧
    (∃ (s : State) (o : BitVec 24) (x : _), place? o.toNat = some x ∧ x.high = true ∧ s.regOpen x.reg x.inst = true
      ∧ SMap.get 0 s.latch (placeKey x) = 0) ∧
    (∃ (s : State) (o : BitVec 24) (x : _), place? o.toNat = some x ∧ x.high = false ∧ x.copy = false ∧
      x.reg.info.wide = true ∧ x.reg.info.rw ≠ 0 ∧ s.regOpen x.reg x.inst = true) ∧
    (∃ (s : State) (o : BitVec 24) (x : _) (low : _), place? o.toNat = some x ∧ x.high = true ∧ x.copy = false ∧
      x.reg = .dmaRingBase ∧ s.regOpen x.reg x.inst = true ∧ low = (if SMap.get 0 s.hold (placeKey x) = 0 then
        s.view x.reg x.inst % 2 ^ 32 else SMap.get 0 s.hold (placeKey x) - 1)) ∧
    (∃ (s : State) (o : BitVec 24) (x : _), place? o.toNat = some x ∧ x.reg.info.wide = true ∧ s.regOpen x.reg
      x.inst = false) ∧
    (∃ (o : BitVec 24), place? o.toNat = none) ∧
    (∃ (o : BitVec 24) (x : _), place? o.toNat = some x ∧ x.reg.info.wide = true) ∧
    (∃ (s : State) (o : BitVec 24) (x : _), place? o.toNat = some x ∧ x.reg.info.wide = false ∧ s.regOpen x.reg
      x.inst = true ∧ (x.copy = true ∨ (x.reg ≠ .ochTblData ∧ x.reg ≠ .trigTsX))) ∧
    (∃ (s : State), s.hostBar4 = true) ∧
    (∃ (s : State), s.hostBar4 = false) ∧
    (∃ (s : State), s.hostBar4 = true) ∧
    (∃ (s : State), s.pcie.linkUp = true ∧ s.pcie.d3hot = false) ∧
    (∃ (s : State) (o : BitVec 24) (x : _), o.toNat % 4 = 0 ∧ place? o.toNat = some x ∧ x.copy = false ∧
      x.reg.info.wide = false ∧ s.regOpen x.reg x.inst = true ∧ x.reg ∈ [Reg.glbDecWinAddr, .glbFbStatus,
        .glbEccLogU, .glbScrubCfg, .timeStatus, .thermDuskMax, .thermDuskRampMax, .bdacStatus, .calStatus,
        .calUnitSel, .evfDbg, .evfChSel, .evfProdSel, .evfSnapCfg, .evfSnapStatus, .evfHostPend, .dmaRingLen,
        .dmaStatus, .grpPfStatus, .jrnStatus, .blpStatus, .bllAdapt, .dspIntMax, .guardLock, .ochStrmStatus,
        .ochTblAddr, .ochSatStage, .ochSeqErr, .ochOutStatus, .ochFbStatus, .rchRxStatus, .acqStatus,
        .scbTamperCause, .qpStatus]) ∧
    (∃ (s : State) (o : BitVec 24) (x : _), o.toNat % 4 = 0 ∧ place? o.toNat = some x ∧ x.reg.info.wide = false ∧
      (x.copy = true ∨ s.regOpen x.reg x.inst = false)) ∧
    (∃ (s : State) (v : Dword), s.pcie.linkUp = true ∧ s.pcie.d3hot = false ∧ s.dev ≠ 0 ∧ bit v.toNat 0 = true) ∧
    (∃ (s : State), s.pcie.linkUp = true ∧ s.pcie.d3hot = false ∧ s.dev ≠ 0) ∧
    (∃ (s : State) (v : Dword), s.pcie.linkUp = true ∧ 7 ≤ v.toNat ∧ v.toNat ≤ 9) ∧
    (∃ (s : State) (v : Dword), s.pcie.linkUp = true ∧ 7 ≤ v.toNat ∧ v.toNat ≤ 12) ∧
    (∃ (s : State), s.pcie.linkUp = true) :=
  ⟨⟨320, 16, by decide, by decide⟩,
  ⟨{ inState 2 with pcie := { (inState 2).pcie with msixEn := true, pba := 1 <<< 63 } }, 63, by decide, by decide,
    by decide, by decide, by decide⟩,
  ⟨inState 2, by decide, by decide⟩,
  ⟨inState 2, by decide⟩,
  ⟨inState 2, by decide, by decide, by decide⟩,
  ⟨inState 2, 4160, ⟨.timeSt, 0, false, false⟩, by decide +kernel, by decide, by decide, by decide⟩,
  ⟨{ inState 2 with latch := [(placeKey ⟨.timeSt, 0, false, true⟩, 5)] }, 4164, ⟨.timeSt, 0, false, true⟩,
    by decide +kernel, by decide, by decide, by decide⟩,
  ⟨inState 2, 4164, ⟨.timeSt, 0, false, true⟩, by decide +kernel, by decide, by decide, by decide⟩,
  ⟨inState 2, 32808, ⟨.dmaRingBase, 0, false, false⟩, by decide +kernel, by decide, by decide, by decide,
    by decide, by decide⟩,
  ⟨inState 2, 32812, ⟨.dmaRingBase, 0, false, true⟩, 0, by decide +kernel, by decide, by decide, by decide,
    by decide, by decide +kernel⟩,
  ⟨inState 0, 4160, ⟨.timeSt, 0, false, false⟩, by decide +kernel, by decide, by decide⟩,
  ⟨0xFFFFF8, by decide +kernel⟩,
  ⟨4160, ⟨.timeSt, 0, false, false⟩, by decide +kernel, by decide⟩,
  ⟨inState 2, 136, ⟨.glbDecWinAddr, 0, false, false⟩, by decide +kernel, by decide, by decide, .inr (by decide)⟩,
  ⟨inState 2, by decide⟩,
  ⟨inState 0, by decide⟩,
  ⟨inState 2, by decide⟩,
  ⟨inState 2, by decide, by decide⟩,
  ⟨inState 2, 136, ⟨.glbDecWinAddr, 0, false, false⟩, by decide, by decide +kernel, by decide, by decide,
    by decide, by simp⟩,
  ⟨inState 0, 136, ⟨.glbDecWinAddr, 0, false, false⟩, by decide, by decide +kernel, by decide, .inr (by decide)⟩,
  ⟨inState 2, 1, by decide, by decide, by decide, by decide⟩,
  ⟨inState 2, by decide, by decide, by decide⟩,
  ⟨inState 2, 9, by decide, by decide, by decide⟩,
  ⟨inState 2, 12, by decide, by decide, by decide⟩,
  ⟨inState 2, by decide⟩⟩

/-- Every sector of the NVM is worn out. -/
def wornOut : SMap Nat := (List.range 64).map (fun k => (k, 1 <<< 40))

theorem witness_CalibrationAct :
    (∃ (s : State) (c : HostCmd), Accepted calRunSpec c s) ∧
    (∃ (s : State) (l : _), s.findLong 0x700 = some l ∧ s.calWaits = 0) ∧
    (∃ (s : State) (l : _), s.findLong 0x700 = some l ∧ s.calWaits ≠ 0 ∧ l.accCyc + 62500000 * s.fld .calStaleStale
      + 62500000 ≤ s.cyc) ∧
    (∃ (s : State) (c : HostCmd), Accepted calSaveSpec c s) ∧
    (∃ (s : State) (l : _) (r : _) (a : _) (b : _), s.nvm.saving = some r ∧ s.nvm.auto = false ∧ s.nvmPair = some
      (a, b) ∧ s.findLong 0x701 = some l) ∧
    (∃ (s : State) (a : Nat) (b : Nat), s.nvmPair = some (a, b)) ∧
    (∃ (s : State) (k : Nat) (c : NvmCopy), SMap.get none s.nvm.sectors k = some c ∧ c.valid = true ∧ c.seq =
      s.nvm.seq) ∧
    (∃ (s : State) (l : _) (r : _), s.nvm.saving = some r ∧ s.nvm.auto = false ∧ s.nvmPair = none ∧ s.findLong
      0x701 = some l) ∧
    (∃ (s : State), s.flag .calCfgAutosave = true ∧ s.nvm.changed = true ∧ s.nvm.lastSave + 86400 * 625000000 ≤
      s.cyc ∧ s.nvm.saving = none ∧ (∀ l ∈ s.ce.longs, l.cls ≠ .nvm) ∧ s.served = true) ∧
    (∃ (s : State) (c : HostCmd), Accepted calConfigSpec c s) ∧
    (∃ (s : State) (k : Fin 6) (i : Fin 96), s.calReady k i = true ∧ s.calTurn k i = true) ∧
    (∃ (s : State) (k : Fin 6) (i : Fin 96) (c : _), k.val ≠ 3 ∧ k.val ≠ 5 ∧ (s.calUnit k i).slice = some c ∧ c +
      sliceLen k ≤ s.cyc ∧ s.hk.vrefBad = false) ∧
    (∃ (s : State) (k : Fin 6) (i : Fin 96) (c : _), (k.val = 0 ∨ k.val = 2) ∧ (s.calUnit k i).slice = some c ∧ c +
      sliceLen k ≤ s.cyc ∧ s.hk.vrefBad = true) ∧
    (∃ (s : State) (k : Fin 6) (i : Fin 96), i.val < s.calCount k ∧ (s.calUnit k i).due = true ∧ (s.calUnit k
      i).overdue = false ∧ (s.calUnit k i).dueAt + 62500000 * s.fld .calStaleStale ≤ s.cyc) ∧
    (∃ (s : State) (c : HostCmd), Accepted hkConfigSpec c s ∧ pNum c 24 8 = 0 ∧ bit (pByte c 17) 0 = s.flag
      .hkCfgRefEn ∧ s.hkScans = false) ∧
    (∃ (s : State) (c : HostCmd), Accepted hkConfigSpec c s ∧ pNum c 24 8 = 0 ∧ bit (pByte c 17) 0 = s.flag
      .hkCfgRefEn ∧ s.hkScans = true ∧ s.hk.now = none) ∧
    (∃ (s : State) (c : HostCmd), Accepted hkConfigSpec c s ∧ pNum c 24 8 ≠ 0 ∧ bit (pByte c 17) 0 = true ∧ s.flag
      .hkCfgRefEn = false ∧ s.hkScans = false) ∧
    (∃ (s : State) (i : _), 7 ≤ s.fld .glbDawnStatusStage ∧ s.dev ≠ 0 ∧ s.hkSlice = false ∧ s.hk.slotAt + 500 ≤
      s.cyc ∧ s.hk.inj = some i ∧ i ≠ 56 ∧ s.flag .hkCfgRefEn = true ∧ s.hk.refAt + 3125000 ≤ s.hk.slotAt) ∧
    (∃ (s : State), 7 ≤ s.fld .glbDawnStatusStage ∧ s.dev ≠ 0 ∧ s.hkSlice = false ∧ s.hk.slotAt + 500 ≤ s.cyc ∧
      s.hk.inj = none ∧ s.flag .hkCfgRefEn = true ∧ s.hk.refAt + 3125000 ≤ s.hk.slotAt) ∧
    (∃ (s : State), 7 ≤ s.fld .glbDawnStatusStage ∧ s.dev ≠ 0 ∧ s.hkSlice = false ∧ s.hk.slotAt + 500 ≤ s.cyc ∧
      s.hk.inj = none ∧ s.hk.now = none ∧ s.hkScanAt s.hk.pos = 56 ∧ s.flag .hkCfgRefEn = false) ∧
    (∃ (s : State), s.hostPage 3 = true ∧ s.hkSlice = true) ∧
    (∃ (s : State), s.hostPage 3 = true ∧ s.hkSlice = false ∧ s.hk.slotAt ≤ s.cyc) ∧
    (∃ (s : State), s.hostPage 3 = true ∧ s.hkSlice = false ∧ s.cyc < s.hk.slotAt ∧ s.hk.inj.isSome = true) ∧
    (∃ (s : State), s.hostPage 3 = true ∧ s.hkSlice = false ∧ s.cyc < s.hk.slotAt ∧ s.hk.inj = none) :=
  ⟨⟨inState 2, pkt 0x700 0 0 [(16, 63)], by unfold Accepted; decide⟩,
  ⟨busyWith 2 0x700 0 1, long0 0x700 0 1, by decide, by decide⟩,
  ⟨{ (busyWith 2 0x700 0 1).setCalUnit 0 0 { CalUnit.init with due := true, marked := true } with cyc := 1 <<< 60
    }, long0 0x700 0 1, by decide, by decide, by decide⟩,
  ⟨inState 2, pkt 0x701 0 0, by unfold Accepted; decide⟩,
  ⟨(let s := busyWith 2 0x701 0 0; { s with nvm := { s.nvm with saving := some [] } }), long0 0x701 0 0, [], 0, 1,
    by decide, by decide, by decide, by decide⟩,
  ⟨inState 2, 0, 1, by decide⟩,
  ⟨(let s := inState 2; { s with nvm := { s.nvm with sectors := [(3, some ⟨0x4351, 1, 7, 0, 0, [], true⟩)] } }), 3,
    ⟨0x4351, 1, 7, 0, 0, [], true⟩, by decide, by decide, by decide⟩,
  ⟨(let s := busyWith 2 0x701 0 0; { s with nvm := { s.nvm with saving := some [], wear := wornOut } }), long0
    0x701 0 0, [], by decide, by decide, by decide, by decide⟩,
  ⟨(let s := (inState 2).setB .calCfgAutosave 0 true; { s with cyc := 1 <<< 60, nvm := { s.nvm with changed := true
    } }), by decide, by decide, by decide, by decide, by decide, by decide⟩,
  ⟨inState 2, pkt 0x702 0 0 [(16, 200), (17, 127), (18, 36000)], by unfold Accepted; decide⟩,
  ⟨(inState 2).setCalUnit 4 15 { CalUnit.init with due := true }, 4, 15, by decide, by decide⟩,
  ⟨{ (inState 2).setCalUnit 0 95 { CalUnit.init with slice := some 0 } with cyc := 99999 }, 0, 95, 0, by decide,
    by decide, by decide, by decide, by decide⟩,
  ⟨(let s := (inState 2).setCalUnit 2 23 { CalUnit.init with slice := some 0 }; { s with cyc := 99999, hk := { s.hk
    with vrefBad := true } }), 2, 23, 0, by decide, by decide, by decide, by decide⟩,
  ⟨{ (inState 2).setCalUnit 4 15 { CalUnit.init with due := true } with cyc := 1 <<< 60 }, 4, 15, by decide,
    by decide, by decide, by decide⟩,
  ⟨{ inState 2 with hk := ⟨9, 0, 0, none, none, false⟩ }, pkt 0x703 0 0 [(16, 63), (17, 1)],
    by unfold Accepted; decide, by decide, by decide, by decide⟩,
  ⟨(inState 2).setB .hkCfgRefEn 0 true, pkt 0x703 0 0 [(16, 63), (17, 1)], by unfold Accepted; decide, by decide,
    by decide, by decide, by decide⟩,
  ⟨{ (inState 2).setB .hkCfgRefEn 0 false with hk := ⟨9, 0, 0, none, none, false⟩ }, pkt 0x703 0 0 [(16, 15), (17,
    1), (24, 8)] (some [63]), by unfold Accepted; decide, by decide, by decide, by decide, by decide⟩,
  ⟨(let s := (inState 2).setB .hkCfgRefEn 0 true; { s with cyc := 3126000, hk := ⟨3125500, 0, 0, some 55, none,
    false⟩ }), 55, by decide, by decide, by decide, by decide, by decide, by decide, by decide, by decide⟩,
  ⟨(let s := (inState 2).setB .hkCfgRefEn 0 true; { s with cyc := 3126000, hk := ⟨3125500, 0, 0, none, none, false⟩
    }), by decide, by decide, by decide, by decide, by decide, by decide, by decide⟩,
  ⟨(let s := ((inState 2).wr .hkScan 0 56).setB .hkCfgRefEn 0 false; { s with cyc := 3126000, hk := ⟨3125500, 0, 0,
    none, none, false⟩ }), by decide, by decide, by decide, by decide, by decide, by decide, by decide, by decide⟩,
  ⟨(inState 2).setCalUnit 5 0 { CalUnit.init with slice := some 0 }, by decide, by decide⟩,
  ⟨inState 2, by decide, by decide, by decide⟩,
  ⟨{ inState 2 with hk := ⟨9, 0, 0, some 5, none, false⟩ }, by decide, by decide, by decide, by decide⟩,
  ⟨{ inState 2 with hk := ⟨9, 0, 0, none, none, false⟩ }, by decide, by decide, by decide, by decide⟩⟩

theorem witness_UnlockAndAttestRules :
    (∃ (s : State) (c : HostCmd), s.canStart c = true ∧ opcodeOf c = timeUnlockSpec.opcode ∧ checkForm
      timeUnlockSpec c = none ∧ s.dev = 2 ∧ indexOf c = 0 ∧ checkLayout timeUnlockSpec c = none) ∧
    (∃ (s : State) (c : HostCmd), s.canStart c = true ∧ opcodeOf c = timeUnlockSpec.opcode ∧ checkForm
      timeUnlockSpec c = none ∧ s.dev ≠ 2) ∧
    (∃ (s : State) (c : HostCmd), s.canStart c = true ∧ opcodeOf c = attestSpec.opcode ∧ checkForm attestSpec c =
      none ∧ bit attestSpec.states s.dev = true ∧ c.buf.isSome = true ∧ (s.fuse.lc = 0 ∨ s.fuse.lc = 4 ∨ s.flag
        .scbStatusTamper = true)) ∧
    (∃ (s : State) (c : HostCmd), s.canStart c = true ∧ opcodeOf c = attestSpec.opcode ∧ checkForm attestSpec c =
      none ∧ bit attestSpec.states s.dev = true ∧ c.buf.isSome = true ∧ indexOf c = 0 ∧ s.fuse.lc ≠ 0 ∧ s.fuse.lc ≠
        4 ∧ s.flag .scbStatusTamper = false ∧ (pByte c 16 < 16 ∨ 48 < pByte c 16 ∨ pNum c 20 4 < 240)) :=
  ⟨⟨inState 2, pkt 0x601 0 0, by decide, by decide, by decide, by decide, by decide, by decide⟩,
  ⟨inState 3, pkt 0x601 0 0, by decide, by decide, by decide, by decide⟩,
  ⟨{ inState 2 with fuse := { Fuse.shipped with retired := true } }, pkt 0x801 0 0 [] (some []), by decide,
    by decide, by decide, by decide, by decide, by decide⟩,
  ⟨inState 2, pkt 0x801 0 0 [(16, 49)] (some []), by decide, by decide, by decide, by decide, by decide, by decide,
    by decide, by decide, by decide, by decide⟩⟩

/-- A PROVISIONED unit with a guard authority key. -/
def keyed : State :=
  let s := inState 2
  { s with nvm := { s.nvm with guardKey := some [] } }

/-- A GUARD_RAISE payload of one record: PEAK of channel 95. -/
def raiseBytes : List Byte :=
  List.replicate 8 0 ++ unitIdBytes ++ [1, 0, 0, 0, 0, 0, 0, 0] ++ [0, 95, 0, 0, 255, 255, 0, 0] ++ List.replicate
    104 0

/-- A LIFECYCLE_SET payload to FIELD. -/
def fieldBytes : List Byte :=
  List.replicate 8 0 ++ unitIdBytes ++ [2, 0, 0, 0, 0, 0, 0, 0, 4] ++ List.replicate 199 0

theorem unitId_length : unitIdBytes.length = 16 := by decide +kernel

theorem unitId_mid (r : List Byte) : ((List.replicate 8 0 ++ unitIdBytes ++ r).drop 8).take 16 = unitIdBytes := by
  simp [List.take_append, unitId_length, List.take_of_length_le]

theorem guardRaise_accepted :
    Accepted guardRaiseSpec (pkt 0x800 0 0 [(16, 144)] (some raiseBytes) (some .guard)) keyed := by
  have h : (raiseBytes.drop 8).take 16 = unitIdBytes := by
    simp only [raiseBytes, List.append_assoc (_ ++ unitIdBytes), unitId_mid]
  have ha : guardRaiseSpec.auth keyed (pkt 0x800 0 0 [(16, 144)] (some raiseBytes) (some .guard)) = none := by
    simp only [guardRaiseSpec, bufOf, pkt, Option.getD_some, h, bne_self_eq_false, Bool.or_false]
    decide
  refine ⟨by decide, by decide, ?_⟩
  unfold check
  rw [ha]
  decide +kernel

theorem lifecycleSet_accepted :
    Accepted lifecycleSetSpec (pkt 0x803 0 0 [(16, 2)] (some fieldBytes) (some .offered)) (inState 2) := by
  have h : (fieldBytes.drop 8).take 16 = unitIdBytes := by
    simp only [fieldBytes, List.append_assoc (_ ++ unitIdBytes), unitId_mid]
  have ha : lifecycleSetSpec.auth (inState 2) (pkt 0x803 0 0 [(16, 2)] (some fieldBytes) (some .offered)) = none := by
    simp only [lifecycleSetSpec, bufOf, pkt, Option.getD_some, h, bne_self_eq_false, Bool.or_false]
    decide
  refine ⟨by decide, by decide, ?_⟩
  unfold check
  rw [ha]
  decide +kernel

/-- UCODE_PATCH is accepted with any image that the free values of its header (R512) put in order. -/
theorem ucodePatch_accepted (b : List Byte) (ok : patchOk b 178 = true) (body : patchBodyOk b = true)
    (rom : Config.patchField 0 b = (inState 2).fld .ceUcodeVerRomVer) :
    Accepted ucodePatchSpec { pkt 0x804 0 0 [(16, 178)] none (some .patch) with buf := some b } (inState 2) := by
  generalize hc : pkt 0x804 0 0 [(16, 178)] none (some .patch) = c
  have hr : ucodePatchSpec.range (inState 2) { c with buf := some b } = none := by
    have hn : pNum { c with buf := some b } 16 4 = 178 := by
      show pNum c 16 4 = 178
      subst hc; decide
    have ha : bufAligned { c with buf := some b } 24 = none := by
      show bufAligned c 24 = none
      subst hc; decide
    simp only [ucodePatchSpec, bufOf, hn, ha, Option.getD_some, rom, ok, bne_self_eq_false]
    rfl
  have ht : ucodePatchSpec.auth (inState 2) { c with buf := some b } = none := by
    simp only [ucodePatchSpec, bufOf, Option.getD_some, body]
    subst hc; decide
  have hl : ucodePatchSpec.locked (inState 2) { c with buf := some b } = none := by
    simp only [ucodePatchSpec, show (inState 2).fuse.arb = 0 from rfl, Nat.not_lt_zero, decide_false]
    rfl
  refine ⟨?_, ?_, ?_⟩
  · show (inState 2).canStart c = true
    subst hc; decide
  · show opcodeOf c = _
    subst hc; decide
  · unfold check
    rw [hr, hl, ht]
    show firstRej [checkForm ucodePatchSpec c, rejIf (!bit ucodePatchSpec.states (inState 2).dev) rejState,
      rejIf (true && false) _, none, (inState 2).needUnit (kindOf c) (indexOf c), none,
      rejIf (epochChk c && ((inState 2).targetEpoch (kindOf c) (indexOf c) != epochOf c))
        (some ⟨0xA, (inState 2).targetEpoch (kindOf c) (indexOf c), 0⟩),
      checkLayout ucodePatchSpec c, none, none, none, none,
      ucodePatchSpec.busy (inState 2) c] = none
    subst hc; decide

theorem witness_SecurityAct :
    (∃ (s : State) (c : HostCmd), Accepted attestSpec c s) ∧
    (∃ (s : State) (l : _), s.findLong 0x801 = some l) ∧
    (∃ (s : State) (c : HostCmd), Accepted (certReadSpec false) c s ∧ s.fuse.lc ≠ 0) ∧
    (∃ (s : State) (c : HostCmd), Accepted guardRaiseSpec c s) ∧
    (∃ (s : State) (l : _), s.findLong 0x800 = some l ∧ s.flag .scbStatusTamper = true) ∧
    (∃ (s : State) (l : _), s.findLong 0x800 = some l ∧ s.flag .scbStatusTamper = false) ∧
    (∃ (b : List Byte) (i : Nat) (idx : Nat) (code : Nat) (v : Nat), idx = bufNat b (32 + 16 * i + 1) 1 ∧ code =
      bufNat b (32 + 16 * i + 2) 1 ∧ v = bufNat b (32 + 16 * i + 4) 4 ∧ code = 0) ∧
    (∃ (b : List Byte) (i : Nat) (idx : Nat) (code : Nat) (v : Nat), idx = bufNat b (32 + 16 * i + 1) 1 ∧ code =
      bufNat b (32 + 16 * i + 2) 1 ∧ v = bufNat b (32 + 16 * i + 4) 4 ∧ code = 1) ∧
    (∃ (b : List Byte) (i : Nat) (idx : Nat) (code : Nat) (v : Nat), idx = bufNat b (32 + 16 * i + 1) 1 ∧ code =
      bufNat b (32 + 16 * i + 2) 1 ∧ v = bufNat b (32 + 16 * i + 4) 4 ∧ code = 2) ∧
    (∃ (b : List Byte) (i : Nat) (idx : Nat) (code : Nat) (v : Nat), idx = bufNat b (32 + 16 * i + 1) 1 ∧ code =
      bufNat b (32 + 16 * i + 2) 1 ∧ v = bufNat b (32 + 16 * i + 4) 4 ∧ code = 3) ∧
    (∃ (b : List Byte) (i : Nat) (idx : Nat) (code : Nat) (v : Nat), idx = bufNat b (32 + 16 * i + 1) 1 ∧ code =
      bufNat b (32 + 16 * i + 2) 1 ∧ v = bufNat b (32 + 16 * i + 4) 4 ∧ code = 4) ∧
    (∃ (b : List Byte) (i : Nat) (idx : Nat) (code : Nat) (v : Nat), idx = bufNat b (32 + 16 * i + 1) 1 ∧ code =
      bufNat b (32 + 16 * i + 2) 1 ∧ v = bufNat b (32 + 16 * i + 4) 4 ∧ code = 5) ∧
    (∃ (b : List Byte) (i : Nat) (idx : Nat) (code : Nat) (v : Nat), idx = bufNat b (32 + 16 * i + 1) 1 ∧ code =
      bufNat b (32 + 16 * i + 2) 1 ∧ v = bufNat b (32 + 16 * i + 4) 4 ∧ code = 6) ∧
    (∃ (s : State) (c : HostCmd), Accepted lifecycleSetSpec c s) ∧
    (∃ (s : State) (l : _), s.findLong 0x803 = some l ∧ l.arg ≠ 8) ∧
    (∃ (s : State) (l : _), s.findLong 0x803 = some l ∧ l.arg = 8 ∧ s.wiping = false) ∧
    (∃ (f : Fuse) (t : Nat), t ≠ 4 ∧ t ≠ f.lc) ∧
    (∃ (f : Fuse), f.lc ≠ 4) ∧
    (∃ (s : State), s.fuse.lc = 2) ∧
    (∃ (s : State), s.dev ≠ 0 ∧ s.findLong 0x803 = none) ∧
    (∃ (s : State) (l : _), s.dev ≠ 0 ∧ s.findLong 0x803 = some l ∧ l.arg ≠ 8) ∧
    (∃ (s : State), s.flag .scbStatusWiping = true) ∧
    (∃ (s : State) (l : _) (p : _), s.patchWaits = none ∧ s.findLong 0x804 = some l ∧ p = (⟨Config.patchField 1
      l.payload % 256, Config.patchField 2 l.payload, l.payload, true⟩ : Patch)) ∧
    (∃ (s : State) (l : _), s.patchWaits = some l ∧ s.flag .ceStatusRestart = true ∧ (s.setB .ceStatusRestart 0
      false).patchWaits = some l) :=
  ⟨⟨inState 2, pkt 0x801 0 0 [(16, 48), (20, 240)] (some []), by unfold Accepted; decide⟩,
  ⟨busyWith 2 0x801 0 0, long0 0x801 0 0, by decide⟩,
  ⟨{ inState 2 with nvm := { (inState 2).nvm with chain := [] } }, pkt 0x802 0 0 [(16, 0xFFFFFFFF)],
    by unfold Accepted; decide, by decide⟩,
  ⟨keyed, pkt 0x800 0 0 [(16, 144)] (some raiseBytes) (some .guard), guardRaise_accepted⟩,
  ⟨(busyWith 2 0x800 0 0).setB .scbStatusTamper 0 true, long0 0x800 0 0, by decide, by decide⟩,
  ⟨busyWith 2 0x800 0 0, long0 0x800 0 0, by decide, by decide⟩,
  ⟨List.replicate 34 0 ++ [0], 0, 0, 0, 0, by decide, by decide, by decide, by decide⟩,
  ⟨List.replicate 34 0 ++ [1], 0, 0, 1, 0, by decide, by decide, by decide, by decide⟩,
  ⟨List.replicate 34 0 ++ [2], 0, 0, 2, 0, by decide, by decide, by decide, by decide⟩,
  ⟨List.replicate 34 0 ++ [3], 0, 0, 3, 0, by decide, by decide, by decide, by decide⟩,
  ⟨List.replicate 34 0 ++ [4], 0, 0, 4, 0, by decide, by decide, by decide, by decide⟩,
  ⟨List.replicate 34 0 ++ [5], 0, 0, 5, 0, by decide, by decide, by decide, by decide⟩,
  ⟨List.replicate 34 0 ++ [6], 0, 0, 6, 0, by decide, by decide, by decide, by decide⟩,
  ⟨inState 2, pkt 0x803 0 0 [(16, 2)] (some fieldBytes) (some .offered), lifecycleSet_accepted⟩,
  ⟨busyWith 2 0x803 0 0, long0 0x803 0 0, by decide, by decide⟩,
  ⟨busyWith 2 0x803 0 8, long0 0x803 0 8, by decide, by decide, by decide⟩,
  ⟨Fuse.shipped, 2, by decide, by decide⟩,
  ⟨Fuse.shipped, by decide⟩,
  ⟨{ inState 2 with fuse := { Fuse.shipped with pairs := [1, 2] } }, by decide⟩,
  ⟨inState 2, by decide, by decide⟩,
  ⟨busyWith 2 0x803 0 0, long0 0x803 0 0, by decide, by decide, by decide⟩,
  ⟨(inState 2).setB .scbStatusWiping 0 true, by decide⟩,
  ⟨busyWith 2 0x804 0 0, long0 0x804 0 0, _, by decide, by decide, rfl⟩,
  ⟨(busyWith 2 0x804 0 1).setB .ceStatusRestart 0 true, long0 0x804 0 1, by decide, by decide, by decide⟩⟩

/-- The block in device state d with its rails as listed. -/
def railed (d : Nat) (p : Power) : State := { inState d with power := p }

/-- Dawn in its last stage. -/
def dawned : State := (inState 1).setF .glbDawnStatusStage 0 8

theorem witness_PowerAct :
    (∃ (s : State) (c : HostCmd), Accepted duskSpec c s ∧ 2 ≤ s.dev ∧ s.dev ≤ 4) ∧
    (∃ (s : State) (c : HostCmd), Accepted safeExitSpec c s) ∧
    (∃ (s : State) (c : HostCmd), Accepted sysResetSpec c s) ∧
    (∃ (s : State), s.power.vaux = false ∧ s.dev = 0) ∧
    (∃ (s : State) (k : Fin 4) (c : _), k.val < 3 ∧ bit s.power.pwren k = true ∧ bit s.power.pgood k = false ∧
      s.power.seq = some (k.val, c)) ∧
    (∃ (s : State) (k : Fin 4), k.val = 3 ∧ bit s.power.pwren k = true ∧ s.power.pgood = 7 ∧ (s.power.seq = none ∨
      (∃ c, s.power.seq = some (3, c))) ∧ s.dev = 0 ∧ s.power.perst = false ∧ s.power.down = false) ∧
    (∃ (s : State) (k : Nat) (c : Nat), s.power.seq = some (k, c) ∧ c + 20 * 625000 ≤ s.cyc) ∧
    (∃ (s : State) (k : Fin 4), bit s.power.pgood k = true ∧ s.dev ≠ 0) ∧
    (∃ (s : State) (k : Fin 4), bit s.power.pwren k = true ∧ bit s.power.pgood k = true ∧ s.power.down = false) ∧
    (∃ (s : State), s.power.pgood = 15 ∧ s.power.down = false) ∧
    (∃ (s : State) (c : Nat), s.power.coolEnd = some c ∧ c ≤ s.cyc ∧ s.power.perst = true) ∧
    (∃ (s : State) (c : Nat), s.power.coolEnd = some c ∧ c ≤ s.cyc ∧ s.power.perst = false) ∧
    (∃ (s : State), s.dev ≠ 0) ∧
    (∃ (s : State), s.dev = 1) ∧
    (∃ (s : State), 2 ≤ s.dev) ∧
    (∃ (s : State), s.power.perst = true ∧ s.power.down = false ∧ s.power.coolEnd = none ∧ s.dev ≠ 0) ∧
    (∃ (s : State), s.power.perst = true ∧ s.power.down = false ∧ s.power.coolEnd = none ∧ s.dev = 0 ∧
      s.power.waits = true) ∧
    (∃ (s : State), s.power.perst = true ∧ s.power.down = false ∧ s.power.coolEnd = none ∧ s.dev = 0 ∧
      s.power.waits = false ∧ s.power.pgood = 15) ∧
    (∃ (s : State) (e : _) (t : _), s.dev = 1 ∧ s.power.perst = false ∧
      (e, s.fld .glbDawnStatusStage, t) ∈ [ (DawnEnd.link true, 1, { s with pcie := { s.pcie with linkUp := true } }.setF .glbDawnStatusStage 0 2), (.link false, 1, { s with pcie := { s.pcie with linkUp := false } }.setF .glbDawnStatusStage 0 2), (.clock 1, 2, ((s.setF .timeStatusRefFreq 0 1).setB .timeStatusRefPresent 0 true).setF .glbDawnStatusStage 0 3), (.clock 2, 2, ((s.setF .timeStatusRefFreq 0 2).setB .timeStatusRefPresent 0 true).setF .glbDawnStatusStage 0 3), (.clock 0, 2, ((s.setF .timeStatusRefFreq 0 3).setF .glbDawnStatusReason 0 1).toFault), (.clock 3, 2, ((s.setF .timeStatusRefFreq 0 3).setF .glbDawnStatusReason 0 1).toFault), (.lock true, 3, ((({ s with st := 0, time := { s.time with running := true } } : State).setB .timeStatusPllLock 0 true).setB .timeStatusHoldover 0 (s.flag .timeStatusHoldover && !s.flag .timeStatusRefPresent)).setF .glbDawnStatusStage 0 4), (.lock false, 3, (s.setF .glbDawnStatusReason 0 2).toFault), (.scarab false false, 5, (s.setF .glbDawnStatusReason 0 4).toFault), (.scarab false true, 5, (s.setF .glbDawnStatusReason 0 4).toFault), (.dram false, 6, (s.setF .glbDawnStatusReason 0 5).toFault), (.dram true, 6, ({ s with hk := ⟨s.cyc, 0, s.cyc, none, none, false⟩, therm := { s.therm with next := s.cyc }, power := { s.power with io := true } } : State).setF .glbDawnStatusStage 0 7), (.sensors, 7, s.loadRecord.setF .glbDawnStatusStage 0 8)]) ∧
    (∃ (s : State), s.dev = 1 ∧ s.power.perst = false ∧ s.fld .glbDawnStatusStage = 5 ∧ s.fuse.lc = 4) ∧
    (∃ (s : State), s.dev = 1 ∧ s.power.perst = false ∧ s.fld .glbDawnStatusStage = 5 ∧ s.fuse.lc ≠ 4 ∧ s.flag
      .scbStatusTamper = false) ∧
    (∃ (s : State), s.dev = 1 ∧ s.power.perst = false ∧ s.fld .glbDawnStatusStage = 5 ∧ s.fuse.lc ≠ 4 ∧ s.flag
      .scbStatusTamper = true) ∧
    (∃ (s : State) (t : _) (l : _), s.dev = 1 ∧ s.power.perst = false ∧ s.fld .glbDawnStatusStage = 4 ∧ t = forEach
      l (fun (g : Fin 165) (s : State) => if g.val < 158 ∧ s.unitPresent 12 g = true then s.wr .glbMemFail (g / 32)
        (setBit (s.rd .glbMemFail (g / 32)) (g % 32) true) else s) s ∧ (∀ g ∈ l, g.val ∉ [160, 161, 162, 164])) ∧
    (∃ (s : State) (t : _) (l : _), s.dev = 1 ∧ s.power.perst = false ∧ s.fld .glbDawnStatusStage = 4 ∧ t = forEach
      l (fun (g : Fin 165) (s : State) => if g.val < 158 ∧ s.unitPresent 12 g = true then s.wr .glbMemFail (g / 32)
        (setBit (s.rd .glbMemFail (g / 32)) (g % 32) true) else s) s ∧ (∃ g ∈ l, g.val ∈ [160, 161, 162, 164])) ∧
    (∃ (s : State), s.dev = 1 ∧ s.power.perst = false ∧ s.fld .glbDawnStatusStage = 8 ∧ s.calDawnOver = true ∧ (∀ r
      < 8, (s.regionOut r).length < 2)) ∧
    (∃ (s : State), s.dev = 1 ∧ s.power.perst = false ∧ s.fld .glbDawnStatusStage = 8 ∧ s.calDawnOver = false) ∧
    (∃ (n : Nat) (c : Nat), n < 10 ∧ c < 8 ∧ n ≠ 2) ∧
    (∃ (s : State), s.nvm.saving = none ∧ s.findLong 0x803 = none ∧ s.findLong 0x804 = none) ∧
    (∃ (s : State) (r : _) (a : _) (b : _), s.nvm.saving = some r ∧ s.nvmPair = some (a, b)) ∧
    (∃ (s : State), s.duskDone = true) ∧
    (∃ (s : State), s.power.dusk = 4 ∧ s.power.stepAt + 625000 * s.fld .jrnCfgFlushMax ≤ s.cyc) ∧
    (∃ (s : State) (n : Nat) (t : _), (s.power.dusk, n, t) ∈ [ (1, 2, State.outMuteAll { s with power :=
      { s.power with dusk := 2, stepAt := s.cyc } }), (2, 3, State.bdDusk { s with power :=
        { s.power with dusk := 3, stepAt := s.cyc } }), (3, 4, State.jrnFinal { s with power :=
        { s.power with dusk := 4, stepAt := s.cyc } }), (4, 5, State.setDev { s with power :=
        { s.power with dusk := 0, stepAt := s.cyc } } 6)]) ∧
    (∃ (s : State), s.power.dusk = 1 ∧ s.power.duskAt + 625 * s.fld .thermDuskMaxUs ≤ s.cyc ∧ s.shot.running = true
      ∧ s.shot.abort = none) :=
  ⟨⟨inState 4, pkt 0x106 0 0, by unfold Accepted; decide, by decide, by decide⟩,
  ⟨inState 6, pkt 0x107 0 0, by unfold Accepted; decide⟩,
  ⟨inState 2, pkt 0x108 0 0, by unfold Accepted; decide⟩,
  ⟨railed 0 ⟨false, false, 0, 0, false, none, false, none, false, 1, 0, 0, 0, false⟩, by decide, by decide⟩,
  ⟨railed 0 ⟨true, true, 7, 3, false, some (2, 5), false, none, false, 1, 0, 0, 0, false⟩, 2, 5, by decide,
    by decide, by decide, by decide⟩,
  ⟨railed 0 ⟨true, false, 15, 7, false, none, false, none, false, 1, 0, 0, 0, false⟩, 3, by decide, by decide,
    by decide, .inl rfl, by decide, by decide, by decide⟩,
  ⟨{ railed 0 ⟨true, true, 7, 3, false, some (2, 0), false, none, false, 1, 0, 0, 0, false⟩ with cyc := 12500000 },
    2, 0, by decide, by decide⟩,
  ⟨inState 2, 3, by decide, by decide⟩,
  ⟨inState 2, 3, by decide, by decide, by decide⟩,
  ⟨inState 2, by decide, by decide⟩,
  ⟨railed 0 ⟨true, true, 0, 0, false, none, false, some 0, false, 1, 0, 0, 0, false⟩, 0, by decide, by decide,
    by decide⟩,
  ⟨railed 0 ⟨true, false, 0, 0, false, none, false, some 0, false, 1, 0, 0, 0, false⟩, 0, by decide, by decide,
    by decide⟩,
  ⟨inState 2, by decide⟩,
  ⟨inState 1, by decide⟩,
  ⟨inState 2, by decide⟩,
  ⟨railed 1 ⟨true, true, 15, 15, false, none, false, none, false, 1, 0, 0, 0, false⟩, by decide, by decide,
    by decide, by decide⟩,
  ⟨railed 0 ⟨true, true, 0, 0, false, none, false, none, true, 1, 0, 0, 0, false⟩, by decide, by decide, by decide,
    by decide, by decide⟩,
  ⟨railed 0 ⟨true, true, 15, 15, false, none, false, none, false, 1, 0, 0, 0, false⟩, by decide, by decide,
    by decide, by decide, by decide, by decide⟩,
  ⟨(inState 1).setF .glbDawnStatusStage 0 1, .link true, _, by decide, by decide, List.Mem.head _⟩,
  ⟨({ inState 1 with fuse := { Fuse.shipped with retired := true } }).setF .glbDawnStatusStage 0 5, by decide,
    by decide, by decide, by decide⟩,
  ⟨(inState 1).setF .glbDawnStatusStage 0 5, by decide, by decide, by decide, by decide, by decide⟩,
  ⟨((inState 1).setF .glbDawnStatusStage 0 5).setB .scbStatusTamper 0 true, by decide, by decide, by decide,
    by decide, by decide⟩,
  ⟨(inState 1).setF .glbDawnStatusStage 0 4, _, [163], by decide, by decide, by decide, rfl, by simp⟩,
  ⟨(inState 1).setF .glbDawnStatusStage 0 4, _, [157, 164], by decide, by decide, by decide, rfl, by simp⟩,
  ⟨dawned, by decide, by decide, by decide, by decide +kernel, by decide +kernel⟩,
  ⟨(dawned).setCalUnit 0 95 { CalUnit.init with slice := some 0 }, by decide, by decide, by decide,
    by decide +kernel⟩,
  ⟨9, 7, by decide, by decide, by decide⟩,
  ⟨inState 2, by decide, by decide, by decide⟩,
  ⟨(let s := inState 2; { s with nvm := { s.nvm with saving := some [] } }), [], 0, 1, by decide, by decide⟩,
  ⟨railed 5 ⟨true, false, 15, 15, false, none, false, none, false, 1, 1, 0, 0, false⟩, by decide⟩,
  ⟨{ railed 5 ⟨true, false, 15, 15, false, none, false, none, false, 1, 4, 0, 0, false⟩ with cyc := 1 <<< 60 },
    by decide, by decide⟩,
  ⟨railed 5 ⟨true, false, 15, 15, false, none, false, none, false, 1, 1, 0, 0, false⟩, 2, _, List.Mem.head _⟩,
  ⟨{ shotState with cyc := 1 <<< 60, power := ⟨true, false, 15, 15, false, none, false, none, false, 1, 1, 0, 0,
    false⟩ }, by decide, by decide, by decide, by decide⟩⟩

theorem witness_ThermalAct :
    (∃ (s : State) (c : HostCmd), Accepted thermConfigSpec c s) ∧
    (∃ (s : State), (s.fld .glbDawnStatusStage < 7 ∨ s.dev = 0 ∨ s.cyc < s.therm.next)) ∧
    (∃ (s : State), 7 ≤ s.fld .glbDawnStatusStage ∧ s.dev ≠ 0 ∧ s.therm.next ≤ s.cyc) ∧
    (∃ (s : State), 9 ≤ s.fld .glbDawnStatusStage ∧ s.dev ≠ 0 ∧ s.therm.evalAt ≤ s.cyc ∧ s.thermAt
      .thermCfgThrottle = true) ∧
    (∃ (s : State), 9 ≤ s.fld .glbDawnStatusStage ∧ s.dev ≠ 0 ∧ s.therm.evalAt ≤ s.cyc ∧ s.thermAt
      .thermCfgThrottle = false ∧ s.releaseHolds = true) ∧
    (∃ (s : State), 9 ≤ s.fld .glbDawnStatusStage ∧ s.dev ≠ 0 ∧ s.therm.evalAt ≤ s.cyc ∧ s.thermAt
      .thermCfgThrottle = false ∧ s.releaseHolds = false) :=
  ⟨⟨inState 2, pkt 0x10C 0 0 [(16, 50), (17, 50), (18, 50)], by unfold Accepted; decide⟩,
  ⟨inState 0, by decide⟩,
  ⟨inState 2, by decide, by decide, by decide⟩,
  ⟨(inState 2).setF .thermMaxTemp 0 2000, by decide, by decide, by decide, by decide⟩,
  ⟨inState 2, by decide, by decide, by decide, by decide, by decide⟩,
  ⟨((inState 2).setF .thermSensorTemp 0 2000).setB .thermSensorValid 0 true, by decide, by decide, by decide,
    by decide, by decide⟩⟩

theorem witness_SampleTimeMovesOnlyBy :
    (∃ (i : Instr) (s : State) (t : State),
      (match i with | .timeStepApply .. | .syncinEdge .. | .dawnStageEnd _ | .sysReset _ | .perstAssert | .perstRelease | .coreRailsRemoved | .pgoodRise _ => False | _ => True) ∧ exec i s = .next t) ∧
    (∃ (s : State) (t : State), s.pending = [] ∧ step s = .next t) :=
  ⟨⟨.pcieD3hot, State.reset, _, trivial, rfl⟩,
  ⟨State.reset, _, by decide, rfl⟩⟩

theorem witness_FusesOnlyAdvance :
    (∃ (i : Instr) (s : State) (t : State), exec i s = .next t ∧ i ≠ .lifecycleSetComplete ∧ i ≠
      .ucodePatchComplete) ∧
    (∃ (l : List State) (s : State) (t : _), List.IsChain (fun a b => step a = .next b) (s :: l) ∧ t ∈ l ∧ (∀ a ∈ s
      :: l, ∀ x, a.findLong 0x803 = some x → x.arg ≠ 1) ∧ s.fuse.identity = false) ∧
    (∃ (l : List State) (s : State) (t : _), List.IsChain (fun a b => step a = .next b) (s :: l) ∧ t ∈ l) :=
  ⟨⟨.pcieD3hot, State.reset, _, rfl, by decide, by decide⟩,
  ⟨[_], { State.reset with fuse := { Fuse.shipped with identity := false } }, _, .cons_cons rfl (.singleton _),
    List.Mem.head _, by decide +kernel, by decide⟩,
  ⟨[_], State.reset, _, .cons_cons rfl (.singleton _), List.Mem.head _⟩⟩

theorem witness_LockedLimitsOnlyTighten :
    (∃ (s : State) (v : Word), s.hostGuard = true ∧ bit v.toNat 0 = true) ∧
    (∃ (s : State) (l : Fin 6) (i : Fin 96) (v : Word), s.hostGuard = true ∧ s.limitPresent (Limit.ofFin l) i =
      true ∧ s.flag .guardLockLocked = true ∧ (Limit.ofFin l).loosens (s.rd (Limit.ofFin l).reg i) (v.toNat &&&
        (Limit.ofFin l).mask) = true) ∧
    (∃ (s : State) (l : Fin 6) (i : Fin 96) (v : Word), s.hostGuard = true ∧ s.limitPresent (Limit.ofFin l) i =
      true ∧ s.flag .guardLockLocked = true ∧ (Limit.ofFin l).loosens (s.rd (Limit.ofFin l).reg i) (v.toNat &&&
        (Limit.ofFin l).mask) = false) ∧
    (∃ (l : List State) (s : State) (t : _),
      (List.IsChain (fun a b => step a = .next b ∧ ∀ c rest, a.pending = c :: rest → match c with | .guardRaiseComplete | .sysReset _ | .perstAssert | .perstRelease | .coreRailsRemoved | .pgoodRise _ => False | _ => True) (s :: l)) ∧ s.flag .guardLockLocked = true ∧ t ∈ l) :=
  ⟨⟨inState 2, 1, by decide, by decide⟩,
  ⟨((inState 2).setB .guardLockLocked 0 true).wr .guardPeak 3 5, 0, 3, 6, by decide, by decide, by decide, by decide⟩,
  ⟨((inState 2).setB .guardLockLocked 0 true).wr .guardPeak 3 5, 0, 3, 4, by decide, by decide, by decide, by decide⟩,
  ⟨[_], (inState 2).setB .guardLockLocked 0 true, _, .cons_cons ⟨rfl, fun _ _ h => nomatch h⟩ (.singleton _),
    by decide, List.Mem.head _⟩⟩

end Sys2Proof.Tests
end

section
/-!
PROOFS. No command touches the queue of waiting commands or the part's variant.
-/

namespace Sys2Proof.Machine

/-- Every arm of the dispatcher is `run` of some effect: each family's form (`command`, `commandFires`, `perform`,
`dspRow`) is a `run` as well, so whatever holds of the outcome of `run` holds of every command. -/
theorem exec_eq_run (i : Instr) (s : State) : ∃ f : State → State, exec i s = run f s := by
  cases i <;> exact ⟨_, rfl⟩

/-- A command's next state is its effect in `State.act`, which puts the queue and the variant back. -/
theorem exec_next_eq_act {i : Instr} {s t : State} (h : exec i s = .next t) : ∃ f : State → State, t = s.act f := by
  obtain ⟨f, hf⟩ := exec_eq_run i s
  exact ⟨f, (run_next f s t).mp (hf ▸ h)⟩

/-- Settles O3: every command's next state is made by `State.act` (the model's own queue: log entry 1; the fixed
variant: log entry 11). -/
theorem commandsLeaveTheQueue : Obligations.CommandsLeaveTheQueue := by
  intro i s t h
  obtain ⟨f, rfl⟩ := exec_next_eq_act h
  exact ⟨rfl, rfl⟩

end Sys2Proof.Machine
end

section
/-!
PROOFS. The link, MSI-X and the host's accesses to BAR0, BAR4 and configuration space.
-/

namespace Sys2Proof.Machine

/-! ## Places and single bits -/

/-- Only a 64-bit register has a high word (R520). -/
theorem Reg.wide_of_wordAt_high {r : Reg} {p o i : Nat} (h : r.wordAt p o = some (i, true)) : r.info.wide = true := by
  unfold Reg.wordAt at h
  simp only at h
  generalize (if r.info.stride = 0 then 0 else (o - r.info.off) / r.info.stride) = k at h
  split_ifs at h with _ _ hw
  · simp at h
  · exact (Bool.and_eq_true_iff.mp hw).2

/-- A place found among some registers at a high word is that of a 64-bit register. -/
theorem wide_of_findSome?_high {l : List Reg} {p o : Nat} {c : Bool} {x : Place}
    (h : l.findSome? (fun r => (r.wordAt p o).map fun w => (⟨r, w.1, c, w.2⟩ : Place)) = some x) (hh : x.high = true) :
    x.reg.info.wide = true := by
  obtain ⟨r, -, hr⟩ := List.exists_of_findSome?_eq_some h
  obtain ⟨⟨i, high⟩, hw, rfl⟩ := Option.map_eq_some_iff.mp hr
  obtain rfl : high = true := hh
  exact Reg.wide_of_wordAt_high hw

theorem place?_wide_of_high {o : Nat} {x : Place} (h : place? o = some x) (hh : x.high = true) :
    x.reg.info.wide = true := by
  unfold place? at h
  simp only at h
  split at h
  · next y hy =>
    cases h
    exact wide_of_findSome?_high hy hh
  · exact wide_of_findSome?_high (Option.ite_none_right_eq_some.mp h).2 hh

/-- A cleared bit reads as clear. -/
theorem bit_setBit_false (n b : Nat) : bit (setBit n b false) b = false := by
  have h : slice (setBit n b false) b 1 = 0 := slice_place_same n b 1 0
  simp only [slice, pow_one] at h
  simp [bit, h]

/-- A bit of a 64-bit word set or cleared leaves a 64-bit word. -/
theorem toNat_ofNat_setBit (w : Dword) (v : Fin 64) (b : Bool) :
    (BitVec.ofNat 64 (setBit w.toNat v b)).toNat = setBit w.toNat v b := by
  rw [BitVec.toNat_ofNat]
  exact Nat.mod_eq_of_lt (place_lt _ _ _ _ _ v.isLt w.isLt)

/-- The outcome of a row that may fire producers, from what its effect is in the state at hand. -/
theorem perform_act {f g : State → State} {s : State} (h : f s = g s) : perform f s = .next (s.act (State.fires g)) :=
  run_act (congrArg State.settle h)

namespace State

/-! ## The link and MSI-X (R360, R365 to R367) -/

/-- Registers set in turn leave the DMA channels' own records alone. -/
theorem forEach_wr_dma (s : State) (l : List Reg) (i : Nat) (v : Reg → Nat) :
    (forEach l (fun r t => t.wr r i (v r)) s).dma = s.dma :=
  forEach_keeps (·.dma) (fun r (t : State) => t.wr r i (v r)) (fun _ _ => rfl) l s

/-- A channel's DMA registers are reset without its byte counters, which become the new base (R43, R360). -/
theorem dmaReset_dma (s : State) (i : Nat) :
    (s.dmaReset i).dma = SMap.put DmaChan.init s.dma i { DmaChan.init with
      req := (s.dmaOf i).req
      xfer := (s.dmaOf i).xfer
      fail := (s.dmaOf i).fail
      reqBase := (s.dmaOf i).req
      xferBase := (s.dmaOf i).xfer
      failBase := (s.dmaOf i).fail } := by
  simp only [dmaReset, bump_fields, setDma, dmaOf, forEach_wr_dma]

/-- A vector unmasked while its message is pending sends it at once. -/
theorem msixUnmask_vector_sent (s : State) (v : Fin 64) (he : s.pcie.msixEn = true) (hf : s.pcie.fmask = false)
    (hb : bit s.pcie.pba.toNat v = true) :
    s.msixUnmask (.vector v) = { s with
      pcie := { s.pcie with
        vmask := BitVec.ofNat 64 (setBit s.pcie.vmask.toNat v false)
        pba := BitVec.ofNat 64 (setBit s.pcie.pba.toNat v false) }
      egress := s.egress ++ [.msix v (SMap.get 0 s.pcie.msgAddr v) (SMap.get 0 s.pcie.msgData v)] } := by
  have hm : bit (BitVec.ofNat 64 (setBit s.pcie.vmask.toNat v false)).toNat v = false := by
    rw [toNat_ofNat_setBit, bit_setBit_false]
  simp only [msixUnmask, msixFlush, msixSend, he, hf, hb, hm, Bool.not_false, Bool.and_self, Bool.or_self, if_true,
    Bool.false_eq_true, if_false, emit]

/-! ## Reads of BAR0 (R520, R521) -/

theorem read4_none (s : State) {o : Nat} (h : place? o = none) : s.read4 o = s.returns 0 := by
  simp only [read4, h]

theorem read4_closed (s : State) {o : Nat} {x : Place} (h : place? o = some x) (hc : s.regOpen x.reg x.inst = false) :
    s.read4 o = s.returns 0 := by
  simp only [read4, h, hc, Bool.not_false, if_true]

theorem read4_wide (s : State) {o : Nat} {x : Place} (h : place? o = some x) (ho : s.regOpen x.reg x.inst = true)
    (hw : x.reg.info.wide = true) : s.read4 o = if x.high then s.highRead x else s.lowRead x := by
  simp only [read4, h, ho, hw, Bool.not_true, Bool.false_eq_true, if_false, if_true]

/-- A 32-bit register without an effect of its own on a read. -/
theorem read4_plain (s : State) {o : Nat} {x : Place} (h : place? o = some x) (ho : s.regOpen x.reg x.inst = true)
    (hw : x.reg.info.wide = false) (hx : x.copy = true ∨ (x.reg ≠ .ochTblData ∧ x.reg ≠ .trigTsX)) :
    s.read4 o = s.returns (s.placeView x) := by
  obtain hc | ⟨ht, hg⟩ := hx
  · simp [read4, h, ho, hw, hc]
  · simp [read4, h, ho, hw, ht, hg]

theorem read4_low (s : State) {o : Nat} {x : Place} (h : place? o = some x) (ho : s.regOpen x.reg x.inst = true)
    (hw : x.reg.info.wide = true) (hl : x.high = false) : s.read4 o = s.lowRead x := by
  rw [read4_wide s h ho hw, hl]; rfl

theorem read4_high (s : State) {o : Nat} {x : Place} (h : place? o = some x) (ho : s.regOpen x.reg x.inst = true)
    (hh : x.high = true) : s.read4 o = s.highRead x := by
  rw [read4_wide s h ho (place?_wide_of_high h hh), hh]; rfl

theorem highRead_latched (s : State) (x : Place) (h : SMap.get 0 s.latch (placeKey x) ≠ 0) :
    s.highRead x = ({ s with latch := SMap.put 0 s.latch (placeKey x) 0 } : State).returns
      (SMap.get 0 s.latch (placeKey x) - 1) := if_neg h

theorem highRead_empty (s : State) (x : Place) (h : SMap.get 0 s.latch (placeKey x) = 0) :
    s.highRead x = s.returns (s.placeView x / 2 ^ 32) := if_pos h

theorem read8_wide (s : State) {o : Nat} {x : Place} (h : place? o = some x) (hw : x.reg.info.wide = true) :
    s.read8 o = s.returns (s.placeView x) := by
  simp only [read8, h, hw, if_true]

/-! ## Writes to BAR0 (R20, R520, R522) -/

/-- Registers without behaviour of their own on a write: it acts on each of their bits by the access code alone (R20). -/
def plainRegs : List Reg :=
  [.glbDecWinAddr, .glbFbStatus, .glbEccLogU, .glbScrubCfg, .timeStatus, .thermDuskMax, .thermDuskRampMax,
    .bdacStatus, .calStatus, .calUnitSel, .evfDbg, .evfChSel, .evfProdSel, .evfSnapCfg, .evfSnapStatus, .evfHostPend,
    .dmaRingLen, .dmaStatus, .grpPfStatus, .jrnStatus, .blpStatus, .bllAdapt, .dspIntMax, .guardLock, .ochStrmStatus,
    .ochTblAddr, .ochSatStage, .ochSeqErr, .ochOutStatus, .ochFbStatus, .rchRxStatus, .acqStatus, .scbTamperCause,
    .qpStatus]

theorem store32_plain (s : State) {r : Reg} (h : r ∈ plainRegs) (i v : Nat) : s.store32 r i v = s.plainWrite r i v := by
  fin_cases h <;> rfl

/-- An aligned 4-byte write of BAR0. -/
theorem registerWrite_bar0 (s : State) {o : BitVec 24} (ha : o.toNat % 4 = 0) (v : Nat) :
    s.registerWrite (.bar0 o false) v = s.write4 o.toNat (v % 2 ^ 32) := by
  simp [registerWrite, bar0Write, ha]

theorem write4_open (s : State) {o : Nat} {x : Place} (h : place? o = some x) (hc : x.copy = false)
    (hw : x.reg.info.wide = false) (ho : s.regOpen x.reg x.inst = true) (v : Nat) :
    s.write4 o v = s.store32 x.reg x.inst v := by
  simp [write4, h, hc, hw, ho]

/-- A snapshot copy, or a register that the access does not reach, takes no write. -/
theorem write4_ignored (s : State) {o : Nat} {x : Place} (h : place? o = some x) (hw : x.reg.info.wide = false)
    (hx : x.copy = true ∨ s.regOpen x.reg x.inst = false) (v : Nat) : s.write4 o v = s := by
  obtain hc | hn := hx
  · simp [write4, h, hc]
  · simp [write4, h, hw, hn]

theorem writable64_iff (s : State) (x : Place) : s.writable64 x = true ↔
    x.copy = false ∧ x.reg.info.wide = true ∧ x.reg.info.rw ≠ 0 ∧ s.regOpen x.reg x.inst = true := by
  simp [writable64, and_assoc]

theorem lowWrite_held (s : State) (x : Place) (h : s.writable64 x = true) (v : Word) :
    s.lowWrite x v.toNat = s.hold64 x (v.toNat + 1) := by
  rw [lowWrite, if_pos h, Nat.mod_eq_of_lt v.isLt]

theorem highWrite_stored (s : State) (x : Place) (h : s.writable64 x = true) (v : Word) :
    s.highWrite x v.toNat = (s.hold64 x 0).store64 x.reg x.inst
      ((if SMap.get 0 s.hold (placeKey x) = 0 then s.view x.reg x.inst % 2 ^ 32
        else SMap.get 0 s.hold (placeKey x) - 1) + 2 ^ 32 * v.toNat) := by
  rw [highWrite, if_pos h, Nat.mod_eq_of_lt v.isLt]

/-! ## Which accesses are answered -/

theorem hostBar4_iff (s : State) :
    s.hostBar4 = true ↔ s.pcie.linkUp = true ∧ s.pcie.d3hot = false ∧ s.dev ≠ 0 := by
  simp [hostBar4, and_assoc]

theorem badAccess_counted (s : State) (hl : s.pcie.linkUp = true) (hd : s.pcie.d3hot = false) (h0 : s.dev ≠ 0) :
    s.badAccess = s.bump .glbPcieBadacc := if_pos ((hostBar4_iff s).mpr ⟨hl, hd, h0⟩)

end State

/-! ## The rows -/

open State

theorem exec_pcieLinkReturn (s : State) {rate width : Nat} (hr : rate ∈ [25, 50, 80, 160, 320])
    (hw : width ∈ [1, 2, 4, 8, 16]) : exec (.pcieLinkReturn rate width) s = .next { s with pcie := { s.pcie with
      linkUp := true
      rate := if rate < 80 then rate * width * 208 else rate * width * 256 } } :=
  run_to (if_pos (Bool.and_eq_true_iff.mpr ⟨List.contains_iff_mem.mpr hr, List.contains_iff_mem.mpr hw⟩)) rfl rfl

/-- An unmasking row on a link that is up. -/
theorem exec_msixUnmask (s : State) (t : MsixTarget) (hl : s.pcie.linkUp = true) (hd : s.pcie.d3hot = false) :
    exec (.msixUnmask t) s = .next (s.act fun s => s.msixUnmask t) :=
  run_act (if_pos (by simp [hl, hd]))

theorem exec_irqPendClear (s : State) (w : Fin 2) (v : Word) (h : s.hostPage 0 = true) :
    exec (.irqPendClear w v) s = .next (s.act fun s => s.irqClear w v.toNat) :=
  run_act (if_pos h)

theorem exec_bar0BadAccess (s : State) (hl : s.pcie.linkUp = true) (hd : s.pcie.d3hot = false) (h0 : s.dev ≠ 0) :
    exec (.bar0BadAccess true) s = .next (s.bump .glbPcieBadacc) ∧
    exec (.bar0BadAccess false) s = .next ((s.bump .glbPcieBadacc).returns 0) :=
  have h := badAccess_counted s hl hd h0
  ⟨run_to h rfl rfl, run_to (congrArg (State.returns · 0) h) rfl rfl⟩

/-- Both read rows of BAR0 are one 4-byte read. -/
theorem exec_read4 {s t : State} {o : BitVec 24} (h : s.read4 o.toNat = t) (hp : t.pending = s.pending)
    (hv : t.variant = s.variant) :
    exec (.reg64LowRead (.bar0 o false)) s = .next t ∧ exec (.reg64HighRead o) s = .next t :=
  ⟨run_to h hp hv, run_to h hp hv⟩

theorem exec_reg64LowWrite (s : State) (o : BitVec 24) (v : Word) {x : Place} (h : place? o.toNat = some x)
    (hl : x.high = false) (hs : s.writable64 x = true) :
    exec (.reg64LowWrite o v) s = .next (s.hold64 x (v.toNat + 1)) := by
  refine run_to ?_ rfl rfl
  have hw := ((writable64_iff s x).mp hs).2.1
  simp only [h, hw, hl, Bool.not_false, Bool.and_self, if_true, lowWrite_held s x hs]

theorem exec_reg64HighWrite_dmaRingBase (s : State) (o : BitVec 24) (v : Word) {x : Place} {low : Nat}
    (h : place? o.toNat = some x) (hh : x.high = true) (hc : x.copy = false) (hr : x.reg = .dmaRingBase)
    (ho : s.regOpen x.reg x.inst = true)
    (hlow : low = (if SMap.get 0 s.hold (placeKey x) = 0 then s.view x.reg x.inst % 2 ^ 32
      else SMap.get 0 s.hold (placeKey x) - 1)) :
    exec (.reg64HighWrite o v) s = .next ((s.hold64 x 0).wr .dmaRingBase x.inst
      ((low + 2 ^ 32 * v.toNat) &&& Reg.dmaRingBase.info.rw)) := by
  have hs : s.writable64 x = true :=
    (writable64_iff s x).mpr ⟨hc, place?_wide_of_high h hh, hr ▸ (by decide), ho⟩
  refine run_to ?_ rfl rfl
  simp only [h, hh, if_true, highWrite_stored s x hs]
  rw [← hlow, hr]
  rfl

/-- What BAR4 answers to a read. -/
theorem exec_bar4_read (s : State) (o : BitVec 20) :
    (s.hostBar4 = true → exec (.reg64LowRead (.bar4 o false)) s = .next (s.returns (s.bar4View o.toNat))) ∧
    (s.hostBar4 = false → exec (.reg64LowRead (.bar4 o false)) s = .next (s.returns 0)) :=
  ⟨fun h => run_to (by simp [registerRead, h]) rfl rfl, fun h => run_to (by simp [registerRead, h]) rfl rfl⟩

/-- A register write that is let through, in what its effect is in the state at hand. -/
theorem exec_registerWrite {s : State} {t : RegTarget} {v : Dword} {g : State → State}
    (h : s.registerWrite t v.toNat = g s) : exec (.registerWrite t v) s = .next (s.act (fires g)) :=
  perform_act h

theorem exec_bar4_write (s : State) (o : BitVec 20) (v : Dword) (h : s.hostBar4 = true) :
    exec (.registerWrite (.bar4 o false) v) s =
      .next (s.act (fires fun s => s.bar4Write4 o.toNat (v.toNat % 2 ^ 32))) :=
  exec_registerWrite (by simp [registerWrite, bar4Write, h])

/-- A plain register's write acts by the access codes of its bits (R20). -/
theorem exec_write_plain (s : State) (o : BitVec 24) (v : Dword) {x : Place} (ha : o.toNat % 4 = 0)
    (h : place? o.toNat = some x) (hc : x.copy = false) (hw : x.reg.info.wide = false)
    (ho : s.regOpen x.reg x.inst = true) (hr : x.reg ∈ plainRegs) :
    exec (.registerWrite (.bar0 o false) v) s =
      .next (s.act (fires fun s => s.plainWrite x.reg x.inst (v.toNat % 2 ^ 32))) :=
  exec_registerWrite (by rw [registerWrite_bar0 s ha, write4_open s h hc hw ho, store32_plain s hr])

theorem exec_write_ignored (s : State) (o : BitVec 24) (v : Dword) {x : Place} (ha : o.toNat % 4 = 0)
    (h : place? o.toNat = some x) (hw : x.reg.info.wide = false)
    (hx : x.copy = true ∨ s.regOpen x.reg x.inst = false) :
    exec (.registerWrite (.bar0 o false) v) s = .next (s.act (fires fun s => s)) :=
  exec_registerWrite (by rw [registerWrite_bar0 s ha, write4_ignored s h hw hx])

/-- The MSI-X table takes address, data and a set mask bit while BAR4 answers (R365). -/
theorem exec_msixTable_write (s : State) (k : Fin 64) (v : Dword) (h : s.hostBar4 = true) :
    exec (.registerWrite (.msixAddr k) v) s = .next (s.act (fires fun s => s.msixAddrWrite k v)) ∧
    exec (.registerWrite (.msixData k) v) s =
      .next (s.act (fires fun s => s.msixDataWrite k (BitVec.ofNat 32 v.toNat))) ∧
    exec (.registerWrite (.msixMask k) v) s =
      .next (s.act (fires fun s => s.msixMaskWrite k (bit v.toNat 0))) :=
  ⟨exec_registerWrite (by simp [registerWrite, h]), exec_registerWrite (by simp [registerWrite, h]),
    exec_registerWrite (by simp [registerWrite, h])⟩

/-- Configuration space takes writes while the link is up (R358, R365). -/
theorem exec_config_write (s : State) (v : Dword) (h : s.pcie.linkUp = true) :
    (∀ k : Fin 3, exec (.registerWrite (.barBase k) v) s = .next (s.act (fires fun s => s.barWrite k v.toNat))) ∧
    exec (.registerWrite .msixEnable v) s = .next (s.act (fires fun s => s.msixEnable (bit v.toNat 0))) ∧
    (7 ≤ v.toNat → v.toNat ≤ 9 → exec (.registerWrite .maxPayload v) s = .next (s.act (fires fun s =>
      { s with pcie := { s.pcie with maxPayload := 2 ^ v.toNat } }))) ∧
    (7 ≤ v.toNat → v.toNat ≤ 12 → exec (.registerWrite .maxRead v) s = .next (s.act (fires fun s =>
      { s with pcie := { s.pcie with maxRead := 2 ^ v.toNat } }))) :=
  ⟨fun k => exec_registerWrite (by simp [registerWrite, pcieUp, h]),
    exec_registerWrite (by simp [registerWrite, pcieUp, h]),
    fun h7 h9 => exec_registerWrite (by simp [registerWrite, pcieUp, h, h7, h9]),
    fun h7 h12 => exec_registerWrite (by simp [registerWrite, pcieUp, h, h7, h12])⟩

/-- Settles O51, row by row: what reset, masks, places and access codes do is said by the lemmas above (log entries 10
and 16). -/
theorem hostBusRows : Obligations.HostBusRows := by
  refine ⟨fun s => rfl, dmaReset_dma, fun s _ _ => exec_pcieLinkReturn s, ?vector, ?function, ?clear,
    exec_bar0BadAccess, ?lowRead, ?highLatched, ?highEmpty, ?lowWrite, ?highWrite, ?closed, ?reserved, ?whole,
    ?plainRead, fun s o => (exec_bar4_read s o).1, fun s o => (exec_bar4_read s o).2, exec_bar4_write, ?bars,
    ?plainWrite, ?ignored, ?table, ?config⟩
  case vector =>
    intro s v hl hd he hf hb
    rw [exec_msixUnmask s _ hl hd]
    exact congrArg _ (act_congr (msixUnmask_vector_sent s v he hf hb))
  case function => exact fun s hl hd => exec_msixUnmask s .function hl hd
  case clear => exact fun s w v h => exec_irqPendClear s w v h
  case lowRead => exact fun s o x h hw hl ho => (exec_read4 (read4_low s h ho hw hl) rfl rfl).1
  case highLatched =>
    exact fun s o x h hh ho hk => (exec_read4 ((read4_high s h ho hh).trans (highRead_latched s x hk)) rfl rfl).2
  case highEmpty =>
    exact fun s o x h hh ho hk => (exec_read4 ((read4_high s h ho hh).trans (highRead_empty s x hk)) rfl rfl).2
  case lowWrite =>
    exact fun s o v x h hl hc hw hr ho => exec_reg64LowWrite s o v h hl ((writable64_iff s x).mpr ⟨hc, hw, hr, ho⟩)
  case highWrite =>
    exact fun s o v x low h hh hc hr ho hlow => exec_reg64HighWrite_dmaRingBase s o v h hh hc hr ho hlow
  case closed => exact fun s o x h _ hc => exec_read4 (read4_closed s h hc) rfl rfl
  case reserved => exact fun s o h => exec_read4 (read4_none s h) rfl rfl
  case whole => exact fun s o x h hw => run_to (read8_wide s h hw) rfl rfl
  case plainRead => exact fun s o x h hw ho hx => (exec_read4 (read4_plain s h ho hw hx) rfl rfl).1
  case bars => exact fun s k v hl _ => (exec_config_write s v hl).1 k
  case plainWrite => exact fun s o v x ha h hc hw ho hr => exec_write_plain s o v ha h hc hw ho hr
  case ignored => exact fun s o v x ha h hw hx => exec_write_ignored s o v ha h hw hx
  case table =>
    intro s k v hl hd h0
    obtain ⟨haddr, hdata, hmask⟩ := exec_msixTable_write s k v ((hostBar4_iff s).mpr ⟨hl, hd, h0⟩)
    exact ⟨haddr, hdata, fun hv => by rw [hmask, hv]; rfl⟩
  case config =>
    intro s v hl
    obtain ⟨-, henable, hpayload, hread⟩ := exec_config_write s v hl
    exact ⟨henable, hpayload, hread⟩

end Sys2Proof.Machine
end

section
/-!
PROOFS. The event invariant (R41, R416): every row keeps FIRED = DELIVERED + COALESCED + SUPPRESSED. All but a few rows
leave the counters alone until the firings of their cycle are performed; those few count firings, re-base, or bring the
core domain to its reset values.
-/

namespace Sys2Proof.Machine

/-- The event invariant holds in the state that an outcome answers. -/
def BalancedNext (o : Host.Outcome State Fault Refusal) : Prop := ∀ t, o = .next t → EvBalanced t.evf.cnt

/-! ## The forms of a row's meaning -/

theorem run_balanced {f : State → State} {s : State} (h : EvBalanced (f s).evf.cnt) : BalancedNext (run f s) := by
  intro t ht
  rw [(run_next f s t).mp ht]
  exact h

theorem when_balanced {f : State → State} (hf : ∀ t, EvBalanced t.evf.cnt → EvBalanced (f t).evf.cnt) (b : Bool)
    {s : State} (h : EvBalanced s.evf.cnt) : EvBalanced (when b f s).evf.cnt := by
  cases b
  · exact h
  · exact hf s h

theorem perform_balanced {f : State → State} {s : State} (h : EvBalanced (f s).evf.cnt) : BalancedNext (perform f s) :=
  run_balanced (State.settle_balanced _ h)

section
variable {s : State} (h : EvBalanced s.evf.cnt)
include h

theorem run_kept {f : State → State} (e : (f s).evf.cnt = s.evf.cnt) : BalancedNext (run f s) :=
  run_balanced (State.kept_balanced h e)

theorem perform_kept {f : State → State} (e : (f s).evf.cnt = s.evf.cnt) : BalancedNext (perform f s) :=
  perform_balanced (State.kept_balanced h e)

/-- A command keeps the invariant when its effect does; a refusal, a wait and the reply leave the counters alone. -/
theorem command_balanced {sp : CmdSpec} {c : HostCmd} (hl : ∀ t r, (sp.onLocked t c r).evf.cnt = t.evf.cnt)
    (hf : ∀ t, EvBalanced t.evf.cnt → EvBalanced (sp.app t c).1.evf.cnt) : BalancedNext (command sp c s) := by
  apply run_balanced
  have happ := hf (s.passHead c.qp) (by simpa using h)
  unfold hostCmd
  split_ifs with _ _ _ hsilent
  · exact h
  · simpa using h
  · exact h
  · dsimp only
    split
    · split_ifs <;> simpa [hl] using h
    · exact happ
  · dsimp only
    split
    · split_ifs <;> simpa [hl] using h
    · simpa using happ

theorem command_kept {sp : CmdSpec} {c : HostCmd} (hl : ∀ t r, (sp.onLocked t c r).evf.cnt = t.evf.cnt)
    (hf : ∀ t, (sp.app t c).1.evf.cnt = t.evf.cnt) : BalancedNext (command sp c s) :=
  command_balanced h hl fun t ht => State.kept_balanced ht (hf t)

theorem commandFires_kept {sp : CmdSpec} {c : HostCmd} (hl : ∀ t r, (sp.onLocked t c r).evf.cnt = t.evf.cnt)
    (hf : ∀ t, (sp.app t c).1.evf.cnt = t.evf.cnt) : BalancedNext (commandFires sp c s) :=
  perform_kept h (hostCmd_keeps (·.evf.cnt) sp c s (by simp) (by simp) (by simp) hl hf)

theorem dspRow_kept {q : Nat} {op : DspOp} {ecc : Ecc} {f : Nat → State → DspEnd} {second : Bool}
    (hf : ∀ w t, DspEnd.Kept t (f w t)) : BalancedNext (dspRow q op ecc f s second) := by
  obtain ⟨-, -, hcnt, -⟩ := State.issue_keeps s q op ecc f second hf
  exact perform_kept h hcnt

end

/-! ## Reset of the core domain (R481, R484) -/

namespace State

theorem domainReset_balanced (s : State) : EvBalanced s.domainReset.evf.cnt := by
  simp [domainReset, resetOf, Evf.reset, EvBalanced]

theorem dawn_balanced (s : State) (stage cause : Nat) : EvBalanced (s.dawn stage cause).evf.cnt := by
  simp only [dawn, setF_keeps, ite_evfcnt, ite_self]
  exact domainReset_balanced _

theorem dawnFromOff_balanced {s : State} (h : EvBalanced s.evf.cnt) : EvBalanced s.dawnFromOff.evf.cnt := by
  unfold dawnFromOff
  split
  · exact s.dawn_balanced 1 _
  · exact h

theorem coreOff_balanced {s : State} (h : EvBalanced s.evf.cnt) : EvBalanced s.coreOff.evf.cnt := by
  unfold coreOff
  split
  · exact h
  · simp only [setF_keeps]
    exact domainReset_balanced _

theorem perstAssert_balanced {s : State} (h : EvBalanced s.evf.cnt) : EvBalanced s.perstAssert.evf.cnt := by
  simp only [perstAssert]
  split_ifs
  · exact h
  · exact dawn_balanced _ 1 2
  · exact kept_balanced h (by simp)

theorem perstRelease_balanced {s : State} (h : EvBalanced s.evf.cnt) : EvBalanced s.perstRelease.evf.cnt := by
  simp only [perstRelease]
  split_ifs
  · exact h
  · exact h
  · exact kept_balanced h (by simp)
  · exact dawnFromOff_balanced h
  · exact dawn_balanced _ 1 2

theorem pgoodRise_balanced {s : State} (h : EvBalanced s.evf.cnt) (k : Nat) : EvBalanced (s.pgoodRise k).evf.cnt := by
  simp only [pgoodRise]
  split_ifs
  · exact kept_balanced h (by simp)
  · exact dawnFromOff_balanced h
  · exact dawnFromOff_balanced h
  · exact h

end State

/-! ## The rows -/

/-- The invariant over one row: the commands, the DSP instructions and the rows that perform firings by their form, the
rows that count, re-base or reset by their own lemmas, and all others because they leave the counters alone. -/
theorem exec_balanced (c : Instr) {s : State} (h : EvBalanced s.evf.cnt) : BalancedNext (exec c s) := by
  cases c with
  | sysReset c => exact command_balanced h (fun _ _ => rfl) fun t _ => t.dawn_balanced 2 3
  | perstAssert => exact run_balanced (State.perstAssert_balanced h)
  | perstRelease => exact run_balanced (State.perstRelease_balanced h)
  | coreRailsRemoved => exact run_balanced (State.coreOff_balanced h)
  | pgoodRise group => exact run_balanced (State.pgoodRise_balanced h group)
  | evfParityError chan => exact run_balanced (State.evRebase_balanced _)
  | evfFire word value =>
    exact perform_balanced (when_balanced
      (fun t ht => State.forEach_balanced _ (fun b u => u.fireChannel_balanced _) _ t ht) _ h)
  | registerWrite target value => exact perform_balanced (State.registerWrite_balanced s target _ h)
  | mirrorEvent port => exact perform_balanced (State.mirrorEvent_balanced s port h)
  | shotEnd jrnBad =>
    exact perform_balanced (when_balanced State.startsDue_balanced _ (State.kept_balanced h (by simp)))
  | reg64LowWrite offset value => exact run_kept h (by split <;> simp)
  | reg64HighWrite offset value => exact run_kept h (by split <;> simp)
  | dmaCompletionRx chan off reply ecc => exact perform_kept h (by cases reply <;> simp)
  | dspCtrl c =>
    refine command_kept h (fun _ _ => rfl) fun t => ?_
    simp only [dspCtrlSpec, justDo]
    split <;> simp
  | dspLoad c =>
    refine command_kept h (fun _ _ => rfl) fun t => ?_
    simp only [dspLoadSpec, justDo]
    split <;> simp
  | acqStop c => exact commandFires_kept h (fun _ _ => rfl) (by simp [acqStopSpec, justDo])
  | nop | arm | disarm | shotSchedule | runStop | shotAbort | dusk | safeExit | evtRoute | evtCommit | snapshot |
  thermConfig | dspRead | dspFeed | chRole | chOutput | chFdelay | synConfig | frameWrite | frameVzAdd | frameRead |
  tsetWrite | tsetRead | mrkClaim | mrkRelease | bdacConfig | bdacSlew | bdacListWrite | fbConfig | seqConfig |
  seqWrite | condWrite | streamDescWrite | streamOpen | streamClose | decAssign | decClear | rxConfig | toneWrite |
  kernelWrite | toneRead | acqConfig | acqStart | timeStep | timeUnlock | timeSlew | timeSyncCfg | timeSyncinArm |
  trigConfig | linkUp | linkDown | mirrorExport | mirrorRoute | calRun | calSave | calConfig | hkConfig | guardRaise |
  attest | certRead | lifecycleSet | ucodePatch | memPower | memTest | jrnConfig =>
    refine command_kept h ?_ ?_ <;> simp [justDo,
      nopSpec, armSpec, disarmSpec, shotScheduleSpec, runStopSpec, shotAbortSpec, duskSpec, safeExitSpec,
      evtRouteSpec, evtCommitSpec, snapshotSpec, thermConfigSpec, dspReadSpec, dspFeedSpec, chRoleSpec,
      chOutputSpec, chFdelaySpec, synConfigSpec, frameWriteSpec, frameVzAddSpec, frameReadSpec, tsetWriteSpec,
      tsetReadSpec, mrkClaimSpec, mrkReleaseSpec, bdacConfigSpec, bdacSlewSpec, bdacListWriteSpec, fbConfigSpec,
      seqConfigSpec, seqWriteSpec, condWriteSpec, streamDescWriteSpec, streamOpenSpec, streamCloseSpec,
      decAssignSpec, decClearSpec, rxConfigSpec, toneWriteSpec, kernelWriteSpec, toneReadSpec, acqConfigSpec,
      acqStartSpec, timeStepSpec, timeUnlockSpec, timeSlewSpec, timeSyncCfgSpec, timeSyncinArmSpec,
      trigConfigSpec, linkUpSpec, linkDownSpec, mirrorExportSpec, mirrorRouteSpec, calRunSpec, calSaveSpec,
      calConfigSpec, hkConfigSpec, guardRaiseSpec, attestSpec, certReadSpec, lifecycleSetSpec, ucodePatchSpec,
      memPowerSpec, memTestSpec, jrnConfigSpec]
  | dspAdd | dspSub | dspAnd | dspOr | dspXor | dspShl | dspShr | dspSar | dspMul | dspAddi | dspMovi | dspMovhi |
  dspCadds | dspCsubs | dspCrotq | dspNorm | dspExp | dspNormA | dspExpA | dspBexpL | dspCmul | dspCmac | dspCmul2 |
  dspCmac2 | dspCrnd | dspMva | dspMvah | dspLdB | dspLdH | dspLdW | dspLdD | dspStB | dspStH | dspStW | dspStD | dspB
  | dspBeqz | dspBnez | dspBltz | dspBgez | dspDbnz | dspRepeat | dspMvc | dspMvct | dspReti | dspHalt | dspWaiti |
  dspIen | dspIdis =>
    exact dspRow_kept h (fun w t => by simp)
  | guardForce | evfTimerFire | acqSwtrig | bar2Read | shotStartFetch | shotStartTick | abortStopLimit |
  segmentBoundary | specSelect | waitResume | waitTimeout | granuleBoundary | streamFetchArrival | toneDecision |
  rxOverrange | bdacOvertemp | bdacSlewStep | bdacHoldRelease | triginEdge | acqRecordCommit | acqOverflow |
  acqStreamLengthDone | jrnSpillWrite | jrnTailRefill | jrnDrain | dmaRequestIssue | scrubLine | rxGroup =>
    exact perform_kept h (by simp)
  | _ => exact run_kept h (by simp)

/-- Settles O29: a cycle of the clock keeps the invariant, and so does every row. -/
theorem eventInvariantKept : Obligations.EventInvariantKept := by
  intro s t h hstep
  unfold step at hstep
  split at hstep
  · exact run_balanced (s.tick_balanced h) t hstep
  · next c rest _ => exact exec_balanced c (s := { s with pending := rest }) h t hstep

end Sys2Proof.Machine
end

section
/-!
PROOFS. What leaves the shot, the voices' waits and the device state as they were: every delivery of an event but that of a
start, and what the end of a shot does to the voices, the streams, the decision file and the journal.
-/

namespace Sys2Proof.Machine

/-- The shot, the waits and the device state. -/
def State.shotView (s : State) : Shot × SMap (Option Wait) × Nat := (s.shot, s.waits, s.dev)

namespace State

theorem shotView_eq {s t : State} (h : s.shotView = t.shotView) : s.shot = t.shot ∧ s.waits = t.waits ∧ s.dev = t.dev := by
  simpa only [shotView, Prod.mk.injEq] using h

/-! ## Registers, interrupts and records -/

@[simp] theorem wr_shotView (s : State) (r : Reg) (i v : Nat) (h : .glbDevState ≠ r) : (s.wr r i v).shotView = s.shotView := by
  simp only [shotView, dev, fld_wr_reg s r .glbDevStateState i 0 v h]
  rfl

@[simp] theorem raise_shotView (s : State) (r : Reg) (i m : Nat) : (s.raise r i m).shotView = s.shotView := rfl

@[simp] theorem setF_shotView (s : State) (f : Fld) (i v : Nat) (h : .glbDevState ≠ f.reg) :
    (s.setF f i v).shotView = s.shotView := wr_shotView s f.reg i _ h

@[simp] theorem setB_shotView (s : State) (f : Fld) (i : Nat) (b : Bool) (h : .glbDevState ≠ f.reg) :
    (s.setB f i b).shotView = s.shotView := wr_shotView s f.reg i _ h

@[simp] theorem bumpBy_shotView (s : State) (r : Reg) (i n : Nat) (h : .glbDevState ≠ r) :
    (s.bumpBy r i n).shotView = s.shotView := wr_shotView _ r i _ h

@[simp] theorem bump_shotView (s : State) (r : Reg) (i : Nat) (h : .glbDevState ≠ r) :
    (s.bump r i).shotView = s.shotView := wr_shotView _ r i _ h

@[simp] theorem bumpHeld_shotView (s : State) (r : Reg) (i : Nat) (h : .glbDevState ≠ r) :
    (s.bumpHeld r i).shotView = s.shotView := by
  unfold bumpHeld
  split
  · rfl
  · exact bump_shotView s r i h

@[simp] theorem unbump_shotView (s : State) (r : Reg) (i : Nat) (h : .glbDevState ≠ r) :
    (s.unbump r i).shotView = s.shotView := by
  simp only [unbump]
  split
  · exact wr_shotView s r i _ h
  · rfl

@[simp] theorem after_shotView (s : State) (c : Nat) (e : Later) : (s.after c e).shotView = s.shotView := rfl
@[simp] theorem signal_shotView (s : State) (p : Nat) : (s.signal p).shotView = s.shotView := rfl
@[simp] theorem setEvf_shotView (s : State) (e : Evf) : (s.setEvf e).shotView = s.shotView := rfl
@[simp] theorem updChan_shotView (s : State) (n : Nat) (f : Och → Och) : (s.updChan n f).shotView = s.shotView := rfl
@[simp] theorem updVoice_shotView (s : State) (n v : Nat) (f : Voice → Voice) : (s.updVoice n v f).shotView = s.shotView := rfl
@[simp] theorem setCore_shotView (s : State) (q : Nat) (c : Core) : (s.setCore q c).shotView = s.shotView := rfl
@[simp] theorem setPin_shotView (s : State) (m : Nat) (p : Pin) : (s.setPin m p).shotView = s.shotView := rfl
@[simp] theorem updPort_shotView (s : State) (n : Nat) (f : Port → Port) : (s.updPort n f).shotView = s.shotView := rfl
@[simp] theorem setAcq_shotView (s : State) (u : Nat) (a : Acq) : (s.setAcq u a).shotView = s.shotView := rfl
@[simp] theorem updAcq_shotView (s : State) (u : Nat) (f : Acq → Acq) : (s.updAcq u f).shotView = s.shotView := rfl
@[simp] theorem setJrn_shotView (s : State) (j : Jrn) : (s.setJrn j).shotView = s.shotView := rfl
@[simp] theorem jrnCount_shotView (s : State) (st co re dr lo : Nat) :
    (s.jrnCount st co re dr lo).shotView = s.shotView := rfl

@[simp] theorem forEach_shotView {α : Type} (f : α → State → State) (h : ∀ a t, (f a t).shotView = t.shotView) (l : List α)
    (s : State) : (forEach l f s).shotView = s.shotView := forEach_keeps shotView f h l s

@[simp] theorem when_shotView (f : State → State) (h : ∀ t, (f t).shotView = t.shotView) (c : Bool) (s : State) :
    (when c f s).shotView = s.shotView := when_keeps shotView f h c s

@[simp] theorem msixSend_shotView (s : State) (v : Nat) : (s.msixSend v).shotView = s.shotView := by
  unfold msixSend
  split_ifs <;> rfl

@[simp] theorem irq_shotView (s : State) (v : Nat) : (s.irq v).shotView = s.shotView := by
  unfold irq
  by_cases h : v < 32 <;> simp only [h, if_true, if_false] <;> split <;> simp

/-! ## Deliveries of events (R412) -/

@[simp] theorem stormCheck_shotView (s : State) (ch : Nat) : (s.stormCheck ch).shotView = s.shotView := by
  unfold stormCheck
  split <;> rfl

@[simp] theorem stormFiring_shotView (s : State) (ch : Nat) : (s.stormFiring ch).shotView = s.shotView := by
  simp [stormFiring]

@[simp] theorem evCount_shotView (s : State) (f d c u : Nat) : (s.evCount f d c u).shotView = s.shotView := rfl

@[simp] theorem snapLatch_shotView (s : State) : s.snapLatch.shotView = s.shotView := by
  unfold snapLatch
  split
  · split
    · simp only [setEvf_shotView]
      rw [wr_shotView _ _ _ _ (by decide), setF_shotView _ _ _ _ (by decide), wr_shotView _ _ _ _ (by decide)]
      rfl
    · rfl
  · rfl

@[simp] theorem snapTrigger_shotView (s : State) (n : Nat) : (s.snapTrigger n).shotView = s.shotView := by
  simp only [snapTrigger]
  split_ifs <;> simp

@[simp] theorem hostEvent_shotView (s : State) (ch : Nat) : (s.hostEvent ch).shotView = s.shotView := by
  simp [hostEvent]

@[simp] theorem asyncOne_shotView (s : State) (n v : Nat) : (s.asyncOne n v).shotView = s.shotView := by
  unfold asyncOne
  split
  · split <;> simp
  · simp

@[simp] theorem einEvent_shotView (s : State) (n k : Nat) : (s.einEvent n k).shotView = s.shotView := by
  have hlatch := forEach_shotView (fun v (t : State) => t.updVoice n v fun x => { x with
    chain := x.chain.map (latchEvent t.cyc k)
    spec := x.spec.map (fun p => { p with lane := latchEvent t.cyc k p.lane, hist := p.hist.map (latchEvent t.cyc k) })
    hist := x.hist.map (latchEvent t.cyc k) }) (fun _ _ => rfl) (List.range 8) s
  simp only [einEvent]
  split
  · exact (forEach_shotView _ (fun v t => t.asyncOne_shotView n v) _ _).trans hlatch
  · exact hlatch

@[simp] theorem coreLine_shotView (s : State) (q i : Nat) : (s.coreLine q i).shotView = s.shotView := by
  simp only [coreLine]
  split <;> rfl

@[simp] theorem pinEdge_shotView (s : State) (m t : Nat) (a : Bool) : (s.pinEdge m t a).shotView = s.shotView := by
  simp only [pinEdge]
  split
  · split <;> simp
  · rfl

@[simp] theorem pinPulse_shotView (s : State) (m t w : Nat) : (s.pinPulse m t w).shotView = s.shotView := by
  simp only [pinPulse]
  split
  · split <;> simp
  · simp

@[simp] theorem linkEvent_shotView (s : State) (n : Nat) : (s.linkEvent n).shotView = s.shotView := by
  simp only [linkEvent, sendTo, sendBlocks]
  split
  · split <;> simp
  · simp

@[simp] theorem bar2Store_shotView (s : State) (a : Nat) (b : List Byte) : (s.bar2Store a b).shotView = s.shotView := by
  unfold bar2Store
  rfl

@[simp] theorem acqLand_shotView (s : State) (u k : Nat) (e : BitVec 256) : (s.acqLand u k e).shotView = s.shotView :=
  when_shotView _ (fun t => t.bar2Store_shotView _ _) _ s

@[simp] theorem acqRecEntry_shotView (s : State) (u : Nat) (past : Bool) (r : Rec) (e : Nat × BitVec 256) :
    (s.acqRecEntry u past r e).2.shotView = s.shotView := by
  unfold acqRecEntry acqStore
  split_ifs <;> simp

/-- What each step of a loop over a record and the state keeps, the whole loop keeps. -/
theorem foldl_shotView {α : Type} (f : Rec × State → α → Rec × State) (h : ∀ q a, (f q a).2.shotView = q.2.shotView)
    (l : List α) (q : Rec × State) : (l.foldl f q).2.shotView = q.2.shotView := by
  induction l generalizing q with
  | nil => rfl
  | cons a l ih => rw [List.foldl_cons, ih, h]

@[simp] theorem acqRecCycle_shotView (s : State) (u : Nat) (r : Rec) (c : Nat) (v : BitVec 256) (past : Bool) :
    (s.acqRecCycle u r c v past).2.shotView = s.shotView := by
  unfold acqRecCycle
  split
  · rfl
  · exact foldl_shotView _ (fun q e => q.2.acqRecEntry_shotView u past q.1 e) _ _

@[simp] theorem acqOpen_shotView (s : State) (u : Nat) (t : AcqTrig) : (s.acqOpen u t).shotView = s.shotView := by
  simp only [acqOpen, updAcq_shotView]
  rw [setF_shotView _ _ _ _ (by decide), when_shotView _ (fun t => by simp)]
  exact foldl_shotView _ (fun q (h : Nat × BitVec 256) => q.2.acqRecCycle_shotView u q.1 h.1 h.2 true) _ _

@[simp] theorem acqTake_shotView (s : State) (u : Nat) (t : AcqTrig) : (s.acqTake u t).shotView = s.shotView := by
  simp only [acqTake]
  split_ifs <;> simp

@[simp] theorem acqDecide_shotView (s : State) (u : Nat) (t : AcqTrig) (hold : Nat) :
    (s.acqDecide u t hold).shotView = s.shotView := by
  simp only [acqDecide, acqAccept]
  split_ifs <;> simp

@[simp] theorem acqTrig1_shotView (s : State) (u : Nat) (t : AcqTrig) : (s.acqTrig1 u t).1.shotView = s.shotView := by
  simp only [acqTrig1, acqRestamp, acqRemark]
  (repeat' split) <;> simp

@[simp] theorem acqEvent_shotView (s : State) (u : Nat) : (s.acqEvent u).shotView = s.shotView := by
  simp only [acqEvent, acqTrigNow, acqTrigger]
  split_ifs <;> simp

/-- Only the start input changes the shot or the device state. -/
theorem consume_shotView (s : State) (ch : Nat) {input : Nat} (h : input ≠ 0) :
    (s.consume ch input).shotView = s.shotView := by
  unfold consume
  rw [if_neg h]
  split_ifs <;> simp [pinEvent]

/-! ## The end of a shot (R28, R120, R344) -/

@[simp] theorem idleVoice_shotView (s : State) (n v : Nat) : (s.idleVoice n v).shotView = s.shotView := by
  simp [idleVoice, dropAsync]

@[simp] theorem decShotEnd_shotView (s : State) : s.decShotEnd.shotView = s.shotView := by
  unfold decShotEnd
  exact forEach_shotView _ (fun _ _ => by rfl) _ s

@[simp] theorem strmShotEnd_shotView (s : State) : s.strmShotEnd.shotView = s.shotView := by
  unfold strmShotEnd
  exact forEach_shotView _ (fun _ _ => by rfl) _ s

@[simp] theorem jrnRefill_shotView (s : State) : s.jrnRefill.shotView = s.shotView := by
  simp only [jrnRefill]
  split
  · rfl
  · split <;> rfl

@[simp] theorem jrnSpill_shotView (s : State) : s.jrnSpill.shotView = s.shotView := by
  unfold jrnSpill
  split
  · split <;> rfl
  · rfl

@[simp] theorem jrnDiscard_shotView (s : State) : s.jrnDiscard.shotView = s.shotView := by
  simp only [jrnDiscard]
  split <;> rfl

@[simp] theorem jrnRoom_shotView (n : Nat) (s : State) : (s.jrnRoom n).shotView = s.shotView := by
  induction n generalizing s with
  | zero => rfl
  | succ n ih =>
    unfold jrnRoom
    split_ifs <;> simp [ih]

@[simp] theorem jrnStart_shotView (s : State) (p : Packet) : (s.jrnStart p).shotView = s.shotView := by simp [jrnStart]

@[simp] theorem jrnCommit_shotView (s : State) (cont : Bool) (outcome cause taint length : Nat) :
    (s.jrnCommit cont outcome cause taint length).shotView = s.shotView := by
  unfold jrnCommit
  split <;> simp

@[simp] theorem jrnFinal_shotView (s : State) : s.jrnFinal.shotView = s.shotView := by
  unfold jrnFinal
  split
  · dsimp only
    split <;> simp
  · rfl

@[simp] theorem closeJournal_shotView (s : State) (cause : Option Nat) (taint : BitVec 8) (length : Nat) :
    (s.closeJournal cause taint length).shotView = s.shotView := by
  simp only [closeJournal]
  split_ifs <;> simp

end State

end Sys2Proof.Machine
end

section
/-!
PROOFS. The reset state, and the commands and rows of the shot controller.
-/

namespace Sys2Proof.Machine

/-! ## Reset (R20, R483, R505) -/

/-- The register store of the reset state lists nothing: every register shows its reset value. -/
theorem State.rd_reset (r : Reg) (i : Nat) : State.reset.rd r i = r.rst i % 2 ^ 64 := BitVec.toNat_ofNat _ _

/-- Settles O57: the registers by `State.rd_reset`, the rest of the reset state as it is written down. -/
theorem resetState : Obligations.ResetState :=
  ⟨State.rd_reset, by decide, by decide, rfl, rfl, by decide, rfl, rfl, rfl, rfl, by decide, rfl, rfl, rfl, rfl⟩

/-! ## Commands (R397, R398, R405) -/

open State

/-- An accepted command that answers `OK` with nothing to report, from what its effect is once its slot has passed. -/
theorem command_done {sp : CmdSpec} {c : HostCmd} {s : State} {f : State → State} (h : Accepted sp c s)
    (hs : sp.silent = false) (happ : sp.app (s.passHead c.qp) c = (f (s.passHead c.qp), {})) :
    command sp c s = .next (s.act (done c f)) := by
  rw [command_accepted sp c s h hs]
  refine congrArg _ (act_congr ?_)
  simp only [happ]
  rfl

namespace State

theorem ucodeVer_passHead (s : State) (q : Nat) : (s.passHead q).ucodeVer = s.ucodeVer := by simp [ucodeVer]

theorem shotOn_passHead (s : State) (q : Nat) : (s.passHead q).shotOn = s.shotOn := by simp [shotOn]

theorem shotOn_of_running {s : State} (h : s.shot.running = true) : s.shotOn = true := by simp [shotOn, h]

theorem shotOn_of_accepted {s : State} (h : s.shot.accepted ≠ none) : s.shotOn = true := by
  simp [shotOn, Option.isSome_iff_ne_none.mpr h]

end State

section
variable {s : State} {c : HostCmd}

/-- RUN_STOP with a shot running or accepted stops further starts; without one the device enters IDLE. -/
theorem runStop_app (s : State) (c : HostCmd) : runStopSpec.app s c =
    (if s.shotOn then { s with shot := { s.shot with stopping := true, sched := none } } else s.toIdle, {}) := rfl

/-- SHOT_ABORT without a shot: the run stops where STOP asks for it. -/
theorem shotAbort_app_off (h : s.shotOn = false) :
    shotAbortSpec.app s c = (if bit (pByte c 16) 0 then s.toIdle else s, {}) := by
  simp [shotAbortSpec, justDo, h]

/-- SHOT_ABORT with a running shot aborts it. -/
theorem shotAbort_app_running (h : s.shot.running = true) : shotAbortSpec.app s c =
    ((if bit (pByte c 16) 0 then { s with shot := { s.shot with stopping := true, sched := none } } else s).abortShot 2,
      {}) := by
  cases hb : bit (pByte c 16) 0 <;> simp [shotAbortSpec, justDo, shotOn_of_running h, h, hb]

/-- SHOT_ABORT without STOP leaves an accepted shot to abort at its start tick. -/
theorem shotAbort_app_accepted (hr : s.shot.running = false) (ha : s.shot.accepted ≠ none)
    (hb : bit (pByte c 16) 0 = false) :
    shotAbortSpec.app s c = ({ s with shot := { s.shot with abortAtTick := 2 } }, {}) := by
  simp [shotAbortSpec, justDo, shotOn_of_accepted ha, hr, hb]

end

/-- Settles O7: each command's effect in the state whose ring slot has passed, which has the same shot. -/
theorem shotCommandsApply : Obligations.ShotCommandsApply := by
  refine ⟨?nop, ?arm, ?disarm, ?schedule, ?stopLater, ?stopNow, ?abort, ?abortStop, ?abortAtTick, ?idle, ?nothing⟩
  case nop =>
    intro s c h
    refine (command_accepted nopSpec c s h rfl).trans (congrArg _ (act_congr ?_))
    simp only [nopSpec, ucodeVer_passHead]
    rfl
  case arm => exact fun s c h => command_done h rfl rfl
  case disarm => exact fun s c h => command_done h rfl rfl
  case schedule => exact fun s c h => command_done h rfl rfl
  case stopLater =>
    intro s c h hon
    exact command_done h rfl (by rw [runStop_app, shotOn_passHead, hon]; rfl)
  case stopNow =>
    intro s c h hoff
    exact command_done h rfl (by rw [runStop_app, shotOn_passHead, hoff]; rfl)
  case abort =>
    intro s c h hrun hstop
    exact command_done h rfl (by rw [shotAbort_app_running (by simpa using hrun), hstop]; rfl)
  case abortStop =>
    intro s c h hrun hstop
    exact command_done h rfl (by rw [shotAbort_app_running (by simpa using hrun), hstop]; rfl)
  case abortAtTick =>
    intro s c h hrun hacc hstop
    exact command_done h rfl (shotAbort_app_accepted (by simpa using hrun) (by simpa using hacc) hstop)
  case idle =>
    intro s c h hoff hstop
    exact command_done h rfl (by rw [shotAbort_app_off (by rwa [shotOn_passHead]), hstop]; rfl)
  case nothing =>
    intro s c h hoff hstop
    exact command_done h rfl (by rw [shotAbort_app_off (by rwa [shotOn_passHead]), hstop]; rfl)

/-! ## Starts (R29, R30, R119, R490) -/

namespace State

theorem dev_setDev (s : State) {d : Nat} (h : d < 8) : (s.setDev d).dev = d := by
  unfold setDev
  split
  · assumption
  · obtain ⟨-, -, hirq⟩ := shotView_eq ((s.setF .glbDevStateState 0 d).irq_shotView 2)
    rw [hirq, dev, fld_setF_same s .glbDevStateState 0 d (by decide)]
    exact Nat.mod_eq_of_lt h

/-- A change of the device state leaves the shot and the waits alone. -/
theorem setDev_shot_waits (s : State) (d : Nat) : (s.setDev d).shot = s.shot ∧ (s.setDev d).waits = s.waits := by
  unfold setDev
  split
  · exact ⟨rfl, rfl⟩
  · obtain ⟨hshot, hwaits, -⟩ := shotView_eq ((s.setF .glbDevStateState 0 d).irq_shotView 2)
    exact ⟨hshot, hwaits⟩

theorem dev_of_mayStart {s : State} (h : s.mayStart = true) : s.dev = 3 ∨ s.dev = 4 := by
  simp only [mayStart, Bool.and_eq_true] at h
  simpa using h.1.1.1.1.1

theorem startMade_dev (s : State) : s.startMade.dev = 4 := dev_setDev _ (by decide)

theorem startMade_shot (s : State) : s.startMade.shot = { s.shot with
    accepted := some (s.cyc + 32)
    started := s.shot.started + 1
    sched := if s.shot.count != 0 && s.shot.started + 1 == s.shot.count then none else s.shot.sched } :=
  (setDev_shot_waits _ 4).1

theorem startMade_waits (s : State) : s.startMade.waits = s.waits := (setDev_shot_waits _ 4).2

theorem startIgnored_of_free {s : State} (h : s.startHeld = false) : s.startIgnored = s.bump .glbStartIgnored := by
  simp [startIgnored, h]

theorem startIgnored_of_held {s : State} (h : s.startHeld = true) (hd : s.dev = 3 ∨ s.dev = 4) :
    s.startIgnored = (s.bump .glbStartIgnored).bump .thermThrottleHold := by
  rcases hd with hd | hd <;> simp [startIgnored, h, hd]

theorem served_of_armed {s : State} (hd : s.dev = 3 ∨ s.dev = 4) : s.served = true := by
  rcases hd with hd | hd <;> simp [served, hd]

theorem startEvent_of_not {s : State} (h : s.mayStart = false) (hs : s.served = true) : s.startEvent = s.startIgnored := by
  simp [startEvent, h, hs]

/-- The decision on a scheduled start in its cycle: the tick is spent, and what may start does not depend on it. -/
theorem schedDecision_due {s : State} {t : Nat} (hs : s.shot.sched = some t) (ht : t = s.stIn 32) :
    s.schedDecision = if s.mayStart then startMade { s with shot := { s.shot with sched := none } }
      else startIgnored { s with shot := { s.shot with sched := none } } := by
  simp only [schedDecision, hs, ht, if_true]
  rfl

end State

/-- Settles O10: each row's effect where its condition holds. -/
theorem startRows : Obligations.StartRows := by
  refine ⟨?made, ?state, ?ignored, ?held, ?schedMade, ?schedIgnored, ?fetch, ?tick⟩
  case made => exact fun s h => run_act (if_pos h)
  case state =>
    intro s _
    refine ⟨s.startMade_dev, ?_⟩
    rw [startMade_shot]
    refine ⟨rfl, rfl, fun h => ?_, fun h => ?_⟩
    · simp [h]
    · simp [Ne.symm h]
  case ignored =>
    intro s h hfree hserved
    exact run_act ((startEvent_of_not h hserved).trans (startIgnored_of_free hfree))
  case held =>
    intro s h hheld hd
    exact run_act ((startEvent_of_not h (served_of_armed hd)).trans (startIgnored_of_held hheld hd))
  case schedMade =>
    intro s t hs ht h
    exact run_act ((schedDecision_due hs ht).trans (if_pos h))
  case schedIgnored =>
    intro s t hs ht h hfree
    exact run_act (((schedDecision_due hs ht).trans (if_neg (Bool.not_eq_true _ ▸ h))).trans (startIgnored_of_free hfree))
  case fetch =>
    intro s h
    exact perform_act (by simp only [startFetch, h, if_true])
  case tick =>
    intro s h
    exact perform_act (by simp only [startTick, h, beq_self_eq_true, if_true])

end Sys2Proof.Machine
end

section
/-!
PROOFS. The end of a shot, and what the starts and firings of its cycle leave of it.
-/

namespace Sys2Proof.Machine
open State

/-! ## What follows in the cycle of a shot's end (R30, R36, R413) -/

/-- A shot that has ended stays so, and a device that is not ARMED keeps its state. -/
structure EndKept (s t : State) : Prop where
  running : t.shot.running = s.shot.running
  abort : t.shot.abort = s.shot.abort
  lastEnd : t.shot.lastEnd = s.shot.lastEnd
  length : t.shot.length = s.shot.length
  part : t.shot.part = s.shot.part
  startEvt : t.shot.startEvt = s.shot.startEvt
  waits : t.waits = s.waits
  dev : s.dev ≠ 3 → t.dev = s.dev

namespace EndKept

theorem of_shotView {s t : State} (h : t.shotView = s.shotView) : EndKept s t := by
  obtain ⟨hshot, hwaits, hdev⟩ := shotView_eq h
  constructor <;> simp only [hshot, hwaits, hdev, implies_true]

theorem trans {s t u : State} (h : EndKept s t) (k : EndKept t u) : EndKept s u where
  running := k.running.trans h.running
  abort := k.abort.trans h.abort
  lastEnd := k.lastEnd.trans h.lastEnd
  length := k.length.trans h.length
  part := k.part.trans h.part
  startEvt := k.startEvt.trans h.startEvt
  waits := k.waits.trans h.waits
  dev hs := (k.dev (h.dev hs ▸ hs)).trans (h.dev hs)

theorem forEach {α : Type} (f : α → State → State) (hf : ∀ a t, EndKept t (f a t)) (l : List α) (s : State) :
    EndKept s (forEach l f s) := by
  induction l generalizing s with
  | nil => exact of_shotView rfl
  | cons a l ih => exact (hf a s).trans (ih _)

end EndKept

namespace State

theorem startMade_endKept {s : State} (h : s.mayStart = true) : EndKept s s.startMade := by
  have hdev : s.dev ≠ 3 → s.startMade.dev = s.dev := fun h3 =>
    s.startMade_dev.trans ((dev_of_mayStart h).resolve_left h3).symm
  constructor
  case dev => exact hdev
  case waits => exact s.startMade_waits
  all_goals rw [startMade_shot]

theorem startIgnored_shotView (s : State) : s.startIgnored.shotView = s.shotView := by simp [startIgnored]

theorem startEvent_endKept (s : State) : EndKept s s.startEvent := by
  unfold startEvent
  split
  · exact startMade_endKept ‹_›
  · exact .of_shotView (when_shotView _ startIgnored_shotView _ s)

theorem consume_endKept (s : State) (ch input : Nat) : EndKept s (s.consume ch input) := by
  by_cases h : input = 0
  · subst h
    exact s.startEvent_endKept
  · exact .of_shotView (s.consume_shotView ch h)

theorem fireChannel_endKept (s : State) (ch : Nat) : EndKept s (s.fireChannel ch) := by
  simp only [fireChannel]
  split_ifs
  · exact .of_shotView (by simp)
  · exact .of_shotView (by simp)
  · exact (EndKept.of_shotView (by simp)).trans (consume_endKept _ ch _)

theorem fire_endKept (s : State) (p : Nat) : EndKept s (s.fire p) :=
  EndKept.forEach _ (fun ch t => t.fireChannel_endKept ch) _ s

theorem settle_endKept (s : State) : EndKept s s.settle :=
  (EndKept.of_shotView (by rfl)).trans (EndKept.forEach _ (fun p t => t.fire_endKept p) _ _)

theorem startsDue_endKept (s : State) : EndKept s s.startsDue := by
  unfold startsDue
  split
  · exact (EndKept.of_shotView (by rfl)).trans (EndKept.forEach _ (fun p t => t.fire_endKept p) _ _)
  · exact .of_shotView rfl

/-! ## The row of the end (R28, R397) -/

/-- The shot's channels stop, and the decision file and the streams take the end. -/
def endIdle (s : State) : State :=
  (forEach s.shotChans (fun n s =>
    (forEach (List.range 8) (fun v s => s.idleVoice n v) s).updChan n fun o => { o with stopping := false }) s)
    |>.decShotEnd.strmShotEnd

/-- The shot's record after its end. -/
def endedShot (s : State) : Shot := { s.shot with
  running := false, lastEnd := some s.shotEndCyc, length := s.shotEndCyc - s.shot.startCyc
  hold := s.shotEndCyc + s.endIdle.startHold (s.shotEndCyc - s.shot.startCyc), abort := none, taint := 0 }

/-- The sets committed at the end of the shot are handed over in the next cycle. -/
def endHandOvers (s : State) : State :=
  forEach (List.range s.variant.ochCount) (fun n s =>
    forEach ((List.range 9).filter (s.committed n)) (fun set s => s.after (s.cyc + 1) (.handOver n set)) s) s

/-- What the row of an end that is due leaves before the device state follows from it. -/
def endClosed (s : State) : State :=
  let t := s.endIdle
  let l := s.shotEndCyc - s.shot.startCyc
  let u : State := { t with waits := [], shot := { t.shot with
    running := false, lastEnd := some s.shotEndCyc, length := l, hold := s.shotEndCyc + t.startHold l, abort := none,
    taint := 0 } }
  (u.endHandOvers.closeJournal (s.shot.abort.map (·.1)) s.shot.taint l).signal prodShotEnd

theorem endIdle_shotView (s : State) : s.endIdle.shotView = s.shotView := by
  unfold endIdle
  rw [strmShotEnd_shotView, decShotEnd_shotView, forEach_shotView]
  intro n t
  rw [updChan_shotView, forEach_shotView _ fun v u => u.idleVoice_shotView n v]

theorem endHandOvers_shotView (s : State) : s.endHandOvers.shotView = s.shotView := by
  unfold endHandOvers
  exact forEach_shotView _ (fun n t => forEach_shotView _ (fun _ _ => by rfl) _ t) _ s

theorem endClosed_shotView (s : State) : s.endClosed.shotView = (s.endedShot, [], s.dev) := by
  obtain ⟨hshot, -, hdev⟩ := shotView_eq s.endIdle_shotView
  unfold endClosed endedShot
  rw [signal_shotView, closeJournal_shotView, endHandOvers_shotView, ← hshot, ← hdev]
  rfl

theorem endClosed_fields (s : State) :
    s.endClosed.shot = s.endedShot ∧ s.endClosed.waits = [] ∧ s.endClosed.dev = s.dev := by
  simpa only [shotView, Prod.mk.injEq] using s.endClosed_shotView

theorem shotEnd_due {s : State} (h : s.shotOver = true) (hm : s.shotEndCyc ≤ s.cyc) : s.shotEnd =
    if s.endClosed.dev = 4 then (if s.endClosed.runOver then s.endClosed.toIdle else s.endClosed)
    else s.endClosed.dropProgram :=
  if_pos (by simp only [h, hm, decide_true, Bool.and_self])

theorem shotEnd_of_not_over {s : State} (h : s.shotOver = false) : s.shotEnd = s := by simp [shotEnd, h]

/-- Without its program the shot keeps what the end has recorded. -/
theorem dropProgram_shot_waits (s : State) :
    s.dropProgram.shot = { s.shot with startEvt := none, sched := none, part := ⟨0, 0, 0⟩ } ∧
      s.dropProgram.waits = s.waits := by
  unfold dropProgram dropBinding
  split <;> exact ⟨rfl, rfl⟩

theorem toIdle_shot_waits (s : State) :
    s.toIdle.shot = { s.shot with startEvt := none, sched := none, part := ⟨0, 0, 0⟩ } ∧ s.toIdle.waits = s.waits := by
  obtain ⟨hshot, hwaits⟩ := setDev_shot_waits s.dropProgram 2
  exact ⟨hshot.trans s.dropProgram_shot_waits.1, hwaits.trans s.dropProgram_shot_waits.2⟩

theorem toIdle_dev (s : State) : s.toIdle.dev = 2 := dev_setDev _ (by decide)

/-- Whatever the device state, the shot has ended and its record says so. -/
theorem shotEnd_ended {s : State} (h : s.shotOver = true) (hm : s.shotEndCyc ≤ s.cyc) :
    s.shotEnd.shot.running = false ∧ s.shotEnd.shot.abort = none ∧ s.shotEnd.waits = [] ∧
      s.shotEnd.shot.lastEnd = some s.shotEndCyc ∧ s.shotEnd.shot.length = s.shotEndCyc - s.shot.startCyc := by
  obtain ⟨hshot, hwaits, -⟩ := s.endClosed_fields
  rw [shotEnd_due h hm]
  split_ifs
  · rw [(toIdle_shot_waits _).1, (toIdle_shot_waits _).2, hshot, hwaits]
    exact ⟨rfl, rfl, rfl, rfl, rfl⟩
  · rw [hshot, hwaits]
    exact ⟨rfl, rfl, rfl, rfl, rfl⟩
  · rw [(dropProgram_shot_waits _).1, (dropProgram_shot_waits _).2, hshot, hwaits]
    exact ⟨rfl, rfl, rfl, rfl, rfl⟩

/-- The end of a running device's shot: IDLE without its program when the run is over, else RUNNING with it. -/
theorem shotEnd_running {s : State} (h : s.shotOver = true) (hm : s.shotEndCyc ≤ s.cyc) (hd : s.dev = 4) :
    (s.runOver = true → s.shotEnd.dev = 2 ∧ s.shotEnd.shot.part = ⟨0, 0, 0⟩ ∧ s.shotEnd.shot.startEvt = none) ∧
      (s.runOver = false → s.shotEnd.dev = 4 ∧ s.shotEnd.shot.part = s.shot.part) := by
  obtain ⟨hshot, -, hdev⟩ := s.endClosed_fields
  have hdev4 : s.endClosed.dev = 4 := hdev.trans hd
  have hover : s.endClosed.runOver = s.runOver := by simp only [runOver, hshot, endedShot]
  rw [shotEnd_due h hm, if_pos hdev4, hover]
  constructor
  · intro hr
    obtain ⟨hidle, -⟩ := toIdle_shot_waits s.endClosed
    rw [if_pos hr]
    exact ⟨toIdle_dev _, congrArg Shot.part hidle, congrArg Shot.startEvt hidle⟩
  · intro hr
    rw [if_neg (Bool.not_eq_true _ ▸ hr)]
    exact ⟨hdev4, (congrArg Shot.part hshot).trans rfl⟩

end State

namespace State

/-- The effect of the row with the open packet's words correct: a start sampled in the cycle of the end is accepted. -/
def shotEndRow (s : State) : State := when (s.shot.running && !s.shotEnd.shot.running) startsDue s.shotEnd

theorem shotEndRow_endKept (s : State) : EndKept s.shotEnd s.shotEndRow := by
  unfold shotEndRow
  cases s.shot.running && !s.shotEnd.shot.running
  · exact .of_shotView rfl
  · exact startsDue_endKept _

theorem shotEndRow_of_not_over {s : State} (h : s.shotOver = false) : s.shotEndRow = s := by
  rw [shotEndRow, shotEnd_of_not_over h]
  cases s.shot.running <;> rfl

theorem act_shotView (f : State → State) (s : State) : (s.act f).shotView = (f s).shotView := rfl

end State

theorem exec_shotEnd (s : State) : exec (.shotEnd false) s = .next (s.act (fires shotEndRow)) := rfl

/-- The row leaves what the end of the shot leaves, and what starts and firings then change. -/
theorem exec_shotEnd_endKept (s : State) : EndKept s.shotEnd (s.act (fires shotEndRow)) :=
  (s.shotEndRow_endKept.trans s.shotEndRow.settle_endKept).trans (.of_shotView (act_shotView (fires shotEndRow) s))

/-- Settles O11: the end of the shot, and what its cycle still brings; without an end due only the cycle's firings. -/
theorem shotEnds : Obligations.ShotEnds := by
  constructor
  · intro s h hm
    have hk := exec_shotEnd_endKept s
    obtain ⟨hrun, habort, hwaits, hlast, hlen⟩ := shotEnd_ended h hm
    refine ⟨_, exec_shotEnd s, hk.running.trans hrun, hk.abort.trans habort, hk.waits.trans hwaits, hk.lastEnd.trans hlast,
      hk.length.trans hlen, fun hd hover => ?_, fun hd hover => ?_⟩
    · obtain ⟨hdev, hpart, hevt⟩ := (shotEnd_running h hm hd).1 hover
      exact ⟨(hk.dev (by simp [hdev])).trans hdev, hk.part.trans hpart, hk.startEvt.trans hevt⟩
    · obtain ⟨hdev, hpart⟩ := (shotEnd_running h hm hd).2 hover
      exact ⟨(hk.dev (by simp [hdev])).trans hdev, hk.part.trans hpart⟩
  · intro s h
    exact (exec_shotEnd s).trans (congrArg _ (act_congr (congrArg State.settle (shotEndRow_of_not_over h))))

end Sys2Proof.Machine
end

section
/-!
PROOFS. What a cycle with nothing waiting does, and what moves sample time.
-/

namespace Sys2Proof.Machine

/-- Steps over a list that each leave the state as it is leave it so together. -/
theorem forEach_idle_of_mem {α σ : Type} {l : List α} {f : α → σ → σ} {s : σ} (h : ∀ a ∈ l, f a s = s) :
    forEach l f s = s := by
  induction l with
  | nil => rfl
  | cons a l ih =>
    rw [forEach_cons, h a (List.mem_cons_self ..)]
    exact ih fun b hb => h b (List.mem_cons_of_mem a hb)

/-- With nothing waiting a step is one FCLK cycle. -/
theorem step_of_pending_nil {s : State} (h : s.pending = []) : step s = .next (s.act State.tick) := by
  simp only [step, h, run]

namespace State

theorem drop_later_of_nil {s : State} (h : s.later = []) : ({ s with later := [] } : State) = s := by rw [← h]

theorem settle_of_later_nil {s : State} (h : s.later = []) : s.settle = s := by
  simp only [settle, h, List.filterMap_nil, List.filter_nil, forEach_nil]
  exact drop_later_of_nil h

theorem laterRun_of_later_nil {s : State} (h : s.later = []) (p : Nat × Later → Bool) : s.laterRun p = s := by
  simp only [laterRun, h, List.filter_nil, List.map_nil, drop_later_of_nil h]
  rw [forEach_idle_of_mem (by simp), settle_of_later_nil h]

theorem startsDue_of_later_nil {s : State} (h : s.later = []) : s.startsDue = s := by
  simp only [startsDue, h, List.filterMap_nil, List.filter_nil, forEach_nil, drop_later_of_nil h, ite_self]

theorem deadlines_of_no_shot {s : State} (h : s.shotChans = []) : s.deadlines = s := by
  simp only [deadlines, h, List.flatMap_nil, forEach_nil, List.filterMap_nil]

theorem linkTick_of_ports_down {s : State} (h : ∀ p < 4, s.portUp p = false ∧ (s.port p).train = 0) : s.linkTick = s := by
  refine forEach_idle_of_mem fun p hp => ?_
  obtain ⟨hup, htrain⟩ := h p (List.mem_range.mp (List.mem_filter.mp hp).1)
  simp [hup, htrain]

theorem acqService_of_fifos_empty {s : State} (h : ∀ u, (s.acqOf u).fifo = []) : s.acqService = s := by
  simp [acqService, h]

theorem snapTake_of_no_snap {s : State} (h : s.evf.snap = none) : s.snapTake = s := by
  simp only [snapTake, h]

theorem noteUses_of_uses_kept {s : State} (h : ∀ n ∈ s.och.map (·.1), s.uses n = (s.chan n).was) : s.noteUses = s :=
  forEach_idle_of_mem fun n hn => if_pos (beq_iff_eq.mpr (h n hn))

/-- The end of a cycle in which no effect waits and the shot, the links and the capture units are quiet. -/
theorem cycleEnd_of_quiet {s : State} (hl : s.later = []) (hc : s.shotChans = []) (ha : ∀ u, (s.acqOf u).fifo = [])
    (hp : ∀ p < 4, s.portUp p = false ∧ (s.port p).train = 0) : s.cycleEnd = s := by
  rw [cycleEnd, laterRun_of_later_nil hl, deadlines_of_no_shot hc, linkTick_of_ports_down hp, acqService_of_fifos_empty ha]

theorem cycleStart_of_later_nil {s : State} (h : s.later = []) : s.cycleStart = s := by
  rw [cycleStart, laterRun_of_later_nil h, startsDue_of_later_nil h]

end State
open State

/-- Settles O2: in a quiet cycle each part of `State.tick` leaves the state alone, but for the count of the cycle (an empty
queue as one FCLK cycle is the model's choice: log entry 1). -/
theorem emptyQueuePassesACycle : Obligations.EmptyQueuePassesACycle := by
  refine ⟨fun s h => step_of_pending_nil h, fun s t hpend hl hc hsnap ha hp ht hu => ?_⟩
  have hadv : s.advance = t := by
    rw [advance, ← ht]
    exact noteUses_of_uses_kept (by subst ht; exact hu)
  have htick : s.tick = t := by
    rw [tick, cycleEnd_of_quiet hl hc ha hp, snapTake_of_no_snap hsnap, hadv]
    exact cycleStart_of_later_nil (by subst ht; exact hl)
  rw [step_of_pending_nil hpend]
  exact run_to htick (by subst ht; rfl) (by subst ht; rfl)

/-! ## Sample time (R51, R54, R67) -/

/-- ST in the state that an outcome answers is that of s. -/
def StKept (s : State) (o : Host.Outcome State Fault Refusal) : Prop := ∀ t, o = .next t → t.st = s.st

theorem run_stKept {f : State → State} {s : State} (h : (f s).st = s.st) : StKept s (run f s) := by
  intro t ht
  rw [(run_next f s t).mp ht]
  exact h

theorem perform_stKept {f : State → State} {s : State} (h : (f s).st = s.st) : StKept s (perform f s) :=
  run_stKept (by simpa using h)

/-- A command keeps ST when its effect does; a refusal, a wait and the reply leave it alone. -/
theorem command_stKept {sp : CmdSpec} {c : HostCmd} {s : State} (hl : ∀ t r, (sp.onLocked t c r).st = t.st)
    (hf : ∀ t, (sp.app t c).1.st = t.st) : StKept s (command sp c s) :=
  run_stKept (hostCmd_keeps (·.st) sp c s (by simp) (by simp) (by simp) hl hf)

theorem commandFires_stKept {sp : CmdSpec} {c : HostCmd} {s : State} (hl : ∀ t r, (sp.onLocked t c r).st = t.st)
    (hf : ∀ t, (sp.app t c).1.st = t.st) : StKept s (commandFires sp c s) :=
  perform_stKept (hostCmd_keeps (·.st) sp c s (by simp) (by simp) (by simp) hl hf)

theorem dspRow_stKept {q : Nat} {op : DspOp} {ecc : Ecc} {f : Nat → State → DspEnd} {s : State} {second : Bool}
    (hf : ∀ w t, DspEnd.Kept t (f w t)) : StKept s (dspRow q op ecc f s second) :=
  perform_stKept (State.issue_keeps s q op ecc f second hf).2.1

theorem State.act_st (f : State → State) (s : State) : (s.act f).st = (f s).st := rfl

/-- One cycle counts ST on by 32 ticks where FCLK runs, and its effects leave ST alone (R47, R51). -/
theorem State.tick_st (s : State) :
    s.tick.st = if s.cycleEnd.snapTake.time.running then s.st + 32 else s.st := by
  simp [State.tick, State.advance]

/-- Settles O58: Midnight, Dawn and the rails are shut out, a cycle counts on, and every other row leaves ST alone. -/
theorem sampleTimeMovesOnlyBy : Obligations.SampleTimeMovesOnlyBy := by
  constructor
  · intro i s t hi
    suffices h : StKept s (exec i s) from h t
    cases i with
    | timeStepApply | syncinEdge | dawnStageEnd | sysReset | perstAssert | perstRelease | coreRailsRemoved | pgoodRise =>
      exact hi.elim
    | reg64LowWrite offset value => exact run_stKept (by split <;> simp)
    | reg64HighWrite offset value => exact run_stKept (by split <;> simp)
    | dmaCompletionRx chan off reply ecc => exact perform_stKept (by cases reply <;> simp)
    | dspCtrl c =>
      refine command_stKept (fun _ _ => rfl) fun t => ?_
      simp only [dspCtrlSpec, justDo]
      split <;> simp
    | dspLoad c =>
      refine command_stKept (fun _ _ => rfl) fun t => ?_
      simp only [dspLoadSpec, justDo]
      split <;> simp
    | acqStop c => exact commandFires_stKept (fun _ _ => rfl) (by simp [acqStopSpec, justDo])
    | nop | arm | disarm | shotSchedule | runStop | shotAbort | dusk | safeExit | evtRoute | evtCommit | snapshot |
    thermConfig | dspRead | dspFeed | chRole | chOutput | chFdelay | synConfig | frameWrite | frameVzAdd | frameRead |
    tsetWrite | tsetRead | mrkClaim | mrkRelease | bdacConfig | bdacSlew | bdacListWrite | fbConfig | seqConfig |
    seqWrite | condWrite | streamDescWrite | streamOpen | streamClose | decAssign | decClear | rxConfig | toneWrite |
    kernelWrite | toneRead | acqConfig | acqStart | timeStep | timeUnlock | timeSlew | timeSyncCfg | timeSyncinArm |
    trigConfig | linkUp | linkDown | mirrorExport | mirrorRoute | calRun | calSave | calConfig | hkConfig | guardRaise |
    attest | certRead | lifecycleSet | ucodePatch | memPower | memTest | jrnConfig =>
      refine command_stKept ?_ ?_ <;> simp [justDo,
        nopSpec, armSpec, disarmSpec, shotScheduleSpec, runStopSpec, shotAbortSpec, duskSpec, safeExitSpec,
        evtRouteSpec, evtCommitSpec, snapshotSpec, thermConfigSpec, dspReadSpec, dspFeedSpec, chRoleSpec,
        chOutputSpec, chFdelaySpec, synConfigSpec, frameWriteSpec, frameVzAddSpec, frameReadSpec, tsetWriteSpec,
        tsetReadSpec, mrkClaimSpec, mrkReleaseSpec, bdacConfigSpec, bdacSlewSpec, bdacListWriteSpec, fbConfigSpec,
        seqConfigSpec, seqWriteSpec, condWriteSpec, streamDescWriteSpec, streamOpenSpec, streamCloseSpec,
        decAssignSpec, decClearSpec, rxConfigSpec, toneWriteSpec, kernelWriteSpec, toneReadSpec, acqConfigSpec,
        acqStartSpec, timeStepSpec, timeUnlockSpec, timeSlewSpec, timeSyncCfgSpec, timeSyncinArmSpec,
        trigConfigSpec, linkUpSpec, linkDownSpec, mirrorExportSpec, mirrorRouteSpec, calRunSpec, calSaveSpec,
        calConfigSpec, hkConfigSpec, guardRaiseSpec, attestSpec, certReadSpec, lifecycleSetSpec, ucodePatchSpec,
        memPowerSpec, memTestSpec, jrnConfigSpec]
    | dspAdd | dspSub | dspAnd | dspOr | dspXor | dspShl | dspShr | dspSar | dspMul | dspAddi | dspMovi | dspMovhi |
    dspCadds | dspCsubs | dspCrotq | dspNorm | dspExp | dspNormA | dspExpA | dspBexpL | dspCmul | dspCmac | dspCmul2 |
    dspCmac2 | dspCrnd | dspMva | dspMvah | dspLdB | dspLdH | dspLdW | dspLdD | dspStB | dspStH | dspStW | dspStD | dspB
    | dspBeqz | dspBnez | dspBltz | dspBgez | dspDbnz | dspRepeat | dspMvc | dspMvct | dspReti | dspHalt | dspWaiti |
    dspIen | dspIdis =>
      exact dspRow_stKept (fun w t => by simp)
    | _ => exact run_stKept (by simp)
  · intro s t hp h
    obtain rfl := Host.Outcome.next.inj ((step_of_pending_nil hp).symm.trans h)
    rw [State.act_st, State.tick_st]
    split
    · exact .inr rfl
    · exact .inl rfl

end Sys2Proof.Machine
end

section
/-!
PROOFS. The commands of sample time and of TRIGIN, and the order of the checks behind a refusal of TIME_UNLOCK and of ATTEST.
-/

namespace Sys2Proof.Machine
open State

/-! ## The commands of sample time and of TRIGIN (R53 to R70) -/

/-- Settles O34: each command's effect, that of TIME_STEP by its mode and that of TIME_SYNCIN_ARM by its cancel flag (when
the first SYNC is due, what TIME_SYNC_CFG forgets and the cancel are the model's choices: log entry 15). -/
theorem timeCommandsApply : Obligations.TimeCommandsApply := by
  refine ⟨?abs, ?rel, ?fromSync, ?unlock, ?slew, ?syncCfg, ?arm, ?cancel, ?trig⟩
  case abs | rel | fromSync =>
    intro s c h hm
    exact command_done h rfl (by simp only [timeStepSpec, justDo, hm])
  case unlock | slew | syncCfg | trig =>
    intro s c h
    exact command_done h rfl rfl
  case arm =>
    intro s c h hb
    exact command_done h rfl (by simp only [timeSyncinArmSpec, justDo, hb, Bool.false_eq_true, if_false])
  case cancel =>
    intro s c h hb
    exact command_done h rfl (by simp only [timeSyncinArmSpec, justDo, hb, if_true])

/-! ## The checks of a command -/

@[simp] theorem firstRej_none_cons (l : List (Option Reject)) : firstRej (none :: l) = firstRej l := rfl
@[simp] theorem firstRej_some_cons (r : Reject) (l : List (Option Reject)) : firstRej (some r :: l) = some r := rfl
@[simp] theorem rejIf_true (r : Option Reject) : rejIf true r = r := rfl
@[simp] theorem rejIf_false (r : Option Reject) : rejIf false r = none := rfl

theorem rejIf_eq_none {b : Bool} {r : Reject} : rejIf b (some r) = none ↔ b = false := by cases b <;> simp

theorem firstRej_eq_none_iff {l : List (Option Reject)} : firstRej l = none ↔ ∀ x ∈ l, x = none := by
  induction l with
  | nil => simp [firstRej]
  | cons x l ih => cases x <;> simp [ih]

theorem mem_of_firstRej_eq_some {l : List (Option Reject)} {r : Reject} (h : firstRej l = some r) : some r ∈ l := by
  induction l with
  | nil => cases h
  | cons x l ih =>
    cases x with
    | none => exact List.mem_cons_of_mem _ (ih h)
    | some q => exact h ▸ List.mem_cons_self ..

/-- A well-formed packet names a target kind of its command, and asks for an epoch check of a kind that has one (R390,
R392, R395). -/
theorem checkForm_eq_none {sp : CmdSpec} {c : HostCmd} (h : checkForm sp c = none) :
    kindOf c ∈ sp.kinds ∧ (epochChk c = true → kindOf c ∈ [1, 2, 3, 10]) := by
  have hall := firstRej_eq_none_iff.mp h
  have hk := rejIf_eq_none.mp (hall _ (by simp : rejIf (!sp.kinds.contains (kindOf c)) (rejRange 8) ∈ _))
  have he := rejIf_eq_none.mp
    (hall _ (by simp : rejIf (epochChk c && !([1, 2, 3, 10].contains (kindOf c))) (rejRange 5) ∈ _))
  exact ⟨by simpa using hk, fun hc => by simpa [hc, or_iff_not_imp_left] using he⟩

/-- The checks of a well-formed command that can only target the device, after its form: no epoch is compared (R392,
R395). -/
theorem check_of_device {sp : CmdSpec} {c : HostCmd} (s : State) (hk : sp.kinds = [0]) (h : checkForm sp c = none) :
    s.check sp c = firstRej [
      rejIf (!bit sp.states s.dev) rejState,
      rejIf (sp.reads s c && c.buf.isNone) (some ⟨4, noEntry, 0xFE⟩),
      sp.auth s c,
      rejIf (indexOf c != 0) (rejAbsent 0 (indexOf c)),
      sp.absent s c, none, checkLayout sp c, sp.range s c, sp.locked s c, sp.conflict s c, sp.loop s c, sp.busy s c] := by
  obtain ⟨hkind, hepoch⟩ := checkForm_eq_none h
  have hkind : kindOf c = 0 := by simpa [hk] using hkind
  have hepoch : epochChk c = false := by simpa [hkind] using hepoch
  simp only [check, h, hkind, hepoch, Bool.false_and, rejIf_false, firstRej_none_cons, needUnit, unitPresent]
  rfl

/-- A layout refusal is a RANGE (R558). -/
theorem checkLayout_status {sp : CmdSpec} {c : HostCmd} {r : Reject} (h : checkLayout sp c = some r) : r.status = 4 := by
  obtain ⟨k, -, hk⟩ := List.mem_map.mp (mem_of_firstRej_eq_some h)
  obtain ⟨-, rfl⟩ : _ ∧ (⟨4, noEntry, k⟩ : Reject) = r := by simpa [rejIf, rejRange] using hk
  rfl

/-- The mask of IDLE alone. -/
theorem bit_idle {d : Nat} (h : d ≠ 2) : bit 0b100 d = false := by
  match d with
  | 0 | 1 => rfl
  | d + 3 =>
    have hz : 0b100 >>> (d + 3) = 0 := by rw [Nat.add_comm, Nat.shiftRight_add]; exact Nat.zero_shiftRight d
    simp [bit, hz]

theorem timeUnlock_applies {s : State} {c : HostCmd} (hform : checkForm timeUnlockSpec c = none) (hdev : s.dev = 2)
    (hidx : indexOf c = 0) (hlay : checkLayout timeUnlockSpec c = none) : s.check timeUnlockSpec c = none := by
  rw [check_of_device s rfl hform, hlay, hidx, hdev]
  rfl

theorem timeUnlock_state {s : State} {c : HostCmd} (hform : checkForm timeUnlockSpec c = none) (hdev : s.dev ≠ 2) :
    s.check timeUnlockSpec c = some ⟨3, 0, 0⟩ := by
  have hstate : bit timeUnlockSpec.states s.dev = false := bit_idle hdev
  rw [check_of_device s rfl hform, hstate]
  rfl

theorem attest_auth {s : State} {c : HostCmd} (hform : checkForm attestSpec c = none)
    (hstate : bit attestSpec.states s.dev = true) (hbuf : c.buf.isSome = true)
    (h : s.fuse.lc = 0 ∨ s.fuse.lc = 4 ∨ s.flag .scbStatusTamper = true) : s.check attestSpec c = some ⟨7, 0, 0⟩ := by
  have hauth : attestSpec.auth s c = some ⟨7, 0, 0⟩ := by
    rcases h with h | h | h <;> simp [attestSpec, rejAuth, tampered, h]
  rw [check_of_device s rfl hform, hstate, hauth, Option.isNone_eq_false_iff.mpr hbuf, Bool.and_false]
  rfl

theorem attest_range_status {s : State} {c : HostCmd} (h : pByte c 16 < 16 ∨ 48 < pByte c 16 ∨ pNum c 20 4 < 240) :
    ∃ r, attestSpec.range s c = some r ∧ r.status = 4 := by
  by_cases hb : pByte c 16 < 16 ∨ 48 < pByte c 16
  · exact ⟨⟨4, noEntry, 16⟩, by simp [attestSpec, hb, rejRange, rejIf], rfl⟩
  · have hn : pNum c 20 4 < 240 := by omega
    exact ⟨⟨4, noEntry, 20⟩, by simp [attestSpec, hb, hn, rejRange, rejIf], rfl⟩

theorem attest_range {s : State} {c : HostCmd} (hform : checkForm attestSpec c = none)
    (hstate : bit attestSpec.states s.dev = true) (hbuf : c.buf.isSome = true) (hidx : indexOf c = 0)
    (h0 : s.fuse.lc ≠ 0) (h4 : s.fuse.lc ≠ 4) (ht : s.flag .scbStatusTamper = false)
    (h : pByte c 16 < 16 ∨ 48 < pByte c 16 ∨ pNum c 20 4 < 240) : ∃ r, s.check attestSpec c = some r ∧ r.status = 4 := by
  have hauth : attestSpec.auth s c = none := by simp [attestSpec, tampered, beq_false_of_ne h0, beq_false_of_ne h4, ht]
  obtain ⟨r, hr, hr4⟩ := attest_range_status (s := s) h
  have habs : attestSpec.absent s c = none := rfl
  rw [check_of_device s rfl hform, hstate, hauth, Option.isNone_eq_false_iff.mpr hbuf, Bool.and_false, hidx, habs, hr]
  cases hlay : checkLayout attestSpec c with
  | none => exact ⟨r, rfl, hr4⟩
  | some q => exact ⟨q, rfl, checkLayout_status hlay⟩

/-- A refusal other than LOCKED, with the states of the command where it is STATE (R394). -/
theorem command_refused_frame {sp : CmdSpec} {c : HostCmd} {s : State} {status legal info0 info1 : Nat}
    (hstart : s.canStart c = true) (hop : opcodeOf c = sp.opcode) (h : s.check sp c = some ⟨status, info0, info1⟩)
    (h6 : status ≠ 6) (hl : (if status = 3 then sp.states else 0) = legal) :
    command sp c s = .next (s.act fun s => (s.passHead c.qp).answer c status legal info0 info1 s.st.toNat 0) := by
  rw [command_refused sp c s _ hstart hop h]
  simp only [h6, hl, if_false]

/-- Settles O53: the checks of R395 in their order decide. -/
theorem unlockAndAttestRules : Obligations.UnlockAndAttestRules := by
  constructor
  · intro s c hstart hop hform
    exact ⟨fun hdev hidx hlay => command_done ⟨hstart, hop, timeUnlock_applies hform hdev hidx hlay⟩ rfl rfl,
      fun hdev => command_refused_frame hstart hop (timeUnlock_state hform hdev) (by decide) rfl⟩
  · intro s c hstart hop hform hstate hbuf
    refine ⟨fun h => command_refused_frame hstart hop (attest_auth hform hstate hbuf h) (by decide) rfl,
      fun hidx h0 h4 ht hrange => ?_⟩
    obtain ⟨⟨status, i, k⟩, hr, rfl⟩ := attest_range hform hstate hbuf hidx h0 h4 ht hrange
    exact ⟨i, k, command_refused_frame hstart hop hr (by decide) rfl⟩

end Sys2Proof.Machine
end

section
/-!
PROOFS. Midnight: what a step and a SYNCIN edge leave.
-/

namespace Sys2Proof.Machine

/-- A reader of a table changed value by value, the default among them. -/
theorem SMap.get_map {α β : Type} (f : α → β) (d : α) (m : SMap α) (k : Nat) :
    SMap.get (f d) (m.map fun p => (p.1, f p.2)) k = f (SMap.get d m k) := by
  induction m with
  | nil => rfl
  | cons p t ih =>
    simp only [List.map_cons, SMap.get, ih]
    split_ifs <;> rfl

theorem RegsKept.trans {l : List Reg} {s t u : State} (h : RegsKept l s t) (k : RegsKept l t u) : RegsKept l s u :=
  fun r i hr => (k r i hr).trans (h r i hr)

/-- The low bits of an integer, as a word. -/
theorem ofNat_unsgn (w : Nat) (i : Int) : BitVec.ofNat w (unsgn w i) = BitVec.ofInt w i := by
  have hn : 0 ≤ i % ((2 ^ w : Nat) : Int) := Int.emod_nonneg _ (by positivity)
  apply BitVec.eq_of_toNat_eq
  rw [BitVec.toNat_ofInt, BitVec.toNat_ofNat]
  exact Nat.mod_eq_of_lt ((Int.toNat_lt hn).mpr (Int.emod_lt_of_pos _ (by positivity)))

/-- A TRIGIN input with its waiting stamps marked as of the scale before. -/
def Trig.marked (x : Trig) : Trig := { x with fifo := x.fifo.map fun y => { y with pre := true } }

namespace State

/-! ## What a register write keeps -/

theorem rd_lt (s : State) (r : Reg) (i : Nat) : s.rd r i < 2 ^ 64 := BitVec.isLt _

theorem setB_regsKept (s : State) {f : Fld} {l : List Reg} (h : f.reg ∈ l) (i : Nat) (b : Bool) :
    RegsKept l s (s.setB f i b) :=
  fun r j hr => rd_setB_reg s f r i j b fun e => hr (e ▸ h)

theorem wr_regsKept (s : State) {r : Reg} {l : List Reg} (h : r ∈ l) (i v : Nat) : RegsKept l s (s.wr r i v) :=
  fun q j hq => rd_wr_reg s r q i j v fun e => hq (e ▸ h)

/-! ## Midnight (R54, R56, R67) -/

/-- Midnight touches ST, registers with what is remembered of their raised bits, and the TRIGIN inputs. -/
theorem midnight_eq (s : State) (v : Nat) : s.midnight v = { s with
    st := (s.midnight v).st, regs := (s.midnight v).regs, raised := (s.midnight v).raised
    time := { s.time with trig := (s.midnight v).time.trig } } := rfl

theorem midnight_st (s : State) (v : Nat) : (s.midnight v).st = BitVec.ofNat 64 v := rfl

theorem midnight_regs (s : State) (v : Nat) : RegsKept [.timeStatus, .timeStepSt] s (s.midnight v) := by
  have hset : RegsKept [.timeStatus, .timeStepSt] s
      (setB { s with st := BitVec.ofNat 64 v } .timeStatusMidnightSet 0 true) := setB_regsKept _ (by simp) 0 true
  exact hset.trans (wr_regsKept _ (by simp) 0 _)

theorem midnight_midnightSet (s : State) (v : Nat) : (s.midnight v).flag .timeStatusMidnightSet = true :=
  (flag_wr_reg _ _ _ _ _ _ (by decide)).trans (flag_setB_same _ _ _ _ (by decide) rfl)

theorem midnight_syncinArmed (s : State) (v : Nat) :
    (s.midnight v).flag .timeStatusSyncinArmed = s.flag .timeStatusSyncinArmed := by
  refine (flag_wr_reg _ _ _ _ _ _ (by decide)).trans ?_
  exact congrArg (· != 0) (fld_setF_apart _ .timeStatusMidnightSet .timeStatusSyncinArmed 0 _ rfl (by decide) (by decide))

theorem midnight_stepSt (s : State) (v : Nat) : (s.midnight v).rd .timeStepSt = (s.midnight v).st.toNat := by
  refine (rd_wr_same _ .timeStepSt 0 _).trans ?_
  rw [midnight_st, BitVec.toNat_ofNat]
  exact Nat.mod_mod _ _

/-- The stamps of every input are marked, and none is lost (R56, R69). -/
theorem midnight_trigOf (s : State) (v n : Nat) : (s.midnight v).trigOf n = (s.trigOf n).marked :=
  SMap.get_map Trig.marked Trig.init s.time.trig n

/-- The value that a step brings ST to. -/
def stepValue (s : State) : Step → Nat
  | .abs v => v
  | .rel d => unsgn 64 ((s.st.toNat : Int) + d)

theorem stepApply_due {s : State} {x : Step} {c : Nat} (hx : s.time.step = some (x, c)) (hm : s.midnightOk = true)
    (ha : s.flag .timeStatusSyncinArmed = false) :
    s.stepApply = midnight { s with time := { s.time with step := none, slewAmt := 0 } } (s.stepValue x) := by
  simp only [stepApply, hx, hm, ha, Bool.not_true, Bool.or_self, Bool.false_eq_true, if_false]
  cases x <;> rfl

theorem stepApply_waits {s : State}
    (h : s.time.step = none ∨ s.midnightOk = false ∨ s.flag .timeStatusSyncinArmed = true) : s.stepApply = s := by
  unfold stepApply
  split
  · next x c hx =>
    have hw : s.midnightOk = false ∨ s.flag .timeStatusSyncinArmed = true := by simpa [hx] using h
    exact if_pos (by rcases hw with hw | hw <;> simp [hw])
  · rfl

/-- The device once an armed SYNCIN edge is taken: the arm and a step that waits are spent. -/
def disarmed (s : State) : State := { s with
  regs := (s.setB .timeStatusSyncinArmed 0 false).regs, raised := (s.setB .timeStatusSyncinArmed 0 false).raised
  time := { s.time with step := none } }

theorem disarmed_regs (s : State) : RegsKept [.timeStatus, .timeStepSt] s s.disarmed :=
  s.setB_regsKept (f := .timeStatusSyncinArmed) (by simp) 0 false

theorem disarmed_syncinArmed (s : State) : s.disarmed.flag .timeStatusSyncinArmed = false :=
  flag_setB_same s .timeStatusSyncinArmed 0 false (by decide) rfl

theorem syncin_armed {s : State} (ha : s.flag .timeStatusSyncinArmed = true) (hm : s.midnightOk = true) :
    s.syncin = s.disarmed.midnight (s.rd .timeSyncinValue) :=
  if_pos (by rw [ha, hm]; rfl)

theorem syncin_waits {s : State} (h : s.flag .timeStatusSyncinArmed = false ∨ s.midnightOk = false) : s.syncin = s :=
  if_neg (by rcases h with h | h <;> simp [h])

end State
open State

/-- Settles O35: a step and a SYNCIN edge place Midnight by one operation, `State.midnight`, at their own ST (that a step
waits, and what for, are the model's choices: log entry 15). -/
theorem midnightIsPlaced : Obligations.MidnightIsPlaced := by
  refine ⟨?step, ?syncin, ?stepWaits, ?syncinWaits⟩
  case step =>
    intro s x c hx hm ha
    refine ⟨_, run_to (stepApply_due hx hm ha) rfl rfl, midnight_eq _ _, ?st, midnight_midnightSet _ _,
      midnight_stepSt _ _, midnight_regs _ _, fun n => congrArg Trig.fifo (midnight_trigOf _ _ n)⟩
    case st =>
      cases x with
      | abs v => rfl
      | rel d => exact ofNat_unsgn 64 _
  case syncin =>
    intro s ha hm
    refine ⟨_, run_to (syncin_armed ha hm) rfl rfl, midnight_eq _ _, ?st, ?armed, midnight_midnightSet _ _,
      midnight_stepSt _ _, s.disarmed_regs.trans (midnight_regs _ _)⟩
    case st => exact (BitVec.toNat_ofNat _ 64).trans (Nat.mod_eq_of_lt (rd_lt s _ _))
    case armed => exact (midnight_syncinArmed _ _).trans s.disarmed_syncinArmed
  case stepWaits => exact fun s h => run_to (stepApply_waits h) rfl rfl
  case syncinWaits => exact fun s h => run_to (syncin_waits h) rfl rfl

end Sys2Proof.Machine
end

section
/-!
PROOFS. The rows of the clocks, of TRIGIN and of JTAG, and those of network time.
-/

namespace Sys2Proof.Machine

namespace State

/-! ## TRIGIN (R68 to R70) -/

@[simp] theorem inSlice_setTrig (s : State) (n : Nat) (x : Trig) (kind i : Nat) :
    (s.setTrig n x).inSlice kind i = s.inSlice kind i := rfl

@[simp] theorem edgeWanted_setTrig (s : State) (n : Nat) (x : Trig) (m : Nat) (up : Bool) :
    (s.setTrig n x).edgeWanted m up = s.edgeWanted m up := rfl

theorem trigEdge_in_slice {s : State} {n : Nat} (hj : s.jtag.hold = false) (hs : s.inSlice 4 n = true) (up : Bool)
    (pos : Nat) : s.trigEdge n up pos = (s.setTrig n { s.trigOf n with edgeAt := s.cyc + 1 }).bump .calTrigLost := by
  simp only [trigEdge, hj, inSlice_setTrig, hs, if_true, Bool.false_eq_true, if_false]

theorem trigEdge_selected {s : State} {n : Nat} {up : Bool} (hj : s.jtag.hold = false) (hs : s.inSlice 4 n = false)
    (he : s.flag .trigCfgEn n = true) (hw : s.edgeWanted n up = true) (pos : Nat) : s.trigEdge n up pos =
    ((s.setTrig n { s.trigOf n with edgeAt := s.cyc + 1 }).trigStamp n pos).trigFire n := by
  simp only [trigEdge, hj, inSlice_setTrig, edgeWanted_setTrig, flag_setTrig, hs, he, hw, Bool.and_self, if_true,
    Bool.false_eq_true, if_false]

theorem trigRead_stamp {s : State} {n : Nat} {a : Stamp} {rest : List Stamp} (h : (s.trigOf n).fifo = a :: rest) :
    s.trigRead n = (s.setTrig n { s.trigOf n with fifo := rest }).returns
      (slice a.val 64 4 + 16 * ofBool a.pre + 32 + 256 * rest.length) := by
  simp only [trigRead, h]

theorem trigRead_empty {s : State} {n : Nat} (h : (s.trigOf n).fifo = []) : s.trigRead n = s.returns 0 := by
  simp only [trigRead, h]

/-! ## Reference and lock (R49, R50) -/

/-- A measured reference is back: REF_PRESENT sets, and holdover ends where the PLL is locked to it. -/
theorem refBack_measured {s : State} (h : (s.fld .timeStatusRefFreq == 1 || s.fld .timeStatusRefFreq == 2) = true) :
    s.refBack = when (s.flag .timeStatusPllLock) (fun s => s.setB .timeStatusHoldover 0 false)
      (s.setB .timeStatusRefPresent 0 true) := by
  simp only [refBack, h, when_true]

end State
open State

theorem jtagHolds_eq (i : JtagInstr) : jtagHolds i = (i == .extest || i == .highz || i == .clamp) := by cases i <;> rfl

/-- Settles O36: each row where its condition holds (that PLL_LOCK outlives the reference and holdover ends with its
return are the model's choices: log entry 15). -/
theorem clockRows : Obligations.ClockRows := by
  refine ⟨?slew, ?lost, ?absent, ?locked, ?unlocked, ?lockLost, ?slice, ?edge, ?read, ?empty, ?jtag⟩
  case slew => exact fun s h => run_to (if_pos h) rfl rfl
  case lost => exact fun s h => run_to (if_pos h) (by simp) (by simp)
  case absent => exact fun s h => run_to (if_neg (by simp [h])) rfl rfl
  case locked => exact fun s hf hl => run_to (by rw [refBack_measured hf, hl, when_true]) (by simp) (by simp)
  case unlocked => exact fun s hf hl => run_to (by rw [refBack_measured hf, hl, when_false]) (by simp) (by simp)
  case lockLost => exact fun s hl hr => run_act (if_pos (by simp [hl, hr]))
  case slice => exact fun s n up pos hj hs => perform_act (trigEdge_in_slice hj hs up pos)
  case edge => exact fun s n up pos hj hs he hw => perform_act (trigEdge_selected hj hs he hw pos)
  case read => exact fun s n a rest hp hf => run_act (by rw [hp, when_true, trigRead_stamp hf])
  case empty => exact fun s n hp hf => run_to (by rw [hp, when_true, trigRead_empty hf]) rfl rfl
  case jtag =>
    intro s i ch h
    exact run_to (by rw [if_pos (beq_iff_eq.mpr h), jtagHolds_eq]) rfl rfl

namespace State

/-! ## Time messages (R60 to R66) -/

/-- The deliveries of port p without the blocks of a time message. -/
def timeTaken (s : State) (p : Nat) (bs : List Dword) : State :=
  s.setPort p { s.port p with inbox := bs.foldl (fun l b => l.erase b) (s.port p).inbox }

/-- A time message of the kind looked for is taken from its port's deliveries and acted on. -/
theorem takeTime_of_kind {s : State} {p kind : Nat} {m : TimeMsg} {bs : List Dword} (h : timeMsg (s.port p) = some (m, bs))
    (hk : m.kind = kind) (f : TimeMsg → State → State) : s.takeTime p kind f = f m (s.timeTaken p bs) := by
  simp only [takeTime, h, hk, if_true, timeTaken]

@[simp] theorem syncRole_timeTaken (s : State) (p : Nat) (bs : List Dword) : (s.timeTaken p bs).syncRole = s.syncRole := rfl
@[simp] theorem upPort_timeTaken (s : State) (p : Nat) (bs : List Dword) : (s.timeTaken p bs).upPort = s.upPort := rfl
@[simp] theorem time_timeTaken (s : State) (p : Nat) (bs : List Dword) : (s.timeTaken p bs).time = s.time := rfl
@[simp] theorem flag_timeTaken (s : State) (p : Nat) (bs : List Dword) (f : Fld) (i : Nat) :
    (s.timeTaken p bs).flag f i = s.flag f i := rfl
@[simp] theorem seqNewer_timeTaken (s : State) (p : Nat) (bs : List Dword) (a : Nat) :
    (s.timeTaken p bs).seqNewer a = s.seqNewer a := rfl

section
variable {s : State} {p stamp : Nat} {m : TimeMsg} {bs : List Dword} (h : timeMsg (s.port p) = some (m, bs))
include h

/-- What came by replay is discarded (R66). -/
theorem syncRx_replayed (hk : m.kind = 0) : s.syncRx p stamp true = (s.timeTaken p bs).bump .timeSyncDiscard := by
  rw [syncRx, takeTime_of_kind h hk, if_pos (by simp), syncDiscard]

/-- A slave takes a newer SYNC from its measured upstream port (R63, R66). -/
theorem syncRx_taken (hk : m.kind = 0) (hr : s.syncRole = 2) (hu : s.upPort = p) (hn : s.seqNewer m.seq = true)
    (ha : bit s.time.anew p = false) (hv : s.flag .timePdelayValid p = true) : s.syncRx p stamp false =
    let s := s.timeTaken p bs
    let s : State := { s with time := { s.time with lastSeq := some m.seq, lastSync := s.cyc } }
    let s := s.bump .timeSyncRx
    let s := s.syncOffset ((stamp : Int) - (16 * (m.origin : Int) + m.corr + s.upPath))
    s.syncOn m stamp s.upPath := by
  rw [syncRx, takeTime_of_kind h hk, if_neg (by simp [hr, hu, hn, ha]), if_neg (by simp [hv])]

theorem delayAnswer_fresh (hk : m.kind = 1) : s.delayAnswer p stamp false =
    (s.timeTaken p bs).updPort p fun x =>
      { x with syncQ := x.syncQ ++ [⟨2, m.seq, s.deviceId, 0, none, some (-(stamp : Int))⟩] } := by
  rw [delayAnswer, takeTime_of_kind h hk, if_neg (by decide)]
  rfl

/-- The answer to a request gives half the turn-around as the path delay (R64). -/
theorem delayStore_matched (hk : m.kind = 2) {q : DelayReq}
    (hq : (SMap.get [] s.time.req p).find? (·.seq == m.seq) = some q) (he : 2 ∣ ((stamp : Int) - q.t1 - m.corr)) :
    s.delayStore p stamp false =
    let t := s.timeTaken p bs
    State.wr { t with time := { t.time with
      req := SMap.put [] s.time.req p ((SMap.get [] s.time.req p).erase q),
      anew := if q.old then s.time.anew else setBit s.time.anew p false } }
      .timePdelay p (unsgn 31 (((stamp : Int) - q.t1 - m.corr) / 2) + 2 ^ 31) := by
  rw [delayStore, takeTime_of_kind h hk, if_neg (by decide)]
  simp only [time_timeTaken, hq, if_pos (Int.emod_eq_zero_of_dvd he)]

end

/-- The oldest request has waited too long (R64). -/
theorem delayLost_late {s : State} {p : Nat} {q : DelayReq} {rest : List DelayReq}
    (hq : SMap.get [] s.time.req p = q :: rest) (hl : q.sent + 65536 ≤ s.cyc) : s.delayLost p =
    State.bump { s with time := { s.time with req := SMap.put [] s.time.req p rest } } .timePdelayLost := by
  simp only [delayLost, hq, if_pos hl]

end State
open State

/-- Settles O37: each row where its condition holds (the repeated timeout and its cancel of a slew are the model's choices:
log entry 15). -/
theorem networkTimeRows : Obligations.NetworkTimeRows := by
  refine ⟨?send, ?replayed, ?taken, ?timeout, ?request, ?answer, ?store, ?lost⟩
  case send => exact fun s hr hd => run_act (if_pos ⟨hr, hd⟩)
  case replayed => exact fun s p st m bs h hk => run_act (syncRx_replayed h hk)
  case taken => exact fun s p st m bs h hk hr hu hn ha hv => run_act (syncRx_taken h hk hr hu hn ha hv)
  case timeout => exact fun s hr hl => run_act (if_pos ⟨hr, hl⟩)
  case request => exact fun s p hu hl => run_act (if_pos (by simp [hu, hl]))
  case answer => exact fun s p st m bs h hk => run_act (delayAnswer_fresh h hk)
  case store => exact fun s p st m bs q h hk hq he => run_act (delayStore_matched h hk hq he)
  case lost => exact fun s p q rest hq hl => run_act (delayLost_late hq hl)

end Sys2Proof.Machine
end

section
/-!
PROOFS. The commands of output channels and bias DACs.
-/

namespace Sys2Proof.Machine
open State

/-! ## Registers that an effect keeps -/

theorem RegsKept.mono {l m : List Reg} {s t : State} (h : RegsKept l s t) (hl : l ⊆ m) : RegsKept m s t :=
  fun r i hr => h r i fun hm => hr (hl hm)

theorem RegsKept.fld {l : List Reg} {s t : State} (h : RegsKept l s t) {f : Fld} (hf : f.reg ∉ l) (i : Nat) :
    t.fld f i = s.fld f i := by
  simp only [State.fld, h f.reg i hf]

theorem RegsKept.flag {l : List Reg} {s t : State} (h : RegsKept l s t) {f : Fld} (hf : f.reg ∉ l) (i : Nat) :
    t.flag f i = s.flag f i := by
  simp only [State.flag, h.fld hf]

namespace State

theorem msixSend_regsKept (s : State) (v : Nat) : RegsKept [] s (s.msixSend v) := by
  intro r i _
  unfold msixSend
  split_ifs <;> rfl

theorem irq0_regsKept (s : State) : RegsKept [.glbIrqPend0] s (s.irq 0) := by
  simp only [irq, Nat.ofNat_pos, if_true]
  split
  · exact fun _ _ _ => rfl
  · exact (wr_regsKept _ (List.mem_singleton_self _) 0 _).trans ((msixSend_regsKept _ 0).mono (List.nil_subset _))

theorem countAnswer_regsKept (s : State) (status : Nat) :
    RegsKept [.ceCmdCnt, .ceRefusedCnt] s (s.countAnswer status) := by
  intro r i hr
  simp only [List.mem_cons, List.not_mem_nil, or_false, not_or] at hr
  obtain ⟨hcmd, hrefused⟩ := hr
  rw [countAnswer, when_keeps (State.rd · r i) _ fun t => rd_bump_reg t _ _ _ _ hrefused]
  exact rd_bump_reg _ _ _ _ _ hcmd

theorem writeReply_regsKept (s : State) (q : Nat) (ws : List Word) (vec : Bool) :
    RegsKept [.glbIrqPend0] s (s.writeReply q ws vec) := by
  intro r i hr
  simp only [writeReply]
  rw [when_keeps (State.rd · r i) _ fun t => irq0_regsKept t r i hr]
  rfl

theorem unreserve_regsKept {l : List Reg} {s : State} {q : Nat} : RegsKept l s (s.unreserve q) := fun _ _ _ => rfl

/-- A reply counts among the answers and may raise vector 0; every other register stays. -/
theorem answer_regsKept (s : State) (c : HostCmd) (status legal info0 info1 acc result : Nat) :
    RegsKept [.ceCmdCnt, .ceRefusedCnt, .glbIrqPend0] s (s.answer c status legal info0 info1 acc result) := by
  unfold answer
  exact ((s.countAnswer_regsKept status).mono (by simp)).trans
    (unreserve_regsKept.trans ((writeReply_regsKept _ c.qp _ (irqOf c)).mono (by simp)))

/-- The output path moves in OUT_STATUS. -/
theorem outChange_regsKept (s : State) (n : Nat) (modeNew fsNew : Bool) :
    RegsKept [.ochOutStatus] s (s.outChange n modeNew fsNew) := by
  intro r i hr
  have hr : r ≠ .ochOutStatus := by simpa using hr
  unfold outChange outEnabling
  split
  · simp [hr]
  · split <;> simp [hr]
  · split_ifs <;> simp [hr]

end State

/-! ## CH_ROLE (R100) -/

/-- The role and its epoch as CH_ROLE stores them for an output channel. -/
def State.roleStored (s : State) (n role : Nat) : State :=
  (s.setF .ochRoleEpochEpoch n (s.fld .ochRoleEpochEpoch n + 1)).setF .ochRoleEpochRole n role

/-- What the role FLUX stores: BASEBAND and direct mode as well. -/
def State.fluxStored (s : State) (n : Nat) : State :=
  ((s.roleStored n 3).setF .ochOutCfgMode n 2).setB .ochSynCfgDirect n true

theorem chRole_app_och {s : State} {c : HostCmd} (hk : kindOf c = 1) (hr : pBits c 16 0 3 ≠ 3) :
    chRoleSpec.app s c = (s.roleStored (indexOf c) (pBits c 16 0 3), {}) := by
  simp only [chRoleSpec, justDo, if_pos hk, if_neg hr]
  rfl

theorem chRole_app_rch {s : State} {c : HostCmd} (hk : kindOf c ≠ 1) : chRoleSpec.app s c =
    ((s.setF .rchRoleEpochEpoch (indexOf c) (s.fld .rchRoleEpochEpoch (indexOf c) + 1)).setF
      .rchRoleEpochRole (indexOf c) (pBits c 16 0 3), {}) := by
  simp only [chRoleSpec, justDo, if_neg hk]

theorem chRole_app_flux {s : State} {c : HostCmd} (hk : kindOf c = 1) (hr : pBits c 16 0 3 = 3) :
    chRoleSpec.app s c = (if (s.fluxStored (indexOf c)).outState (indexOf c) = 0 then s.fluxStored (indexOf c)
      else (s.fluxStored (indexOf c)).outChange (indexOf c)
        ((s.roleStored (indexOf c) 3).fld .ochOutCfgMode (indexOf c) != 2) false, {}) := by
  simp only [chRoleSpec, justDo, if_pos hk, hr, if_true]
  rfl

theorem fluxStored_reads (s : State) (n : Nat) : (s.fluxStored n).fld .ochRoleEpochRole n = 3 ∧
    (s.fluxStored n).fld .ochOutCfgMode n = 2 ∧ (s.fluxStored n).flag .ochSynCfgDirect n = true := by
  unfold fluxStored roleStored
  refine ⟨?_, ?_, flag_setB_same _ _ _ _ (by decide) rfl⟩
  · rw [fld_setB_reg _ _ _ _ _ _ (by decide), fld_setF_reg _ _ _ _ _ _ (by decide), fld_setF_same _ _ _ _ (by decide)]
    rfl
  · rw [fld_setB_reg _ _ _ _ _ _ (by decide), fld_setF_same _ _ _ _ (by decide)]
    rfl

/-- The output path, the reply and its interrupt leave what FLUX has stored. -/
theorem chRole_flux_regsKept {s : State} {c : HostCmd} (h : Accepted chRoleSpec c s) (hk : kindOf c = 1)
    (hr : pBits c 16 0 3 = 3) : ∃ t, exec (.chRole c) s = .next t ∧
      RegsKept [.ochOutStatus, .ceCmdCnt, .ceRefusedCnt, .glbIrqPend0] ((s.passHead c.qp).fluxStored (indexOf c))
        t := by
  have hpath : RegsKept [.ochOutStatus] ((s.passHead c.qp).fluxStored (indexOf c))
      (chRoleSpec.app (s.passHead c.qp) c).1 := by
    rw [chRole_app_flux hk hr]
    dsimp only
    split
    · exact fun _ _ _ => rfl
    · exact outChange_regsKept _ _ _ _
  exact ⟨_, command_accepted chRoleSpec c s h rfl,
    (hpath.mono (by decide)).trans ((answer_regsKept _ c _ _ _ _ _ _).mono (by decide))⟩

/-! ## BDAC_CONFIG (R174, R175, R178) -/

/-- The settings of a bias DAC as BDAC_CONFIG stores them. -/
def bdacStored (c : HostCmd) (s : State) : State :=
  (s.wr .bdacCfg (indexOf c) (pBits c 16 0 3)).wr .bdacSeq (indexOf c)
    (pBits c 24 0 7 + 256 * pBits c 25 0 2 + 65536 * pByte c 26 + 16777216 * pByte c 27)

section
variable {s : State} {c : HostCmd}

/-- A change of RANGE, with ACTIVE or without. -/
theorem bdacConfig_app_range (h : s.fld .bdacCfgRange (indexOf c) ≠ pBits c 16 0 1) :
    bdacConfigSpec.app s c = ((bdacStored c s).bdRangeChange (indexOf c) (sgn 20 (pNum c 20 3)), {}) := by
  simp only [bdacConfigSpec, justDo, bne_iff_ne.mpr h, if_true]
  rfl

/-- Without ACTIVE: the ramp or park of a range change in progress goes on, else the bias DAC ramps to 0 and parks. -/
theorem bdacConfig_app_inactive (h : s.fld .bdacCfgRange (indexOf c) = pBits c 16 0 1)
    (ha : bit (pByte c 16) 2 = false) : bdacConfigSpec.app s c =
      (if (bdacStored c s).flag .bdacStatusRangeChange (indexOf c) = true ∧
          ((bdacStored c s).bd (indexOf c)).phase ≠ 3 then bdacStored c s
        else ((bdacStored c s).bdNoChange (indexOf c)).bdRampPark (indexOf c), {}) := by
  simp only [bdacConfigSpec, justDo, h, bne_self_eq_false, ha, Bool.not_false, if_true, Bool.false_eq_true, if_false]
  exact congrArg (·, _) (if_congr (by simp [bdacStored]) rfl rfl)

/-- With ACTIVE: sequencer mode unparks a bias DAC that is parked outside a range change. -/
theorem bdacConfig_app_active (h : s.fld .bdacCfgRange (indexOf c) = pBits c 16 0 1)
    (ha : bit (pByte c 16) 2 = true) : bdacConfigSpec.app s c =
      (if s.flag .bdacStatusParked (indexOf c) = true ∧ bit (pByte c 16) 1 = true ∧
          (bdacStored c s).flag .bdacStatusRangeChange (indexOf c) = false
        then (bdacStored c s).bdUnpark (indexOf c) else bdacStored c s, {}) := by
  simp only [bdacConfigSpec, justDo, h, bne_self_eq_false, ha, Bool.not_true, Bool.false_eq_true, if_false]
  exact congrArg (·, _) (if_congr (by simp [bdacStored, and_assoc]) rfl rfl)

end

/-! ## CH_OUTPUT (R169 to R171) -/

theorem chOutput_app_on {s : State} {c : HostCmd} (h : bit (pByte c 16) 0 = true) : chOutputSpec.app s c =
    ((s.wr .ochOutCfg (indexOf c) (pBits c 16 1 2 + 4 + 256 * pByte c 17)).outChange (indexOf c)
      (s.fld .ochOutCfgMode (indexOf c) != pBits c 16 1 2) (s.fld .ochOutCfgFsCode (indexOf c) != pByte c 17), {}) := by
  simp only [chOutputSpec, justDo, h, if_true, ofBool_true]

theorem chOutput_app_off {s : State} {c : HostCmd} (h : bit (pByte c 16) 0 = false) : chOutputSpec.app s c =
    ((s.wr .ochOutCfg (indexOf c) (pBits c 16 1 2 + 256 * pByte c 17)).outStop (indexOf c) false, {}) := by
  simp only [chOutputSpec, justDo, h, Bool.false_eq_true, if_false, ofBool_false, Nat.mul_zero, Nat.add_zero]

/-- Settles O12: each command's effect in the state whose ring slot has passed, which has the same registers (a range
change without ACTIVE is the model's reading: log entry 12). -/
theorem outputCommandsApply : Obligations.OutputCommandsApply := by
  refine ⟨?on, ?off, ?fdelay, ?syn, ?roleOch, ?roleRch, ?flux, ?range, ?inactive, ?active, ?slew, ?list⟩
  case on => exact fun s c h hen => command_done h rfl (chOutput_app_on hen)
  case off => exact fun s c h hen => command_done h rfl (chOutput_app_off hen)
  case fdelay | syn | slew | list =>
    intro s c h
    exact command_done h rfl rfl
  case roleOch => exact fun s c h hk hr => command_done h rfl (chRole_app_och hk hr)
  case roleRch => exact fun s c h hk => command_done h rfl (chRole_app_rch hk)
  case flux =>
    intro s c h hk hr
    obtain ⟨t, ht, hkept⟩ := chRole_flux_regsKept h hk hr
    obtain ⟨hrole, hmode, hdirect⟩ := fluxStored_reads (s.passHead c.qp) (indexOf c)
    exact ⟨t, ht, (hkept.fld (by decide) _).trans hrole, (hkept.fld (by decide) _).trans hmode,
      (hkept.flag (by decide) _).trans hdirect⟩
  case range => exact fun s c h hr => command_done h rfl (bdacConfig_app_range (by rwa [fld_passHead]))
  case inactive => exact fun s c h hr ha => command_done h rfl (bdacConfig_app_inactive (by rwa [fld_passHead]) ha)
  case active => exact fun s c h hr ha => command_done h rfl (bdacConfig_app_active (by rwa [fld_passHead]) ha)

end Sys2Proof.Machine
end

section
/-!
PROOFS. The commands of frames, timing sets and marker pins.
-/

namespace Sys2Proof.Machine
open State

/-! ## Readers in the state whose ring slot has passed -/

namespace State

theorem frame_passHead (s : State) (q : Nat) (rx : Bool) (n k : Nat) :
    (s.passHead q).frame rx n k = s.frame rx n k := by
  simp only [frame, frames, rchan, chan, passHead_fields]

theorem chan_passHead (s : State) (q n : Nat) : (s.passHead q).chan n = s.chan n := by
  simp only [chan, passHead_fields]

end State

/-- An accepted command that answers `OK` with what it has read and leaves the state alone. -/
theorem command_reads {sp : CmdSpec} {c : HostCmd} {s : State} {i0 i1 r : Nat} (h : Accepted sp c s)
    (hs : sp.silent = false)
    (happ : sp.app (s.passHead c.qp) c = (s.passHead c.qp, { info0 := i0, info1 := i1, result := r })) :
    command sp c s = .next (s.act (doneWith c i0 i1 r id)) := by
  rw [command_accepted sp c s h hs]
  refine congrArg _ (act_congr ?_)
  simp only [happ]
  rfl

/-- MRK_CLAIM: the settings, a pin that starts inactive, and for an event channel the binding (R146, R418). -/
theorem mrkClaim_app (s : State) (c : HostCmd) : mrkClaimSpec.app s c =
    (let t := (s.wr .mrkCfg (indexOf c) (pBits c 16 0 2 + 4 * pBits c 17 0 1 + 16 * slice (pNum c 18 2) 0 8 +
        4096 * pBits c 20 0 2 + 65536 * pByte c 21 + 16777216 * pByte c 22)).setPin (indexOf c) Pin.init
      if pBits c 16 0 2 = 2 then t.bindChannel (pNum c 18 2) (0x320 + indexOf c) else t, {}) := rfl

namespace State

/-- A pulse whose end has come leaves the pin inactive from that time on (R147). -/
theorem pinPulseEnd_due {s : State} {m u : Nat} (h : (s.pin m).pulseEnd = some u) (hu : u / 256 ≤ s.cyc) :
    s.pinPulseEnd m = (s.pinEdge m u false).setPin m { (s.pinEdge m u false).pin m with pulseEnd := none } := by
  simp only [pinPulseEnd, h, hu, if_true]

theorem pinPulseEnd_none {s : State} {m : Nat} (h : (s.pin m).pulseEnd = none) : s.pinPulseEnd m = s := by
  simp only [pinPulseEnd, h]

end State

/-- Settles O16: each command's effect in the state whose ring slot has passed, which has the same frames and timing
sets; the pulse's end where its time has come. -/
theorem frameAndMarkerCommands : Obligations.FrameAndMarkerCommands := by
  refine ⟨?write, ?vzAdd, ?read, ?tsetWrite, ?tsetRead, ?claim, ?claimEvent, ?release, ?pulseEnd, ?noPulse⟩
  case write | vzAdd | tsetWrite | release =>
    intro s c h
    exact command_done h rfl rfl
  case read =>
    intro s c h
    exact command_reads h rfl (by simp only [frameReadSpec, frame_passHead])
  case tsetRead =>
    intro s c h
    exact command_reads h rfl (by simp only [tsetReadSpec, chan_passHead])
  case claim =>
    intro s c h hk
    exact command_done h rfl (by rw [mrkClaim_app, if_neg hk])
  case claimEvent =>
    intro s c h hk
    exact command_done h rfl (by rw [mrkClaim_app, if_pos hk, hk])
  case pulseEnd => exact fun s m u h hu => run_act (pinPulseEnd_due h hu)
  case noPulse => exact fun s m h => run_to (pinPulseEnd_none h) rfl rfl

end Sys2Proof.Machine
end

section
/-!
PROOFS. The rows of the segment sequencer.
-/

namespace Sys2Proof.Machine
open State

namespace State

/-! ## Boundaries (R110, R116, R124) -/

/-- A chain is at a boundary in the present cycle: nothing has ended, holds or freezes it. -/
structure AtBoundary (s : State) (n : Nat) (c : Chain) : Prop where
  stop : c.stop = s.cyc
  going : c.ended = false
  free : c.held = false
  unfrozen : s.frozenAt n = none

theorem segmentBoundary_voice {s : State} {n v : Nat} {c : Chain} (hc : (s.voice n v).chain = some c)
    (h : s.AtBoundary n c) : s.segmentBoundary n v false =
      (when (segMode c.seg != 4) (fun s =>
        let s := s.handOverAt n v
        if s.leadVoice n = v then s.handOverAt n 8 else s) s |>.pushHist n v false c).boundary n v false c := by
  obtain ⟨hstop, hgoing, hfree, hfrozen⟩ := h
  simp only [segmentBoundary, hc, hstop, hgoing, hfree, hfrozen, beq_self_eq_true, Bool.not_false, Option.isNone_none,
    Bool.and_self, Bool.true_and, Bool.false_eq_true, if_false, if_true]

theorem segmentBoundary_lane {s : State} {n v : Nat} {p : Spec} (hp : (s.voice n v).spec = some p)
    (h : s.AtBoundary n p.lane) :
    s.segmentBoundary n v true = (s.pushHist n v true p.lane).boundary n v true p.lane := by
  obtain ⟨hstop, hgoing, hfree, hfrozen⟩ := h
  simp only [segmentBoundary, hp, Option.map_some, hstop, hgoing, hfree, hfrozen, beq_self_eq_true, Bool.not_false,
    Option.isNone_none, Bool.and_self, Bool.not_true, Bool.false_and, when_false, if_true]

/-- An END_SHOT segment ends its chain (R116). -/
theorem boundary_endShot {s : State} {n v : Nat} {lane : Bool} {c : Chain} (h : segMode c.seg = 4) :
    s.boundary n v lane c = s.setChain n v lane { c with ended := true } := by
  simp only [boundary, h]

/-! ## Selection of a speculation (R112, R253, R255) -/

/-- A rendering is selected: it is the voice's from now on, and of its latenesses only an ABORT stays to come; the
other's datapath is free from the next cycle. -/
def selected (s : State) (n v : Nat) (x : Voice) (c : Chain) : State :=
  (s.setVoice n v { x with
    chain := some { c with lates := c.lates.filter (fun l => l.pol == 2) }
    spec := none }).updChan n fun o => { o with freed := s.cyc :: o.freed.filter (fun c => decide (s.cyc ≤ c)) }

section
variable {s : State} {n v : Nat} {p : Spec}

/-- ALT is selected: the lane's rendering replaces what the voice has not sent yet. -/
theorem specSelect_alt (hp : (s.voice n v).spec = some p) (hb : p.bound = s.cyc) (hr : p.result = some (some true)) :
    s.specSelect n v = (s.selected n v { s.voice n v with
      granules := (s.voice n v).granules.filter (fun g => decide (g.mux < s.cyc)) ++ p.granules, hist := p.hist }
        p.lane).actLates n v p.lane.lates := by
  simp only [specSelect, hp, hb, hr, beq_self_eq_true, Option.isSome_some, Bool.and_self, if_true, Option.map_some]
  rfl

/-- NEXT is selected: the voice goes on with its own rendering. -/
theorem specSelect_next {c : Chain} (hp : (s.voice n v).spec = some p) (hb : p.bound = s.cyc)
    (hr : p.result = some (some false)) (hc : (s.voice n v).chain = some c) :
    s.specSelect n v = (s.selected n v (s.voice n v) c).actLates n v c.lates := by
  simp only [specSelect, hp, hb, hr, hc, beq_self_eq_true, Option.isSome_some, Bool.and_self, if_true]
  rfl

/-- A late selection whose policy is not ABORT takes NEXT and leaves its trace (R256). -/
theorem specSelect_late {c : Chain} (hp : (s.voice n v).spec = some p) (hb : p.bound = s.cyc)
    (hr : p.result = some none) (hl : p.late ≠ 2) (hc : (s.voice n v).chain = some c) :
    s.specSelect n v = ((s.selected n v (s.voice n v) c).lateDefault n p.late).actLates n v c.lates := by
  simp only [specSelect, hp, hb, hr, hc, beq_self_eq_true, Option.isSome_some, Bool.and_self, if_true, if_neg hl]
  rfl

end

/-! ## Waits (R258, R261) -/

theorem resolveReady_of_resolved {s : State} {n : Nat}
    (h : ∀ x, s.waitOf (s.waitKey n) = some x → x.conds.all (fun q => q.result.isSome) = true) :
    s.resolveReady n = s := by
  simp only [resolveReady]
  split
  · next x hx =>
    have hnone : x.conds.filter (fun q => q.och == n && q.result.isNone) = [] := by
      refine List.filter_eq_nil_iff.mpr fun q hq => ?_
      have hsome := List.all_eq_true.mp (h x hx) q hq
      simp [Option.isSome_iff_ne_none.mp hsome]
    rw [hnone, forEach_nil]
  · rfl

/-- With its members' conditions resolved already, a wait whose cycle has come ends. -/
theorem waitResume_due {s : State} {k c : Nat} {w : Wait}
    (hall : ∀ n ∈ s.waitMembers k, ∀ x, s.waitOf (s.waitKey n) = some x → x.conds.all (fun q => q.result.isSome) = true)
    (hw : s.waitOf k = some w) (hc : waitReady w = some c) (hr : w.resume = none)
    (hnow : max (c + 4) (w.entered + 1) = s.cyc) : s.waitResume k = s.resumeWait k w := by
  have hidle : forEach (s.waitMembers k) (fun n s => s.resolveReady n) s = s :=
    forEach_idle_of_mem fun n hn => resolveReady_of_resolved (hall n hn)
  simp only [waitResume, hidle, hw, hc, hr, hnow, Option.isNone_none, beq_self_eq_true, Bool.and_self, if_true]

theorem waitTimeout_some {s : State} {n v : Nat} {q : WCond} (h : s.atWaitLimit n v = some q) :
    s.waitTimeout n v = s.after s.cyc (.waitLimit n v) := by
  simp only [waitTimeout, h, Option.isSome_some, if_true]

theorem waitTimeout_none {s : State} {n v : Nat} (h : s.atWaitLimit n v = none) : s.waitTimeout n v = s := by
  simp only [waitTimeout, h, Option.isSome_none, Bool.false_eq_true, if_false]

theorem waitLimit_default {s : State} {n v : Nat} {q : WCond} (h : (s.resolveReady n).atWaitLimit n v = some q) :
    s.waitLimit n v = ((((s.resolveReady n).resolve ((s.resolveReady n).waitKey n) q false
      (min (s.resolveReady n).cyc ((s.resolveReady n).waitBound n))).lateDefault n 1).bump .ochWaitTimeout n) := by
  simp only [waitLimit, h]

/-! ## Granules, stream blocks and the limit of an abort (R84, R121, R155) -/

theorem granuleBoundary_first {s : State} {n : Nat} (hp : s.hasOch n = true) (hl : (s.chan n).lastGran ≠ s.cyc + 1) :
    s.granuleBoundary n =
      (let s := s.updChan n fun o => { o with lastGran := s.cyc + 1 }
      let s := (s.frameApply false n (s.stIn 31)).resolveReady n
      let s := forEach (List.range 8) (fun v s => s.renderVoice n v) s
      let s := forEach (List.range 8) (fun v s => s.lateAbort n v) s
      (s.stopHere n).passMux n) :=
  if_neg (by simp [hp, hl])

theorem granuleBoundary_again {s : State} {n : Nat} (hl : (s.chan n).lastGran = s.cyc + 1) : s.granuleBoundary n = s :=
  if_pos (by simp [hl])

/-- The byte of DRAM where block k of the open stream's tape begins. -/
def tapeAddr (s : State) (n k : Nat) : Nat := dramAddr (64 * (descBase (s.openDesc n) + tapeBlock (s.openDesc n) k))

/-- The block that the fetch awaits, with room for it and correct in DRAM. -/
theorem strmArrive_awaited {s : State} {n k : Nat} (ho : s.strmOpen n = true) (hk : k = (s.chan n).strm.to_)
    (hroom : s.bufLevel n < 512) (htape : tapeOver (s.openDesc n) (k * fmtPerBlock (descFormat (s.openDesc n))) = false)
    (hon : s.bar2On (s.tapeAddr n k) = true) (hgroup : s.groupOn n = true)
    (hgood : s.bar2Bad (s.tapeAddr n k) 64 = false) :
    s.strmArrive n k = State.cleanBank (row := 5) (inst := n) (lo := 8 * (k % 512)) (hi := 8 * (k % 512) + 8)
      (s.setStrm n { (s.chan n).strm with
        to_ := k + 1
        data := SMap.put 0 (s.chan n).strm.data k
          (BitVec.ofNat 512 (leNat (Memory.readBytes s.mem.bytes (s.tapeAddr n k) 64))) }) := by
  unfold tapeAddr at *
  have hnext : (k == (s.chan n).strm.to_) = true := beq_iff_eq.mpr hk
  simp only [strmArrive, ho, hnext, hroom, htape, hon, hgroup, hgood, decide_true, Bool.not_false, Bool.and_self,
    if_true, Bool.false_eq_true, if_false]

theorem abortLimit_past {s : State} {n cause c : Nat} (ha : s.shot.abort = some (cause, c))
    (hcause : cause = 2 ∨ cause = 3) (hs : (s.chan n).stopping = true) (hc : c + 6250 < s.cyc) :
    s.abortLimit n = s.stopChan n := by
  have hhost : (cause == 2 || cause == 3) = true := by simpa using hcause
  simp only [abortLimit, ha, hhost, hs, hc, decide_true, Bool.and_self, if_true]

end State

/-- Settles O20: each row's effect where its condition holds (a waiting condition looked at once more at the end of the
limit's cycle is log entry 3). -/
theorem sequencerRows : Obligations.SequencerRows := by
  refine ⟨?voice, ?endShot, ?lane, ?alt, ?next, ?late, ?resume, ?limit, ?noLimit, ?atLimit, ?granule, ?again, ?block,
    ?abort⟩
  case voice =>
    intro s n v c hc hstop hgoing hfree hfrozen hmode
    refine perform_act ((segmentBoundary_voice hc ⟨hstop, hgoing, hfree, hfrozen⟩).trans ?_)
    rw [bne_iff_ne.mpr hmode, when_true]
  case endShot =>
    intro s n v c hc hstop hgoing hfree hfrozen hmode
    refine perform_act ((segmentBoundary_voice hc ⟨hstop, hgoing, hfree, hfrozen⟩).trans ?_)
    rw [boundary_endShot hmode, hmode]
    rfl
  case lane =>
    exact fun s n v p hp hstop hgoing hfree hfrozen =>
      perform_act (segmentBoundary_lane hp ⟨hstop, hgoing, hfree, hfrozen⟩)
  case alt => exact fun s n v p hp hb hr => perform_act (specSelect_alt hp hb hr)
  case next => exact fun s n v p c hp hb hr hc => perform_act (specSelect_next hp hb hr hc)
  case late => exact fun s n v p c hp hb hr hl hc => perform_act (specSelect_late hp hb hr hl hc)
  case resume => exact fun s k w c hall hw hc hr hnow => perform_act (waitResume_due hall hw hc hr hnow)
  case limit => exact fun s n v q h => perform_act (waitTimeout_some h)
  case noLimit => exact fun s n v h => perform_act (waitTimeout_none h)
  case atLimit => exact fun s n v q h => waitLimit_default h
  case granule => exact fun s n hp hl => perform_act (granuleBoundary_first hp hl)
  case again => exact fun s n hl => perform_act (granuleBoundary_again hl)
  case block =>
    exact fun s n k ho hk hroom htape hon hgroup hgood =>
      perform_act (strmArrive_awaited ho hk hroom htape hon hgroup hgood)
  case abort => exact fun s n cause c ha hcause hs hc => perform_act (abortLimit_past ha hcause hs hc)

end Sys2Proof.Machine
end

section
/-!
PROOFS. The complex instructions of a DSP core.
-/

namespace Sys2Proof.Machine
open State

/-! ## Instructions that go on to the next one (R286) -/

/-- A row of an instruction that the core issues and whose effect goes on to the next instruction. -/
theorem dspRow_thenNext {s : State} {q w : Nat} {op : DspOp} {f : Nat → State → DspEnd} {g : State → State}
    (h : s.Issues q w op) (hf : f w = thenNext q g) :
    dspRow q op .clean f s = .next (s.act (issued q (s.pcNext q) g)) :=
  dspRow_issued h (by rw [hf, thenNext, pcNext_wake])

/-- CROTQ by k quarter turns: what each k makes of the halves (R286). -/
def quarterTurn (k g : Nat) : Int × Int :=
  match k with
  | 0 => (reOf g, imOf g)
  | 1 => (-imOf g, reOf g)
  | 2 => (-reOf g, -imOf g)
  | _ => (imOf g, -reOf g)

theorem exec_dspCrotq {s : State} {q : Fin 32} {w : Nat} (h : s.Issues q w .crotq) :
    exec (.dspCrotq q .clean) s = .next (s.act (issued q (s.pcNext q) fun s =>
      s.setHalves q (iD w) (rndSat16 (quarterTurn (iSh w) (s.gReg q (iS1 w))).1 0)
        (rndSat16 (quarterTurn (iSh w) (s.gReg q (iS1 w))).2 0))) :=
  dspRow_thenNext h rfl

/-- Settles O43: each row is the issue of its instruction, and goes on to the next. -/
theorem dspComplex : Obligations.DspComplex := by
  refine ⟨?addSub, ?rotate, ?product, ?products, ?round, ?low, ?high⟩
  case addSub | product | products =>
    intro s q w i op x hi h
    simp only [List.mem_cons, List.not_mem_nil, or_false, Prod.mk.injEq] at hi
    obtain ⟨rfl, rfl, rfl⟩ | ⟨rfl, rfl, rfl⟩ := hi
    · exact dspRow_thenNext h rfl
    · exact dspRow_thenNext h rfl
  case rotate =>
    intro s q w k re im hk h hsh
    rw [exec_dspCrotq h, hsh]
    simp only [List.mem_cons, List.not_mem_nil, or_false, Prod.mk.injEq] at hk
    obtain ⟨rfl, rfl, rfl⟩ | ⟨rfl, rfl, rfl⟩ | ⟨rfl, rfl, rfl⟩ | ⟨rfl, rfl, rfl⟩ := hk <;> rfl
  case round | low | high =>
    intro s q w h
    exact dspRow_thenNext h rfl

end Sys2Proof.Machine
end

section
/-!
PROOFS. The sequencer's choice of a successor, the commands and the window of its tables, and its shadow sets.
-/

namespace Sys2Proof.Machine
open State

namespace State

/-! ## The choice at a boundary (R110 to R116) -/

section
variable {s : State} {n v : Nat} {lane : Bool} {c : Chain}

theorem boundary_seq (h : segMode c.seg = 0) : s.boundary n v lane c = s.goTo n v lane c (segNext c.seg) := by
  simp only [boundary, h]

/-- ASYNC: a sampled request goes to ALT and is used up (R114). -/
theorem boundary_async (h : segMode c.seg = 2) : s.boundary n v lane c =
    if s.sampled c.async then s.goTo n v lane { c with async := none } (segAlt c.seg)
    else s.goTo n v lane c (segNext c.seg) := by
  simp only [boundary, h]

/-- LOOP: a counter at zero is reloaded on the way to NEXT, another counts down on the way to ALT (R111). -/
theorem boundary_loop (h : segMode c.seg = 3) : s.boundary n v lane c =
    if c.loops.getD (segLctr c.seg) 0 = 0 then
      s.goTo n v lane { c with loops := c.loops.set (segLctr c.seg) (s.actLoad n (segLctr c.seg)) } (segNext c.seg)
    else s.goTo n v lane { c with loops := c.loops.set (segLctr c.seg) (c.loops.getD (segLctr c.seg) 0 - 1) }
      (segAlt c.seg) := by
  simp only [boundary, h]

/-- The next play of the segment that has just ended. -/
def replayed (s : State) (c : Chain) : Chain := { c with
  start := s.cyc, pos := 0, stop := s.cyc + segLen c.seg, plays := c.plays + 1, spos := c.sposAt c.stop, part := s.cyc }

/-- WAIT_EVENT: a sampled event goes to NEXT, without one the plays run out on the way to ALT (R115). -/
theorem boundary_waitEvent (h : segMode c.seg = 5) : s.boundary n v lane c =
    if s.sampled c.event then s.goTo n v lane c (segNext c.seg)
    else if c.plays < segRepeat c.seg then s.setChain n v lane (s.replayed c)
    else (when c.event.isSome (fun s => s.bump .ochReqDrop n) s).goTo n v lane c (segAlt c.seg) := by
  simp only [boundary, h, replayed]

end

end State

/-- Settles O21: the choice of each mode, split where it looks at a request, a counter or an event (that a late event
counts at once, in a lane as well, is the model's choice: log entry 3). -/
theorem successorRule : Obligations.SuccessorRule := by
  intro s n v lane c
  refine ⟨boundary_seq, ?request, ?noRequest, ?loopEnds, ?loopGoes, ?event, ?replay, ?noEvent, boundary_endShot⟩
  case request => exact fun h ha => (boundary_async h).trans (if_pos ha)
  case noRequest => exact fun h ha => (boundary_async h).trans (if_neg (by simp [ha]))
  case loopEnds => exact fun h hz => (boundary_loop h).trans (if_pos hz)
  case loopGoes => exact fun h hz => (boundary_loop h).trans (if_neg hz)
  case event => exact fun h he => (boundary_waitEvent h).trans (if_pos he)
  case replay =>
    intro h he hp
    rw [boundary_waitEvent h, if_neg (by simp [he]), if_pos hp, replayed]
  case noEvent =>
    intro h he hp
    rw [boundary_waitEvent h, if_neg (by simp [he]), if_neg (Nat.not_lt.mpr hp), when]

/-! ## The commands of tables and streams (R131, R134, R152 to R155) -/

theorem strmOpen_passHead (s : State) (q n : Nat) : (s.passHead q).strmOpen n = s.strmOpen n := flag_passHead s q _ n

/-- Settles O18: each command's effect in the state whose ring slot has passed, that of STREAM_CLOSE by whether the stream is
open. -/
theorem tableCommandsApply : Obligations.TableCommandsApply := by
  refine ⟨?seqConfig, ?seqWrite, ?condWrite, ?descWrite, ?streamOpen, ?closeOpen, ?closeNone⟩
  case seqConfig | seqWrite | condWrite | descWrite | streamOpen =>
    intro s c h
    exact command_done h rfl rfl
  case closeOpen =>
    intro s c h ho
    refine command_done h rfl ?_
    simp only [streamCloseSpec, justDo, strmOpen_passHead, ho, if_true]
  case closeNone =>
    intro s c h ho
    refine command_done h rfl ?_
    simp only [streamCloseSpec, justDo, strmOpen_passHead, ho, Bool.false_eq_true, if_false, id]

namespace State

/-! ## The table window (R128, R130, R521) -/

section
variable {s : State} {n : Nat}

theorem tblDataWrite_void (h : s.tblVoid n = true) (v : Word) : s.tblDataWrite n v = s := if_pos h

/-- The word is staged for an entry that is not whole yet. -/
theorem tblDataWrite_short (h : s.tblVoid n = false)
    (hw : s.fld .ochTblAddrWord n ≠ tblLast (s.fld .ochTblAddrTable n)) (v : Word) : s.tblDataWrite n v =
    (s.updChan n fun o => { o with stage := SMap.put 0 o.stage (s.fld .ochTblAddrWord n) v }).tblAdvance n := by
  simp only [tblDataWrite, h, Bool.false_eq_true, if_false, if_neg hw]

@[simp] theorem groupOn_updChan (s : State) (n : Nat) (f : Och → Och) (g : Nat) :
    (s.updChan n f).groupOn g = s.groupOn g := rfl

/-- The last word writes the entry whole, in either table, or is refused where the entry is active. -/
theorem tblDataWrite_last {t : Nat} (h : s.tblVoid n = false) (ht : s.fld .ochTblAddrTable n = t)
    (hw : s.fld .ochTblAddrWord n = tblLast t) (hg : s.groupOn n = true) (v : Word) : s.tblDataWrite n v =
    (let i := s.fld .ochTblAddrIndex n
    let u := s.updChan n fun o => { o with stage := SMap.put 0 o.stage (tblLast t) v }
    let words := (List.range (tblLast t + 1)).map (fun k => (SMap.get 0 (u.chan n).stage k).toNat)
    let u := u.updChan n fun o => { o with stage := [] }
    State.tblAdvance (if u.targetActive n t i then u.writeRefused n i t 0
      else u.tblWrite n t i (words.foldr (fun x a => x + 2 ^ 32 * a) 0)) n) := by
  simp only [tblDataWrite, h, ht, hw, groupOn_updChan, hg, Bool.false_eq_true, if_false, if_true]

theorem tblDataRead_void (h : s.tblVoid n = true) : s.tblDataRead n = s.returns 0 := if_pos h

/-- A read returns the addressed word where the channel's group answers. -/
theorem tblDataRead_word (h : s.tblVoid n = false) : s.tblDataRead n = (s.tblAdvance n).returns
    (if s.groupOn n then
      slice (s.tblEntry n (s.fld .ochTblAddrTable n) (s.fld .ochTblAddrIndex n)) (32 * s.fld .ochTblAddrWord n) 32
    else 0) := by
  simp only [tblDataRead, h, Bool.false_eq_true, if_false]

end

end State

/-- Settles O19: each access of a host that reaches the channel's page (that a set committed anew in the cycle of its
hand-over has not merged is the model's reading: log entry 3). -/
theorem sequencerWindowRows : Obligations.SequencerWindowRows := by
  refine ⟨?voidWrite, ?short, ?last, ?voidRead, ?read, ?readOff, ?jump, ?shadow, ?commit⟩
  case voidWrite => exact fun s n v hp h => run_to (by rw [hp, if_pos rfl, tblDataWrite_void h]) rfl rfl
  case short => exact fun s n v hp h hw => run_act (by rw [hp, if_pos rfl, tblDataWrite_short h hw])
  case last => exact fun s n v hp h ht hw hg => run_act (by rw [hp, if_pos rfl, tblDataWrite_last h ht hw hg]; rfl)
  case voidRead => exact fun s n hp h => run_to (by rw [hp, if_pos rfl, tblDataRead_void h]) rfl rfl
  case read => exact fun s n hp h hg => run_act (by rw [hp, if_pos rfl, tblDataRead_word h, if_pos hg])
  case readOff => exact fun s n hp h hg => run_act (by rw [hp, if_pos rfl, tblDataRead_word h, hg]; rfl)
  case jump | commit => exact fun s n v hp => run_act (if_pos hp)
  case shadow => exact fun s n w v hp => run_act (if_pos hp)

end Sys2Proof.Machine
end

section
/-!
PROOFS. The messages that travel the links.
-/

namespace Sys2Proof.Machine
open State

namespace State

/-! ## Taking a message from its port (R265, R439) -/

section
variable {s : State} {p : Nat} {b : Dword}

/-- A DECISION block for this device waits for the end of its cycle. -/
theorem decisionBlockRx_here (hb : (s.port p).inbox.find? (fun b => blkType b == 1) = some b)
    (hd : blkField b 50 6 = s.deviceId) : s.decisionBlockRx p =
      (s.setPort p { s.port p with inbox := (s.port p).inbox.erase b }).after s.cyc (.decBlock p b) := by
  simp only [decisionBlockRx, hb]
  exact if_pos hd

/-- A DECISION block for another device is forwarded, with one more hop. -/
theorem decisionBlockRx_other (hb : (s.port p).inbox.find? (fun b => blkType b == 1) = some b)
    (hd : blkField b 50 6 ≠ s.deviceId) : s.decisionBlockRx p =
      (s.setPort p { s.port p with inbox := (s.port p).inbox.erase b }).forward p (blkField b 50 6) (blkField b 0 4)
        [b + 1] false (fun s => s.bump .glbDecFwdDrop) := by
  simp only [decisionBlockRx, hb]
  exact if_neg hd

theorem forward_on {dest hops q : Nat} {blocks : List Dword} {bulk : Bool} {drop : State → State}
    (hr : s.routeTo dest = some q) (hq : q ≠ p) (hh : hops < 14) :
    s.forward p dest hops blocks bulk drop = s.sendBlocks q bulk blocks := by
  have hgoes : ¬ (q = p ∨ 15 ≤ hops + 1) := by omega
  simp only [forward, hr, Bool.or_eq_true, decide_eq_true_eq, if_neg hgoes]

theorem forward_unrouted {dest hops : Nat} {blocks : List Dword} {bulk : Bool} {drop : State → State}
    (hr : s.routeTo dest = none) : s.forward p dest hops blocks bulk drop = drop s := by
  simp only [forward, hr]

@[simp] theorem cyc_timeTaken (s : State) (p : Nat) (bs : List Dword) : (s.timeTaken p bs).cyc = s.cyc := rfl
@[simp] theorem deviceId_timeTaken (s : State) (p : Nat) (bs : List Dword) :
    (s.timeTaken p bs).deviceId = s.deviceId := rfl
@[simp] theorem hasOch_timeTaken (s : State) (p : Nat) (bs : List Dword) (n : Nat) :
    (s.timeTaken p bs).hasOch n = s.hasOch n := rfl

/-- A whole MIRROR message for this device, of a kind that the row stands for, leaves its port's deliveries and acts; one
without an effect counts in MIR_DROP (R439). -/
theorem mirrorRow_here {cont : List Dword} {bulk : Bool} {kinds : Nat → Bool} {act : Nat → Nat → State → Option State}
    (hm : mirrorMessage (s.port p) bulk = some (b, cont)) (hk : kinds (blkField b 40 4) = true)
    (hc : blkCont b = false) (hd : blkField b 50 6 = s.deviceId) : s.mirrorRow p bulk kinds act =
      (act b.toNat (mirrorBits cont) (s.timeTaken p (b :: cont))).getD
        ((s.timeTaken p (b :: cont)).bump .blpMirDrop p) := by
  simp only [mirrorRow, hm, hk, if_true, hc, Bool.false_eq_true, if_false]
  exact if_neg (not_not_intro hd)

end

/-! ## What a message does (R114, R123, R267, R268, R438) -/

/-- A DECISION block is accepted into an import slot of its source and its assignment epoch, and is stale otherwise. -/
theorem decisionArrives_eq (s : State) (b : Dword) : s.decisionArrives b =
    if 1024 ≤ blkField b 32 12 ∧ (s.slot (blkField b 32 12)).assigned = true ∧
        (s.slot (blkField b 32 12)).owner = blkField b 44 6 ∧
        (s.slot (blkField b 32 12)).epoch.toNat = blkField b 24 8
    then s.decAccept (blkField b 32 12) (blkField b 4 4) (blkField b 8 16) s.cyc
    else s.decStale (blkField b 32 12) := by
  rw [decisionArrives, ← ite_not]
  refine if_congr ?_ rfl rfl
  simp [not_or, and_assoc]

section
variable {s : State} {p : Nat} {b : Dword} {cont : List Dword}

theorem mirrorEvent_here (hm : mirrorMessage (s.port p) false = some (b, cont)) (hk : blkField b 40 4 = 0)
    (hc : blkCont b = false) (hd : blkField b 50 6 = s.deviceId) :
    s.mirrorEvent p = (s.timeTaken p (b :: cont)).fire (prodRevt (slice b.toNat 29 4)) := by
  have hkind : slice b.toNat 40 4 = 0 := hk
  rw [mirrorEvent, mirrorRow_here hm (by simp [hk]) hc hd, if_pos hkind, Option.getD_some]

theorem mirrorAsync_here (hm : mirrorMessage (s.port p) false = some (b, cont)) (hk : blkField b 40 4 = 1)
    (hc : blkCont b = false) (hd : blkField b 50 6 = s.deviceId) (ho : s.hasOch (slice b.toNat 26 7) = true) :
    s.mirrorAsync p = (s.timeTaken p (b :: cont)).after s.cyc
      (.asyncMsg (5 + p) (slice b.toNat 26 7) (slice b.toNat 18 8) (slice b.toNat 10 8)) := by
  rw [mirrorAsync, mirrorRow_here hm (by simp [hk]) hc hd]
  simp [ho]

/-- The frame operation that a FRAME message carries, entered in cycle cyc (R438). -/
def mirrorFrameOp (b : Dword) (body cyc : Nat) : FrameOp :=
  { frame := slice b.toNat 16 9, add := bit b.toNat 15, mask := slice b.toNat 10 5, val := BitVec.ofNat 128 body,
    delta := slice body 0 32, atSt := if bit b.toNat 9 then some (slice body 128 64) else none, entered := cyc }

theorem mirrorFrame_here (hm : mirrorMessage (s.port p) true = some (b, cont)) (hk : blkField b 40 4 = 2)
    (hc : blkCont b = false) (hd : blkField b 50 6 = s.deviceId) (hx : bit b.toNat 25 = false)
    (ho : s.hasOch (slice b.toNat 26 7) = true) :
    s.mirrorFrame p = (s.timeTaken p (b :: cont)).after s.cyc (.frameMsg (5 + p) false (slice b.toNat 26 7)
      (slice (mirrorBits cont) 192 8) (slice (mirrorBits cont) 200 4) (mirrorFrameOp b (mirrorBits cont) s.cyc)) := by
  have hkind : slice b.toNat 40 4 = 2 := hk
  rw [mirrorFrame, mirrorRow_here hm (by simp [hk]) hc hd]
  simp [hkind, hx, ho, mirrorFrameOp]

theorem mirrorShadow_commit (hm : mirrorMessage (s.port p) true = some (b, cont)) (hk : blkField b 40 4 = 3)
    (hc : blkCont b = false) (hd : blkField b 50 6 = s.deviceId) (ho : s.hasOch (slice b.toNat 26 7) = true)
    (hop : slice b.toNat 24 2 = 2) :
    s.mirrorShadow p = (s.timeTaken p (b :: cont)).after s.cyc (.commitMsg (5 + p) (slice b.toNat 26 7)
      (slice b.toNat 12 8) (slice (mirrorBits cont) 0 16) (slice (mirrorBits cont) 16 9)) := by
  rw [mirrorShadow, mirrorRow_here hm (by simp [hk]) hc hd]
  simp [ho, hop]

theorem mirrorShadow_absent (hm : mirrorMessage (s.port p) true = some (b, cont)) (hk : blkField b 40 4 = 3)
    (hc : blkCont b = false) (hd : blkField b 50 6 = s.deviceId) (ho : s.hasOch (slice b.toNat 26 7) = false) :
    s.mirrorShadow p = (s.timeTaken p (b :: cont)).bump .blpMirDrop p := by
  rw [mirrorShadow, mirrorRow_here hm (by simp [hk]) hc hd]
  simp [ho]

end

end State

/-- Settles O41: each row by what its message is taken for, and each message at the end of its cycle by the epoch that it
carries (log entry 3). -/
theorem linkMessageRows : Obligations.LinkMessageRows := by
  refine ⟨?here, ?block, ?onward, ?unrouted, ?event, ?async, ?asyncAct, ?frame, ?frameAct, ?shadow, ?commitAct, ?absent⟩
  case here => exact fun s p b hb hd => run_act (decisionBlockRx_here hb hd)
  case block => exact fun s p b => decisionArrives_eq s b
  case onward =>
    exact fun s p b q hb hd hr hq hh => run_act ((decisionBlockRx_other hb hd).trans (forward_on hr hq hh))
  case unrouted => exact fun s p b hb hd hr => run_act ((decisionBlockRx_other hb hd).trans (forward_unrouted hr))
  case event => exact fun s p b cont hm hk hc hd => perform_act (mirrorEvent_here hm hk hc hd)
  case async => exact fun s p b cont hm hk hc hd ho => run_act (mirrorAsync_here hm hk hc hd ho)
  case frame => exact fun s p b cont hm hk hc hd hx ho => run_act (mirrorFrame_here hm hk hc hd hx ho)
  case shadow => exact fun s p b cont hm hk hc hd ho hop => run_act (mirrorShadow_commit hm hk hc hd ho hop)
  case absent => exact fun s p b cont hm hk hc hd ho => run_act (mirrorShadow_absent hm hk hc hd ho)
  case asyncAct | frameAct | commitAct => intros; rfl

end Sys2Proof.Machine
end

section
/-!
PROOFS. Thermal management: the configuration, a reading of the sensors, and an evaluation of the throttle.
-/

namespace Sys2Proof.Machine

namespace State

/-! ## When the thermal rows act (R485, R489) -/

/-- A thermal row waits: for the Dawn stage that it starts with, for a device that is on, or for its next cycle. -/
def thermWaits (s : State) (stage next : Nat) : Bool :=
  decide (s.stage < stage) || s.dev == 0 || decide (s.cyc < next)

theorem thermWaits_iff (s : State) (stage next : Nat) :
    s.thermWaits stage next = true ↔ s.fld .glbDawnStatusStage < stage ∨ s.dev = 0 ∨ s.cyc < next := by
  simp only [thermWaits, Bool.or_eq_true, decide_eq_true_iff, beq_iff_eq, or_assoc]
  rfl

theorem not_thermWaits {s : State} {stage next : Nat} (hs : stage ≤ s.fld .glbDawnStatusStage) (hd : s.dev ≠ 0)
    (hn : next ≤ s.cyc) : ¬ s.thermWaits stage next = true := by
  rw [thermWaits_iff]
  omega

/-! ## Readings (R485, R486, R491, R492) -/

/-- The reading's first step: each sensor present takes its code and sees its neighbour's, and the next reading is due
100 µs later. -/
def codesTaken (s : State) (x : List (BitVec 16)) : State :=
  forEach s.sensorList (fun i u => u.sensorSeen i (x.getD i 0) (x.getD (neighbour i) 0))
    { s with therm := { s.therm with next := s.cyc + 62500 } }

/-- Of the sensors of l, those that fail in the state that holds their codes are excluded. -/
def failedDropped (s : State) (l : List Nat) : State :=
  forEach (l.filter fun i => !s.sensorOut i && s.sensorBad i) (fun i u => u.sensorDrop i) s

/-- The sensors of l keep their offsets and show whether they are valid; THERM.MAX is that of the valid ones. -/
def offsetsKept (s : State) (l : List Nat) : State :=
  (forEach l (fun i u => (u.sensorOffset i).setB .thermSensorValid i (!u.sensorOut i)) s).thermMaxSet

/-- WARN and STOP follow THERM.MAX, each with its hysteresis. -/
def levelsJudged (s : State) : State :=
  { s with therm := { s.therm with
      warn := s.hysteresis .thermCfgWarn s.therm.warn
      stop := s.hysteresis .thermCfgStop s.therm.stop } }

/-- What a reading's maximum brings about: the level shown, and Dusk or the end of Dawn at STOP. -/
def levelsShown (s : State) : State :=
  if s.thermAt .thermCfgStop then s.levelSet.stopReached else s.levelSet

theorem thermRead_waits {s : State} (h : s.thermWaits 7 s.therm.next = true) (x : List (BitVec 16)) :
    s.thermRead x = s := if_pos h

theorem thermRead_due {s : State} (h : ¬ s.thermWaits 7 s.therm.next = true) (x : List (BitVec 16)) :
    s.thermRead x = (((s.codesTaken x).failedDropped s.sensorList).offsetsKept
      s.sensorList).levelsJudged.levelsShown.hotSet.calDrift := if_neg h

theorem thermAt_iff (s : State) (f : Fld) :
    s.thermAt f = true ↔ 16 * (s.fld f : Int) ≤ sgn 16 (s.fld .thermMaxTemp) := decide_eq_true_iff

theorem hysteresis_iff (s : State) (f : Fld) (b : Bool) : s.hysteresis f b = true ↔
    16 * (s.fld f : Int) ≤ sgn 16 (s.fld .thermMaxTemp) ∨
      (b = true ∧ 16 * ((s.fld f : Int) - 3) ≤ sgn 16 (s.fld .thermMaxTemp)) := by
  simp only [hysteresis, Bool.or_eq_true, Bool.and_eq_true, decide_eq_true_iff, thermAt_iff]

theorem sensorBad_iff (s : State) (i : Nat) : s.sensorBad i = true ↔
    sgn 16 (s.fld .thermSensorTemp i) < -640 ∨ 2400 < sgn 16 (s.fld .thermSensorTemp i) ∨
      (10000 ≤ (s.sensor i).same ∧ 16 ≤ (s.sensor i).hi - (s.sensor i).lo) := by
  simp only [sensorBad, Bool.or_eq_true, Bool.and_eq_true, decide_eq_true_iff, or_assoc]
  rfl

/-! ## The throttle (R489, R492) -/

/-- The next evaluation is due 10 ms after this one was. -/
def throttleTimed (s : State) : State := { s with therm := { s.therm with evalAt := s.therm.evalAt + 6250000 } }

/-- The throttle level brought to n, with THROTTLE reached or not. -/
def throttleTo (s : State) (n : Nat) (reached : Bool) : State :=
  let t := s.setF .thermStatusThrLevel 0 n
  ({ t with therm := { t.therm with throttle := reached } } : State).levelSet

theorem throttle_due {s : State} (h : ¬ s.thermWaits 9 s.therm.evalAt = true) : s.throttle =
    if s.thermAt .thermCfgThrottle then s.throttleTimed.throttleTo (min 3 (s.fld .thermStatusThrLevel + 1)) true
    else if s.releaseHolds then s.throttleTimed.throttleTo (s.fld .thermStatusThrLevel - 1) false
    else s.throttleTimed := if_neg h

end State
open State

/-- Settles O56: each row is due or waits; a reading is its steps in order, and an evaluation of the throttle is a
choice of three (that the flag THROTTLE clears at an evaluation with the release condition, and that THERM.MAX stays
where no sensor is valid, are the model's readings: log entry 13). -/
theorem thermalAct : Obligations.ThermalAct := by
  refine ⟨?config, ?early, ?reading, hysteresis_iff, sensorBad_iff, ?throttle⟩
  case config => exact fun s c h => command_done h rfl rfl
  case early => exact fun s x h => run_to (thermRead_waits ((thermWaits_iff s 7 s.therm.next).mpr h) x) rfl rfl
  case reading => exact fun s x hs hd hn => run_act (thermRead_due (not_thermWaits hs hd hn) x)
  case throttle =>
    intro s hs hd hn
    have due := throttle_due (not_thermWaits hs hd hn)
    refine ⟨?deepens, ?lightens, ?holds⟩
    case deepens => exact fun h => run_act (due.trans (if_pos h))
    case lightens => exact fun h hr => run_act (due.trans ((if_neg (by simp [h])).trans (if_pos hr)))
    case holds => exact fun h hr => run_to (due.trans ((if_neg (by simp [h])).trans (if_neg (by simp [hr])))) rfl rfl

end Sys2Proof.Machine
end

section
/-!
PROOFS. The rows of the Output Guard: what a write of the GUARD page by the host does.
-/

namespace Sys2Proof.Machine
open State

/-! ## Limits (R191) -/

namespace State

/-- A limit that may be written: the Guard is not locked, or no field of it loosens. -/
theorem limitWrite_stored {s : State} {l : Limit} {i v : Nat} (hp : s.limitPresent l i = true)
    (h : s.flag .guardLockLocked = false ∨ l.loosens (s.rd l.reg i) (v &&& l.mask) = false) :
    s.limitWrite l i v = s.wr l.reg i (v &&& l.mask) := by
  have hmay : ¬ (s.flag .guardLockLocked && l.loosens (s.rd l.reg i) (v &&& l.mask)) = true := by
    rcases h with h | h <;> simp [h]
  simp only [limitWrite, hp, Bool.not_true, Bool.false_eq_true, if_false, if_neg hmay, limitStore]

theorem limitWrite_refused {s : State} {l : Limit} {i v : Nat} (hp : s.limitPresent l i = true)
    (hl : s.flag .guardLockLocked = true) (h : l.loosens (s.rd l.reg i) (v &&& l.mask) = true) :
    s.limitWrite l i v = s.bump .guardRaiseRefused := by
  simp only [limitWrite, hp, hl, h, Bool.not_true, Bool.false_eq_true, if_false, Bool.and_self, if_true]

end State

section
variable {s : State} (hg : s.hostGuard = true)
include hg

theorem exec_guardLimitWrite_stored {l : Fin 6} {i : Fin 96} {v : Word}
    (hp : s.limitPresent (Limit.ofFin l) i = true) (h : s.flag .guardLockLocked = false ∨
      (Limit.ofFin l).loosens (s.rd (Limit.ofFin l).reg i) (v.toNat &&& (Limit.ofFin l).mask) = false) :
    exec (.guardLimitWrite l i v) s = .next (s.wr (Limit.ofFin l).reg i (v.toNat &&& (Limit.ofFin l).mask)) :=
  run_to ((if_pos hg).trans (limitWrite_stored hp h)) rfl rfl

theorem exec_guardLimitWrite_refused {l : Fin 6} {i : Fin 96} {v : Word}
    (hp : s.limitPresent (Limit.ofFin l) i = true) (hl : s.flag .guardLockLocked = true)
    (h : (Limit.ofFin l).loosens (s.rd (Limit.ofFin l).reg i) (v.toNat &&& (Limit.ofFin l).mask) = true) :
    exec (.guardLimitWrite l i v) s = .next (s.bump .guardRaiseRefused) :=
  run_to ((if_pos hg).trans (limitWrite_refused hp hl h)) rfl rfl

theorem exec_guardLock {v : Word} (hb : bit v.toNat 0 = true) :
    exec (.guardLock v) s = .next (s.setB .guardLockLocked 0 true) :=
  run_to (if_pos (Bool.and_eq_true_iff.mpr ⟨hg, hb⟩)) rfl rfl

end

/-- Settles O14: each write reaches the page; that of a limit is stored or refused, the others act on the units that they
name. -/
theorem guardRowsAct : Obligations.GuardRowsAct := by
  refine ⟨?stored, ?refused, fun s v hg hb => exec_guardLock hg hb, ?force, ?release, ?brelease⟩
  case stored => exact fun s l i v hg hp h => exec_guardLimitWrite_stored hg hp h
  case refused => exact fun s l i v hg hp hl h => exec_guardLimitWrite_refused hg hp hl h
  case force => exact fun s w v hg => perform_act (if_pos hg)
  case release => exact fun s w v hg => run_act (if_pos hg)
  case brelease => exact fun s w v hg => run_act (if_pos hg)

end Sys2Proof.Machine
end

section
/-!
PROOFS. What a locked Guard keeps (R191): along every run of steps without a Dawn and without a completed GUARD_RAISE it
stays locked and no limit is loosened. All rows but the writes of a limit, of LOCK and of a register by its address leave
the limits and their lock as they are (the Keep files).
-/

namespace Sys2Proof.Machine
open State

/-! ## Limits by their tightness -/

/-- A write over a limit's own value loosens nothing. -/
theorem Limit.loosens_self (l : Limit) (x : Nat) : l.loosens x x = false := by
  cases l <;> simp [Limit.loosens]

theorem Limit.loosens_trans {l : Limit} {x y z : Nat} (h : l.loosens x y = false) (k : l.loosens y z = false) :
    l.loosens x z = false := by
  cases l <;> simp only [Limit.loosens, Bool.or_eq_false_iff, decide_eq_false_iff_not] at h k ⊢ <;> omega

namespace State

/-- If the Guard of s is locked, so is that of t, and no limit of t is looser than in s (R191). -/
def Tightens (s t : State) : Prop :=
  s.flag .guardLockLocked = true →
    t.flag .guardLockLocked = true ∧ ∀ l i, Limit.loosens l (s.rd l.reg i) (t.rd l.reg i) = false

theorem Tightens.trans {s t u : State} (h : Tightens s t) (k : Tightens t u) : Tightens s u := by
  intro hs
  obtain ⟨ht, hl⟩ := h hs
  obtain ⟨hu, hm⟩ := k ht
  exact ⟨hu, fun l i => Limit.loosens_trans (hl l i) (hm l i)⟩

/-- What leaves the limits and their lock as they were. -/
theorem tightens_of_guard {s t : State} (h : t.regs.guard = s.regs.guard) : Tightens s t := by
  rw [guard_eq, guard_eq, Prod.mk.injEq] at h
  obtain ⟨hlim, hlock⟩ := h
  intro hs
  refine ⟨by simpa only [flag, fld, hlock] using hs, fun l i => ?_⟩
  rw [show t.rd l.reg i = s.rd l.reg i from congrFun (congrFun hlim l) i]
  exact l.loosens_self _

end State

/-! ## Writes of the limits and of their lock (R20, R190, R191) -/

theorem Limit.reg_inj {l m : Limit} (h : l.reg = m.reg) : l = m := by
  cases l <;> cases m <;> simp_all [Limit.reg]

/-- A limit's bits lie in its 32-bit register. -/
theorem Limit.masked_mod (l : Limit) (v : Nat) : (v &&& l.mask) % 2 ^ l.reg.bits = v &&& l.mask := by
  apply Nat.mod_eq_of_lt
  exact Nat.lt_of_le_of_lt Nat.and_le_right (by cases l <;> decide)

namespace State

theorem locked_eq (s : State) : s.flag .guardLockLocked = (s.rd .guardLock).testBit 0 := by
  rw [flag, fld, slice, Nat.shiftRight_zero, Nat.testBit_zero]
  rcases Nat.mod_two_eq_zero_or_one (s.rd .guardLock) with h | h <;> simp [h]

/-- A stored limit that is not looser than the one before, where the Guard is locked. -/
theorem limitStore_tightens {s : State} {l : Limit} {i v : Nat}
    (h : s.flag .guardLockLocked = true → l.loosens (s.rd l.reg i) (v &&& l.mask) = false) :
    Tightens s (s.limitStore l i v) := by
  intro hs
  refine ⟨?_, fun m j => ?_⟩
  · rwa [limitStore, flag_wr_reg _ _ _ _ _ _ (by cases l <;> decide)]
  · by_cases hmj : m = l ∧ j = i
    · obtain ⟨rfl, rfl⟩ := hmj
      rw [limitStore, rd_wr_same, Limit.masked_mod]
      exact h hs
    · rw [limitStore, rd_wr_ne]
      · exact m.loosens_self _
      · by_cases hm : m = l
        · exact .inr fun hj => hmj ⟨hm, hj⟩
        · exact .inl fun hr => hm (Limit.reg_inj hr)

theorem limitWrite_tightens (s : State) (l : Limit) (i v : Nat) : Tightens s (s.limitWrite l i v) := by
  unfold limitWrite
  split_ifs with _ hloose
  · exact tightens_of_guard rfl
  · exact tightens_of_guard (by simp)
  · exact limitStore_tightens fun hs => by simpa [hs] using hloose

/-- Setting the lock leaves the limits as they are. -/
theorem setLock_tightens (s : State) : Tightens s (s.setB .guardLockLocked 0 true) := by
  intro _
  refine ⟨flag_setB_same _ _ _ _ (by decide) rfl, fun l i => ?_⟩
  rw [rd_setB_reg _ _ _ _ _ _ (by cases l <;> decide)]
  exact l.loosens_self _

/-- LOCK has one bit, of access code W1S: a write cannot clear it. -/
theorem plainWrite_guardLock_tightens (s : State) (i v : Nat) : Tightens s (s.plainWrite .guardLock i v) := by
  intro hs
  refine ⟨?_, fun l j => ?_⟩
  · rw [locked_eq] at hs ⊢
    by_cases hi : i = 0
    · subst hi
      rw [plainWrite, rd_wr_same]
      have hbit : s.rd .guardLock % 2 = 1 := by simpa using hs
      simp [Reg.info, Reg.bits, hbit]
    · rwa [plainWrite, rd_wr_ne _ _ _ _ _ _ (.inr (Ne.symm hi))]
  · rw [plainWrite, rd_wr_reg _ _ _ _ _ _ (by cases l <;> decide)]
    exact l.loosens_self _

theorem plainWrite_tightens (s : State) {r : Reg} (h : r.limitReg = false ∨ r = .guardLock) (i v : Nat) :
    Tightens s (s.plainWrite r i v) := by
  rcases h with h | rfl
  · exact tightens_of_guard (wr_guard _ _ _ _ h)
  · exact s.plainWrite_guardLock_tightens i v

theorem engineWrite_tightens (s : State) {r : Reg} (h : r.limitReg = false ∨ r = .guardLock) (i v : Nat) :
    Tightens s (s.engineWrite r i v) := by
  have hplain := s.plainWrite_tightens h i v
  clear h
  revert hplain
  unfold engineWrite
  split <;> intro hplain
  -- EYE_CTRL, a queue pair's LEN, and the registers without behaviour of their own
  case h_12 =>
    split
    · exact tightens_of_guard (by simp)
    · exact hplain
  case h_14 =>
    split
    · exact tightens_of_guard rfl
    · exact hplain
  case h_16 => exact hplain
  all_goals refine tightens_of_guard ?_
  case h_5 | h_7 | h_10 | h_15 => split <;> simp
  all_goals simp

theorem store32_tightens (s : State) (r : Reg) (i v : Nat) : Tightens s (s.store32 r i v) := by
  unfold store32
  split
  -- the registers of no unit named here, and the six limits
  case h_23 =>
    refine engineWrite_tightens s ?_ i v
    by_cases hl : r = .guardLock
    · exact .inr hl
    · exact .inl ((Reg.limitReg_eq r).mpr ⟨‹_›, ‹_›, ‹_›, ‹_›, ‹_›, ‹_›, hl⟩)
  case h_5 | h_6 | h_7 | h_8 | h_9 | h_10 => exact s.limitWrite_tightens _ i v
  all_goals exact tightens_of_guard (by simp)

/-- No limit register is of 64 bits. -/
theorem limitReg_of_wide {r : Reg} (h : r.info.wide = true) : r.limitReg = false := by
  by_contra hr
  simp only [Bool.not_eq_false, Reg.limitReg] at hr
  split at hr <;> simp_all [Reg.info]

theorem store64_guard (s : State) {r : Reg} (h : r.info.wide = true) (i v : Nat) :
    (s.store64 r i v).regs.guard = s.regs.guard := by
  have hwr : (s.wr r i (v &&& r.info.rw)).regs.guard = s.regs.guard := wr_guard _ _ _ _ (limitReg_of_wide h)
  unfold store64
  (repeat' split) <;> first | exact hwr | simp

/-- What a write of a 64-bit register by its address takes effect with. -/
theorem store64_writable_guard {s : State} {x : Place} (h : s.writable64 x = true) (v : Nat) :
    ((s.hold64 x 0).store64 x.reg x.inst v).regs.guard = s.regs.guard := by
  obtain ⟨-, hwide, -⟩ := (writable64_iff s x).mp h
  rw [store64_guard _ hwide]
  simp

theorem highWrite_guard (s : State) (x : Place) (v : Nat) : (s.highWrite x v).regs.guard = s.regs.guard := by
  unfold highWrite
  split
  · exact store64_writable_guard ‹_› _
  · rfl

theorem wholeWrite_guard (s : State) (x : Place) (v : Nat) : (s.wholeWrite x v).regs.guard = s.regs.guard := by
  unfold wholeWrite
  split
  · exact store64_writable_guard ‹_› _
  · rfl

theorem write4_tightens (s : State) (o v : Nat) : Tightens s (s.write4 o v) := by
  unfold write4
  split
  · split_ifs
    · exact tightens_of_guard rfl
    · exact tightens_of_guard (highWrite_guard ..)
    · exact tightens_of_guard (by simp)
    · exact s.store32_tightens _ _ _
    · exact tightens_of_guard rfl
  · exact tightens_of_guard rfl

theorem bar0Write_tightens (s : State) (o : Nat) (wide : Bool) (v : Nat) : Tightens s (s.bar0Write o wide v) := by
  unfold bar0Write
  generalize o % _ = m
  split
  · exact tightens_of_guard (by simp)
  · split_ifs
    · split
      · split_ifs
        · exact tightens_of_guard rfl
        · exact tightens_of_guard (wholeWrite_guard ..)
        · exact (s.write4_tightens _ _).trans (write4_tightens _ _ _)
      · exact s.write4_tightens _ _
    · exact s.write4_tightens _ _

theorem registerWrite_tightens (s : State) (t : RegTarget) (v : Nat) : Tightens s (s.registerWrite t v) := by
  cases t with
  | bar0 o wide => exact s.bar0Write_tightens _ _ _
  | _ => exact tightens_of_guard (by simp only [registerWrite, when]; (repeat' split) <;> simp)

end State

/-! ## The forms of a row's meaning -/

/-- Every state that an outcome answers has limits as tight as s. -/
def TightensNext (s : State) (o : Host.Outcome State Fault Refusal) : Prop := ∀ t, o = .next t → Tightens s t

theorem run_tightens {f : State → State} {s : State} (h : Tightens s (f s)) : TightensNext s (run f s) := by
  intro t ht
  rw [(run_next f s t).mp ht]
  exact h

theorem perform_tightens {f : State → State} {s : State} (h : Tightens s (f s)) : TightensNext s (perform f s) :=
  run_tightens (h.trans (tightens_of_guard (by simp)))

theorem run_guardKept {f : State → State} {s : State} (h : (f s).regs.guard = s.regs.guard) : TightensNext s (run f s) :=
  run_tightens (tightens_of_guard h)

theorem perform_guardKept {f : State → State} {s : State} (h : (f s).regs.guard = s.regs.guard) :
    TightensNext s (perform f s) :=
  perform_tightens (tightens_of_guard h)

theorem command_guardKept {sp : CmdSpec} {c : HostCmd} {s : State}
    (hl : ∀ t r, (sp.onLocked t c r).regs.guard = t.regs.guard) (hf : ∀ t, (sp.app t c).1.regs.guard = t.regs.guard) :
    TightensNext s (command sp c s) :=
  run_guardKept (hostCmd_keeps (·.regs.guard) sp c s (by simp) (by simp) (by simp) hl hf)

theorem commandFires_guardKept {sp : CmdSpec} {c : HostCmd} {s : State}
    (hl : ∀ t r, (sp.onLocked t c r).regs.guard = t.regs.guard) (hf : ∀ t, (sp.app t c).1.regs.guard = t.regs.guard) :
    TightensNext s (commandFires sp c s) :=
  perform_guardKept (hostCmd_keeps (·.regs.guard) sp c s (by simp) (by simp) (by simp) hl hf)

theorem dspRow_guardKept {q : Nat} {op : DspOp} {ecc : Ecc} {f : Nat → State → DspEnd} {s : State} {second : Bool}
    (hf : ∀ w t, DspEnd.Kept t (f w t)) : TightensNext s (dspRow q op ecc f s second) := by
  obtain ⟨-, -, -, hguard⟩ := State.issue_keeps s q op ecc f second hf
  exact perform_guardKept hguard

/-! ## The rows -/

theorem toneWrite_guard (c : HostCmd) (s : State) : (toneWriteSpec.app s c).1.regs.guard = s.regs.guard := by
  refine forEach_guard _ (fun i t => ?_) _ s
  rw [when_guard _ fun u => wr_guard _ _ _ _ rfl]
  simp

theorem acqConfig_guard (c : HostCmd) (s : State) : (acqConfigSpec.app s c).1.regs.guard = s.regs.guard := by
  refine forEach_guard _ (fun k t => wr_guard _ _ _ _ ?_) _ s
  rcases k with _ | _ | _ | _ | _ | _ | _ | _ | k <;> rfl

/-- Every row but a completed GUARD_RAISE of Scarab and what begins Dawn or takes the core rails away. -/
def LeavesLimits (c : Instr) : Prop :=
  match c with
  | .guardRaiseComplete | .sysReset _ | .perstAssert | .perstRelease | .coreRailsRemoved | .pgoodRise _ => False
  | _ => True

/-- One row: the writes of limits, of LOCK and of registers by their own lemmas; the commands, the DSP instructions and
all other rows because they leave the limits and the lock as they are. -/
theorem exec_tightens (c : Instr) (s : State) (hc : LeavesLimits c) : TightensNext s (exec c s) := by
  cases c with
  | guardRaiseComplete | sysReset | perstAssert | perstRelease | coreRailsRemoved | pgoodRise =>
    exact hc.elim
  | registerWrite target value => exact perform_tightens (registerWrite_tightens s target _)
  | guardLimitWrite =>
    refine run_tightens ?_
    split
    · exact s.limitWrite_tightens _ _ _
    · exact tightens_of_guard rfl
  | guardLock value =>
    refine run_tightens ?_
    unfold when
    split
    · exact s.setLock_tightens
    · exact tightens_of_guard rfl
  | reg64LowWrite offset value => exact run_guardKept (by split <;> simp)
  | reg64HighWrite offset value =>
    refine run_guardKept ?_
    split
    · split
      · exact highWrite_guard ..
      · rfl
    · rfl
  | dmaCompletionRx chan off reply ecc => exact perform_guardKept (by cases reply <;> simp)
  | dspCtrl c =>
    refine command_guardKept (fun _ _ => rfl) fun t => ?_
    simp only [dspCtrlSpec, justDo]
    split <;> simp
  | dspLoad c =>
    refine command_guardKept (fun _ _ => rfl) fun t => ?_
    simp only [dspLoadSpec, justDo]
    split <;> simp
  | toneWrite c => exact command_guardKept (fun _ _ => rfl) (toneWrite_guard c)
  | acqConfig c => exact command_guardKept (fun _ _ => rfl) (acqConfig_guard c)
  | tileOvertemp tile hot =>
    refine run_guardKept (forEach_guard _ (fun n t => ?_) _ s)
    split <;> simp
  | acqStop c => exact commandFires_guardKept (fun _ _ => rfl) (by simp [acqStopSpec, justDo])
  | nop | arm | disarm | shotSchedule | runStop | shotAbort | dusk | safeExit | evtRoute | evtCommit | snapshot |
  thermConfig | dspRead | dspFeed | chRole | chOutput | chFdelay | synConfig | frameWrite | frameVzAdd | frameRead |
  tsetWrite | tsetRead | mrkClaim | mrkRelease | bdacConfig | bdacSlew | bdacListWrite | fbConfig | seqConfig |
  seqWrite | condWrite | streamDescWrite | streamOpen | streamClose | decAssign | decClear | rxConfig |
  kernelWrite | toneRead | acqStart | timeStep | timeUnlock | timeSlew | timeSyncCfg | timeSyncinArm |
  trigConfig | linkUp | linkDown | mirrorExport | mirrorRoute | calRun | calSave | calConfig | hkConfig | guardRaise |
  attest | certRead | lifecycleSet | ucodePatch | memPower | memTest | jrnConfig =>
    refine command_guardKept ?_ ?_ <;> simp [justDo,
      nopSpec, armSpec, disarmSpec, shotScheduleSpec, runStopSpec, shotAbortSpec, duskSpec, safeExitSpec,
      evtRouteSpec, evtCommitSpec, snapshotSpec, thermConfigSpec, dspReadSpec, dspFeedSpec, chRoleSpec,
      chOutputSpec, chFdelaySpec, synConfigSpec, frameWriteSpec, frameVzAddSpec, frameReadSpec, tsetWriteSpec,
      tsetReadSpec, mrkClaimSpec, mrkReleaseSpec, bdacConfigSpec, bdacSlewSpec, bdacListWriteSpec, fbConfigSpec,
      seqConfigSpec, seqWriteSpec, condWriteSpec, streamDescWriteSpec, streamOpenSpec, streamCloseSpec,
      decAssignSpec, decClearSpec, rxConfigSpec, kernelWriteSpec, toneReadSpec,
      acqStartSpec, timeStepSpec, timeUnlockSpec, timeSlewSpec, timeSyncCfgSpec, timeSyncinArmSpec,
      trigConfigSpec, linkUpSpec, linkDownSpec, mirrorExportSpec, mirrorRouteSpec, calRunSpec, calSaveSpec,
      calConfigSpec, hkConfigSpec, guardRaiseSpec, attestSpec, certReadSpec, lifecycleSetSpec, ucodePatchSpec,
      memPowerSpec, memTestSpec, jrnConfigSpec]
  | dspAdd | dspSub | dspAnd | dspOr | dspXor | dspShl | dspShr | dspSar | dspMul | dspAddi | dspMovi | dspMovhi |
  dspCadds | dspCsubs | dspCrotq | dspNorm | dspExp | dspNormA | dspExpA | dspBexpL | dspCmul | dspCmac | dspCmul2 |
  dspCmac2 | dspCrnd | dspMva | dspMvah | dspLdB | dspLdH | dspLdW | dspLdD | dspStB | dspStH | dspStW | dspStD | dspB
  | dspBeqz | dspBnez | dspBltz | dspBgez | dspDbnz | dspRepeat | dspMvc | dspMvct | dspReti | dspHalt | dspWaiti |
  dspIen | dspIdis =>
    exact dspRow_guardKept (fun w t => by simp)
  | _ => exact run_guardKept (by simp)

theorem step_tightens {s t : State} (h : step s = .next t) (hc : ∀ c rest, s.pending = c :: rest → LeavesLimits c) :
    Tightens s t := by
  unfold step at h
  split at h
  · exact run_guardKept (by simp) t h
  · next c rest hp => exact exec_tightens c { s with pending := rest } (hc c rest hp) t h

/-- The Guard tightens along a whole run. -/
theorem chain_tightens {R : State → State → Prop} (hR : ∀ a b, R a b → Tightens a b) {l : List State} {s : State}
    (h : List.IsChain R (s :: l)) : ∀ t ∈ l, Tightens s t := by
  induction l generalizing s with
  | nil => simp
  | cons b l ih =>
    obtain ⟨hsb, hbl⟩ := List.isChain_cons_cons.mp h
    intro t ht
    rcases List.mem_cons.mp ht with rfl | ht
    · exact hR _ _ hsb
    · exact (hR _ _ hsb).trans (ih hbl t ht)

theorem loosens_iff (old new : Nat) :
    (Limit.peak.loosens old new = true ↔ old < new) ∧ (Limit.rms.loosens old new = true ↔ old < new) ∧
    (Limit.duty.loosens old new = true ↔ slice old 0 11 < slice new 0 11 ∨ slice old 16 16 < slice new 16 16) ∧
    (Limit.bmin.loosens old new = true ↔ sgn 20 new < sgn 20 old) ∧
    (Limit.bmax.loosens old new = true ↔ sgn 20 old < sgn 20 new) ∧ (Limit.brate.loosens old new = true ↔ old < new) := by
  simp [Limit.loosens]

/-- Settles O60: the rows of limits and lock as they act, and for a run that every step tightens, so that the whole run
does. -/
theorem lockedLimitsOnlyTighten : Obligations.LockedLimitsOnlyTighten := by
  refine ⟨fun s v hg hb => exec_guardLock hg hb, ?write, loosens_iff, ?run⟩
  case write =>
    exact fun s l i v hg hp hl =>
      ⟨exec_guardLimitWrite_refused hg hp hl, fun h => exec_guardLimitWrite_stored hg hp (.inr h)⟩
  case run =>
    intro l s hrun hs t ht
    obtain ⟨hlock, hlim⟩ := chain_tightens (fun a b h => step_tightens h.1 h.2) hrun t ht hs
    refine ⟨hlock, fun i => ?_⟩
    have hduty := hlim .duty i
    simp only [Limit.loosens, Bool.or_eq_false_iff, decide_eq_false_iff_not, not_lt] at hduty
    obtain ⟨hdutyLim, hdutyThr⟩ := hduty
    exact ⟨not_lt.mp (of_decide_eq_false (hlim .peak i)), not_lt.mp (of_decide_eq_false (hlim .rms i)), hdutyLim,
      hdutyThr, not_lt.mp (of_decide_eq_false (hlim .bmin i)), not_lt.mp (of_decide_eq_false (hlim .bmax i)),
      not_lt.mp (of_decide_eq_false (hlim .brate i))⟩

end Sys2Proof.Machine
end

section
/-!
PROOFS. Trips of output channels: what a trip latches and what its release clears.
-/

namespace Sys2Proof.Machine

/-- A set bit reads as set. -/
theorem bit_setBit_true (n b : Nat) : bit (setBit n b true) b = true := by
  have h : slice (setBit n b true) b 1 = 1 := slice_place_same n b 1 1
  simp only [slice, pow_one] at h
  simp [bit, h]

theorem bit_setBit (n b : Nat) (v : Bool) : bit (setBit n b v) b = v := by
  cases v
  · exact bit_setBit_false n b
  · exact bit_setBit_true n b

/-- A bit of a register's width survives the cut to that width. -/
theorem bit_mod_two_pow {n b w : Nat} (h : b < w) : bit (n % 2 ^ w) b = bit n b := by
  have hbit (m : Nat) : bit m b = m.testBit b := by
    rw [bit, Nat.testBit_eq_decide_div_mod_eq, Nat.shiftRight_eq_div_pow]
    exact Bool.beq_eq_decide_eq _ _
  rw [hbit, hbit, Nat.testBit_mod_two_pow]
  simp [h]

namespace State

/-- A bit just written in a 32-bit register. -/
theorem bit_rd_wr_setBit (s : State) {r : Reg} (hr : r.bits = 32) (i : Nat) {b : Nat} (hb : b < 32) (v : Bool) :
    bit ((s.wr r i (setBit (s.rd r i) b v)).rd r i) b = v := by
  rw [rd_wr_same, hr, bit_mod_two_pow hb, bit_setBit]

/-! ## What else moves in the cycle of a trip (R185, R186) -/

theorem irq_regsKept (s : State) (v : Nat) : RegsKept [.glbIrqPend0, .glbIrqPend1] s (s.irq v) := by
  have hpend : (if v < 32 then Reg.glbIrqPend0 else .glbIrqPend1) ∈ [Reg.glbIrqPend0, .glbIrqPend1] := by
    split <;> simp
  simp only [irq]
  generalize (if v < 32 then Reg.glbIrqPend0 else .glbIrqPend1) = q at hpend ⊢
  split
  · exact fun _ _ _ => rfl
  · exact (wr_regsKept (s.raise q 0 _) hpend 0 _).trans ((msixSend_regsKept _ v).mono (List.nil_subset _))

theorem taint_regsKept (s : State) (b : Nat) : RegsKept [] s (s.taint b) := by
  intro r i _
  unfold taint
  split <;> rfl

/-- What the Guard latches of a trip of a channel that was not tripped. -/
def tripLatched (s : State) (n causes : Nat) : State :=
  let t := s.wr .guardCause n (s.rd .guardCause n ||| causes)
  let t := t.wr .guardTrip (n / 32) (setBit (t.rd .guardTrip (n / 32)) (n % 32) true)
  ((({ t with tripAt := SMap.put 0 t.tripAt n (t.cyc + 1) } : State).setB .ochOutStatusGuardMuted n true).bump
    .guardTripCnt)

theorem guardTripped_wr (s : State) {r : Reg} (h : Reg.guardTrip ≠ r) (i v n : Nat) :
    (s.wr r i v).guardTripped n = s.guardTripped n := by
  rw [guardTripped, rd_wr_reg _ _ _ _ _ _ h, guardTripped]

/-- A channel that is tripped only takes causes. -/
theorem guardTrip_tripped {s : State} {n : Nat} (h : s.guardTripped n = true) (causes : Nat) :
    s.guardTrip n causes = s.wr .guardCause n (s.rd .guardCause n ||| causes) := by
  simp only [guardTrip, guardTripped_wr s (r := .guardCause) (by decide), h, if_true]

/-- The interrupt, the event and the taint of a trip move no register but the pending bits. -/
theorem guardTrip_fresh {s : State} {n : Nat} (h : s.guardTripped n = false) (causes : Nat) :
    RegsKept [.glbIrqPend0, .glbIrqPend1] (s.tripLatched n causes) (s.guardTrip n causes) := by
  have hirq := (s.tripLatched n causes).irq_regsKept 3
  simp only [guardTrip, guardTripped_wr s (r := .guardCause) (by decide), h, Bool.false_eq_true, if_false, when]
  split
  · have htaint := taint_regsKept (signal ((s.tripLatched n causes).irq 3) prodGuardTrip) 2
    exact hirq.trans (htaint.mono (List.nil_subset _))
  · exact hirq

theorem tripLatched_reads (s : State) (n causes : Nat) :
    (s.tripLatched n causes).guardTripped n = true ∧ (s.tripLatched n causes).flag .ochOutStatusGuardMuted n = true ∧
    (s.tripLatched n causes).rd .guardCause n = (s.rd .guardCause n ||| causes) % 2 ^ 32 ∧
    (s.tripLatched n causes).rd .guardTripCnt = satAdd32 (s.rd .guardTripCnt) 1 := by
  refine ⟨?_, ?_, ?_, ?_⟩
  · rw [guardTripped, tripLatched, rd_bump_reg _ _ _ _ _ (by decide), rd_setB_reg _ _ _ _ _ _ (by decide)]
    exact bit_rd_wr_setBit _ rfl _ (Nat.mod_lt _ (by decide)) true
  · rw [flag, tripLatched, fld_bump_reg _ _ _ _ _ (by decide)]
    exact flag_setB_same _ _ _ _ (by decide) rfl
  · rw [tripLatched, rd_bump_reg _ _ _ _ _ (by decide), rd_setB_reg _ _ _ _ _ _ (by decide)]
    exact (rd_wr_reg _ _ _ _ _ _ (by decide)).trans (rd_wr_same ..)
  · rw [tripLatched, rd_bump_same _ _ _ rfl, rd_setB_reg _ _ _ _ _ _ (by decide)]
    exact congrArg (satAdd32 · 1)
      ((rd_wr_reg _ .guardTrip _ _ _ _ (by decide)).trans (rd_wr_reg _ .guardCause _ _ _ _ (by decide)))

/-! ## Release (R187) -/

section
variable {s : State} {n : Nat} (ht : s.guardTripped n = true) (hc : SMap.get 0 s.tripAt n ≠ s.cyc + 1)
include ht hc

theorem guardRelease_refused (h : s.rmsBreach n = true ∨ s.dutyBreach n = true) :
    s.guardRelease n = s.bump .guardClearRefused := by
  simp [guardRelease, ht, hc, h]

theorem guardRelease_released (hr : s.rmsBreach n = false) (hd : s.dutyBreach n = false) :
    s.guardRelease n =
      let t := s.wr .guardTrip (n / 32) (setBit (s.rd .guardTrip (n / 32)) (n % 32) false)
      ((t.wr .guardForce (n / 32) (setBit (t.rd .guardForce (n / 32)) (n % 32) false)).wr .guardCause n 0).setB
        .ochOutStatusGuardMuted n false := by
  simp [guardRelease, ht, hc, hr, hd]

end
end State
open State

/-- Settles O15: the latch of a fresh trip, the causes of one more, and a release by the windows. -/
theorem tripLatches : Obligations.TripLatches := by
  refine ⟨?latch, fun s n causes _ _ h => guardTrip_tripped h causes, ?release,
    fun s n ht hc h => guardRelease_refused ht hc h⟩
  case latch =>
    intro s n causes _ _ h
    have hkept := guardTrip_fresh h causes
    obtain ⟨htrip, hmuted, hcause, hcount⟩ := s.tripLatched_reads n causes
    exact ⟨(congrArg (bit · _) (hkept .guardTrip _ (by decide))).trans htrip,
      (hkept.flag (by decide) n).trans hmuted, (hkept .guardCause n (by decide)).trans hcause,
      (hkept .guardTripCnt 0 (by decide)).trans hcount⟩
  case release =>
    intro s n _ ht hc hr hd
    have hn : n % 32 < 32 := Nat.mod_lt _ (by decide)
    rw [guardRelease_released ht hc hr hd]
    refine ⟨?_, flag_setB_same _ _ _ _ (by decide) rfl, ?_, ?_⟩
    · rw [guardTripped, rd_setB_reg _ _ _ _ _ _ (by decide), rd_wr_reg _ _ _ _ _ _ (by decide),
        rd_wr_reg _ _ _ _ _ _ (by decide)]
      exact bit_rd_wr_setBit s rfl _ hn false
    · rw [rd_setB_reg _ _ _ _ _ _ (by decide), rd_wr_same]
      rfl
    · rw [rd_setB_reg _ _ _ _ _ _ (by decide), rd_wr_reg _ _ _ _ _ _ (by decide)]
      exact bit_rd_wr_setBit _ rfl _ hn false

end Sys2Proof.Machine
end

section
/-!
PROOFS. The rows of output channels and of bias DACs.
-/

namespace Sys2Proof.Machine

/-- A loop over the channels present is a loop over all that leaves the absent ones alone. -/
theorem forEach_present {f : Nat → State → State} (hf : ∀ n t, (f n t).variant = t.variant) (l : List Nat) (s : State) :
    forEach l (fun n t => if t.hasOch n then f n t else t) s = forEach (l.filter s.hasOch) f s := by
  induction l generalizing s with
  | nil => rfl
  | cons n l ih =>
    rw [forEach_cons, List.filter_cons]
    split
    · have hpresent : (f n s).hasOch = s.hasOch := by
        funext m
        simp only [State.hasOch, hf]
      rw [ih, hpresent, forEach_cons]
    · exact ih s

namespace State

/-! ## Output channels (R169, R171, R182) -/

/-- A channel that becomes LIVE, and is back from calibration with it. -/
def outEnabled (n : Nat) (s : State) : State :=
  let t := (s.setF .ochOutStatusState n 2).updChan n fun o => { o with enabling := s.cyc }
  let u := t.setCalUnit 0 n { t.calUnit 0 n with restore := false }
  u.setCalUnit 1 n { u.calUnit 1 n with restore := false }

/-- An ENABLING channel outside every slice, its mute passed. -/
theorem outEnableDone_due {s : State} {n : Nat} (ho : s.outState n = 1) (he : (s.chan n).enableFrom ≤ s.cyc)
    (h0 : s.inSlice 0 n = false) (h1 : s.inSlice 1 n = false) : s.outEnableDone n = s.outEnabled n :=
  if_pos (by simp [ho, he, h0, h1])

theorem calUnit_setCalUnit (s : State) (kind i : Nat) (u : CalUnit) : (s.setCalUnit kind i u).calUnit kind i = u :=
  SMap.get_put_same _ _ _ _

theorem calUnit_setCalUnit_ne (s : State) {kind j : Nat} (i : Nat) (u : CalUnit) (h : j ≠ kind) :
    (s.setCalUnit kind i u).calUnit j i = s.calUnit j i :=
  SMap.get_put_ne _ _ _ _ _ _ (by omega)

/-- A RANGE_MUTE channel whose 2 µs have passed. -/
theorem rangeMuteDone_due {s : State} {n : Nat} (ho : s.outState n = 3) (hm : (s.chan n).rangeMute ≤ s.cyc) :
    s.rangeMuteDone n = (s.setF .ochOutStatusState n 2).updChan n fun o => { o with enabling := s.cyc } := by
  have hdue : (s.outState n == 3 && decide ((s.chan n).rangeMute ≤ s.cyc)) = true := by simp [ho, hm]
  rw [rangeMuteDone, if_pos hdue]

/-- A tile's channels as its comparator sets or clears. -/
def tileShown (hot : Bool) (n : Nat) (s : State) : State :=
  if hot then (s.setB .ochOutStatusTileOt n true).setB .ochOutStatusTileOtSeen n true
  else s.setB .ochOutStatusTileOt n false

theorem tileShown_eq (hot : Bool) (n : Nat) (s : State) :
    when hot (fun s => s.setB .ochOutStatusTileOtSeen n true) (s.setB .ochOutStatusTileOt n hot) = s.tileShown hot n := by
  cases hot
  · simp only [tileShown, when_false, Bool.false_eq_true, if_false]
  · simp only [tileShown, when_true, if_true]

/-! ## Bias DACs: host targets (R176) -/

theorem bdTarget_ignored {s : State} {k : Nat} (h : s.bdTargetOk k = false) (v : Nat) :
    s.bdTarget k v = s.bump .bdacIgnored k := by
  simp only [bdTarget, h, Bool.false_eq_true, if_false]

/-! ## Bias DACs: what is due (R175, R177, R179, R180) -/

/-- A step of the slew limiter upward that the Guard lets pass and that does not land. -/
theorem bdStep_up {s : State} {k t : Nat} (hn : (s.bd k).nextStep = some t) (ht : t ≤ s.now10 + 15)
    (htrip : s.bdTripped k = false) (hpark : (s.bd k).parkAfter = false) (hphase : (s.bd k).phase = 0)
    (hfast : (s.bd k).fastStep = 0) (hup : s.bdCode k < (s.bd k).goal)
    (hbreach : (s.setBd k { s.bd k with nextStep := some (t + s.bdInterval k) }).bdBreach k
      (min (s.bd k).goal (s.bdCode k + (s.fld .bdacSlewStep k : Int))) t = 0)
    (hshort : s.bdCode k + (s.fld .bdacSlewStep k : Int) < (s.bd k).goal) :
    s.bdStep k = (s.setBd k { s.bd k with nextStep := some (t + s.bdInterval k) }).bdApply k
      (s.bdCode k + (s.fld .bdacSlewStep k : Int)) t := by
  have hmin := min_eq_right hshort.le
  rw [hmin] at hbreach
  have hfree : ((s.bd k).parkAfter || (s.bd k).phase == 1) = false := by simp [hpark, hphase]
  have hlimited : ¬ (s.bdTripped k && !((s.bd k).parkAfter || (s.bd k).phase == 1)) = true := by simp [htrip]
  simp only [bdStep, hn]
  rw [if_pos ht, if_pos hfast, if_pos hup, hmin]
  refine (if_neg hlimited).trans ((if_neg ?_).trans (if_neg hshort.ne))
  rw [hfree]
  exact not_not.mpr hbreach

/-- The deglitcher's hold has passed on a bias DAC that does not go on to park. -/
theorem bdDeglitchEnd_due {s : State} {k t : Nat} {code : Int} (hd : (s.bd k).degl = some (code, t))
    (ht : t ≤ s.now10 + 15) (hp : (s.bd k).parkAfter = false) : s.bdDeglitchEnd k =
      ((s.setBd k { s.bd k with degl := none }).setB .bdacStatusDeglitch k false).bdApply k code t := by
  have hstays : ((((s.setBd k { s.bd k with degl := none }).setB .bdacStatusDeglitch k false).bdApply k code t).bd
      k).parkAfter = false := by
    rw [bdApply, bd_setBd]
    exact (congrArg Bdac.parkAfter (bd_setBd s k { s.bd k with degl := none })).trans hp
  simp only [bdDeglitchEnd, hd]
  rw [if_pos ht]
  exact if_neg (by simp [hstays])

/-- The 50 µs of a range change have passed. -/
theorem bdParkEnd_due {s : State} {k : Nat} (hp : (s.bd k).phase = 2) (he : (s.bd k).parkEnd ≤ s.now10 + 15) :
    s.bdParkEnd k = if s.flag .bdacCfgActive k then
        let u := ((s.setBd k { s.bd k with phase := 3 }).sliceAbandon 3 k).bdUnpark k
        let w := u.bdRamp k (s.bd k).rampCode (u.now10 + 200000 + u.bdInterval k)
        if (s.bd k).rampCode = 0 then w.bdLanded k else w
      else s.bdNoChange k := by
  rw [bdParkEnd]
  exact if_pos (by simp [hp, he])

theorem bdOvertemp_hot {s : State} {k : Nat} (h : s.flag .bdacStatusOt k = false) : s.bdOvertemp k true =
    ((((s.setB .bdacStatusOt k true).bdNoChange k).bdPark k).setB .bdacStatusOtSeen k true).bdTrip k 4 :=
  if_pos (by simp [h])

theorem bdOvertemp_cool (s : State) (k : Nat) : s.bdOvertemp k false = s.setB .bdacStatusOt k false := by
  simp only [bdOvertemp, Bool.false_and, Bool.false_eq_true, if_false]

end State
open State

/-! ## The rows -/

theorem exec_outputEnableDone {s : State} {n : Fin 96} (ho : s.outState n = 1) (he : (s.chan n).enableFrom ≤ s.cyc)
    (h0 : s.inSlice 0 n = false) (h1 : s.inSlice 1 n = false) :
    ∃ t, exec (.outputEnableDone n) s = .next t ∧ t.outState n = 2 ∧ (t.calUnit 0 n).restore = false ∧
      (t.calUnit 1 n).restore = false ∧ RegsKept [.ochOutStatus] s t := by
  refine ⟨_, run_act (g := outEnabled n) (outEnableDone_due ho he h0 h1), ?_, ?_, ?_, ?_⟩
  · exact fld_setF_same s .ochOutStatusState n 2 (by decide)
  · exact congrArg (·.restore)
      ((calUnit_setCalUnit_ne (kind := 1) (j := 0) _ _ _ (by decide)).trans (calUnit_setCalUnit _ _ _ _))
  · exact congrArg (·.restore) (calUnit_setCalUnit _ _ _ _)
  · exact wr_regsKept s (List.mem_singleton_self _) _ _

theorem exec_tileOvertemp (s : State) (tile : Fin 24) (hot : Bool) :
    exec (.tileOvertemp tile hot) s = .next (s.act fun s =>
      forEach (((List.range 4).map (4 * tile.val + ·)).filter s.hasOch) (fun n t => t.tileShown hot n) s) := by
  refine run_act ?_
  rw [← forEach_present fun n t => ?_]
  · simp only [tileShown_eq]
  · cases hot <;> rfl

/-- Settles O13: each row where its condition holds (that a range change stays parked without ACTIVE, and that the end of
its park abandons a slice, are the model's readings: log entries 12 and 14). -/
theorem outputRows : Obligations.OutputRows := by
  refine ⟨?enabled, ?unmuted, exec_tileOvertemp, ?target, ?ignored, ?closed, ?step, ?held, ?deglitched, ?ramps, ?parked,
    ?hot, ?cool⟩
  case enabled => exact fun s n ho he h0 h1 => exec_outputEnableDone ho he h0 h1
  case unmuted => exact fun s n ho hm => run_act (rangeMuteDone_due ho hm)
  case target => exact fun s k v hp ht => run_act ((if_pos hp).trans (if_pos ht))
  case ignored => exact fun s k v hp ht => run_to ((if_pos hp).trans (bdTarget_ignored ht _)) rfl rfl
  case closed =>
    intro s k v hp hd
    have hpage : ¬ s.hostPage 3 = true := by simp [hp]
    have hdev : [0, 1, 7].contains s.dev = true := by rcases hd with hd | hd | hd <;> simp [hd]
    exact run_to ((if_neg hpage).trans (if_pos hdev)) rfl rfl
  case step =>
    intro s k t hn ht htrip hpark hphase hfast hup hbreach hshort
    exact perform_act (bdStep_up hn ht htrip hpark hphase hfast hup hbreach hshort)
  case held =>
    intro s k code t rest hh ht
    exact perform_act (by simp only [bdHoldRelease, hh, ht, if_true])
  case deglitched => exact fun s k code t hd ht hp => run_act (bdDeglitchEnd_due hd ht hp)
  case ramps =>
    exact fun s k hp he hr ha => run_act ((bdParkEnd_due hp he).trans ((if_pos ha).trans (if_neg hr)))
  case parked => exact fun s k hp he ha => run_act ((bdParkEnd_due hp he).trans (if_neg (Bool.eq_false_iff.mp ha)))
  case hot => exact fun s k h => perform_act (bdOvertemp_hot h)
  case cool => exact fun s k => perform_act (s.bdOvertemp_cool k)

end Sys2Proof.Machine
end

section
/-!
PROOFS. Identity, lifecycle and firmware: Scarab's commands and their completions, tamper events and wipes, and patches
of the microcode.
-/

namespace Sys2Proof.Machine
open State

/-! ## Accepted commands of more than one step, and of one that reports (R393, R400) -/

/-- An accepted long command, from its first effect once its slot has passed. -/
theorem command_begun {sp : CmdSpec} {c : HostCmd} {s : State} {f : State → State} (h : Accepted sp c s)
    (hs : sp.silent = false) (happ : sp.app (s.passHead c.qp) c = (f (s.passHead c.qp), { long := true })) :
    command sp c s = .next (s.act (begun c f)) := by
  rw [command_accepted sp c s h hs]
  refine congrArg _ (act_congr ?_)
  simp only [happ]
  rfl

/-- An accepted command with something to report, from its effect once its slot has passed. -/
theorem command_doneWith {sp : CmdSpec} {c : HostCmd} {s : State} {f : State → State} {i0 i1 r : Nat}
    (h : Accepted sp c s) (hs : sp.silent = false)
    (happ : sp.app (s.passHead c.qp) c = (f (s.passHead c.qp), { info0 := i0, info1 := i1, result := r })) :
    command sp c s = .next (s.act (doneWith c i0 i1 r f)) := by
  rw [command_accepted sp c s h hs]
  refine congrArg _ (act_congr ?_)
  simp only [happ]
  rfl

namespace State

/-! ## What a completion leaves (R400) -/

/-- The waiting commands and the part's variant. -/
def outside (s : State) : List Instr × Variant := (s.pending, s.variant)

theorem irq_outside (s : State) (v : Nat) : (s.irq v).outside = s.outside := by
  simp only [irq, msixSend]
  generalize (if v < 32 then Reg.glbIrqPend0 else .glbIrqPend1) = q
  split_ifs <;> rfl

theorem completeAs_outside (s : State) (l : LongCmd) (status info0 info1 result : Nat) :
    (s.completeAs l status info0 info1 result).outside = s.outside := by
  have hdrain (t : State) (q : Nat) : (t.drainReply q).outside = t.outside := by
    unfold drainReply
    split
    · rfl
    · split
      · exact when_keeps outside _ (fun u => u.irq_outside 0) _ _
      · rfl
  rw [completeAs, hdrain, holdReply]
  exact when_keeps outside (fun t => t.setB .qpStatusCplHeld l.qp true) (fun _ => rfl) _ _

end State

/-- A row whose effect is the completion of a long command. -/
theorem run_completeAs {f : State → State} {s t : State} {l : LongCmd} {status info0 info1 result : Nat}
    (h : f s = t.completeAs l status info0 info1 result) (ht : t.outside = s.outside) :
    run f s = .next (t.completeAs l status info0 info1 result) := by
  obtain ⟨hpending, hvariant⟩ := Prod.mk.inj ((t.completeAs_outside l status info0 info1 result).trans ht)
  exact run_to h hpending hvariant

namespace State

/-! ## Attestation (R501, R502) -/

theorem attestDone_due {s : State} {l : LongCmd} (h : s.findLong 0x801 = some l) : s.attestDone =
    ((s.sign l.payload).2.emit (.hostWrite l.addr (l.payload ++ (s.sign l.payload).1))).completeAs l 0 0 0 0 := by
  simp only [attestDone, h]

/-! ## Raised limits (R192) -/

theorem raiseDone_tampered {s : State} {l : LongCmd} (h : s.findLong 0x800 = some l)
    (ht : s.flag .scbStatusTamper = true) : s.raiseDone = s.completeAs l 7 0 0 0 := by
  simp only [raiseDone, h, tampered, ht, if_true]

theorem raiseDone_written {s : State} {l : LongCmd} (h : s.findLong 0x800 = some l)
    (ht : s.flag .scbStatusTamper = false) : s.raiseDone =
      let t := forEach (List.range (raiseCount l.payload)) (fun i s => s.raiseWrite l.payload i) s
      let u := t.wr .guardNonce 0 (t.rd .guardNonce + 1)
      ({ u with nvm := { u.nvm with guardNonce := BitVec.ofNat 64 (t.rd .guardNonce + 1) } } : State).completeAs
        l 0 0 0 0 := by
  simp only [raiseDone, h, tampered, ht, Bool.false_eq_true, if_false]

theorem raiseWrite_fields (s : State) (b : List Byte) (i : Nat) {idx code v : Nat}
    (hi : idx = bufNat b (32 + 16 * i + 1) 1) (hc : code = bufNat b (32 + 16 * i + 2) 1)
    (hv : v = bufNat b (32 + 16 * i + 4) 4) :
    (code = 0 → s.raiseWrite b i = s.limitStore .peak idx v) ∧ (code = 1 → s.raiseWrite b i = s.limitStore .rms idx v) ∧
    (code = 2 → s.raiseWrite b i = s.limitStore .duty idx (place (s.rd .guardDuty idx) 0 11 v)) ∧
    (code = 3 → s.raiseWrite b i = s.limitStore .duty idx (place (s.rd .guardDuty idx) 16 16 v)) ∧
    (code = 4 → s.raiseWrite b i = s.limitStore .bmin idx v) ∧
    (code = 5 → s.raiseWrite b i = s.limitStore .bmax idx v) ∧
    (code = 6 → s.raiseWrite b i = s.limitStore .brate idx v) := by
  simp only [raiseWrite, raiseRec, ← hi, ← hc, ← hv]
  refine ⟨?_, ?_, ?_, ?_, ?_, ?_, ?_⟩ <;> rintro rfl <;> rfl

/-! ## Lifecycle (R505, R506) -/

/-- The fuses are blown, the keys stored and the nonce advanced; the wipe begins. -/
theorem lcDone_unblown {s : State} {l : LongCmd} (h : s.findLong 0x803 = some l) (ha : l.arg ≠ 8) : s.lcDone =
    let n := s.rd .scbLcNonce + 1
    let t : State := { s with
      fuse := { s.fuse.blow l.arg with identity := ((s.fuse.blow l.arg).identity || l.arg == 1) && l.arg != 4 }
      nvm := { lcKeys s.nvm l.arg l.payload with lcNonce := BitVec.ofNat 64 n } }
    ((t.setLongs (t.ce.longs.map fun x => if x = l then { x with arg := 8 } else x)).wr .scbLcNonce 0 n).wipe true := by
  simp only [lcDone, h, lcBlown, ha, if_false]

theorem lcDone_blown {s : State} {l : LongCmd} (h : s.findLong 0x803 = some l) (ha : l.arg = 8)
    (hw : s.wiping = false) : s.lcDone = s.completeAs l 0 0 0 0 := by
  simp only [lcDone, h, ha, lcBlown, hw, if_true, Bool.false_eq_true, if_false]

theorem lcSigner_field {s : State} (h : s.fuse.lc = 2) (k : Signer) :
    (s.lcSigner 3 k = true ↔ k = .guard) ∧ (s.lcSigner 4 k = true ↔ k = .guard ∨ k = .root) := by
  simp [lcSigner, h]

/-! ## Tamper events and wipes (R507, R509) -/

/-- A tamper cause seen: its bit, TAMPER, and a wipe that leaves the bank empty. -/
def tamperSeen (k : Nat) (s : State) : State :=
  (((s.wr .scbTamperCause 0 (setBit (s.rd .scbTamperCause) k true)).raise .scbTamperCause 0 (2 ^ k)).setB
    .scbStatusTamper 0 true).wipe false

theorem findLong_tamperSeen (s : State) (k n : Nat) : (s.tamperSeen k).findLong n = s.findLong n := by
  have hce : (s.tamperSeen k).ce = s.ce := by
    simp only [tamperSeen, wipe, cleanBank, bump_fields, setB_fields, raise_fields, wr_fields]
  simp only [findLong, hce]

theorem tamper_alone {s : State} (k : Nat) (hd : s.dev ≠ 0) (h : s.findLong 0x803 = none) :
    s.tamper k = s.tamperSeen k := by
  have hf : (s.tamperSeen k).findLong 0x803 = none := (s.findLong_tamperSeen k 0x803).trans h
  rw [tamperSeen] at hf
  simp only [tamper, if_neg hd, hf, tamperSeen]

theorem tamper_transition {s : State} {l : LongCmd} (k : Nat) (hd : s.dev ≠ 0) (h : s.findLong 0x803 = some l)
    (ha : l.arg ≠ 8) : s.tamper k = (s.tamperSeen k).completeAs l 7 0 0 0 := by
  have hf : (s.tamperSeen k).findLong 0x803 = some l := (s.findLong_tamperSeen k 0x803).trans h
  rw [tamperSeen] at hf
  simp only [tamper, if_neg hd, hf, tamperSeen, lcBlown, ha, if_false]

/-- The key is reloaded where the wipe asks for it and the fuses still hold it. -/
theorem wipeDone_due {s : State} (h : s.flag .scbStatusWiping = true) : s.wipeDone =
    { s.setB .scbStatusWiping 0 false with
      scarab := ⟨if s.scarab.reload && s.fuse.identity then
        (List.range 6).foldl (fun m k => SMap.put 0 m k (identityWords.getD k 0)) [] else [], false⟩ } := by
  simp only [wipeDone, wiping, h, if_true, keyBank, Bool.and_eq_true, ite_and]

/-! ## Microcode patches (R512) -/

theorem patchDone_stored {s : State} {l : LongCmd} (hw : s.patchWaits = none) (h : s.findLong 0x804 = some l) :
    s.patchDone =
      let t : State := { s with
        nvm := { s.nvm with
          patch := some (patchOf l.payload)
          patchB := some (patchOf l.payload) }
        fuse := { s.fuse with arb := max s.fuse.arb (patchOf l.payload).svn }
        ce := { s.ce with ustack := [] } }
      let u := t.setLongs (t.ce.longs.map fun x => if x = l then { x with arg := 1 } else x)
      (u.setB .ceStatusRestart 0 true).loadPatch true := by
  simp only [patchDone, hw, h]

theorem patchDone_restarted {s : State} {l : LongCmd} (hw : s.patchWaits = some l)
    (hr : s.flag .ceStatusRestart = true) (hb : (s.setB .ceStatusRestart 0 false).patchWaits = some l) :
    s.patchDone = (s.setB .ceStatusRestart 0 false).completeAs l 0 0 0 0 := by
  simp only [patchDone, hw, ceBack, hr, if_true, hb]

end State

theorem Fuse.blow_pair {f : Fuse} {t : Nat} (h4 : t ≠ 4) (hlc : t ≠ f.lc) :
    f.blow t = { f with pairs := f.pairs ++ [t] } :=
  (if_neg h4).trans (if_neg hlc)

theorem Fuse.blow_same {f : Fuse} (h : f.lc ≠ 4) : f.blow f.lc = f := (if_neg h).trans (if_pos rfl)

theorem exec_certRead {s : State} {c : HostCmd} (h : Accepted (certReadSpec false) c s) (hlc : s.fuse.lc ≠ 0) :
    exec (.certRead c) s = .next (s.act (doneWith c 0 0 s.nvm.chain.length fun s =>
      s.emit (.hostWrite (BitVec.ofNat 64 (pNum c 24 8)) s.nvm.chain))) := by
  have hspec : certReadSpec (s.fuse.lc == 0) = certReadSpec false := by rw [beq_eq_false_iff_ne.mpr hlc]
  change command (certReadSpec (s.fuse.lc == 0)) c s = _
  rw [hspec]
  exact command_doneWith h rfl (by simp only [certReadSpec, passHead_fields])

/-- Settles O54: the commands once accepted, and each completion and row where its condition holds (the free signature, a
tamper event before GUARD_RAISE completes, and the two phases of UCODE_PATCH are the model's: log entry 13). -/
theorem securityAct : Obligations.SecurityAct := by
  refine ⟨?attest, ?report, ?attested, fun s c h hlc => exec_certRead h hlc, ?raise, ?refused, ?raised,
    fun s b i idx code v hi hc hv => s.raiseWrite_fields b i hi hc hv, ?lifecycle, ?blown, ?transition,
    fun f t => Fuse.blow_pair, fun f => ⟨rfl, Fuse.blow_same⟩, fun n b => ⟨rfl, rfl, rfl, rfl⟩,
    fun s k h => lcSigner_field h k, ?tamper, ?abandoned, ?wiped, ?patch, ?stored, ?restarted⟩
  case attest | raise | lifecycle | patch => exact fun s c h => command_begun h rfl rfl
  case report =>
    intro s n
    simp only [report, List.flatten_cons, List.flatten_nil, List.append_nil, List.append_assoc]
  case attested => exact fun s l h => run_act (attestDone_due h)
  case refused => exact fun s l h ht => run_completeAs (raiseDone_tampered h ht) rfl
  case raised => exact fun s l h ht => run_act (raiseDone_written h ht)
  case blown => exact fun s l h ha => run_act (lcDone_unblown h ha)
  case transition => exact fun s l h ha hw => run_completeAs (lcDone_blown h ha hw) rfl
  case tamper => exact fun s k hd h => run_act (tamper_alone k hd h)
  case abandoned => exact fun s l k hd h ha => run_act (tamper_transition k hd h ha)
  case wiped => exact fun s h => run_act (wipeDone_due h)
  case stored =>
    rintro s l p hw h rfl
    exact run_act (patchDone_stored hw h)
  case restarted => exact fun s l hw hr hb => run_completeAs (patchDone_restarted hw hr hb) rfl

end Sys2Proof.Machine
end

section
/-!
PROOFS. The commands of receive channels, tones and capture units.
-/

namespace Sys2Proof.Machine
open State

namespace State

/-! ## RX_CONFIG (R201, R202) -/

theorem rxState_passHead (s : State) (q r : Nat) : (s.passHead q).rxState r = s.rxState r := fld_passHead s q _ r

/-- RX_CFG as RX_CONFIG stores it, with the channel in `SETTLING` until the given cycle at the latest. -/
def settling (s : State) (r : Nat) (mode : Bool) (hold bound : Nat) : State :=
  ((s.wr .rchRxCfg r (1 + 2 * ofBool mode + 256 * hold)).setF .rchRxStatusState r 1).updRchan r fun q =>
    { q with settle := bound }

section
variable {s : State} {r : Nat} {mode : Bool}

/-- Without EN the channel is OFF, whatever it was. -/
theorem rxConfigure_disabled (hold : Nat) : s.rxConfigure r false mode hold =
    (s.wr .rchRxCfg r (2 * ofBool mode + 256 * hold)).setF .rchRxStatusState r 0 := by
  simp only [rxConfigure, ofBool_false, Nat.zero_add, Bool.not_false, if_true]

/-- EN of an OFF channel starts 20 µs of settling. -/
theorem rxConfigure_off (hold : Nat) (h : s.rxState r = 0) :
    s.rxConfigure r true mode hold = s.settling r mode hold (s.cyc + 12500) := by
  simp only [rxConfigure, h, ofBool_true, Bool.not_true, Bool.false_eq_true, if_false, if_true]
  rfl

/-- A change of MODE settles a LIVE channel 5 µs. -/
theorem rxConfigure_live (hold : Nat) (h : s.rxState r = 2) (hm : s.flag .rchRxCfgMode r ≠ mode) :
    s.rxConfigure r true mode hold = s.settling r mode hold (s.cyc + 3125) := by
  simp only [rxConfigure, h, bne_iff_ne.mpr hm, OfNat.ofNat_ne_zero, OfNat.ofNat_ne_one, ofBool_true, Bool.not_true,
    Bool.false_eq_true, if_false, if_true]
  rfl

end

end State

theorem rxConfig_app (s : State) (c : HostCmd) : rxConfigSpec.app s c =
    (s.rxConfigure (indexOf c) (bit (pByte c 16) 0) (bit (pByte c 16) 1) (pBits c 17 0 6), {}) := rfl

/-- Settles O22: each command's effect in the state whose ring slot has passed, that of RX_CONFIG by EN and the channel's
state. -/
theorem receiveCommandsApply : Obligations.ReceiveCommandsApply := by
  refine ⟨?disabled, ?off, ?live, ?toneWrite, ?kernelWrite, ?toneRead, ?acqConfig, ?acqStart, ?acqStop⟩
  case disabled => exact fun s c h hen => command_done h rfl (by rw [rxConfig_app, hen, rxConfigure_disabled])
  case off =>
    intro s c h hen hoff
    refine command_done h rfl ?_
    rw [rxConfig_app, hen, rxConfigure_off _ (by rwa [rxState_passHead]), settling]
  case live =>
    intro s c h hen hlive hmode
    refine command_done h rfl ?_
    rw [rxConfig_app, hen, rxConfigure_live _ (by rwa [rxState_passHead]) (by rwa [flag_passHead]), settling]
  case toneWrite =>
    intro s c h hassign
    refine command_done h rfl ?_
    simp only [toneWriteSpec, justDo, hassign, when_false]
    rfl
  case kernelWrite | toneRead | acqConfig | acqStart =>
    intro s c h
    exact command_done h rfl rfl
  case acqStop => exact fun s c h => commandFires_accepted acqStopSpec c s h rfl

end Sys2Proof.Machine
end

section
/-!
PROOFS. The rows of receive channels and tones.
-/

namespace Sys2Proof.Machine
open State

namespace State

section
variable {s : State} {r : Nat}

/-! ## The state and the over-range marks of a channel (R201, R207 to R211) -/

theorem rxSettleDone_settling (h : s.rxState r = 1) (hc : s.cyc ≤ (s.rchan r).settle) :
    s.rxSettleDone r = (s.setF .rchRxStatusState r 2).updRchan r fun q => { q with settle := s.cyc } :=
  if_pos (by simp [h, hc])

/-- The channel with the group at the UNCORR tap marked as OWN (R207). -/
def ownMarked (s : State) (q : Rch) : Rch :=
  { q with lastOwn := some (s.cyc + 1), newOwn := q.lastOwn != some s.cyc }

section
variable (hp : s.hasRch r = true) (hv : s.rxValid r = true) (hown : (s.rchan r).lastOwn ≠ some (s.cyc + 1))
include hp hv hown

theorem rxOverrange_own : s.rxOverrange r false = s.setRchan r (s.ownMarked (s.rchan r)) := by
  simp only [rxOverrange, hp, hv, beq_eq_false_iff_ne.mpr hown, Bool.not_true, Bool.false_and, Bool.false_eq_true,
    if_false]
  rfl

/-- With the clamp, the group is marked as CLAMP too (R208). -/
theorem rxOverrange_clamp (hclamp : (s.rchan r).lastClamp ≠ some (s.cyc + 1)) :
    s.rxOverrange r true = s.setRchan r { s.ownMarked (s.rchan r) with
      clampAt := s.cyc + 2
      lastClamp := some (s.cyc + 1)
      newClamp := (s.rchan r).lastClamp != some s.cyc } := by
  simp only [rxOverrange, hp, hv, beq_eq_false_iff_ne.mpr hown, bne_iff_ne.mpr hclamp, Bool.not_true, Bool.true_and,
    Bool.false_eq_true, if_false, if_true]
  rfl

end

/-- A group without samples is not examined; the clamp is noted all the same (R198, R211). -/
theorem rxOverrange_invalid (hp : s.hasRch r = true) (hv : s.rxValid r = false) :
    s.rxOverrange r true = s.setRchan r { s.rchan r with clampAt := s.cyc + 2 } := by
  simp only [rxOverrange, hp, hv, Bool.not_true, Bool.not_false, Bool.false_eq_true, if_false, if_true]

/-- An OWN group that follows no OWN group, without the clamp (R211). -/
theorem rxTraces_ownFirst (hown : (s.rchan r).lastOwn = some s.cyc) (hnew : (s.rchan r).newOwn = true)
    (hclamp : (s.rchan r).lastClamp ≠ some s.cyc) :
    s.rxTraces r = (((s.bump .rchOvrGroups r).setB .rchRxStatusOverload r true).wr .rchOvrLastSt r
      (s.stOf (s.cyc - 7))).signal (prodOverload r) := by
  simp only [rxTraces, hown, hnew, beq_self_eq_true, when_true, wr_fields, setB_fields, bump_fields,
    beq_eq_false_iff_ne.mpr hclamp, Bool.false_and, Bool.and_self, when_false]

theorem ovrHoldExpire_ended (h : (s.rxValid r && bit (s.rxMarks r s.cyc).toNat 0) = false) :
    s.ovrHoldExpire r = s.setB .rchRxStatusOvrNow r false :=
  if_neg (by simp [h])

theorem rxUnexamined_marks (s : State) (r : Nat) : s.rxUnexamined r = s.updRchan r fun q => { q with
    lastOwn := if q.lastOwn = some (s.cyc + 1) then none else q.lastOwn
    lastClamp := if q.lastClamp = some (s.cyc + 1) then none else q.lastClamp } := by
  simp only [rxUnexamined, beq_iff_eq]

/-! ## The group at its taps (R205, R206, R214) -/

section
variable {xs : List (BitVec 12)}

/-- A group that carries samples keeps them for the RAW tap. -/
theorem rxGroup_sampled (hp : s.hasRch r = true) (hv : s.rxValid r = true) (hn : (s.rchan r).next = none)
    (hx : xs ≠ []) : s.rxGroup r xs =
      (let c := s.stOf (s.cyc - 6) / 32
      let t := (s.updRchan r fun q => { q with next := some xs }).after (s.cyc + 1) (.rxRaw r)
      t.acqUncorr r c (groupWord xs (uncorrFlags (t.rxFlags r (t.cyc + 1) xs) xs) c)) := by
  have hne : xs.isEmpty = false := List.isEmpty_eq_false_iff.mpr hx
  simp only [rxGroup, hp, hv, hn, hne, Bool.not_true, Option.isSome_none, Bool.or_self, Bool.false_eq_true, if_false,
    if_true]

/-- A group without samples, or of a channel that is not LIVE, is INVALID alone and unexamined. -/
theorem rxGroup_invalid (hp : s.hasRch r = true) (hv : s.rxValid r = false ∨ xs = []) (hn : (s.rchan r).next = none) :
    s.rxGroup r xs =
      (let c := s.stOf (s.cyc - 6) / 32
      let t := ((s.rxUnexamined r).updRchan r fun q => { q with next := some [] }).after (s.cyc + 1) (.rxRaw r)
      t.acqUncorr r c (groupWord [] (uncorrFlags 16 []) c)) := by
  have hnone : (if s.rxValid r then xs else []) = [] := by
    obtain hv | hx := hv
    · simp [hv]
    · simp [hx]
  simp only [rxGroup, hp, hn, hnone, rxFlags, Bool.not_true, Option.isSome_none, Bool.or_self, Bool.false_eq_true,
    if_false, List.isEmpty_nil, if_true]
  rfl

theorem rxFlags_sampled (hx : xs ≠ []) (c : Nat) : s.rxFlags r c xs = s.rxMarks r c :=
  if_neg (by simpa using hx)

end

end

section
variable {s : State} {r t : Nat}

/-! ## Windows and decisions of tones (R226, R234, R263) -/

theorem windowOpen_due (ha : (s.tone r t).active = true) (hd : (s.tone r t).due = some s.cyc)
    (hh : s.windowHeld r s.cyc = false) :
    s.windowOpen r t = (s.setTone r t { s.tone r t with
      due := none
      opened := some s.cyc
      isOpen := true
      endCyc := some (s.cyc + tdKlen (s.toneDesc r t))
      tag := BitVec.ofNat 16 s.runTag }).toneOpen r t true :=
  if_pos (by simp [ha, hd, hh])

theorem windowClose_ended {e : Nat} (he : (s.tone r t).endCyc = some e) (ho : (s.tone r t).isOpen = true)
    (hc : e ≤ s.cyc) :
    s.windowClose r t = (s.setTone r t { s.tone r t with isOpen := false }).toneOpen r t false := by
  simp only [windowClose, he, ho, hc, decide_true, Bool.and_self, if_true]

end

end State

/-- TONE_DECISION with a good journal entry: a tone that is due decides, and what decides is exported too. -/
theorem exec_toneDecision (s : State) (r : Fin 24) (t : Fin 16) : exec (.toneDecision r t false) s =
    perform (fun s => if s.toneDue r t then
      when (tdMode (s.toneDesc r t) != 3) (fun s => s.exportDecision (16 * r.val + t.val)) (s.toneDecision r t)
    else s) s := rfl

/-- Settles O23: each row's effect where its condition holds. The marks stand before the group's own row in a cycle (log
entry 3), which decides whether the group carries samples (log entry 12). -/
theorem receiveRows : Obligations.ReceiveRows := by
  refine ⟨?settled, ?own, ?clamp, ?unsampled, ?traces, ?expired, ?group, ?invalid, rxUnexamined_marks, ?raw, ?opens,
    ?closes, ?records, ?decides, ?notDue⟩
  case settled => exact fun s r h hc => run_act (rxSettleDone_settling h hc)
  case own => exact fun s r hp hv hown => perform_act (rxOverrange_own hp hv hown)
  case clamp => exact fun s r hp hv hown hclamp => perform_act (rxOverrange_clamp hp hv hown hclamp)
  case unsampled => exact fun s r hp hv => perform_act (rxOverrange_invalid hp hv)
  case traces => exact fun s r hown hnew hclamp => rxTraces_ownFirst hown hnew hclamp
  case expired => exact fun s r h => run_to (ovrHoldExpire_ended h) rfl rfl
  case group => exact fun s r xs hp hv hn hx => perform_act (rxGroup_sampled hp hv hn hx)
  case invalid => exact fun s r xs hp hv hn => perform_act (rxGroup_invalid hp hv hn)
  case raw =>
    intro s r xs hn hx
    have hsampled : xs.isEmpty = false := List.isEmpty_eq_false_iff.mpr hx
    simp only [laterOne, rxRaw, hn, rxFlags_sampled hx, hsampled, Bool.false_eq_true, if_false]
  case opens => exact fun s r t ha hd hh => run_act (windowOpen_due ha hd hh)
  case closes => exact fun s r t e he ho hc => run_act (windowClose_ended he ho hc)
  case records =>
    intro s r t hdue hmode
    exact (exec_toneDecision s r t).trans (perform_act (by rw [if_pos hdue, hmode]; rfl))
  case decides =>
    intro s r t hdue hmode
    exact (exec_toneDecision s r t).trans (perform_act (by rw [if_pos hdue, bne_iff_ne.mpr hmode, when_true]))
  case notDue =>
    intro s r t hdue
    exact (exec_toneDecision s r t).trans (perform_act (if_neg (by simp [hdue])))

end Sys2Proof.Machine
end

section
/-!
PROOFS. The result record of a tone's window (R236): fields laid side by side read back as they were, and every part of
a verdict fits in the field that the record has for it.
-/

namespace Sys2Proof.Machine
open State

/-! ## Fields side by side -/

/-- The number that fields, each a width and a value, spell side by side from bit 0 upward. -/
def sideBySide : List (Nat × Nat) → Nat
  | [] => 0
  | f :: fs => f.2 + 2 ^ f.1 * sideBySide fs

/-- The bits that fields take together. -/
def bitsOf (fs : List (Nat × Nat)) : Nat := (fs.map Prod.fst).sum

theorem sideBySide_lt {fs : List (Nat × Nat)} (h : ∀ f ∈ fs, f.2 < 2 ^ f.1) : sideBySide fs < 2 ^ bitsOf fs := by
  induction fs with
  | nil => exact Nat.one_pos
  | cons f fs ih =>
    obtain ⟨hf, hfs⟩ := List.forall_mem_cons.mp h
    calc f.2 + 2 ^ f.1 * sideBySide fs
      _ < 2 ^ f.1 * (sideBySide fs + 1) := by rw [Nat.mul_succ]; omega
      _ ≤ 2 ^ f.1 * 2 ^ bitsOf fs := Nat.mul_le_mul_left _ (ih hfs)
      _ = 2 ^ bitsOf (f :: fs) := (Nat.pow_add ..).symm

/-- A slice above the lowest field is one of the others. -/
theorem slice_field_above {f : Nat × Nat} (h : f.2 < 2 ^ f.1) (n lo w : Nat) :
    slice (f.2 + 2 ^ f.1 * n) (f.1 + lo) w = slice n lo w := by
  rw [slice_eq, slice_eq, Nat.pow_add, ← Nat.div_div_eq_div_mul, Nat.add_mul_div_left _ _ (Nat.two_pow_pos _),
    Nat.div_eq_of_lt h, Nat.zero_add]

/-- A field reads back from its place, the widths of those before it. -/
theorem slice_sideBySide {fs : List (Nat × Nat)} (h : ∀ f ∈ fs, f.2 < 2 ^ f.1) (k : Nat) {w v : Nat}
    (hk : fs[k]? = some (w, v)) : slice (sideBySide fs) (bitsOf (fs.take k)) w = v := by
  induction fs generalizing k with
  | nil => simp at hk
  | cons f fs ih =>
    obtain ⟨hf, hfs⟩ := List.forall_mem_cons.mp h
    cases k with
    | zero =>
      obtain rfl : f = (w, v) := Option.some.inj hk
      exact (Nat.add_mul_mod_self_left ..).trans (Nat.mod_eq_of_lt hf)
    | succ k => exact (slice_field_above hf ..).trans (ih hfs k hk)

theorem bit_of_slice {n b : Nat} {v : Bool} (h : slice n b 1 = ofBool v) : bit n b = v := by
  rw [slice, pow_one] at h
  rw [bit, h]
  cases v <;> rfl

theorem ofBool_lt (b : Bool) : ofBool b < 2 := by cases b <;> decide

/-! ## Signed fields -/

/-- i is in the range of a w-bit two's complement number. -/
def FitsSigned (w : Nat) (i : Int) : Prop := -(2 ^ (w - 1) : Nat) ≤ i ∧ i < (2 ^ (w - 1) : Nat)

theorem satS_fits (w : Nat) (i : Int) : FitsSigned w (satS w i) := by
  have := Nat.two_pow_pos (w - 1)
  unfold FitsSigned satS clip
  split_ifs <;> omega

theorem unsgn_lt (w : Nat) (i : Int) : unsgn w i < 2 ^ w := by
  have hpos : (0 : Int) < (2 ^ w : Nat) := mod_cast Nat.two_pow_pos w
  exact (Int.toNat_lt (Int.emod_nonneg _ hpos.ne')).mpr (Int.emod_lt_of_pos _ hpos)

theorem sgn_eq_toInt (w n : Nat) : sgn w n = (BitVec.ofNat w n).toInt := by
  rw [sgn, BitVec.toInt, BitVec.toNat_ofNat]

theorem sgn_unsgn {w : Nat} {i : Int} (hw : 0 < w) (h : FitsSigned w i) : sgn w (unsgn w i) = i := by
  rw [sgn_eq_toInt, ofNat_unsgn]
  exact BitVec.toInt_ofInt_eq_self hw (by exact_mod_cast h.1) (by exact_mod_cast h.2)

/-! ## A verdict's parts -/

theorem hyperplane_state_lt (d : BitVec 512) (i q : Int) : (hyperplane d i q).1 < 2 ^ 2 := slice_lt _ _ _

/-- A confidence is capped at 255 (R229, R231, R232). -/
theorem capped_lt (n : Nat) : min 255 n < 2 ^ 8 := Nat.lt_succ_of_le (Nat.min_le_left _ _)

theorem hyperplane_conf_lt (d : BitVec 512) (i q : Int) : (hyperplane d i q).2 < 2 ^ 8 := by
  simp only [hyperplane]
  split
  · decide
  · exact capped_lt _

namespace State

/-- Each part of a verdict is in the range of its field of the record (R236). -/
structure Verdict.Fits (v : Verdict) : Prop where
  state : v.state < 2 ^ 2
  conf : v.conf < 2 ^ 8
  flags : v.flags < 2 ^ 16
  i : FitsSigned 24 v.i
  q : FitsSigned 24 v.q

theorem Verdict.Fits.ite {c : Prop} [Decidable c] {v w : Verdict} (hv : v.Fits) (hw : w.Fits) :
    (if c then v else w).Fits := by
  split
  · exact hv
  · exact hw

/-- Whatever the descriptor and the accumulators, I and Q saturate, CONF is capped, FLAGS are bits below 16, and a state is
an entry of the map or one of 0, 1 and 3. -/
theorem verdict_fits (e : BitVec 512) (y : Tone) : (verdict e y).Fits := by
  have hi : FitsSigned 24 (satFlag 24 (roundUp y.zRe (tdKshift e))).1 := satS_fits _ _
  have hq : FitsSigned 24 (satFlag 24 (roundUp y.zIm (tdKshift e))).1 := satS_fits _ _
  have hunknown : 3 < 2 ^ 2 := by decide
  have hsign (c : Prop) [Decidable c] : (if c then 1 else 0) < 2 ^ 2 := by split <;> decide
  have hnone : 0 < 2 ^ 8 := by decide
  have hconf := capped_lt (y.lam.natAbs / 256)
  have hflags (b : Bool) : y.flags.toNat ||| 64 * ofBool b < 2 ^ 16 :=
    Nat.or_lt_two_pow y.flags.isLt (by have := ofBool_lt b; omega)
  unfold verdict
  refine .ite ?demod <| .ite ?forced <| .ite ?hyper <| .ite ?crossing <| .ite ?guessSign <| .ite ?guessHyper ?unknown
  case demod | forced => exact ⟨hunknown, hnone, Nat.or_lt_two_pow (hflags _) (by decide), hi, hq⟩
  case hyper | guessHyper => exact ⟨hyperplane_state_lt .., hyperplane_conf_lt .., hflags _, hi, hq⟩
  case crossing | guessSign => exact ⟨hsign _, hconf, hflags _, hi, hq⟩
  case unknown => exact ⟨hunknown, hconf, hflags _, hi, hq⟩

/-! ## The record -/

/-- The fields of a result record, from bit 0 upward (R236). -/
def recordFields (v : Verdict) (tag slot ticks epoch : Nat) : List (Nat × Nat) :=
  [(16, tag), (12, slot), (2, v.state), (1, ofBool v.early), (1, ofBool v.guess), (24, unsgn 24 v.i), (24, unsgn 24 v.q),
    (16, ticks), (8, v.conf), (16, v.flags), (8, epoch)]

theorem resultRecord_eq (v : Verdict) (tag slot ticks epoch : Nat) :
    resultRecord v tag slot ticks epoch = BitVec.ofNat 128 (sideBySide (recordFields v tag slot ticks epoch)) := by
  refine congrArg (BitVec.ofNat 128) ?_
  simp only [recordFields, sideBySide, Nat.shiftLeft_eq]
  ring

section
variable {v : Verdict} {tag slot ticks epoch : Nat}

theorem recordFields_fit (hv : v.Fits) (htag : tag < 2 ^ 16) (hslot : slot < 2 ^ 12) (hticks : ticks < 2 ^ 16)
    (hepoch : epoch < 2 ^ 8) : ∀ f ∈ recordFields v tag slot ticks epoch, f.2 < 2 ^ f.1 := by
  simp only [recordFields, List.forall_mem_cons, List.not_mem_nil, false_implies, implies_true, and_true]
  exact ⟨htag, hslot, hv.state, ofBool_lt _, ofBool_lt _, unsgn_lt _ _, unsgn_lt _ _, hticks, hv.conf, hv.flags, hepoch⟩

/-- The record's 128 bits are its fields side by side, none cut off. -/
theorem resultRecord_toNat (h : ∀ f ∈ recordFields v tag slot ticks epoch, f.2 < 2 ^ f.1) :
    (resultRecord v tag slot ticks epoch).toNat = sideBySide (recordFields v tag slot ticks epoch) := by
  rw [resultRecord_eq, BitVec.toNat_ofNat]
  exact Nat.mod_eq_of_lt (sideBySide_lt h)

end

end State

/-- Settles O24: the verdict's parts fit, so the record is its fields side by side, and each reads back from its place. -/
theorem resultRecordReadsBack : Obligations.ResultRecordReadsBack := by
  intro e y tag slot ticks epoch htag hslot hticks hepoch
  have hv := verdict_fits e y
  have hfit := recordFields_fit hv htag hslot hticks hepoch
  have read := slice_sideBySide hfit
  dsimp only
  rw [resultRecord_toNat hfit]
  refine ⟨read 0 rfl, read 1 rfl, read 2 rfl, bit_of_slice (read 3 rfl), bit_of_slice (read 4 rfl), ?i, ?q, read 7 rfl,
    read 8 rfl, read 9 rfl, read 10 rfl⟩
  case i => exact (congrArg (sgn 24) (read 5 rfl)).trans (sgn_unsgn (by decide) hv.i)
  case q => exact (congrArg (sgn 24) (read 6 rfl)).trans (sgn_unsgn (by decide) hv.q)

end Sys2Proof.Machine
end

section
/-!
PROOFS. The commands of the decision file and of feedback.
-/

namespace Sys2Proof.Machine
open State

section
variable {s : State} {c : HostCmd}

/-- FB_CONFIG of an output channel: sync group, lanes and WAIT_MAX (R272). -/
theorem fbConfig_app_och (h : kindOf c = 1) : fbConfigSpec.app s c =
    (s.wr .ochFbCfg (indexOf c) (pBits c 16 0 5 + 32 * pBits c 17 0 1 + 256 * pBits c 18 0 4 +
      65536 * slice (pNum c 20 2) 0 13), {}) :=
  congrArg (·, _) (if_pos h)

/-- FB_CONFIG of a receive channel: the sync group alone (R272). -/
theorem fbConfig_app_rch (h : kindOf c ≠ 1) : fbConfigSpec.app s c =
    (s.wr .rchFbCfg (indexOf c) (pBits c 16 0 5 + 32 * pBits c 17 0 1), {}) :=
  congrArg (·, _) (if_neg h)

end

/-- Settles O17: DEC_CLEAR and DEC_ASSIGN go over the slots of their span, and FB_CONFIG stores by the kind of its
channel (the statement has no clause for a write of the same cycle; that it meets the new epoch at the cycle's end is
the model's order: log entry 3). -/
theorem decisionFileCommands : Obligations.DecisionFileCommands := by
  refine ⟨?clear, ?assign, ?och, ?rch⟩
  case clear | assign => exact fun s c h => command_done h rfl rfl
  case och => exact fun s c h hk => command_done h rfl (fbConfig_app_och hk)
  case rch => exact fun s c h hk => command_done h rfl (fbConfig_app_rch hk)

end Sys2Proof.Machine
end

section
/-!
PROOFS. The commands of links and mirrors, and the end of a LINK_UP.
-/

namespace Sys2Proof.Machine
open State

/-- LINK_UP without REJOIN: the port is set up anew, with the lanes of its mask in training (R440, R441). -/
theorem linkUp_app_anew {s : State} {c : HostCmd} (h : bit (pByte c 16) 5 = false) : linkUpSpec.app s c =
    (let p := indexOf c
    let train := lanesOf (pBits c 16 0 4)
    let mask := (train.map (fun l => 2 ^ l)).foldl (· + ·) 0
    let s := s.wr .blpCfg p (pBits c 16 0 5 + pNum c 18 2 <<< 16)
    let s := s.updPort p fun x => { Port.init with
      cnt := x.cnt, slip := x.slip, line := x.line, train := mask, txLive := mask }
    let s := (s.setF .blpStatusState p 1).irq 6
    let s := when (mask != 0) (fun s => s.setF .blpStatusStage p 1) s
    let s := forEach train (fun l s => s.setF .bllStatusState (4 * p + l) 1) s
    s.startLong c .link p 0 0 [], { long := true }) := by
  simp only [linkUpSpec, h, Bool.false_eq_true, if_false, when_false, ofBool_false]

namespace State

/-! ## The end of LINK_UP (R401, R402, R441) -/

theorem linkUpComplete_none {s : State} {p : Nat} (h : s.findLong 0x606 (some p) = none) (ok : Nat) :
    s.linkUpComplete p ok = s := by
  simp only [linkUpComplete, h]

section
variable {s : State} {p ok : Nat} {l : LongCmd} (h : s.findLong 0x606 (some p) = some l) (hanew : l.arg ≠ 1)
include h hanew

/-- A port in training with credits becomes ACTIVE on the lanes that passed in both directions. -/
theorem linkUpComplete_active (hs : s.portState p = 1) (hcred : (s.port p).credInit = true)
    (hmap : ((s.port p).rxOk &&& (s.port p).train) &&& ok ≠ 0) : s.linkUpComplete p ok =
    (s.linkActive p (((s.port p).rxOk &&& (s.port p).train) &&& ok)).completeAs l 0 7
      (((s.port p).rxOk &&& (s.port p).train) &&& ok) 0 := by
  simp only [linkUpComplete, h, if_neg hanew]
  exact if_pos (by simp [hs, hcred, hmap])

/-- A port without credits when LINK_TIMEOUT expires is DOWN again. -/
theorem linkUpComplete_expired (hcred : (s.port p).credInit = false)
    (hlate : l.accCyc + 625000 * s.fld .blpCfgLinkTimeout p ≤ s.cyc) : s.linkUpComplete p ok =
    (s.portDown p).completeAs l 0 (2 ^ 31 + max 1 (s.fld .blpStatusStage p)) 0 0 := by
  simp only [linkUpComplete, h, if_neg hanew]
  rw [if_neg (by simp [hcred]), if_pos (decide_eq_true hlate)]

end

end State

/-- Settles O38: each command's effect in the state whose ring slot has passed, and the end of a LINK_UP by whether its
port has become ACTIVE or its time has run out (that stage 7 is told on success too is the model's reading: log
entry 7). -/
theorem linkCommandsApply : Obligations.LinkCommandsApply := by
  refine ⟨?up, ?down, ?mirrorExport, ?route, ?active, ?expired, ?none⟩
  case up => exact fun s c h hanew => command_begun h rfl (linkUp_app_anew hanew)
  case down | mirrorExport | route => exact fun s c h => command_done h rfl rfl
  case active => exact fun s p ok l h hanew hs hcred hmap => run_act (linkUpComplete_active h hanew hs hcred hmap)
  case expired => exact fun s p ok l h hanew hcred hlate => run_act (linkUpComplete_expired h hanew hcred hlate)
  case none => exact fun s p ok h => run_to (linkUpComplete_none h ok.toNat) rfl rfl

end Sys2Proof.Machine
end

section
/-!
PROOFS. What an instruction of two sources changes, and what it leaves unchanged.
-/

namespace Sys2Proof.Machine
open State

/-! ## Instructions of two sources (R286) -/

/-- The instructions of two sources whose result is an operation of theirs. -/
def twoSource (q : Fin 32) : List (Instr × DspOp × (Nat → Nat → Nat)) :=
  [(.dspAdd q .clean, .add, fun a b => a + b), (.dspSub q .clean, .sub, fun a b => a + 2 ^ 32 - b),
    (.dspAnd q .clean, .and, fun a b => a &&& b), (.dspOr q .clean, .or, fun a b => a ||| b),
    (.dspXor q .clean, .xor, fun a b => a ^^^ b), (.dspMul q .clean, .mul, fun a b => a * b)]

/-- Each is the row of its operation, and neither a branch nor an access. -/
theorem exec_twoSource {q : Fin 32} {i : Instr} {op : DspOp} {f : Nat → Nat → Nat} (h : (i, op, f) ∈ twoSource q) :
    (∀ s, exec i s = dspRow q op .clean (aluOp q f) s) ∧ op.bytes = 0 ∧ ∀ (s : State) w, s.taken q w op = false := by
  simp only [twoSource, List.mem_cons, List.not_mem_nil, or_false, Prod.mk.injEq] at h
  obtain ⟨rfl, rfl, rfl⟩ | ⟨rfl, rfl, rfl⟩ | ⟨rfl, rfl, rfl⟩ | ⟨rfl, rfl, rfl⟩ | ⟨rfl, rfl, rfl⟩ | ⟨rfl, rfl, rfl⟩ := h <;>
    exact ⟨fun _ => rfl, rfl, fun _ _ => rfl⟩

namespace State

/-- An instruction that neither branches nor accesses memory takes one DSP cycle (R286). -/
theorem dspCost_eq_one {s : State} {q w : Nat} {o : DspOp} (h : dspOp w = some o) (ht : s.taken q w o = false)
    (hb : o.bytes = 0) : s.dspCost q w = 1 := by
  simp [dspCost, h, ht, hb]

/-- With no firing waiting in the cycle, none is performed. -/
theorem settle_of_no_firing {s : State} (h : ∀ e ∈ s.later, ∀ p, e.2 = .fire p → e.1 ≠ s.cyc) : s.settle = s := by
  simp only [settle]
  rw [List.filter_eq_self.mpr, List.filterMap_eq_nil_iff.mpr]
  · rfl
  · rintro ⟨c, e⟩ he
    cases e
    case fire p => exact if_neg (h _ he p rfl)
    all_goals rfl
  · rintro ⟨c, e⟩ he
    cases e
    case fire p => exact bne_iff_ne.mpr (h _ he p rfl)
    all_goals rfl

/-! ## The bank in use (R280) -/

section
variable (s : State) (q : Nat) (f : Bank → Bank)

theorem updBank_eq : s.updBank q f = { s with dsp := (s.updBank q f).dsp } := by
  unfold updBank
  split <;> rfl

theorem rd_updBank (r : Reg) (i : Nat) : (s.updBank q f).rd r i = s.rd r i := by
  rw [updBank_eq]
  rfl

theorem fld_updBank (x : Fld) (i : Nat) : (s.updBank q f).fld x i = s.fld x i := by
  rw [fld, rd_updBank]
  rfl

theorem core_updBank : (s.updBank q f).core q = { s.core q with
    bank0 := ((s.updBank q f).core q).bank0, bank1 := ((s.updBank q f).core q).bank1 } := by
  unfold updBank
  split <;> simp only [core_updCore]

theorem core_updBank_ne {k : Nat} (h : k ≠ q) : (s.updBank q f).core k = s.core k := by
  unfold updBank
  split <;> exact core_updCore_ne _ _ _ _ h

theorem coreBank_updBank : (s.updBank q f).coreBank q = f (s.coreBank q) := by
  cases hb : s.flag .dspStatusInHandler q <;> simp [coreBank, hb, updBank]

end

/-- A write of PC leaves the bank in use. -/
theorem coreBank_setF_pc (s : State) (q pc : Nat) : (s.setF .dspStatusPc q pc).coreBank q = s.coreBank q := by
  have hin : (s.setF .dspStatusPc q pc).flag .dspStatusInHandler q = s.flag .dspStatusInHandler q :=
    congrArg (· != 0) (fld_setF_apart s .dspStatusPc .dspStatusInHandler q _ rfl (by decide) (by decide))
  simp only [coreBank, hin]
  rfl

/-- Core q has issued w, of two sources a and b and with result v, and goes on to the next instruction. -/
def aluDone (s : State) (q w v a b : Nat) : State :=
  (((s.wake q w false).setG q (iD w) v).aluSet q w a b).setF .dspStatusPc q (s.pcNext q)

section
variable (s : State) (q w v a b : Nat)

theorem aluDone_eq : s.aluDone q w v a b = { s with
    dsp := (s.aluDone q w v a b).dsp, regs := (s.aluDone q w v a b).regs, raised := (s.aluDone q w v a b).raised } := by
  unfold aluDone setG aluSet
  rw [updBank_eq ((s.wake q w false).updBank q _), updBank_eq (s.wake q w false)]
  rfl

theorem aluDone_regsKept : RegsKept [.dspStatus] s (s.aluDone q w v a b) := fun r i hr => by
  have hne : r ≠ .dspStatus := fun e => hr (e ▸ List.mem_singleton.mpr rfl)
  rw [aluDone, rd_setF_reg _ _ _ _ _ _ hne, aluSet, rd_updBank, setG, rd_updBank, rd_wake _ _ _ _ _ _ hne]

theorem pcOf_aluDone : (s.aluDone q w v a b).pcOf q = s.pcNext q :=
  (fld_setF_same _ .dspStatusPc q _ (by decide)).trans (Nat.mod_mod _ _)

theorem core_aluDone_ne {k : Nat} (h : k ≠ q) : (s.aluDone q w v a b).core k = s.core k :=
  (core_updBank_ne _ q _ h).trans ((core_updBank_ne _ q _ h).trans (core_updCore_ne _ _ _ _ h))

/-- Beside its banks the core has its place in time changed alone. -/
theorem core_aluDone : (s.aluDone q w v a b).core q = { s.core q with
    bank0 := ((s.aluDone q w v a b).core q).bank0
    bank1 := ((s.aluDone q w v a b).core q).bank1
    issueAt := max (s.core q).free (2 * s.cyc)
    free := max (s.core q).free (2 * s.cyc) + s.dspCost q w } := by
  show (((s.wake q w false).setG q (iD w) v).aluSet q w a b).core q = _
  rw [aluSet, core_updBank, setG, core_updBank, core_wake]
  rfl

/-- The bank in use has Gd and its flags changed alone. -/
theorem coreBank_aluDone : (s.aluDone q w v a b).coreBank q = { s.coreBank q with
    g := SMap.put 0 (s.coreBank q).g (iD w) (BitVec.ofNat 32 v)
    flags := ((s.aluDone q w v a b).coreBank q).flags } := by
  simp only [aluDone, coreBank_setF_pc, aluSet, setG, coreBank_updBank, coreBank_wake]

theorem gReg_aluDone : (s.aluDone q w v a b).gReg q (iD w) = v % 2 ^ 32 := by
  rw [gReg, coreBank_aluDone, SMap.get_put_same, BitVec.toNat_ofNat]

theorem gReg_aluDone_ne {j : Nat} (h : j ≠ iD w) : (s.aluDone q w v a b).gReg q j = s.gReg q j := by
  rw [gReg, coreBank_aluDone, SMap.get_put_ne _ _ _ _ _ _ h]
  rfl

theorem acc_aluDone (j : Nat) : (s.aluDone q w v a b).acc q j = s.acc q j := by
  rw [acc, coreBank_aluDone]
  rfl

theorem ptr_aluDone (j : Nat) : (s.aluDone q w v a b).ptr q j = s.ptr q j := by
  rw [ptr, coreBank_aluDone]
  rfl

end

/-- Outside a REPEAT the core goes on at the next address. -/
theorem coreNext_of_no_repeat {s : State} {q : Nat} (h : (s.core q).rep = none) (pc : Nat) :
    s.coreNext q pc = s.setF .dspStatusPc q pc := by
  rw [coreNext, h]

theorem rep_aluSet_setG_wake (s : State) (q w v a b : Nat) :
    ((((s.wake q w false).setG q (iD w) v).aluSet q w a b).core q).rep = (s.core q).rep := by
  rw [aluSet, core_updBank, setG, core_updBank, core_wake]

end State

section
variable {s : State} {q : Fin 32} {w : Nat} {i : Instr} {op : DspOp} {f : Nat → Nat → Nat}
  (hi : (i, op, f) ∈ twoSource q) (h : s.Issues q w op)
include hi h

theorem exec_twoSource_issued : exec i s = .next (s.act (issued q (s.pcNext q) fun s =>
    (s.setG q (iD w) (f (s.gReg q (iS1 w)) (s.gReg q (iS2 w)))).aluSet q w (s.gReg q (iS1 w)) (s.gReg q (iS2 w)))) :=
  have ⟨hexec, _⟩ := exec_twoSource hi
  (hexec s).trans (dspRow_thenNext h rfl)

/-- Outside a REPEAT and with no firing waiting, the instruction leaves no more than its result, its flags, the core's
place in time and its PC. -/
theorem exec_twoSource_done (hrep : (s.core q).rep = none)
    (hfire : ∀ e ∈ s.later, ∀ p, e.2 = .fire p → e.1 ≠ s.cyc) :
    exec i s = .next (s.aluDone q w (f (s.gReg q (iS1 w)) (s.gReg q (iS2 w))) (s.gReg q (iS1 w)) (s.gReg q (iS2 w))) := by
  have ⟨_, _, hw, _⟩ := h
  have hkept := s.aluDone_eq q w (f (s.gReg q (iS1 w)) (s.gReg q (iS2 w))) (s.gReg q (iS1 w)) (s.gReg q (iS2 w))
  refine (exec_twoSource_issued hi h).trans (run_to ?_ (congrArg pending hkept :) (congrArg variant hkept :))
  simp only [issued, hw, gReg_wake]
  rw [coreNext_of_no_repeat ((rep_aluSet_setG_wake ..).trans hrep)]
  refine settle_of_no_firing ?_
  rw [← aluDone, hkept]
  exact hfire

end

/-- Settles O47: the instruction leaves `State.aluDone`, whose parts are as the lemmas above say. -/
theorem dspResultAndFrame : Obligations.DspResultAndFrame := by
  intro s q w i op f hi h hrep hfire
  refine ⟨_, exec_twoSource_done hi h hrep hfire, ?_⟩
  have ⟨_, hbytes, htaken⟩ := exec_twoSource hi
  have ⟨_, _, _, hop⟩ := h
  have hcost : s.dspCost q w = 1 := dspCost_eq_one hop (htaken s w) hbytes
  generalize s.gReg q (iS1 w) = a, s.gReg q (iS2 w) = b
  have hcore := s.core_aluDone q w (f a b) a b
  rw [hcost] at hcore
  exact ⟨s.aluDone_eq q w _ a b, s.aluDone_regsKept q w _ a b, s.gReg_aluDone q w _ a b, s.pcOf_aluDone q w _ a b,
    fun _ hj => s.gReg_aluDone_ne q w _ a b hj, s.acc_aluDone q w _ a b, s.ptr_aluDone q w _ a b,
    fun _ hk => s.core_aluDone_ne q w _ a b hk, hcore⟩

end Sys2Proof.Machine
end

section
/-!
PROOFS. The faults of an instruction's word: an uncorrectable one, and one that no instruction has.
-/

namespace Sys2Proof.Machine
open State

namespace State

section
variable {s : State} {q : Nat} {op : DspOp} {f : Nat → State → DspEnd} {b : Bool} (hc : s.coreIssues q = true)
include hc

/-- An uncorrectable word at the PC faults with IMEM (R298). -/
theorem issue_imem (hb : s.badIn 9 q (s.pcOf q / 2) (s.pcOf q / 2 + 1) = true) :
    s.issue q op .clean f b = s.coreFault q 4 0 := by
  simp only [issue, eccSeen, hc, hb]
  rfl

variable (hb : s.badIn 9 q (s.pcOf q / 2) (s.pcOf q / 2 + 1) = false)
include hb

/-- A word that no instruction has faults with ILLEGAL (R286, R298). -/
theorem issue_illegal (hn : dspOp (s.imemWord q (s.pcOf q)) = none) : s.issue q op .clean f b = s.coreFault q 1 0 := by
  simp only [issue, eccSeen, hc, hb, hn]
  rfl

/-- A row of another instruction than the one at the PC issues nothing. -/
theorem issue_other {o : DspOp} (ho : dspOp (s.imemWord q (s.pcOf q)) = some o) (hne : o ≠ op) :
    s.issue q op .clean f b = s := by
  simp only [issue, eccSeen, hc, hb, ho, if_neg hne]
  rfl

end

/-! ## What ILLEGAL leaves (R298) -/

/-- ILLEGAL has no address, and taints no packet. -/
theorem coreFault_illegal (s : State) (q : Nat) : s.coreFault q 1 0 =
    (let t := ((s.setF .dspStatusState q 3).setB .dspStatusInRepeat q false).setB .dspStatusSleep q false
     ((t.wr .dspFault q (1 + 16 * t.pcOf q)).updCore q fun c => { c with rep := none, haltReq := false }).signal
      (prodDspFault q)) := rfl

/-- A single bit of DSP_STATUS below PC leaves a field of it that lies apart. -/
theorem fld_setB_dspStatus (s : State) {f g : Fld} (q : Nat) (b : Bool) (hf : f.reg = .dspStatus) (hg : g.reg = .dspStatus)
    (hin : g.lo + g.width ≤ 32) (hap : g.lo + g.width ≤ f.lo ∨ f.lo + f.width ≤ g.lo) :
    (s.setB f q b).fld g q = s.fld g q :=
  fld_setF_apart s f g q _ (hg.trans hf.symm) (by rw [hf]; exact hin) hap

theorem coreState_coreFault_illegal (s : State) (q : Nat) : (s.coreFault q 1 0).coreState q = 3 := by
  rw [coreFault_illegal]
  refine (fld_wr_reg _ .dspFault .dspStatusState q q _ (by decide)).trans ?_
  rw [fld_setB_dspStatus _ q false rfl rfl (by decide) (by decide),
    fld_setB_dspStatus _ q false rfl rfl (by decide) (by decide)]
  exact fld_setF_same s .dspStatusState q 3 (by decide)

theorem dspFault_coreFault_illegal (s : State) (q : Nat) :
    (s.coreFault q 1 0).rd .dspFault q = (1 + 16 * s.pcOf q) % 2 ^ 32 := by
  have hpc : (((s.setF .dspStatusState q 3).setB .dspStatusInRepeat q false).setB .dspStatusSleep q false).pcOf q =
      s.pcOf q := by
    rw [pcOf, fld_setB_dspStatus _ q false rfl rfl (by decide) (by decide),
      fld_setB_dspStatus _ q false rfl rfl (by decide) (by decide)]
    exact fld_setF_apart s .dspStatusState .dspStatusPc q 3 rfl (by decide) (by decide)
  rw [coreFault_illegal]
  refine (rd_wr_same _ .dspFault q _).trans ?_
  rw [hpc]
  rfl

theorem core_signal (s : State) (p q : Nat) : (s.signal p).core q = s.core q := rfl

theorem rep_coreFault_illegal (s : State) (q : Nat) : ((s.coreFault q 1 0).core q).rep = none := by
  rw [coreFault_illegal]
  simp only [core_signal, core_updCore]

end State

/-- One instruction of each kind: of sources, of immediates, of complex numbers, of memory and of control. -/
def eachKind (q : Fin 32) : List (Instr × DspOp) :=
  [(.dspAdd q .clean, DspOp.add), (.dspMovi q .clean, .movi), (.dspCadds q .clean, .cadds),
    (.dspCmac q .clean, .cmac), (.dspLdW q .clean, .ldW), (.dspStD q .clean, .stD), (.dspB q .clean, .b),
    (.dspRepeat q .clean, .repeat), (.dspMvc q .clean, .mvc), (.dspHalt q .clean, .halt)]

/-- Each is a row that issues its instruction. -/
theorem exec_eachKind {q : Fin 32} {i : Instr} {op : DspOp} (h : (i, op) ∈ eachKind q) :
    ∃ f, ∀ s, exec i s = dspRow q op .clean f s := by
  simp only [eachKind, List.mem_cons, List.not_mem_nil, or_false, Prod.mk.injEq] at h
  obtain ⟨rfl, rfl⟩ | ⟨rfl, rfl⟩ | ⟨rfl, rfl⟩ | ⟨rfl, rfl⟩ | ⟨rfl, rfl⟩ | ⟨rfl, rfl⟩ | ⟨rfl, rfl⟩ | ⟨rfl, rfl⟩ |
    ⟨rfl, rfl⟩ | ⟨rfl, rfl⟩ := h <;> exact ⟨_, fun _ => rfl⟩

/-- Settles O48: the issue of any instruction looks at its word first, and ILLEGAL leaves what the lemmas above say. -/
theorem dspFaults : Obligations.DspFaults := by
  intro s q i op hi hc
  obtain ⟨f, hexec⟩ := exec_eachKind hi
  rw [hexec s]
  refine ⟨fun hb => ?imem, fun hb hn => ?illegal, fun hb ho => ?other, s.coreState_coreFault_illegal q,
    s.dspFault_coreFault_illegal q, s.rep_coreFault_illegal q⟩
  case imem => exact perform_act (issue_imem hc hb)
  case illegal => exact perform_act (issue_illegal hc hb hn)
  case other =>
    obtain ⟨o, ho, hne⟩ := ho
    exact perform_act (issue_other hc hb ho hne)

end Sys2Proof.Machine
end

section
/-!
PROOFS. The arithmetic instructions of a DSP core.
-/

namespace Sys2Proof.Machine
open State

namespace State

/-- A shift by less than the width shifts (R286). -/
theorem shiftBy_of_lt {b : Nat} (h : b < 32) (k : Nat) (f : Nat → Nat → Nat) (a : Nat) : shiftBy k f a b = f a b :=
  if_pos h

/-- The model's free value of shift k for an amount of the width or more (log entry 8). -/
def overShifted (k a b : Nat) : Nat := (Config.shiftOver k (BitVec.ofNat 32 a) (BitVec.ofNat 32 b)).toNat

theorem shiftBy_of_ge {b : Nat} (h : 32 ≤ b) (k : Nat) (f : Nat → Nat → Nat) (a : Nat) :
    shiftBy k f a b = overShifted k a b :=
  if_neg (Nat.not_lt.mpr h)

end State

/-- The row of an instruction of two sources whose operation answers, on the sources at hand, what f does. -/
theorem dspRow_aluOp {s : State} {q w : Nat} {op : DspOp} {g f : Nat → Nat → Nat} (h : s.Issues q w op)
    (hf : g (s.gReg q (iS1 w)) (s.gReg q (iS2 w)) = f (s.gReg q (iS1 w)) (s.gReg q (iS2 w))) :
    dspRow q op .clean (aluOp q g) s = .next (s.act (issued q (s.pcNext q) fun s =>
      (s.setG q (iD w) (f (s.gReg q (iS1 w)) (s.gReg q (iS2 w)))).aluSet q w (s.gReg q (iS1 w)) (s.gReg q (iS2 w)))) :=
  dspRow_issued h (by simp only [aluOp, thenNext, pcNext_wake, gReg_wake, hf])

/-- Settles O42: each row is the issue of its instruction and goes on to the next, and a shift looks at its amount (the
flags' places and the free values are the model's: log entry 8). -/
theorem dspArithmetic : Obligations.DspArithmetic := by
  refine ⟨fun s q w i op f hi h => exec_twoSource_issued hi h, ?shift, ?shiftOver, ?addi, ?movi, ?movhi, ?norm,
    ?exp, ?normA, ?expA⟩
  case shift =>
    intro s q w i op f hi h hlt
    obtain ⟨k, hk⟩ : ∃ k, ∀ s, exec i s = dspRow q op .clean (aluOp q (shiftBy k f)) s := by
      simp only [List.mem_cons, List.not_mem_nil, or_false, Prod.mk.injEq] at hi
      obtain ⟨rfl, rfl, rfl⟩ | ⟨rfl, rfl, rfl⟩ | ⟨rfl, rfl, rfl⟩ := hi <;> exact ⟨_, fun _ => rfl⟩
    exact (hk s).trans (dspRow_aluOp h (shiftBy_of_lt hlt k f _))
  case shiftOver =>
    intro s q w i op k hi h hge
    obtain ⟨f, hf⟩ : ∃ f, ∀ s, exec i s = dspRow q op .clean (aluOp q (shiftBy k f)) s := by
      simp only [List.mem_cons, List.not_mem_nil, or_false, Prod.mk.injEq] at hi
      obtain ⟨rfl, rfl, rfl⟩ | ⟨rfl, rfl, rfl⟩ | ⟨rfl, rfl, rfl⟩ := hi <;> exact ⟨_, fun _ => rfl⟩
    exact (hf s).trans (dspRow_aluOp (f := overShifted k) h (shiftBy_of_ge hge k f _))
  case addi | movi | movhi | norm | exp | normA | expA => exact fun s q w h => dspRow_thenNext h rfl

end Sys2Proof.Machine
end

section
/-!
PROOFS. Loads and stores in DMEM, a read of TIMEP, and accesses to places where nothing is.
-/

namespace Sys2Proof.Machine
open State

namespace State

/-! ## What a load finds (R282 to R284) -/

section
variable {s : State} {q a n : Nat}

/-- Correct DMEM answers its bytes, lowest first. -/
theorem dspLoad_dmem (h : inDmem a n = true) (hb : s.dmemBad q a n = false) :
    s.dspLoad q a n = .inr (s, leNat (Memory.readBytes (s.core q).dmem (a - 0x100000) n)) := by
  simp only [dspLoad, h, hb, if_true, Bool.false_eq_true, if_false]

/-- TIMEP answers the ST of the DSP cycle of the latest issue. -/
theorem dspLoad_timep (s : State) (q : Nat) :
    s.dspLoad q 0x860000 8 = .inr (s, s.st.toNat + 16 * ((s.core q).issueAt - 2 * s.cyc)) := rfl

/-- Below DMEM there is no port. -/
theorem portLoad_below (h : a < 0x100000) : s.portLoad q a 4 = none := by
  simp [portLoad, show ¬ 0x800000 ≤ a by omega, show ¬ 0x820000 ≤ a by omega, show ¬ 0x830000 ≤ a by omega,
    show a ≠ 0x840010 by omega, show a ≠ 0x860008 by omega, show a ≠ 0x820020 by omega, show a ≠ 0x83000C by omega,
    show a ≠ 0x850000 by omega]

/-- A load below DMEM faults with ACCESS (R283). -/
theorem dspLoad_below (h : a < 0x100000) : s.dspLoad q a 4 = .inl (2, a) := by
  have hd : inDmem a 4 = false := by simp [inDmem, h]
  have hc : inClm a 4 = false := by simp [inClm, show ¬ 0x200000 ≤ a by omega]
  simp only [dspLoad, hd, hc, portLoad_below h, Bool.false_eq_true, if_false, ite_self]

/-! ## What a store does (R284) -/

/-- DMEM is no port, where a second send in a cycle would stall. -/
theorem sendStalls_dmem (h : inDmem a n = true) : s.sendStalls q a n = false := by
  simp only [inDmem, Bool.and_eq_true, decide_eq_true_eq] at h
  simp [sendStalls, show a ≠ 0x820020 by omega, show a ≠ 0x83000C by omega]

/-- An aligned store, or one on correct words, writes its bytes, and the words are correct from then on. -/
theorem dspStore_dmem (h : inDmem a n = true) (hb : a % n = 0 ∨ s.dmemBad q a n = false) (v : Nat) :
    s.dspStore q a n v = .inr ((s.updCore q fun c =>
      { c with dmem := Memory.writeBytes c.dmem (a - 0x100000) (leBytes n v) }).cleanBank 9 q
        (0x2000 + (a - 0x100000) / 8) (0x2000 + (a - 0x100000 + n - 1) / 8 + 1)) := by
  have hgood : (a % n != 0 && s.dmemBad q a n) = false := by rcases hb with hb | hb <;> simp [hb]
  simp only [dspStore, h, hgood, if_true, Bool.false_eq_true, if_false]

/-- An unaligned store reads the words that it covers, and faults with DMEM on an uncorrectable one. -/
theorem dspStore_dmem_bad (h : inDmem a n = true) (ha : a % n ≠ 0) (hb : s.dmemBad q a n = true) (v : Nat) :
    s.dspStore q a n v = .inl (5, a) := by
  simp [dspStore, h, ha, hb]

end

/-! ## The same on a core that wakes -/

section
variable {s : State} {q w n : Nat} {b : Bool}

theorem dspLoad_dmem_wake (h : inDmem (s.dspAddr q w) n = true) (hb : s.dmemBad q (s.dspAddr q w) n = false) :
    (s.wake q w b).dspLoad q ((s.wake q w b).dspAddr q w) n = .inr (s.wake q w b,
      leNat (Memory.readBytes ((s.wake q w b).core q).dmem ((s.wake q w b).dspAddr q w - 0x100000) n)) := by
  rw [← dspAddr_wake s q w w b] at h hb
  exact dspLoad_dmem h hb

theorem dspLoad_timep_wake (h : s.dspAddr q w = 0x860000) :
    (s.wake q w b).dspLoad q ((s.wake q w b).dspAddr q w) 8 = .inr (s.wake q w b,
      s.st.toNat + 16 * (max (s.core q).free (2 * s.cyc + ofBool b) - 2 * s.cyc)) := by
  rw [dspAddr_wake, h, dspLoad_timep, core_wake]
  rfl

theorem dspLoad_below_wake (h : s.dspAddr q w < 0x100000) :
    (s.wake q w b).dspLoad q ((s.wake q w b).dspAddr q w) 4 = .inl (2, s.dspAddr q w) := by
  rw [dspAddr_wake, dspLoad_below h]

theorem dspStore_dmem_wake (h : inDmem (s.dspAddr q w) n = true)
    (hb : s.dspAddr q w % n = 0 ∨ s.dmemBad q (s.dspAddr q w) n = false) (v : Nat) :
    (s.wake q w b).dspStore q ((s.wake q w b).dspAddr q w) n v =
      .inr (((s.wake q w b).updCore q fun c =>
        { c with dmem := Memory.writeBytes c.dmem ((s.wake q w b).dspAddr q w - 0x100000) (leBytes n v) }).cleanBank 9 q
          (0x2000 + ((s.wake q w b).dspAddr q w - 0x100000) / 8)
          (0x2000 + ((s.wake q w b).dspAddr q w - 0x100000 + n - 1) / 8 + 1)) := by
  rw [← dspAddr_wake s q w w b] at h hb
  exact dspStore_dmem (s := s.wake q w b) h hb v

theorem dspStore_dmem_bad_wake (h : inDmem (s.dspAddr q w) n = true) (ha : s.dspAddr q w % n ≠ 0)
    (hb : s.dmemBad q (s.dspAddr q w) n = true) (v : Nat) :
    (s.wake q w b).dspStore q ((s.wake q w b).dspAddr q w) n v = .inl (5, s.dspAddr q w) := by
  rw [dspAddr_wake]
  exact dspStore_dmem_bad (s := s.wake q w b) h ha hb v

theorem sendStalls_dmem_wake (h : inDmem (s.dspAddr q w) n = true) :
    (s.wake q w b).sendStalls q ((s.wake q w b).dspAddr q w) n = false := by
  rw [dspAddr_wake]
  exact sendStalls_dmem (s := s.wake q w b) h

end

/-! ## The instructions (R286) -/

section
variable {s t : State} {q w n v cause addr : Nat}

theorem loadOp_found (h : s.dspLoad q (s.dspAddr q w) n = .inr (t, v)) (hn : n ≠ 8) : loadOp q n w s =
    .go ((t.setG q (iD w) (unsgn 32 (sgn (8 * n) v))).dspModify q w) (s.pcNext q) := by
  simp only [loadOp, h, if_neg hn]

theorem loadOp_found_double (h : s.dspLoad q (s.dspAddr q w) 8 = .inr (t, v)) : loadOp q 8 w s =
    .go (((t.setG q (iD w) (slice v 0 32)).setG q (iD w + 1) (slice v 32 32)).dspModify q w) (s.pcNext q) := by
  simp only [loadOp, h, if_true]

theorem loadOp_fault (h : s.dspLoad q (s.dspAddr q w) n = .inl (cause, addr)) : loadOp q n w s = .fault cause addr := by
  simp only [loadOp, h]

theorem bexpOp_found (h : s.dspLoad q (s.dspAddr q w) 4 = .inr (t, v)) : bexpOp q w s =
    .go ((t.setG q (iD w) (unsgn 32 (min (sgn 32 (s.gReg q (iD w)))
      (min (signBits 16 (slice v 0 16)) (signBits 16 (slice v 16 16)) : Nat)))).dspModify q w) (s.pcNext q) := by
  simp only [bexpOp, h]

/-- What a store of n bytes takes from Gd, or from Gd and Gd + 1. -/
def storeValue (s : State) (q w n : Nat) : Nat :=
  (s.gReg q (iD w) + (if n = 8 then s.gReg q (iD w + 1) <<< 32 else 0)) % 2 ^ (8 * n)

theorem storeValue_of_ne (s : State) (q w : Nat) (hn : n ≠ 8) :
    s.storeValue q w n = s.gReg q (iD w) % 2 ^ (8 * n) := by
  simp only [storeValue, if_neg hn, Nat.add_zero]

theorem storeOp_taken (h : s.sendStalls q (s.dspAddr q w) n = false)
    (ht : s.dspStore q (s.dspAddr q w) n (s.storeValue q w n) = .inr t) :
    storeOp q n w s = .go (t.dspModify q w) (s.pcNext q) := by
  simp only [storeValue] at ht
  simp only [storeOp, h, ht, Bool.false_eq_true, if_false]

theorem storeOp_fault (h : s.sendStalls q (s.dspAddr q w) n = false)
    (ht : s.dspStore q (s.dspAddr q w) n (s.storeValue q w n) = .inl (cause, addr)) :
    storeOp q n w s = .fault cause addr := by
  simp only [storeValue] at ht
  simp only [storeOp, h, ht, Bool.false_eq_true, if_false]

end

end State

/-! ## The rows -/

/-- An instruction that the core issues, and that goes on to the next address as the woken core has it. -/
theorem dspRow_next {s : State} {q w : Nat} {op : DspOp} {f : Nat → State → DspEnd} {g : State → State} {b : Bool}
    (h : s.Issues q w op) (hf : f w (s.wake q w b) = .go (g (s.wake q w b)) ((s.wake q w b).pcNext q)) :
    dspRow q op .clean f s b = .next (s.act fun u => u.issued q (s.pcNext q) g b) :=
  dspRow_issued h (hf.trans (congrArg _ (pcNext_wake s q w b)))

/-- An access that the core issues, and that faults at its address. -/
theorem dspRow_access_faulted {s : State} {q w cause : Nat} {op : DspOp} {f : Nat → State → DspEnd} (h : s.Issues q w op)
    (hf : f w (s.wake q w false) = .fault cause (s.dspAddr q w)) :
    dspRow q op .clean f s = .next (s.act (fires fun u => u.coreFault q cause (u.dspAddr q w))) :=
  (dspRow_faulted h hf).trans (congrArg _ (act_congr rfl))

/-- Loads of less than a double word. -/
theorem exec_load {q : Fin 32} {i : Instr} {op : DspOp} {n : Nat}
    (h : (i, op, n) ∈ [(.dspLdB q .clean, .ldB, 1), (.dspLdH q .clean, .ldH, 2), (.dspLdW q .clean, .ldW, 4)]) :
    n ≠ 8 ∧ ∀ s, exec i s = dspRow q op .clean (loadOp q n) s := by
  simp only [List.mem_cons, List.not_mem_nil, or_false, Prod.mk.injEq] at h
  obtain ⟨rfl, rfl, rfl⟩ | ⟨rfl, rfl, rfl⟩ | ⟨rfl, rfl, rfl⟩ := h <;> exact ⟨by decide, fun _ => rfl⟩

/-- Stores of any size. -/
theorem exec_store {q : Fin 32} {i : Instr} {op : DspOp} {n : Nat}
    (h : (i, op, n) ∈ [(.dspStB q .clean, .stB, 1), (.dspStH q .clean, .stH, 2), (.dspStW q .clean, .stW, 4),
      (.dspStD q .clean, .stD, 8)]) (s : State) : exec i s = dspRow q op .clean (storeOp q n) s := by
  simp only [List.mem_cons, List.not_mem_nil, or_false, Prod.mk.injEq] at h
  obtain ⟨rfl, rfl, rfl⟩ | ⟨rfl, rfl, rfl⟩ | ⟨rfl, rfl, rfl⟩ | ⟨rfl, rfl, rfl⟩ := h <;> rfl

/-- Settles O44: each row by what its access finds (BEXP.L's signed minimum, and the DSP cycle whose ST a read of TIMEP
shows, are the model's readings: log entry 8). -/
theorem dspLoadsAndStores : Obligations.DspLoadsAndStores := by
  refine ⟨?load, ?double, ?timep, ?store, ?storeBad, ?storeDouble, ?bexp, ?below⟩
  case load =>
    intro s q w i op n hi h hd hb
    obtain ⟨hn, hexec⟩ := exec_load hi
    exact (hexec s).trans (dspRow_next h (loadOp_found (dspLoad_dmem_wake hd hb) hn))
  case double => exact fun s q w second h hd hb => dspRow_next h (loadOp_found_double (dspLoad_dmem_wake hd hb))
  case timep => exact fun s q w second h ha => dspRow_next h (loadOp_found_double (dspLoad_timep_wake ha))
  case store =>
    intro s q w i op n hi h hd hb
    have hn : n ≠ 8 := by
      rintro rfl
      simp at hi
    have hstore := exec_store (List.mem_append_left [(.dspStD q .clean, .stD, 8)] hi)
    refine (hstore s).trans (dspRow_next h ?_)
    rw [storeOp_taken (sendStalls_dmem_wake hd) (dspStore_dmem_wake hd hb _), storeValue_of_ne _ _ _ hn]
  case storeBad =>
    intro s q w i op n hi h hd ha hb
    exact (exec_store hi s).trans (dspRow_access_faulted h
      (storeOp_fault (sendStalls_dmem_wake hd) (dspStore_dmem_bad_wake hd ha hb _)))
  case storeDouble =>
    exact fun s q w h hd hb =>
      dspRow_next h (storeOp_taken (sendStalls_dmem_wake hd) (dspStore_dmem_wake hd hb _))
  case bexp => exact fun s q w h hd hb => dspRow_next h (bexpOp_found (dspLoad_dmem_wake hd hb))
  case below => exact fun s q w h ha => dspRow_access_faulted h (loadOp_fault (dspLoad_below_wake ha))

end Sys2Proof.Machine
end

section
/-!
PROOFS. The control instructions of a DSP core, and its interrupt lines.
-/

namespace Sys2Proof.Machine
open State

/-! ## Branches (R286) -/

/-- A branch by what its condition says of Gd. -/
theorem exec_branch {q : Fin 32} {i : Instr} {op : DspOp} {c : Nat → Bool}
    (h : (i, op, c) ∈ [(.dspB q .clean, .b, fun _ => true), (.dspBeqz q .clean, .beqz, fun g => g == 0),
      (.dspBnez q .clean, .bnez, fun g => g != 0), (.dspBltz q .clean, .bltz, fun g => bit g 31),
      (.dspBgez q .clean, .bgez, fun g => !bit g 31)]) (s : State) :
    exec i s = dspRow q op .clean (branchOp q c) s := by
  simp only [List.mem_cons, List.not_mem_nil, or_false, Prod.mk.injEq] at h
  obtain ⟨rfl, rfl, rfl⟩ | ⟨rfl, rfl, rfl⟩ | ⟨rfl, rfl, rfl⟩ | ⟨rfl, rfl, rfl⟩ | ⟨rfl, rfl, rfl⟩ := h <;> rfl

namespace State

theorem branchOp_wake (s : State) (q w : Nat) (c : Nat → Bool) : branchOp q c w (s.wake q w false) =
    .go (s.wake q w false) (if c (s.gReg q (iD w)) then s.pcBranch q w else s.pcNext q) := by
  simp only [branchOp, gReg_wake, pcBranch_wake, pcNext_wake]

theorem dbnzOp_wake (s : State) (q w : Nat) : dbnzOp q w (s.wake q w false) =
    .go ((s.wake q w false).setG q (iD w) (unsgn 32 (((s.wake q w false).gReg q (iD w) : Int) - 1)))
      (if unsgn 32 ((s.gReg q (iD w) : Int) - 1) ≠ 0 then s.pcBranch q w else s.pcNext q) := by
  simp only [dbnzOp, gReg_wake, pcBranch_wake, pcNext_wake]

/-! ## REPEAT (R288) -/

/-- The core as REPEAT leaves it: at its body, with n runs of it to come. -/
def repeating (s : State) (q n : Nat) : State :=
  ((s.setF .dspStatusPc q (s.pcNext q)).setB .dspStatusInRepeat q true).updCore q fun c => { c with rep := some n }

/-- A body without control or memory access is a good one. -/
theorem repeatOp_plain {s : State} {q w : Nat} {o : DspOp} (h : dspOp (s.imemWord q (s.pcNext q)) = some o)
    (hc : o.control = false) (hb : o.bytes = 0) : repeatOp q w s = .go (s.repeating q (iImm18 w + 2)) (s.pcNext q) := by
  have hpc : ((s.setF .dspStatusPc q (s.pcNext q)).setB .dspStatusInRepeat q true).pcOf q = s.pcNext q :=
    (fld_setB_dspStatus _ q true rfl rfl (by decide) (by decide)).trans
      ((fld_setF_same s .dspStatusPc q _ (by decide)).trans (Nat.mod_mod _ _))
  simp only [repeatOp, h, hc, hb, hpc]
  rfl

theorem imemWord_wake (s : State) (q w pc : Nat) (b : Bool) : (s.wake q w b).imemWord q pc = s.imemWord q pc := by
  simp only [imemWord, core_wake]

theorem repeatOp_plain_wake {s : State} {q w : Nat} {o : DspOp} (h : dspOp (s.imemWord q (s.pcNext q)) = some o)
    (hc : o.control = false) (hb : o.bytes = 0) : repeatOp q w (s.wake q w false) =
    .go ((s.wake q w false).repeating q (iImm18 w + 2)) (s.pcNext q) := by
  rw [repeatOp_plain (by rw [imemWord_wake, pcNext_wake]; exact h) hc hb, pcNext_wake]

/-! ## Interrupt lines (R287 to R291) -/

theorem lineFirst_wake (s : State) (q w : Nat) (b : Bool) : (s.wake q w b).lineFirst q = s.lineFirst q := by
  have hseen : (s.wake q w b).lineSeen q = s.lineSeen q := by
    funext i
    simp only [lineSeen, linePending, core_wake]
    rfl
  rw [lineFirst, hseen]
  rfl

theorem waitiOp_wake {s : State} {q w : Nat} (h : s.lineFirst q = none) : waitiOp q (s.wake q w false) =
    .go ((s.wake q w false).setB .dspStatusSleep q true) (s.pcNext q) := by
  simp only [waitiOp, thenNext, lineFirst_wake, h, Option.isNone_none, when_true, pcNext_wake]

theorem retiOp_wake (s : State) (q w : Nat) : retiOp q (s.wake q w false) =
    .go ((s.wake q w false).setB .dspStatusInHandler q false) ((s.core q).elr.toNat % 16384) := by
  simp only [retiOp, core_wake]

/-- A core without its pending lines. -/
def sansLines (c : Core) : Core := { c with ipend := [], inext := [] }

section
variable (s : State) (q : Nat)

theorem sansLines_coreLine (i : Nat) : sansLines ((s.coreLine q i).core q) = sansLines (s.core q) := by
  simp only [coreLine]
  split <;> rw [core_setCore] <;> rfl

theorem sansLines_feedLine : sansLines ((s.feedLine q).core q) = sansLines (s.core q) := by
  unfold feedLine
  split
  · exact sansLines_coreLine s q 4
  · rw [core_updCore]
    rfl

theorem sansLines_lineClear (l : List Nat) (c : Core) :
    sansLines (l.foldl (fun c i => s.lineClear i c) c) = sansLines c := by
  induction l generalizing c with
  | nil => rfl
  | cons i l ih => exact ih _

/-- Lines that clear leave the rest of the core. -/
theorem sansLines_clearLines (m : Nat) : sansLines ((s.clearLines q m).core q) = sansLines (s.core q) := by
  rw [clearLines, sansLines_feedLine, core_updCore, sansLines_lineClear]

theorem rd_clearLines (m : Nat) (r : Reg) (i : Nat) : (s.clearLines q m).rd r i = s.rd r i := by
  simp only [clearLines, feedLine, coreLine]
  split_ifs <;> rfl

end

/-! ## Interrupt entry (R290, R291) -/

/-- The core awake at address pc of a handler. -/
def inHandlerAt (s : State) (q pc : Nat) : State :=
  ((s.setB .dspStatusInHandler q true).setB .dspStatusSleep q false).setF .dspStatusPc q pc

section
variable (s : State) (q pc : Nat)

theorem core_inHandlerAt (k : Nat) : (s.inHandlerAt q pc).core k = s.core k := rfl

theorem pcOf_inHandlerAt : (s.inHandlerAt q pc).pcOf q = pc % 16384 :=
  fld_setF_same _ .dspStatusPc q pc (by decide)

theorem sleep_inHandlerAt : (s.inHandlerAt q pc).flag .dspStatusSleep q = false := by
  rw [flag, inHandlerAt, fld_setF_apart _ .dspStatusPc .dspStatusSleep q pc rfl (by decide) (by decide)]
  exact flag_setB_same _ .dspStatusSleep q false (by decide) rfl

theorem inHandler_inHandlerAt : (s.inHandlerAt q pc).flag .dspStatusInHandler q = true := by
  rw [flag, inHandlerAt, fld_setF_apart _ .dspStatusPc .dspStatusInHandler q pc rfl (by decide) (by decide),
    fld_setB_dspStatus _ q false rfl rfl (by decide) (by decide)]
  exact flag_setB_same s .dspStatusInHandler q true (by decide) rfl

end

/-- The return address and the line are noted, and how long the entry was late (R291). -/
def entryNoted (s : State) (q : Nat) (second : Bool) (i : Nat) : State :=
  let late := max (s.core q).free (2 * s.cyc + ofBool second) - (SMap.get 0 (s.core q).ipend i - 1)
  (s.setF .dspIntMaxCycles q (min 0xFFFF (max (s.fld .dspIntMaxCycles q) late))).updCore q fun c =>
    { c with
      elr := BitVec.ofNat 32 (s.pcOf q), line := BitVec.ofNat 3 i, free := max c.free (2 * s.cyc + ofBool second) }

theorem core_entryNoted (s : State) (q : Nat) (second : Bool) (i : Nat) : (s.entryNoted q second i).core q =
    { s.core q with
      elr := BitVec.ofNat 32 (s.pcOf q)
      line := BitVec.ofNat 3 i
      free := max (s.core q).free (2 * s.cyc + ofBool second) } := by
  simp only [entryNoted, core_updCore]
  rfl

/-- The core as it takes line i: in the handler at the line's vector, and the line clears. -/
def interrupted (s : State) (q : Nat) (second : Bool) (i : Nat) : State :=
  ((s.entryNoted q second i).inHandlerAt q ((SMap.get 0 (s.core q).ivec i).toNat % 16384)).clearLines q (2 ^ i)

theorem interruptEntry_due {s : State} {q k : Nat} (hd : s.hasDsp q = true) (hrun : s.coreState q = 2)
    (hin : s.flag .dspStatusInHandler q = false) (hen : (s.core q).ien = true) (hrep : (s.core q).rep = none)
    (hk : s.lineFirst q = some k) (second : Bool) : s.interruptEntry q second = s.interrupted q second k := by
  have hpc (v : Nat) : (s.setF .dspIntMaxCycles q v).pcOf q = s.pcOf q :=
    fld_setF_reg s .dspIntMaxCycles .dspStatusPc q q v (by decide)
  have hivec : ((s.entryNoted q second k).core q).ivec = (s.core q).ivec :=
    (congrArg Core.ivec (core_entryNoted s q second k) :)
  simp only [interruptEntry, hd, hrun, hin, hen, hrep, hk, hpc]
  rw [interrupted, ← hivec]
  rfl

theorem interruptEntry_inHandler {s : State} {q : Nat} (h : s.flag .dspStatusInHandler q = true) (second : Bool) :
    s.interruptEntry q second = s := by
  simp only [interruptEntry, h, Bool.not_true, Bool.and_false, Bool.false_and, Bool.false_eq_true, if_false]

section
variable (s : State) (q : Nat) (second : Bool) (k : Nat)

theorem rd_interrupted (r : Reg) (i : Nat) : (s.interrupted q second k).rd r i =
    ((s.entryNoted q second k).inHandlerAt q ((SMap.get 0 (s.core q).ivec k).toNat % 16384)).rd r i :=
  rd_clearLines ..

theorem sansLines_interrupted : sansLines ((s.interrupted q second k).core q) = sansLines { s.core q with
    elr := BitVec.ofNat 32 (s.pcOf q)
    line := BitVec.ofNat 3 k
    free := max (s.core q).free (2 * s.cyc + ofBool second) } := by
  rw [interrupted, sansLines_clearLines, core_inHandlerAt, core_entryNoted]

theorem pcOf_interrupted : (s.interrupted q second k).pcOf q = (SMap.get 0 (s.core q).ivec k).toNat % 16384 := by
  rw [pcOf, fld, rd_interrupted]
  exact (pcOf_inHandlerAt ..).trans (Nat.mod_mod ..)

theorem inHandler_interrupted : (s.interrupted q second k).flag .dspStatusInHandler q = true := by
  rw [flag, fld, rd_interrupted]
  exact inHandler_inHandlerAt ..

theorem sleep_interrupted : (s.interrupted q second k).flag .dspStatusSleep q = false := by
  rw [flag, fld, rd_interrupted]
  exact sleep_inHandlerAt ..

end

end State

/-- Settles O45: each instruction in the core that wakes, and the interrupt rows where their condition holds (RETI outside
a handler, and a branch's base and its wrap, are the model's: log entry 8). -/
theorem dspControl : Obligations.DspControl := by
  refine ⟨?branch, ?dbnz, ?body, ?mvc, ?mvct, ?reti, ?halt, ?waiti, ?ien, ?idis, ?entry, ?inHandler, ?timer, ?mailbox⟩
  case branch =>
    intro s q w i op c hi h
    exact (exec_branch hi s).trans (dspRow_issued h (branchOp_wake s q w c))
  case dbnz => exact fun s q w h => dspRow_issued h (dbnzOp_wake s q w)
  case body => exact fun s q w o h ho hc hb => dspRow_issued h (repeatOp_plain_wake ho hc hb)
  case mvc | mvct | halt | ien | idis => exact fun s q w h => dspRow_thenNext h rfl
  case reti => exact fun s q w h => dspRow_issued h (retiOp_wake s q w)
  case waiti => exact fun s q w h hnone => dspRow_issued h (waitiOp_wake hnone)
  case entry =>
    intro s q second k hd hrun hin hen hrep hk
    have hcore := s.sansLines_interrupted q second k
    have hexec := run_act (g := fun s => s.interrupted q second k) (interruptEntry_due hd hrun hin hen hrep hk second)
    exact ⟨_, hexec, (congrArg Core.elr hcore :),
      s.pcOf_interrupted q second k, s.inHandler_interrupted q second k, s.sleep_interrupted q second k,
      (congrArg Core.line hcore :)⟩
  case inHandler => exact fun s q second h => run_to (interruptEntry_inHandler h second) rfl rfl
  case timer => exact fun s q hd h hlt => run_act (if_pos (by rw [hd, decide_eq_true h, decide_eq_true hlt]; rfl))
  case mailbox => exact fun s q v hp hd => run_act (if_pos (by rw [hp, hd]; rfl))

end Sys2Proof.Machine
end

section
/-!
PROOFS. The host's commands for DSP cores.
-/

namespace Sys2Proof.Machine
open State

section
variable {s : State} {c : HostCmd}

/-- DSP_CTRL with OP 0 resets the core (R297). -/
theorem dspCtrl_app_reset (h : pByte c 16 = 0) : dspCtrlSpec.app s c = (s.coreReset (indexOf c), {}) := by
  simp only [dspCtrlSpec, justDo, h]

/-- OP 1 starts it at ENTRY. -/
theorem dspCtrl_app_start (h : pByte c 16 = 1) :
    dspCtrlSpec.app s c = (s.coreStart (indexOf c) (pNum c 18 2), {}) := by
  simp only [dspCtrlSpec, justDo, h]

/-- OP 2 halts it. -/
theorem dspCtrl_app_halt (h : pByte c 16 = 2) : dspCtrlSpec.app s c = (s.coreHalt (indexOf c), {}) := by
  simp only [dspCtrlSpec, justDo, h]

/-- The bytes that a DSP_LOAD stores. -/
def loadedBytes (c : HostCmd) : List Byte := (List.range (pNum c 32 4)).map fun k => (bufOf c).getD k 0

/-- An instruction memory after them. -/
def loadedWords (c : HostCmd) (m : SMap Word) : SMap Word :=
  (List.range (pNum c 32 4 / 4)).foldl
    (fun m i => SMap.put 0 m (pNum c 20 4 / 4 + i) (BitVec.ofNat 32 (bufNat (loadedBytes c) (4 * i) 4))) m

/-- DSP_LOAD of MEMORY 0 stores words in the core's instruction memory (R558). -/
theorem dspLoad_app_imem (h : pByte c 16 = 0) : dspLoadSpec.app s c =
    ((s.updCore (indexOf c) fun x => { x with imem := loadedWords c x.imem }).cleanBank
        9 (indexOf c) (pNum c 20 4 / 8) ((pNum c 20 4 + pNum c 32 4 + 7) / 8), {}) := by
  simp only [dspLoadSpec, justDo, h]
  rfl

/-- MEMORY 1 is the core's data memory. -/
theorem dspLoad_app_dmem (h : pByte c 16 = 1) : dspLoadSpec.app s c =
    ((s.updCore (indexOf c) fun x => { x with dmem := Memory.writeBytes x.dmem (pNum c 20 4) (loadedBytes c) }).cleanBank
        9 (indexOf c) (0x2000 + pNum c 20 4 / 8) (0x2000 + (pNum c 20 4 + pNum c 32 4 + 7) / 8), {}) := by
  simp only [dspLoadSpec, justDo, h]
  rfl

/-- MEMORY 2 is the memory of the core's cluster. -/
theorem dspLoad_app_clm (h : pByte c 16 = 2) : dspLoadSpec.app s c =
    (State.cleanBank { s with clm := SMap.put [] s.clm (indexOf c / 8) (Memory.writeBytes (s.clmBytes (indexOf c))
        (pNum c 20 4) (loadedBytes c)) }
        10 (indexOf c / 8) (pNum c 20 4 / 8) ((pNum c 20 4 + pNum c 32 4 + 7) / 8), {}) := by
  simp only [dspLoadSpec, justDo, h]
  rfl

end

/-- Settles O46: each command's effect in the state whose ring slot has passed, that of DSP_CTRL by its OP and that of
DSP_LOAD by its memory (START of a core that runs, and what RESET clears, are the model's: log entry 8). -/
theorem dspCommandsApply : Obligations.DspCommandsApply := by
  refine ⟨?reset, ?start, ?halt, ?imem, ?dmem, ?clm, ?read, ?feed⟩
  case reset => exact fun s c h hop => command_done h rfl (dspCtrl_app_reset hop)
  case start => exact fun s c h hop => command_done h rfl (dspCtrl_app_start hop)
  case halt => exact fun s c h hop => command_done h rfl (dspCtrl_app_halt hop)
  case imem => exact fun s c h hm => command_done h rfl (dspLoad_app_imem hm)
  case dmem => exact fun s c h hm => command_done h rfl (dspLoad_app_dmem hm)
  case clm => exact fun s c h hm => command_done h rfl (dspLoad_app_clm hm)
  case read | feed => exact fun s c h => command_done h rfl rfl

end Sys2Proof.Machine
end

section
/-!
PROOFS. What the fuses hold (R505, R507, R508, R512): no row but the completions of LIFECYCLE_SET and UCODE_PATCH touches
them, and what these two write only advances, along every run of steps.
-/

namespace Sys2Proof.Machine
open State

/-! ## The rows that leave the fuses alone -/

/-- The fuses in the state that an outcome answers are those of s. -/
def FuseKept (s : State) (o : Host.Outcome State Fault Refusal) : Prop := ∀ t, o = .next t → t.fuse = s.fuse

theorem run_fuseKept {f : State → State} {s : State} (h : (f s).fuse = s.fuse) : FuseKept s (run f s) := by
  intro t ht
  rw [(run_next f s t).mp ht]
  exact h

theorem perform_fuseKept {f : State → State} {s : State} (h : (f s).fuse = s.fuse) : FuseKept s (perform f s) :=
  run_fuseKept (by simpa using h)

/-- A command keeps the fuses when its effect does; a refusal, a wait and the reply leave them alone. -/
theorem command_fuseKept {sp : CmdSpec} {c : HostCmd} {s : State} (hl : ∀ t r, (sp.onLocked t c r).fuse = t.fuse)
    (hf : ∀ t, (sp.app t c).1.fuse = t.fuse) : FuseKept s (command sp c s) :=
  run_fuseKept (hostCmd_keeps (·.fuse) sp c s (by simp) (by simp) (by simp) hl hf)

theorem commandFires_fuseKept {sp : CmdSpec} {c : HostCmd} {s : State} (hl : ∀ t r, (sp.onLocked t c r).fuse = t.fuse)
    (hf : ∀ t, (sp.app t c).1.fuse = t.fuse) : FuseKept s (commandFires sp c s) :=
  perform_fuseKept (hostCmd_keeps (·.fuse) sp c s (by simp) (by simp) (by simp) hl hf)

theorem dspRow_fuseKept {q : Nat} {op : DspOp} {ecc : Ecc} {f : Nat → State → DspEnd} {s : State} {second : Bool}
    (hf : ∀ w t, DspEnd.Kept t (f w t)) : FuseKept s (dspRow q op ecc f s second) :=
  perform_fuseKept (State.issue_keeps s q op ecc f second hf).1

/-- Every row but the completions of LIFECYCLE_SET and UCODE_PATCH. -/
theorem exec_fuseKept (i : Instr) (s : State) (hl : i ≠ .lifecycleSetComplete) (hp : i ≠ .ucodePatchComplete) :
    FuseKept s (exec i s) := by
  cases i with
  | lifecycleSetComplete => exact absurd rfl hl
  | ucodePatchComplete => exact absurd rfl hp
  | reg64LowWrite offset value => exact run_fuseKept (by split <;> simp)
  | reg64HighWrite offset value => exact run_fuseKept (by split <;> simp)
  | dmaCompletionRx chan off reply ecc => exact perform_fuseKept (by cases reply <;> simp)
  | dspCtrl c =>
    refine command_fuseKept (fun _ _ => rfl) fun t => ?_
    simp only [dspCtrlSpec, justDo]
    split <;> simp
  | dspLoad c =>
    refine command_fuseKept (fun _ _ => rfl) fun t => ?_
    simp only [dspLoadSpec, justDo]
    split <;> simp
  | acqStop c => exact commandFires_fuseKept (fun _ _ => rfl) (by simp [acqStopSpec, justDo])
  | nop | arm | disarm | shotSchedule | runStop | shotAbort | dusk | safeExit | sysReset | evtRoute | evtCommit | snapshot |
  thermConfig | dspRead | dspFeed | chRole | chOutput | chFdelay | synConfig | frameWrite | frameVzAdd | frameRead |
  tsetWrite | tsetRead | mrkClaim | mrkRelease | bdacConfig | bdacSlew | bdacListWrite | fbConfig | seqConfig |
  seqWrite | condWrite | streamDescWrite | streamOpen | streamClose | decAssign | decClear | rxConfig | toneWrite |
  kernelWrite | toneRead | acqConfig | acqStart | timeStep | timeUnlock | timeSlew | timeSyncCfg | timeSyncinArm |
  trigConfig | linkUp | linkDown | mirrorExport | mirrorRoute | calRun | calSave | calConfig | hkConfig | guardRaise |
  attest | certRead | lifecycleSet | ucodePatch | memPower | memTest | jrnConfig =>
    refine command_fuseKept ?_ ?_ <;> simp [justDo,
      nopSpec, armSpec, disarmSpec, shotScheduleSpec, runStopSpec, shotAbortSpec, duskSpec, safeExitSpec, sysResetSpec,
      evtRouteSpec, evtCommitSpec, snapshotSpec, thermConfigSpec, dspReadSpec, dspFeedSpec, chRoleSpec,
      chOutputSpec, chFdelaySpec, synConfigSpec, frameWriteSpec, frameVzAddSpec, frameReadSpec, tsetWriteSpec,
      tsetReadSpec, mrkClaimSpec, mrkReleaseSpec, bdacConfigSpec, bdacSlewSpec, bdacListWriteSpec, fbConfigSpec,
      seqConfigSpec, seqWriteSpec, condWriteSpec, streamDescWriteSpec, streamOpenSpec, streamCloseSpec,
      decAssignSpec, decClearSpec, rxConfigSpec, toneWriteSpec, kernelWriteSpec, toneReadSpec, acqConfigSpec,
      acqStartSpec, timeStepSpec, timeUnlockSpec, timeSlewSpec, timeSyncCfgSpec, timeSyncinArmSpec,
      trigConfigSpec, linkUpSpec, linkDownSpec, mirrorExportSpec, mirrorRouteSpec, calRunSpec, calSaveSpec,
      calConfigSpec, hkConfigSpec, guardRaiseSpec, attestSpec, certReadSpec, lifecycleSetSpec, ucodePatchSpec,
      memPowerSpec, memTestSpec, jrnConfigSpec]
  | dspAdd | dspSub | dspAnd | dspOr | dspXor | dspShl | dspShr | dspSar | dspMul | dspAddi | dspMovi | dspMovhi |
  dspCadds | dspCsubs | dspCrotq | dspNorm | dspExp | dspNormA | dspExpA | dspBexpL | dspCmul | dspCmac | dspCmul2 |
  dspCmac2 | dspCrnd | dspMva | dspMvah | dspLdB | dspLdH | dspLdW | dspLdD | dspStB | dspStH | dspStW | dspStD | dspB
  | dspBeqz | dspBnez | dspBltz | dspBgez | dspDbnz | dspRepeat | dspMvc | dspMvct | dspReti | dspHalt | dspWaiti |
  dspIen | dspIdis =>
    exact dspRow_fuseKept (fun w t => by simp)
  | _ => exact run_fuseKept (by simp)

/-! ## What the two completions write -/

/-- From f to g the anti-rollback counter has not fallen, no pair has been regained, and a cleared identity key has not
come back where no key was generated. -/
structure Fuse.Advances (made : Bool) (f g : Fuse) : Prop where
  arb : f.arb ≤ g.arb
  pairsLeft : g.pairsLeft ≤ f.pairsLeft
  identity : made = false → f.identity = false → g.identity = false

namespace Fuse

theorem Advances.refl (made : Bool) (f : Fuse) : Advances made f f := ⟨le_rfl, le_rfl, fun _ h => h⟩

theorem Advances.trans {made : Bool} {f g h : Fuse} (hfg : Advances made f g) (hgh : Advances made g h) :
    Advances made f h where
  arb := hfg.arb.trans hgh.arb
  pairsLeft := hgh.pairsLeft.trans hfg.pairsLeft
  identity hm hf := hgh.identity hm (hfg.identity hm hf)

/-- Blowing a pair uses at most one up and leaves counter and key alone (R505). -/
theorem blow_fields (f : Fuse) (t : Nat) :
    (f.blow t).arb = f.arb ∧ (f.blow t).identity = f.identity ∧ (f.blow t).pairsLeft ≤ f.pairsLeft := by
  unfold blow
  split_ifs
  · exact ⟨rfl, rfl, le_rfl⟩
  · exact ⟨rfl, rfl, le_rfl⟩
  · refine ⟨rfl, rfl, ?_⟩
    simp only [pairsLeft, List.length_append, List.length_singleton]
    omega

end Fuse

namespace State

/-- LIFECYCLE_SET blows its pairs once; the key comes back only where the target is PROVISIONED (R505). -/
theorem lcDone_fuse_advances (s : State) (made : Bool)
    (h : made = false → ∀ l, s.findLong 0x803 = some l → l.arg ≠ 1) : Fuse.Advances made s.fuse s.lcDone.fuse := by
  cases hl : s.findLong 0x803 with
  | none => simpa only [lcDone, hl] using Fuse.Advances.refl made s.fuse
  | some l =>
    by_cases hb : l.arg = 8
    · have hkept : s.lcDone.fuse = s.fuse := by
        simp only [lcDone, hl, hb, lcBlown, if_true]
        split_ifs <;> simp
      rw [hkept]
      exact .refl made s.fuse
    · obtain ⟨harb, hid, hleft⟩ := s.fuse.blow_fields l.arg
      have hfuse : s.lcDone.fuse =
          { s.fuse.blow l.arg with identity := ((s.fuse.blow l.arg).identity || l.arg == 1) && l.arg != 4 } := by
        rw [lcDone_unblown hl hb]
        simp [wipe]
      rw [hfuse]
      refine ⟨harb.ge, hleft, fun hm hf => ?_⟩
      simp [hid, hf, h hm l hl]

/-- UCODE_PATCH raises the anti-rollback counter or leaves it, and touches no other fuse (R512). -/
theorem patchDone_fuse_advances (s : State) (made : Bool) : Fuse.Advances made s.fuse s.patchDone.fuse := by
  unfold patchDone
  split
  · simpa using Fuse.Advances.refl made s.fuse
  · split
    · refine ⟨?_, ?_, fun _ hf => ?_⟩
      · simp
      · simp [Fuse.pairsLeft]
      · simpa using hf
    · exact .refl made s.fuse

end State

/-! ## Runs -/

/-- A LIFECYCLE_SET to PROVISIONED, which generates the identity key, is under way. -/
def State.makesKey (s : State) : Prop := ∃ l, s.findLong 0x803 = some l ∧ l.arg = 1

theorem exec_fuse_advances {i : Instr} {s t : State} (made : Bool) (h : made = false → ¬ s.makesKey)
    (he : exec i s = .next t) : Fuse.Advances made s.fuse t.fuse := by
  by_cases hl : i = .lifecycleSetComplete
  · subst hl
    rw [(run_next State.lcDone s t).mp he]
    exact s.lcDone_fuse_advances made fun hm l hf ha => h hm ⟨l, hf, ha⟩
  · by_cases hp : i = .ucodePatchComplete
    · subst hp
      rw [(run_next State.patchDone s t).mp he]
      exact s.patchDone_fuse_advances made
    · rw [exec_fuseKept i s hl hp t he]
      exact .refl made s.fuse

theorem step_fuse_advances {s t : State} (made : Bool) (h : made = false → ¬ s.makesKey) (hs : step s = .next t) :
    Fuse.Advances made s.fuse t.fuse := by
  unfold step at hs
  split at hs
  · rw [run_fuseKept (s.tick_keeps).1 t hs]
    exact .refl made s.fuse
  · next c rest _ => exact exec_fuse_advances (s := { s with pending := rest }) made h hs

/-- The fuses advance along a whole run. -/
theorem chain_fuse_advances (made : Bool) {l : List State} {s : State}
    (hc : List.IsChain (fun a b => step a = .next b) (s :: l)) (h : made = false → ∀ a ∈ s :: l, ¬ a.makesKey) :
    ∀ t ∈ l, Fuse.Advances made s.fuse t.fuse := by
  induction l generalizing s with
  | nil => simp
  | cons b l ih =>
    obtain ⟨hsb, hbl⟩ := List.isChain_cons_cons.mp hc
    have hfirst := step_fuse_advances made (fun hm => h hm s (List.mem_cons_self ..)) hsb
    intro t ht
    rcases List.mem_cons.mp ht with rfl | ht
    · exact hfirst
    · exact hfirst.trans (ih hbl (fun hm a ha => h hm a (List.mem_cons_of_mem s ha)) t ht)

/-- Settles O59: all rows but two leave the fuses as they are, these two advance them, and so does every run; the key's
clause is the one that asks that no key is generated. -/
theorem fusesOnlyAdvance : Obligations.FusesOnlyAdvance := by
  refine ⟨fun i s t h hl hp => exec_fuseKept i s hl hp t h, fun l s hc t ht => ?_⟩
  obtain ⟨harb, hleft, -⟩ := chain_fuse_advances true hc (fun h => absurd h (by decide)) t ht
  refine ⟨harb, hleft, fun hmade hid => ?_⟩
  exact (chain_fuse_advances false hc (fun _ a ha ⟨x, hx, h1⟩ => hmade a ha x hx h1) t ht).identity rfl hid

end Sys2Proof.Machine
end

section
/-!
PROOFS. The command protocol: that no run stops, the commands that do not start and those that are refused, the queue
pairs, and restarts of the Command Engine.
-/

namespace Sys2Proof.Machine
open State

/-! ## Steps -/

/-- Every command is answered by a next state: each arm of the dispatcher runs some effect. -/
theorem exec_next (i : Instr) (s : State) : ∃ t, exec i s = .next t := by
  obtain ⟨f, hf⟩ := exec_eq_run i s
  exact ⟨s.act f, hf⟩

theorem step_of_pending_cons {s : State} {c : Instr} {rest : List Instr} (h : s.pending = c :: rest) :
    step s = exec c { s with pending := rest } := by
  simp only [step, h]

theorem step_next (s : State) : ∃ t, step s = .next t := by
  cases h : s.pending with
  | nil => exact ⟨_, step_of_pending_nil h⟩
  | cons c rest => exact step_of_pending_cons h ▸ exec_next c _

/-- Settles O1 (the queue is the model's own: log entry 1). -/
theorem stepTakesTheFrontCommand : Obligations.StepTakesTheFrontCommand :=
  ⟨fun _ _ _ h => step_of_pending_cons h, fun c s => step_push c s, fun _ _ _ => rfl⟩

/-- Settles O4: a step always answers, so a run of any length goes on, by induction on its length (that every command
answers is the model's reading: log entry 1). -/
theorem noRunStops : Obligations.NoRunStops := by
  refine ⟨exec_next, fun k => ?_⟩
  induction k with
  | zero => exact fun _ => trivial
  | succ k ih =>
    intro s
    obtain ⟨t, ht⟩ := step_next s
    exact ⟨t, ht, ih t⟩

/-! ## Commands that do not start (R387, R391) -/

/-- Another packet than the FENCE that a pair holds is not at its head. -/
theorem canStart_of_fenced_ne {s : State} {c : HostCmd} {ws : List Word} (h : (s.qp c.qp).fenced = some ws)
    (hne : c.words ≠ ws) : s.canStart c = false := by
  have hw : ws ≠ c.words := Ne.symm hne
  simp [canStart, atHead, h, hw]

/-- Settles O6: a command that is not able to start changes nothing, and a FENCE that waits is held at its pair's head (the
row as a look at the command is the model's reading: log entry 4). -/
theorem commandNotAbleToStart : Obligations.CommandNotAbleToStart := by
  refine ⟨fun s c i hi hs hf => ?_, fun s c p hp ho hf => ?_, fun s c ws h hne => canStart_of_fenced_ne h hne⟩
  · simp only [List.mem_cons, List.not_mem_nil, or_false] at hi
    rcases hi with rfl | rfl | rfl | rfl | rfl <;> exact command_waits _ c s hs hf
  · simp only [List.mem_cons, List.not_mem_nil, or_false] at hp
    rcases hp with rfl | rfl | rfl | rfl | rfl <;> exact command_fenced _ c s ho hf

/-! ## What an answer leaves (R387, R393, R408) -/

namespace State

/-- s with those parts taken from t that the answer of a command may change: the pairs, registers, what the cycle's host
accesses remember, what has left the block and the pending bits of MSI-X. -/
def withAnswerOf (s t : State) : State :=
  { s with
    ce := { s.ce with qps := t.ce.qps, lastServed := t.ce.lastServed }
    regs := t.regs
    egress := t.egress
    raised := t.raised
    counted := t.counted
    pcie := { s.pcie with pba := t.pcie.pba } }

/-- What t changed of s, and u of t, u changed of s. -/
theorem withAnswerOf_trans {s t u : State} (h : t = s.withAnswerOf t) (k : u = t.withAnswerOf u) :
    u = s.withAnswerOf u := by
  rw [h] at k
  exact k

theorem msixSend_withAnswerOf (s : State) (v : Nat) : s.msixSend v = s.withAnswerOf (s.msixSend v) := by
  unfold msixSend
  split_ifs <;> rfl

theorem irq_withAnswerOf (s : State) (v : Nat) : s.irq v = s.withAnswerOf (s.irq v) := by
  simp only [irq]
  generalize (if v < 32 then Reg.glbIrqPend0 else .glbIrqPend1) = r
  split_ifs
  · rfl
  · exact withAnswerOf_trans (t := (s.raise r 0 (2 ^ (v % 32))).wr r 0 _) rfl (msixSend_withAnswerOf _ v)

theorem when_withAnswerOf {f : State → State} (h : ∀ t, f t = t.withAnswerOf (f t)) (b : Bool) (s : State) :
    when b f s = s.withAnswerOf (when b f s) := by
  cases b
  · rfl
  · exact h s

theorem writeReply_withAnswerOf (s : State) (q : Nat) (ws : List Word) (vec : Bool) :
    s.writeReply q ws vec = s.withAnswerOf (s.writeReply q ws vec) :=
  withAnswerOf_trans rfl (when_withAnswerOf (fun t => t.irq_withAnswerOf 0) vec _)

theorem countAnswer_withAnswerOf (s : State) (status : Nat) :
    s.countAnswer status = s.withAnswerOf (s.countAnswer status) :=
  withAnswerOf_trans (t := s.bump .ceCmdCnt) rfl (when_withAnswerOf (fun _ => rfl) _ _)

theorem unreserve_withAnswerOf (s : State) (q : Nat) : s.unreserve q = s.withAnswerOf (s.unreserve q) := rfl

theorem answer_withAnswerOf (s : State) (c : HostCmd) (status legal info0 info1 acc result : Nat) :
    s.answer c status legal info0 info1 acc result = s.withAnswerOf (s.answer c status legal info0 info1 acc result) := by
  unfold answer
  exact withAnswerOf_trans (withAnswerOf_trans (s.countAnswer_withAnswerOf status) (unreserve_withAnswerOf _ _))
    (writeReply_withAnswerOf ..)

theorem passHead_withAnswerOf (s : State) (q : Nat) : s.passHead q = s.withAnswerOf (s.passHead q) := by
  simp only [passHead]
  split_ifs <;> rfl

/-- A message that leaves with an interrupt stands behind what has left already, and is an MSI-X message. -/
theorem irq_egress (s : State) (v : Nat) :
    ∃ m, (s.irq v).egress = s.egress ++ m ∧ ∀ e ∈ m, ∃ v a d, e = Egress.msix v a d := by
  simp only [irq, msixSend]
  generalize (if v < 32 then Reg.glbIrqPend0 else .glbIrqPend1) = r
  split_ifs
  case neg =>
    exact ⟨[.msix v _ _], rfl, fun e he => ⟨_, _, _, List.mem_singleton.mp he⟩⟩
  all_goals exact ⟨[], by simp, by simp⟩

/-- The reply stands first among what a reply brings out of the block, the message of vector 0 after it. -/
theorem writeReply_egress (s : State) (q : Nat) (ws : List Word) (vec : Bool) :
    ∃ m, (s.writeReply q ws vec).egress = s.egress ++ .hostWrite
        (BitVec.ofNat 64 (s.rd .qpRplBase q + 32 * (s.qp q).rplTail)) (wordBytes (match ws with
          | a :: b :: t => a :: BitVec.ofNat 32 (setBit b.toNat 8 (s.qp q).phase) :: t
          | l => l)) :: m ∧
      ∀ e ∈ m, ∃ v a d, e = Egress.msix v a d := by
  cases vec
  · exact ⟨[], rfl, by simp⟩
  · obtain ⟨m, hm, hmsix⟩ := irq_egress ((s.emit (.hostWrite _ _)).setQp q _) 0
    exact ⟨m, hm.trans (List.append_assoc ..), hmsix⟩

theorem irq_ce (s : State) (v : Nat) : (s.irq v).ce = s.ce := by
  simp only [irq, msixSend]
  generalize (if v < 32 then Reg.glbIrqPend0 else .glbIrqPend1) = r
  split_ifs <;> rfl

theorem countAnswer_ce (s : State) (status : Nat) : (s.countAnswer status).ce = s.ce :=
  when_keeps State.ce (fun t => t.bump .ceRefusedCnt) (fun _ => rfl) _ _

theorem countAnswer_egress (s : State) (status : Nat) : (s.countAnswer status).egress = s.egress :=
  when_keeps State.egress (fun t => t.bump .ceRefusedCnt) (fun _ => rfl) _ _

/-- The pair's pointers and phase after a reply (R393). -/
theorem writeReply_qp (s : State) (q : Nat) (ws : List Word) (vec : Bool) :
    (s.writeReply q ws vec).qp q = { s.qp q with
      rplTail := ((s.qp q).rplTail + 1) % s.rplLen q
      phase := if ((s.qp q).rplTail + 1) % s.rplLen q = 0 then !(s.qp q).phase else (s.qp q).phase } := by
  simp only [writeReply]
  rw [when_keeps (State.qp · q) _ fun t => by simp only [qp, irq_ce]]
  exact qp_setQp _ _ _

/-- A refusal counts among the answers and among the refusals (R408). -/
theorem countAnswer_counts (s : State) {status : Nat} (h : 2 ≤ status) :
    (s.countAnswer status).rd .ceCmdCnt = satAdd32 (s.rd .ceCmdCnt) 1 ∧
      (s.countAnswer status).rd .ceRefusedCnt = satAdd32 (s.rd .ceRefusedCnt) 1 := by
  simp only [countAnswer, when, h, decide_true, if_true]
  rw [rd_bump_reg _ _ _ _ _ (by decide), rd_bump_same _ _ _ rfl, rd_bump_same _ _ _ rfl,
    rd_bump_reg _ _ _ _ _ (by decide)]
  exact ⟨rfl, rfl⟩

/-- The pair whose command starts. -/
theorem qp_passHead (s : State) (q : Nat) : (s.passHead q).qp q =
    { s.qp q with head := ((s.qp q).head + 1) % s.cmdLen q, fenced := none, resv := true } := by
  simp only [passHead]
  split
  · exact qp_setQp _ _ _
  · exact (qp_setQp _ _ _ : (s.setQp q _).qp q = _)

end State

/-! ## Refusals (R393 to R396) -/

section
variable {s : State} {c : HostCmd} {status : Nat} (h : 2 ≤ status) (legal info0 info1 acc : Nat)
include h

/-- The two counters of a refused command's answer. -/
theorem answer_counts :
    (s.answer c status legal info0 info1 acc 0).rd .ceCmdCnt = satAdd32 (s.rd .ceCmdCnt) 1 ∧
      (s.answer c status legal info0 info1 acc 0).rd .ceRefusedCnt = satAdd32 (s.rd .ceRefusedCnt) 1 := by
  obtain ⟨hcmd, hrefused⟩ := s.countAnswer_counts h
  unfold answer
  rw [writeReply_regsKept _ _ _ _ _ _ (by decide), writeReply_regsKept _ _ _ _ _ _ (by decide)]
  exact ⟨hcmd, hrefused⟩

end

namespace State

/-- The pair after an answer: the reservation ends as the reply is written. -/
theorem answer_qp (s : State) (c : HostCmd) (status legal info0 info1 acc result : Nat) :
    (s.answer c status legal info0 info1 acc result).qp c.qp = { s.qp c.qp with
      resv := false
      rplTail := ((s.qp c.qp).rplTail + 1) % s.rplLen c.qp
      phase := if ((s.qp c.qp).rplTail + 1) % s.rplLen c.qp = 0 then !(s.qp c.qp).phase else (s.qp c.qp).phase } := by
  have hqp : ((s.countAnswer status).unreserve c.qp).qp c.qp = { s.qp c.qp with resv := false } := by
    rw [unreserve, qp_setQp]
    simp only [qp, countAnswer_ce]
  have hlen : ((s.countAnswer status).unreserve c.qp).rplLen c.qp = s.rplLen c.qp :=
    (s.countAnswer_regsKept status).fld (f := .qpLenRplLen) (by decide) _
  rw [answer, writeReply_qp, hqp, hlen]

/-- What an answer brings out of the block: the reply, with the pair's phase in bit 8 of its second word, and perhaps the
message of vector 0 (R366, R393). -/
theorem answer_egress (s : State) (c : HostCmd) (status legal info0 info1 acc result : Nat) :
    ∃ m, (s.answer c status legal info0 info1 acc result).egress = s.egress ++ .hostWrite
        (BitVec.ofNat 64 (s.rd .qpRplBase c.qp + 32 * (s.qp c.qp).rplTail))
        (wordBytes ((s.replyWords (opcodeOf c) (tagOf c) status 0 legal info0 info1 acc result).modify 1 fun b =>
          BitVec.ofNat 32 (setBit b.toNat 8 (s.qp c.qp).phase))) :: m ∧
      ∀ e ∈ m, ∃ v a d, e = Egress.msix v a d := by
  obtain ⟨m, hm, hmsix⟩ := writeReply_egress ((s.countAnswer status).unreserve c.qp) c.qp
    (s.replyWords (opcodeOf c) (tagOf c) status 0 legal info0 info1 acc result) (irqOf c)
  refine ⟨m, ?_, hmsix⟩
  have hqp : ((s.countAnswer status).unreserve c.qp).qp c.qp = { s.qp c.qp with resv := false } := by
    rw [unreserve, qp_setQp]
    simp only [qp, countAnswer_ce]
  have hbase : ((s.countAnswer status).unreserve c.qp).rd .qpRplBase c.qp = s.rd .qpRplBase c.qp :=
    s.countAnswer_regsKept status .qpRplBase _ (by decide)
  have heg : ((s.countAnswer status).unreserve c.qp).egress = s.egress := s.countAnswer_egress status
  rw [answer, hm, hqp, hbase, heg]
  rfl

theorem replyWords_passHead (s : State) (q opcode tag status compl legal info0 info1 acc result : Nat) :
    (s.passHead q).replyWords opcode tag status compl legal info0 info1 acc result =
      s.replyWords opcode tag status compl legal info0 info1 acc result := by
  simp only [replyWords, dev_passHead]

end State

/-- The commands that stand for the families all go through the one form. -/
theorem exec_eq_command {c : HostCmd} {p : Instr × CmdSpec}
    (h : p ∈ [(Instr.nop c, nopSpec), (.arm c, armSpec), (.shotAbort c, shotAbortSpec), (.memPower c, memPowerSpec),
      (.acqStart c, acqStartSpec)]) (s : State) : exec p.1 s = command p.2 c s := by
  simp only [List.mem_cons, List.not_mem_nil, or_false] at h
  rcases h with rfl | rfl | rfl | rfl | rfl <;> rfl

/-- Settles O5: the state after a refusal is the slot passed and the answer written (the reply in the same step is the
model's choice: log entry 4). -/
theorem refusedCommandChangesNothing : Obligations.RefusedCommandChangesNothing := by
  intro s c p r hp hstart hop hcheck h6 h2
  let legal := if r.status = 3 then p.2.states else 0
  let u := (s.passHead c.qp).answer c r.status legal r.info0 r.info1 s.st.toNat 0
  have hexec : exec p.1 s = .next (s.act fun _ => u) := by
    rw [exec_eq_command hp, command_refused p.2 c s r hstart hop hcheck]
    exact congrArg _ (act_congr (by simp only [h6, if_false]; rfl))
  have hframe : u = s.withAnswerOf u :=
    withAnswerOf_trans (s.passHead_withAnswerOf c.qp) (answer_withAnswerOf ..)
  obtain ⟨hcmd, hrefused⟩ := answer_counts (s := s.passHead c.qp) (c := c) h2 legal r.info0 r.info1 s.st.toNat
  obtain ⟨m, hm, hmsix⟩ := (s.passHead c.qp).answer_egress c r.status legal r.info0 r.info1 s.st.toNat 0
  have hqp : u.qp c.qp = _ := (s.passHead c.qp).answer_qp c r.status legal r.info0 r.info1 s.st.toNat 0
  rw [qp_passHead] at hqp hm
  refine ⟨_, hexec, ?_, ?_, ?_, ?_, ?_, ?_, m, ?_, hmsix⟩
  · rw [hframe]; rfl
  · intro q i hq
    exact (answer_regsKept (s.passHead c.qp) c _ _ _ _ _ _ q i (by simpa using hq)).trans (rd_passHead _ _ _ _)
  · exact hcmd.trans (by rw [rd_passHead])
  · exact hrefused.trans (by rw [rd_passHead])
  · exact congrArg Qp.head hqp
  · exact (congrArg Qp.rplTail hqp).trans (by simp only [rplLen, fld_passHead])
  · refine hm.trans ?_
    rw [replyWords_passHead, rd_passHead]
    simp only [passHead_fields]
    rfl

/-! ## Queue pairs (R385 to R389, R400) -/

namespace State

theorem drainReply_of_held_nil {s : State} {q : Nat} (h : (s.qp q).held = []) : s.drainReply q = s := by
  simp only [drainReply, h]

/-- EN set with good ring fields and no completion waiting: the pair begins anew. -/
theorem qpEnable_fresh {s : State} {q : Nat} (he : s.qpEn q = false) (hf : s.qpFieldsOk q = true)
    (hh : (s.qp q).held = []) :
    s.qpEnable q = ((s.setB .qpCtrlEn q true).setQp q Qp.init).setB .qpStatusCplHeld q false := by
  have hnone : ((((s.setB .qpCtrlEn q true).setQp q Qp.init).setB .qpStatusCplHeld q false).qp q).held = [] :=
    congrArg Qp.held (qp_setQp (s.setB .qpCtrlEn q true) q Qp.init)
  simp only [qpEnable, he, hf, hh, Bool.false_eq_true, if_false, if_true]
  exact forEach_idle (List.range 16) _ _ fun _ => drainReply_of_held_nil hnone

theorem qpEnable_bad {s : State} {q : Nat} (he : s.qpEn q = false) (hf : s.qpFieldsOk q = false) :
    s.qpEnable q = s.setB .qpStatusCfgErr q true := by
  simp only [qpEnable, he, hf, Bool.false_eq_true, if_false]

/-- The oldest completion that waits is written once there is room. -/
theorem drainReply_written {s : State} {q : Nat} {ws : List Word} {rest : List (List Word)}
    (hh : (s.qp q).held = ws :: rest) (he : s.qpEn q = true) (hs : s.served = true) (hl : s.pcie.linkUp = true)
    (hr : 0 < s.rplFree q) : s.drainReply q = (s.setQp q { s.qp q with held := rest }).writeReply q ws true := by
  simp only [drainReply, hh, he, hs, hl, hr, decide_true, Bool.and_self, if_true]

end State

/-- Settles O8: each row's effect where its condition holds. -/
theorem queuePairRows : Obligations.QueuePairRows := by
  refine ⟨?tail, ?tailErr, ?head, ?headErr, ?enable, ?badFields, ?disable, ?fetchFail, ?clear, ?raised, ?drain⟩
  case tail => exact fun s q v hb hv => run_to (by simp [when, hb, cmdTail, hv]) rfl rfl
  case tailErr => exact fun s q v hb hv => run_to (by simp [when, hb, cmdTail, hv, ptrErr]) rfl rfl
  case head => exact fun s q v hb hv => run_to (by simp [when, hb, State.rplHead, hv]) rfl rfl
  case headErr => exact fun s q v hb hv => run_to (by simp [when, hb, State.rplHead, hv, ptrErr]) rfl rfl
  case enable => exact fun s q hp he hf hh => run_to (by simp only [when, hp, if_true, qpEnable_fresh he hf hh]) rfl rfl
  case badFields => exact fun s q hp he hf => run_to (by simp only [when, hp, if_true, qpEnable_bad he hf]) rfl rfl
  case disable => exact fun s q hp he => run_to (by simp [when, hp, qpDisable, he]) rfl rfl
  case fetchFail => exact fun s q h => run_to (by simp only [when, h, if_true]) rfl rfl
  case clear => exact fun s q hp hr => run_to (by simp [when, hp, hr, Fld.qpStatusFetchErr]) rfl rfl
  case raised => exact fun s q hr => run_to (by simp [when, hr]) rfl rfl
  case drain => exact fun s q ws rest hh he hs hl hr => run_act (drainReply_written hh he hs hl hr)

/-! ## Restarts of the engine (R403, R511 to R513) -/

namespace State

theorem findLong_none {s : State} {n : Nat} (h : ∀ l ∈ s.ce.longs, l.opcode ≠ n) : s.findLong n = none := by
  simpa [findLong] using h

theorem patchWaits_none {s : State} (h : ∀ l ∈ s.ce.longs, l.opcode ≠ 0x804) : s.patchWaits = none := by
  simpa [patchWaits] using fun l hl he => absurd he (h l hl)

/-- Without a CAL_RUN, a CAL_SAVE, a key or a patch under way the restart only ends the long commands. -/
theorem ceCut_plain {s : State} (h : ∀ l ∈ s.ce.longs, l.opcode ∉ [0x700, 0x701, 0x803, 0x804]) :
    s.ceCut = s.cutLongs 0xB := by
  have hnone (n : Nat) (hn : n ∈ [0x700, 0x701, 0x803, 0x804]) : s.findLong n = none :=
    findLong_none fun l hl he => h l hl (he ▸ hn)
  simp [ceCut, keyCut, patchCut, when, hnone]

theorem ceBack_plain {s : State} (hr : s.flag .ceStatusRestart = true) (h : ∀ l ∈ s.ce.longs, l.opcode ≠ 0x804) :
    s.ceBack = s.setB .ceStatusRestart 0 false := by
  have hnone : (s.setB .ceStatusRestart 0 false).patchWaits = none := patchWaits_none h
  simp only [ceBack, hr, if_true, hnone]

/-- What the micro-engine does at a fault: the restart that counts in UFAULT_CNT. -/
theorem micro_faults {s : State} {op : MicroOp} (h : op = .fetch true ∨ (op = .ret ∧ s.ce.ustack = []) ∨
    ∃ b, op = .call b ∧ 8 ≤ s.ce.ustack.length) : s.micro op = (s.bump .ceUfaultCnt).ceRestart := by
  rcases h with rfl | ⟨rfl, hempty⟩ | ⟨b, rfl, hfull⟩
  · simp only [micro, if_true]
  · simp only [micro, hempty]
  · simp only [micro, if_neg (Nat.not_lt.mpr hfull)]

theorem microNext_ustack (s : State) : s.microNext.ce.ustack = s.ce.ustack := rfl

end State

/-- Settles O9: each row's effect where its condition holds (the micro-engine's operation is a free value: log entry 13;
that INTERNAL_ANSWER ignores FENCE is the model's choice: log entry 4). -/
theorem engineRestartRows : Obligations.EngineRestartRows := by
  refine ⟨?watchdog, fun s => rfl, ?call, ?ret, ?fault, ?fetch, fun s => rfl, ?off, ?back, ?cut, ?answer⟩
  case watchdog => exact fun s h => run_act (by simp only [when, h, if_true])
  case call =>
    intro s b h hm hroom
    exact run_to (by simp only [when, h, if_true, hm, micro, microNext_ustack, hroom]) rfl rfl
  case ret =>
    intro s b l h hm hst
    exact run_to (by simp only [when, h, if_true, hm, micro, microNext_ustack, hst]) rfl rfl
  case fault =>
    intro s h hm
    exact run_act (by simp only [when, h, if_true]; exact micro_faults hm)
  case fetch =>
    intro s h hm
    exact run_to (by simp [when, h, hm, micro]) rfl rfl
  case off => exact fun s h => run_to (by simp [when, h]) rfl rfl
  case back => exact fun s hr h => run_to (ceBack_plain hr h) rfl rfl
  case cut => exact fun s h => ceCut_plain h
  case answer => exact fun s c hr hs => run_act (by simp only [internalAnswer, hr, hs, Bool.and_self, if_true])

end Sys2Proof.Machine
end

section
/-!
PROOFS. The memories: bank power, tests, the scrubber and BAR2, and that their operations keep memory's canonical form.
-/

namespace Sys2Proof.Machine
open State

namespace State

/-! ## Readers in the state whose ring slot has passed -/

theorem groupPresent_passHead (s : State) (q g : Nat) : (s.passHead q).groupPresent g = s.groupPresent g := by
  simp only [groupPresent, hasOch, hasRch, hasDsp, hasStack, passHead_fields]

theorem groupState_passHead (s : State) (q g : Nat) : (s.passHead q).groupState g = s.groupState g := by
  simp only [groupState, groupPresent_passHead, rd_passHead]

/-! ## Power and tests (R333, R339, R341) -/

/-- The group has its new state, and nothing of it is under way. -/
def powerReached (s : State) (g t : Nat) : State :=
  let s := s.wr .glbBankPwr (g / 16) (place (s.rd .glbBankPwr (g / 16)) (2 * (g % 16)) 2 t)
  State.setBankBusy { s with mem := { s.mem with moving := SMap.put none s.mem.moving g none } } g false

theorem memPowerDone_reached {s : State} {g t : Nat} (h : SMap.get none s.mem.moving g = some t) :
    s.memPowerDone g = if t = 2 ∨ s.groupState g = 2 then (s.powerReached g t).clearGroup g else s.powerReached g t := by
  simp only [memPowerDone, h, Bool.or_eq_true, decide_eq_true_eq]
  rfl

theorem memPowerDone_idle {s : State} {g : Nat} (h : SMap.get none s.mem.moving g = none) : s.memPowerDone g = s := by
  simp only [memPowerDone, h]

/-- A destructive test that found no fault in a power group. -/
theorem memTestComplete_zeroed {s : State} {g : Nat} {l : LongCmd} (h : s.findLong 0x901 (some g) = some l)
    (ha : l.arg = 0) (hg : g < 158) :
    s.memTestComplete g none = ((s.setBankBusy g false).zeroBanks g).completeAs l 0 0 0 0 := by
  simp [memTestComplete, h, ha, hg, when]

/-- A transparent test that found no fault in an always-on bank. -/
theorem memTestComplete_kept {s : State} {g : Nat} {l : LongCmd} (h : s.findLong 0x901 (some g) = some l)
    (ha : l.arg ≠ 0) (hg : 158 ≤ g) : s.memTestComplete g none = s.completeAs l 0 0 0 0 := by
  simp [memTestComplete, h, ha, Nat.not_lt.mpr hg, when]

/-! ## The scrubber (R337) -/

section
variable {s : State} {l : Nat} (hr : s.fld .glbScrubCfgRate ≠ 0) (hl : s.scrubFrom s.mem.scrubAt = some l)
include hr hl

/-- A clean line with another after it: the scrubber moves on. -/
theorem scrubLine_next {n : Nat} (hn : s.scrubFrom (l + 1) = some n) :
    s.scrubLine .clean = { s with mem := { s.mem with scrubAt := n } } := by
  simp [scrubLine, hr, hl, hn, eccSeen]

/-- The last clean line ends the pass. -/
theorem scrubLine_pass (hn : s.scrubFrom (l + 1) = none) : s.scrubLine .clean =
    { s.bump .glbScrubPass with mem := { s.mem with scrubAt := (s.scrubFrom 0).getD 0 } } := by
  simp only [scrubLine, hr, hl, hn, eccSeen, if_false, Option.isNone_some, Bool.false_and, Bool.false_eq_true]
  rfl

end

/-! ## BAR2 (R363, R364) -/

theorem bar2Write_nil (s : State) (a k : Nat) : s.bar2Write a [] k = s := by cases k <;> rfl

theorem bar2Read_zero (s : State) (a k : Nat) : s.bar2Read a 0 k = ([], false, s) := by cases k <;> rfl

section
variable {s : State} {a k : Nat} {b : List Byte} (hb : b ≠ []) (hl : b.length ≤ 0x1000 - a % 0x1000)
include hb hl

/-- A host write that stays in one page is one piece. -/
theorem bar2Write_page_open (hn : s.bar2No a b.length true = none) : s.bar2Write a b (k + 1) = s.bar2Store a b := by
  have hp : pieceLen a b.length = b.length := min_eq_left hl
  simp only [bar2Write, hp, hn, List.take_length, List.drop_length, bar2Write_nil, List.isEmpty_iff, hb, if_false]

theorem bar2Write_page_envelope {och blk : Nat} (hn : s.bar2No a b.length true = some (.envelope och blk)) :
    s.bar2Write a b (k + 1) = s.writeRefused och blk 2 1 := by
  have hp : pieceLen a b.length = b.length := min_eq_left hl
  simp only [bar2Write, hp, hn, List.drop_length, bar2Write_nil, List.isEmpty_iff, hb, if_false]

end

section
variable {s : State} {a n k : Nat} (h0 : 0 < n) (hl : n ≤ 0x1000 - a % 0x1000)
include h0 hl

/-- A host read that stays in one page is one piece. -/
theorem bar2Read_page_open (hn : s.bar2No a n false = none) :
    s.bar2Read a n (k + 1) = (Memory.readBytes s.mem.bytes a n, s.bar2Bad a n, s) := by
  have hp : pieceLen a n = n := min_eq_left hl
  simp only [bar2Read, hp, hn, Nat.sub_self, bar2Read_zero, List.append_nil, Bool.or_false, h0.ne', if_false]

theorem bar2Read_page_off (hn : s.bar2No a n false = some .off) :
    s.bar2Read a n (k + 1) = (List.replicate n 0, false, s.bump .glbMemPwrBlocked) := by
  have hp : pieceLen a n = n := min_eq_left hl
  simp only [bar2Read, hp, hn, Nat.sub_self, bar2Read_zero, List.append_nil, Bool.or_false, h0.ne', if_false]

end

/-- What is open to a host write is open to a read. -/
theorem bar2No_read_of_write {s : State} {a n : Nat} (h : s.bar2No a n true = none) : s.bar2No a n false = none := by
  unfold bar2No at h ⊢
  by_cases hbank : (bar2Bank a).isNone = true
  · simp [hbank] at h
  · by_cases hpresent : s.bar2Present a = true
    · by_cases hon : s.bar2On a = true
      · simp [hbank, hpresent, hon]
      · simp [hbank, hpresent, hon] at h
    · simp [hbank, hpresent] at h

theorem bar2Store_bar2No (s : State) (a : Nat) (b : List Byte) (c n : Nat) :
    (s.bar2Store a b).bar2No c n false = s.bar2No c n false := by
  have hpresent : (s.bar2Store a b).bar2Present c = s.bar2Present c := rfl
  have hon : (s.bar2Store a b).bar2On c = s.bar2On c := rfl
  simp only [bar2No, hpresent, hon, Bool.not_false, if_true]

/-- No word that a store has just written is uncorrectable (R336). -/
theorem bar2Store_good (s : State) (a : Nat) (b : List Byte) : (s.bar2Store a b).bar2Bad a b.length = false := by
  unfold bar2Bad
  split
  · next row inst g hbank =>
    simp only [badIn, bar2Store, hbank, List.any_eq_false, List.mem_filter]
    rintro w ⟨-, hw⟩
    simp only [Bool.not_eq_true', Bool.and_eq_false_iff, Bool.and_eq_true, decide_eq_false_iff_not, decide_eq_true_eq] at hw ⊢
    rintro ⟨⟨⟨hrow, hinst⟩, hlo⟩, hhi⟩
    rcases hw with ((hw | hw) | hw) | hw
    · simp [hrow] at hw
    · simp [hinst] at hw
    · exact hw hlo
    · omega
  · rfl

theorem bytes_ite {c : Prop} [Decidable c] {t u : State} {m : List Host.Cell} (ht : t.mem.bytes = m)
    (hu : u.mem.bytes = m) : (if c then t else u).mem.bytes = m := by
  split
  · exact ht
  · exact hu

/-- The contents that undefined banks take leave the byte memory alone. -/
theorem freeBanks_bytes (s : State) (g : Nat) (hit : Nat → Bool) : (s.freeBanks g hit).mem.bytes = s.mem.bytes := by
  unfold freeBanks
  refine bytes_ite rfl (bytes_ite rfl (bytes_ite rfl (bytes_ite rfl ?_)))
  split
  · exact forEach_keeps (fun t : State => t.mem.bytes) _ (by exact fun _ _ => rfl) _ _
  · rfl
  · rfl
  · exact forEach_keeps (fun t : State => t.mem.bytes) _ (by exact fun _ _ => rfl) _ _
  · rfl

theorem completeAs_mem (s : State) (l : LongCmd) (status info0 info1 result : Nat) :
    (s.completeAs l status info0 info1 result).mem = s.mem := by
  have hirq (t : State) : (t.irq 0).mem = t.mem := by rw [irq_withAnswerOf]; rfl
  have hdrain (t : State) (q : Nat) : (t.drainReply q).mem = t.mem := by
    unfold drainReply
    split
    · rfl
    · split
      · rw [writeReply_withAnswerOf]; rfl
      · rfl
  rw [completeAs, hdrain, holdReply]
  exact when_keeps State.mem (fun t => t.setB .qpStatusCplHeld l.qp true) (fun _ => rfl) _ _

/-- The end of a power transition keeps memory's form. -/
theorem memPowerDone_wf {s : State} (g : Nat) (h : Memory.wf s.mem.bytes = true) :
    Memory.wf (s.memPowerDone g).mem.bytes = true := by
  cases hm : SMap.get none s.mem.moving g with
  | none => rwa [memPowerDone_idle hm]
  | some t =>
    rw [memPowerDone_reached hm]
    split
    · exact clearGroup_wf _ _ h
    · exact h

/-- A completed test keeps memory's form: it zeroes the group, leaves it, or leaves its banks undefined. -/
theorem memTestComplete_wf {s : State} (g : Nat) (fail : Option Nat) (h : Memory.wf s.mem.bytes = true) :
    Memory.wf (s.memTestComplete g fail).mem.bytes = true := by
  unfold memTestComplete
  split
  · have hbusy (t : State) (b : Bool) : (when b (fun t => t.setBankBusy g false) t).mem = t.mem :=
      when_keeps State.mem (fun t => t.setBankBusy g false) (fun _ => rfl) b t
    rw [completeAs_mem, when_keeps State.mem (fun t => t.wr .glbMemFail (g / 32)
      (setBit (t.rd .glbMemFail (g / 32)) (g % 32) true)) fun _ => rfl]
    split_ifs
    · exact zeroBanks_bytes _ _ (by rwa [hbusy])
    · rw [freeFailed, freeBanks_bytes]
      simpa only [draw, hbusy] using h
    · rwa [hbusy]
  · exact h

end State

/-! ## The rows -/

theorem exec_memPower_done {s : State} {c : HostCmd} {f : State → State} (h : Accepted memPowerSpec c s)
    (hf : (memPowerSpec.app (s.passHead c.qp) c).1 = f (s.passHead c.qp)) :
    exec (.memPower c) s = .next (s.act (done c f)) :=
  command_done h rfl (Prod.ext hf rfl)

section
variable {s : State} {a : BitVec 36} {b : List Byte} (hm : s.hostMem = true) (hb : b ≠ [])
  (hl : b.length ≤ 0x1000 - a.toNat % 0x1000)
include hm hb hl

/-- A host write of one page of an open memory. -/
theorem exec_bar2Write_open (hn : s.bar2No a.toNat b.length true = none) :
    exec (.bar2Write a b) s = .next (s.act fun s => s.bar2Store a.toNat b) :=
  run_act (by simp only [hm, if_true, bar2Write_page_open hb hl hn])

theorem exec_bar2Write_envelope {n k : Nat} (hn : s.bar2No a.toNat b.length true = some (.envelope n k)) :
    exec (.bar2Write a b) s = .next (s.act fun s => s.writeRefused n k 2 1) :=
  run_act (by simp only [hm, if_true, bar2Write_page_envelope hb hl hn])

/-- What the row stored reads back, not poisoned. -/
theorem exec_bar2Read_stored (hn : s.bar2No a.toNat b.length true = none) :
    exec (.bar2Read a b.length .clean) (s.act fun s => s.bar2Store a.toNat b) =
      .next ((s.act fun s => s.bar2Store a.toNat b).act (fires fun t =>
        { t with readBytes := b, poisoned := false })) := by
  have hno : (s.act fun s => s.bar2Store a.toNat b).bar2No a.toNat b.length false = none :=
    (s.bar2Store_bar2No a.toNat b a.toNat b.length).trans (bar2No_read_of_write hn)
  have hpage := bar2Read_page_open (k := b.length / 0x1000 + 1) (List.length_pos_iff.mpr hb) hl hno
  have hbad : (s.act fun s => s.bar2Store a.toNat b).bar2Bad a.toNat b.length = false := s.bar2Store_good a.toNat b
  have hbytes : Memory.readBytes (s.act fun s => s.bar2Store a.toNat b).mem.bytes a.toNat b.length = b :=
    Memory.readBytes_writeBytes s.mem.bytes a.toNat b
  have hhost : (s.act fun s => s.bar2Store a.toNat b).hostMem = true := hm
  rw [hbad, hbytes] at hpage
  exact perform_act (by simp only [hhost, if_true, eccSeen, hpage, when, Bool.false_eq_true, if_false])

end

/-- Settles O30: the commands once accepted, and each row where its condition holds (that a group is zero where it enters
or leaves OFF is the model's choice: log entry 9). -/
theorem memoryCommandsApply : Obligations.MemoryCommandsApply := by
  refine ⟨?same, ?moves, ?reached, ?off, ?test, ?zeroed, ?kept, ?next, ?pass, ?write, ?envelope, ?readOff, ?unserved⟩
  case same =>
    exact fun s c h hg => exec_memPower_done h (if_pos (by rwa [groupState_passHead]))
  case moves =>
    exact fun s c h hg => exec_memPower_done h (if_neg (by rwa [groupState_passHead]))
  case reached =>
    intro s g t h ht hg
    exact run_act ((memPowerDone_reached h).trans (if_neg (by simp [ht, hg])))
  case off =>
    intro s g h
    exact run_act ((memPowerDone_reached h).trans (if_pos (.inl rfl)))
  case test =>
    intro s c keep h hk hg
    have hexec : exec (.memTest c) s = command (memTestSpec keep) c s := by rw [← hk]; rfl
    rw [hexec]
    exact command_begun h rfl (by simp only [memTestSpec, when, hg, decide_true, if_true])
  case zeroed => exact fun s g l h ha hg => run_act (memTestComplete_zeroed h ha hg)
  case kept => exact fun s g l h ha hg => run_act (memTestComplete_kept h ha hg)
  case next => exact fun s l n hr hl hn => perform_act (scrubLine_next hr hl hn)
  case pass => exact fun s l hr hl hn => perform_act (scrubLine_pass hr hl hn)
  case write => exact fun s a b hm hb hl hn => exec_bar2Write_open hm hb hl hn
  case envelope => exact fun s a b n k hm hb hl hn => exec_bar2Write_envelope hm hb hl hn
  case readOff =>
    intro s a n hm hn hl hoff
    exact perform_act (by
      simp only [hm, if_true, eccSeen, bar2Read_page_off hn hl hoff, when, Bool.false_eq_true, if_false])
  case unserved =>
    intro s a n hm
    exact perform_act (by simp only [hm, Bool.false_eq_true, if_false])

/-- Settles O31: the one page that the row writes is the one that the read finds, and the words written are correct (a word
written in part is too: log entry 16). -/
theorem hostMemoryReadsBack : Obligations.HostMemoryReadsBack := by
  intro s a b hm hb hl hn
  let t := s.act fun s => s.bar2Store a.toNat b
  have hcalm := ({ t with readBytes := b, poisoned := false } : State).settle_calm
  simp only [calm, Prod.mk.injEq] at hcalm
  obtain ⟨hread, hpois, -⟩ := hcalm
  refine ⟨t, _, exec_bar2Write_open hm hb hl hn, exec_bar2Read_stored hm hb hl hn, hread, hpois, rfl, fun k hk => ?_⟩
  exact Memory.read_writeBytes_out b s.mem.bytes a.toNat k hk

/-- Settles O32: the reset memory is empty, and each of the three rows keeps the form (an unlisted byte reads as zero: log
entry 5). -/
theorem memoryKeepsItsForm : Obligations.MemoryKeepsItsForm := by
  refine ⟨reset_mem_wf, ?_⟩
  rintro s t i (⟨a, b, rfl⟩ | ⟨g, rfl⟩ | ⟨g, f, rfl⟩) h he
  · rw [(run_next _ s t).mp he]
    change Memory.wf (if s.hostMem then _ else s : State).mem.bytes = true
    split
    · exact bar2Write_wf _ _ _ _ h
    · exact h
  · rw [(run_next _ s t).mp he]
    exact memPowerDone_wf g h
  · rw [(run_next _ s t).mp he]
    exact memTestComplete_wf g _ h

end Sys2Proof.Machine
end

section
/-!
PROOFS. The event fabric: what a firing counts, the event commands, and the fabric's rows.
-/

namespace Sys2Proof.Machine
open State

namespace State

/-! ## What one firing counts (R413, R415) -/

/-- The channel's own count of firings, which the host sees in `CH_FIRED`, advances. -/
def noteFired (s : State) (ch : Nat) : State :=
  s.setEvf { s.evf with chFired := SMap.put 0 s.evf.chFired ch (satAdd32 (SMap.get 0 s.evf.chFired ch) 1) }

theorem stormCheck_lastDeliv (s : State) (ch : Nat) :
    (s.stormCheck ch).evf.lastDeliv = s.evf.lastDeliv ∧ (s.stormCheck ch).cyc = s.cyc := by
  unfold stormCheck
  split
  · exact ⟨rfl, rfl⟩
  · exact ⟨rfl, rfl⟩

theorem stormFiring_lastDeliv (s : State) (ch : Nat) :
    (s.stormFiring ch).evf.lastDeliv = s.evf.lastDeliv ∧ (s.stormFiring ch).cyc = s.cyc := stormCheck_lastDeliv _ ch

/-- A firing of a suppressed channel. -/
theorem fireChannel_suppressed {s : State} {ch : Nat} (h : s.suppressed ch = true) :
    s.fireChannel ch = (s.noteFired ch).evCount 1 0 0 1 :=
  if_pos h

/-- A firing of a channel that has delivered in this cycle. -/
theorem fireChannel_coalesced {s : State} {ch : Nat} (h : s.suppressed ch = false)
    (hd : SMap.get 0 s.evf.lastDeliv ch = s.cyc + 1) :
    s.fireChannel ch = ((s.noteFired ch).stormFiring ch).evCount 1 0 1 0 := by
  obtain ⟨hl, hc⟩ := (s.noteFired ch).stormFiring_lastDeliv ch
  refine (if_neg (ne_true_of_eq_false h)).trans (if_pos ?_)
  exact (congrArg (SMap.get 0 · ch) hl).trans (hd.trans (congrArg (· + 1) hc.symm))

/-- A channel's first delivery of the cycle goes to its consumer. -/
theorem fireChannel_delivered {s : State} {ch : Nat} (h : s.suppressed ch = false)
    (hd : SMap.get 0 s.evf.lastDeliv ch ≠ s.cyc + 1) :
    ∃ m : SMap Nat, s.fireChannel ch =
      let t := ((s.noteFired ch).stormFiring ch).evCount 1 1 0 0
      let t := t.setEvf { t.evf with lastDeliv := m }
      t.consume ch (t.routeOf ch) := by
  obtain ⟨hl, hc⟩ := (s.noteFired ch).stormFiring_lastDeliv ch
  refine ⟨_, (if_neg (ne_true_of_eq_false h)).trans (if_neg fun he => hd ?_)⟩
  exact (congrArg (SMap.get 0 · ch) hl).symm.trans (he.trans (congrArg (· + 1) hc))

/-- The four counters after one firing of a channel, by the three things that can become of it. -/
theorem fireChannel_cnt (s : State) (ch : Nat) : (s.fireChannel ch).evf.cnt =
    let k := s.evf.cnt
    if s.suppressed ch then { k with fired := k.fired + 1, suppressed := k.suppressed + 1 }
    else if SMap.get 0 s.evf.lastDeliv ch = s.cyc + 1 then { k with fired := k.fired + 1, coalesced := k.coalesced + 1 }
    else { k with fired := k.fired + 1, delivered := k.delivered + 1 } := by
  cases h : s.suppressed ch with
  | true =>
    rw [fireChannel_suppressed h]
    simp [evCount, setEvf, noteFired]
  | false =>
    by_cases hd : SMap.get 0 s.evf.lastDeliv ch = s.cyc + 1
    · rw [fireChannel_coalesced h hd]
      simp [evCount, setEvf, hd, noteFired]
    · obtain ⟨m, hm⟩ := fireChannel_delivered h hd
      rw [hm]
      simp only [consume_keeps]
      simp [evCount, setEvf, hd, noteFired]

theorem fireChannel_fired (s : State) (ch : Nat) : (s.fireChannel ch).evf.cnt.fired = s.evf.cnt.fired + 1 := by
  rw [fireChannel_cnt]
  simp only []
  split_ifs <;> rfl

theorem forEach_fireChannel_fired (l : List Nat) (s : State) :
    (forEach l (fun ch t => t.fireChannel ch) s).evf.cnt.fired = s.evf.cnt.fired + BitVec.ofNat 48 l.length := by
  induction l generalizing s with
  | nil => simp [forEach]
  | cons ch l ih =>
    have h := ih (s.fireChannel ch)
    rw [fireChannel_fired] at h
    refine h.trans ?_
    rw [List.length_cons, BitVec.ofNat_add, BitVec.add_assoc, BitVec.add_comm 1]
    rfl

end State

/-- Settles O28: `State.fireChannel_cnt` says what one firing of a channel counts, and a producer's firing is one firing
of each channel it drives. -/
theorem oneFiringOfOneChannel : Obligations.OneFiringOfOneChannel := by
  refine ⟨fun s p => forEach_fireChannel_fired _ s, fun s ch => ⟨fireChannel_fired s ch, fun h => ?_, fun h hd => ?_, fun h hd => ?_⟩⟩
  · simp [fireChannel_cnt, h]
  · simp [fireChannel_cnt, h, hd]
  · simp [fireChannel_cnt, h, hd]

/-! ## EVT_ROUTE, EVT_COMMIT and SNAPSHOT (R417, R418, R422) -/

namespace State

theorem routeOf_passHead (s : State) (q ch : Nat) : (s.passHead q).routeOf ch = s.routeOf ch := by
  simp only [routeOf, passHead_fields]

theorem stagedOf_passHead (s : State) (q ch : Nat) : (s.passHead q).stagedOf ch = s.stagedOf ch := by
  simp only [stagedOf, passHead_fields, routeOf_passHead]

theorem stIn_passHead (s : State) (q n : Nat) : (s.passHead q).stIn n = s.stIn n := by
  simp only [stIn, passHead_fields]

/-- A trigger that finds no snapshot pending or held begins one, which is not to be held. -/
theorem snapTrigger_fresh {s : State} (hn : s.evf.snap = none) (hh : s.flag .evfSnapStatusHeld = false)
    (hc : s.flag .evfSnapCfgHold = false) (source : Nat) :
    s.snapTrigger source = s.setEvf { s.evf with snap := some (s.cyc, s.stIn 8, source) } := by
  have hk : (s.setEvf { s.evf with snap := some (s.cyc, s.stIn 8, source) }).flag .evfSnapCfgHold = false := hc
  simp only [snapTrigger, snapLatch, hn, hh, hk, when, Bool.not_true, Bool.false_eq_true, if_false]

/-- A trigger that finds a snapshot pending joins it. -/
theorem snapTrigger_joins {s : State} {c t source0 : Nat} (hs : s.evf.snap = some (c, t, source0)) (hc : s.cyc < c + 8)
    (source : Nat) : s.snapTrigger source = s.bump .evfSnapMerged := by
  simp only [snapTrigger, hs, Nat.not_le.mpr hc, decide_false, Bool.not_false, if_true]

end State

/-- EVT_ROUTE without APPEND and without any LINK_OUT input stages its consumer and producers. -/
theorem evtRoute_plain {s : State} {c : HostCmd} (ha : evrAppend c = false) (hn : isLinkOut (evrCons c) = false)
    (ho : isLinkOut (s.stagedOf (indexOf c)) = false) : evtRouteSpec.app s c =
    ((s.setEvf { s.evf with
        staged := SMap.put none s.evf.staged (indexOf c) (some ⟨evrCons c, (evrProds c).dedup⟩) }).setB .evfStagedPending 0 true,
      {}) := by
  simp only [evtRouteSpec, justDo, ha, hn, ho, when, Bool.false_eq_true, if_false, Bool.not_false, Bool.and_false]

/-- EVT_ROUTE to a LINK_OUT input stages the destination device as well. -/
theorem evtRoute_toLink {s : State} {c : HostCmd} (ha : evrAppend c = false) (hn : isLinkOut (evrCons c) = true)
    (ho : isLinkOut (s.stagedOf (indexOf c)) = false) : evtRouteSpec.app s c =
    ((s.setEvf { s.evf with
        staged := SMap.put none s.evf.staged (indexOf c) (some ⟨evrCons c, (evrProds c).dedup⟩)
        stagedDest := SMap.put 0 s.evf.stagedDest (evrCons c - 0x350) (pBits c 50 0 6 + 1) }).setB .evfStagedPending 0 true,
      {}) := by
  simp only [evtRouteSpec, justDo, ha, hn, ho, when, Bool.false_eq_true, if_false, if_true, Bool.not_false, Bool.and_false,
    Bool.and_true]
  rfl

/-- EVT_ROUTE away from a LINK_OUT input takes back the destination staged for it. -/
theorem evtRoute_fromLink {s : State} {c : HostCmd} (ha : evrAppend c = false) (hn : isLinkOut (evrCons c) = false)
    (ho : isLinkOut (s.stagedOf (indexOf c)) = true) : evtRouteSpec.app s c =
    ((s.setEvf { s.evf with
        staged := SMap.put none s.evf.staged (indexOf c) (some ⟨evrCons c, (evrProds c).dedup⟩)
        stagedDest := SMap.put 0 s.evf.stagedDest (s.stagedOf (indexOf c) - 0x350) 0 }).setB .evfStagedPending 0 true,
      {}) := by
  simp only [evtRouteSpec, justDo, ha, hn, ho, when, Bool.false_eq_true, if_false, if_true, Bool.not_false, Bool.and_false,
    Bool.and_true]
  rfl

/-- EVT_ROUTE with APPEND adds producers and leaves the consumer (R417). -/
theorem evtRoute_append {s : State} {c : HostCmd} (ha : evrAppend c = true) : evtRouteSpec.app s c =
    ((s.setEvf { s.evf with
        staged := SMap.put none s.evf.staged (indexOf c)
          (some ⟨s.stagedOf (indexOf c), (s.prodsNew (indexOf c) ++ evrProds c).dedup⟩) }).setB .evfStagedPending 0 true, {}) := by
  simp only [evtRouteSpec, justDo, ha, when, Bool.false_eq_true, if_false, if_true, Bool.not_true, Bool.false_and]

/-- SNAPSHOT's answer is T of the snapshot that its trigger leaves pending. -/
theorem snapshot_app {s : State} {c : HostCmd} {c0 t source : Nat} (h : (s.snapTrigger 3).evf.snap = some (c0, t, source)) :
    snapshotSpec.app s c = (s.snapTrigger 3, { result := t }) := by
  simp only [snapshotSpec, h]

/-- Settles O26: each case of EVT_ROUTE is one staged entry, EVT_COMMIT is the commit of all of them, and SNAPSHOT's answer
is read from what its trigger leaves. -/
theorem eventCommandsApply : Obligations.EventCommandsApply := by
  refine ⟨fun s c h ha hn ho => command_done h rfl ?_, fun s c h ha hn ho => command_done h rfl ?_,
    fun s c h ha hn ho => command_done h rfl ?_, fun s c h ha => command_done h rfl ?_,
    fun s c h => command_done h rfl rfl, fun s c h hn hh hc => command_doneWith h rfl ?_,
    fun s c c0 t source h hs hc => command_doneWith h rfl ?_⟩
  · exact evtRoute_plain ha hn (stagedOf_passHead s _ _ ▸ ho)
  · exact evtRoute_toLink ha hn (stagedOf_passHead s _ _ ▸ ho)
  · exact evtRoute_fromLink ha hn (stagedOf_passHead s _ _ ▸ ho)
  · exact evtRoute_append ha
  · have ht := snapTrigger_fresh (s := s.passHead c.qp) (by simpa only [passHead_fields] using hn)
      (by rw [flag_passHead, hh]) (by rw [flag_passHead, hc]) 3
    rw [snapshot_app (congrArg (·.evf.snap) ht), ht, stIn_passHead]
  · have hs' : (s.passHead c.qp).evf.snap = some (c0, t, source) := by simpa only [passHead_fields] using hs
    have ht := snapTrigger_joins hs' (by simpa only [passHead_fields] using hc) 3
    rw [snapshot_app ((congrArg (·.evf.snap) ht).trans hs'), ht]

/-! ## The fabric's rows (R411, R414, R416, R420 to R423) -/

namespace State

/-- A timer reaches its next tick: it fires, and goes on unless it has no period or its count is made. -/
theorem timerFire_due {s : State} {k t : Nat} (h : s.timerNext k = some t) (ht : t = s.st.toNat) : s.timerFire k =
    (s.setTimer k (if s.rd .timerPeriod k == 0 || (s.fld .timerCtrlCount k != 0 &&
        decide (s.fld .timerCtrlCount k ≤ SMap.get 0 s.evf.timerDone k + 1)) then none
      else some (t + 32 * s.rd .timerPeriod k)) (SMap.get 0 s.evf.timerDone k + 1)).signal (prodTimer k) := by
  have hz : decide (32 * s.rd .timerPeriod k = 0) = (s.rd .timerPeriod k == 0) := by
    simp [beq_eq_decide]
  simp only [timerFire, h, if_pos ht, hz]

theorem timerCtrl_start {s : State} {k v : Nat} (hk : s.flag .timerCtrlEn k = false) (hv : bit v 0 = true) :
    s.timerCtrl k v =
      let t := s.wr .timerCtrl k (1 + 256 * slice v 8 24)
      t.setTimer k (some (t.timerFirst k)) 0 := by
  simp [timerCtrl, hk, hv, ofBool]

theorem snapTake_due {s : State} {c t source : Nat} (h : s.evf.snap = some (c, t, source)) (hc : s.cyc = c + 7) :
    s.snapTake = s.setEvf { s.evf with snapAt := s.snapCopies t } := by
  simp only [snapTake, h, if_pos hc]

theorem snapLatch_due {s : State} {c t source : Nat} (h : s.evf.snap = some (c, t, source)) (hc : s.cyc = c + 8) :
    s.snapLatch =
      let u : State := { s with snaps := s.evf.snapAt }
      let u := (u.wr .evfSnapSt 0 t).setF .evfSnapStatusSource 0 source
      let u := u.wr .evfSnapSeq 0 (satAdd32 (u.rd .evfSnapSeq) 1)
      { u with evf := { u.evf with snap := none, snapAt := [] } } := by
  simp only [snapLatch, h, if_pos hc]
  rfl

theorem debugRoute_off {s : State} (h : s.flag .evfDbgEn = false) (m : Bool) (v : Nat) : s.debugRoute m v = s := by
  simp only [debugRoute, h, Bool.not_false, if_true]

end State

/-- A row that a host access brings, while the host reaches the event fabric's page. -/
theorem when_of {f : State → State} {b : Bool} {s : State} (h : b = true) : when b f s = f s := if_pos h

/-- Settles O27, row by row. A timer keeps `EN` after the last firing of its series (log entry 5), and the row of the latch
stands in cycle c + 8 (log entry 16): both are the model's choice. -/
theorem eventRows : Obligations.EventRows := by
  refine ⟨fun s w v h => perform_act (when_of h), fun s w v h => run_act (when_of h),
    fun s v h hd => run_to ((when_of h).trans ?_) rfl rfl, fun s v h hd => run_to ((when_of h).trans ?_) rfl rfl,
    fun s m v hd => run_to (?_ : when _ _ s = s) rfl rfl, fun s v h hv hr => run_to (when_of ?_) rfl rfl,
    fun s hs hj => run_to (when_of ?_) rfl rfl, fun s k v h hk hv => run_act ((when_of h).trans (timerCtrl_start hk hv)),
    fun s k t h ht => perform_act (timerFire_due h ht), fun s ch => rfl, fun s c t src h hc => snapTake_due h hc,
    fun s c t src hs h hc => run_act ((when_of hs).trans (snapLatch_due h hc))⟩
  · simp only [debugRoute, hd, Bool.not_true, Bool.false_eq_true, if_false]
  · simp only [debugRoute, hd, Bool.not_true, Bool.false_eq_true, if_false, if_true]
  · rw [when, debugRoute_off hd, ite_self]
  · simp only [h, hv, hr, Bool.not_false, Bool.and_self]
  · simp only [hs, hj, Bool.not_false, Bool.and_self]

end Sys2Proof.Machine
end

section
/-!
PROOFS. The capture units' rows.
-/

namespace Sys2Proof.Machine
open State

namespace State

/-! ## The read pointer (R308) -/

/-- A value between the pointers is stored. -/
theorem acqRdPtr_within {s : State} {u v : Nat} (hv : v < s.acqLen u)
    (h : (v + s.acqLen u - s.fld .acqRdPtrPtr u) % s.acqLen u ≤
      (s.fld .acqWrPtrPtr u + s.acqLen u - s.fld .acqRdPtrPtr u) % s.acqLen u) :
    s.acqRdPtr u v = s.setF .acqRdPtrPtr u v := by
  have hl : max 1 (s.acqLen u) = s.acqLen u := Nat.max_eq_right (by omega)
  simp only [acqRdPtr, hl, hv, h, decide_true, Bool.and_self, if_true]

/-- A value beyond the ring is refused. -/
theorem acqRdPtr_beyond {s : State} {u v : Nat} (hv : s.acqLen u ≤ v) : s.acqRdPtr u v = s.setB .acqStatusPtrErr u true := by
  simp only [acqRdPtr, Nat.not_lt.mpr hv, decide_false, Bool.false_and, Bool.false_eq_true, if_false]

/-! ## Records (R317) -/

section
variable {s : State} {u : Nat} {r : Rec} (hn : s.acqOn u = true) (hf : r.full = true) (hw : s.acqWritten u r = true)
include hn hf hw

/-- The only record is committed, and the unit waits for a trigger. -/
theorem acqRecordCommit_last (hr : (s.acqOf u).recs = [r]) : s.acqRecordCommit u =
    ((s.acqCommit u r false).updAcq u fun a => { a with recs := [] }).setF .acqStatusState u 1 := by
  simp only [acqRecordCommit, hr, hn, hf, hw, Bool.and_self, if_true, List.isEmpty_nil, when_true]

/-- The oldest of several records is committed. -/
theorem acqRecordCommit_oldest {r2 : Rec} {rest : List Rec} (hr : (s.acqOf u).recs = r :: r2 :: rest) :
    s.acqRecordCommit u = (s.acqCommit u r false).updAcq u fun a => { a with recs := r2 :: rest } := by
  simp only [acqRecordCommit, hr, hn, hf, hw, Bool.and_self, if_true, List.isEmpty_cons, when_false]

end

/-! ## The ends of a capture (R318, R319, R321) -/

theorem acqOverflowRow_lost {s : State} {u c : Nat} {b : Bool} (hn : s.acqOn u = true)
    (hl : (s.acqOf u).lost = some (c, b)) : s.acqOverflowRow u b = s.acqOverflow u c b := by
  simp only [acqOverflowRow, hl, hn, beq_self_eq_true, Bool.and_self, if_true]

theorem acqOverflowRow_kept {s : State} {u : Nat} (hl : (s.acqOf u).lost = none) (b : Bool) : s.acqOverflowRow u b = s := by
  simp only [acqOverflowRow, hl]

theorem acqLengthDone_done {s : State} {u : Nat} (hn : s.acqOn u = true) (hd : (s.acqOf u).done = true) :
    s.acqLengthDone u = s.acqFinish u 2 := by
  simp only [acqLengthDone, hn, hd, Bool.and_self, if_true]

theorem acqLengthDone_early {s : State} {u : Nat} (hd : (s.acqOf u).done = false) : s.acqLengthDone u = s := by
  simp only [acqLengthDone, hd, Bool.and_false, Bool.false_eq_true, if_false]

/-- A stream that has lost nothing ends with its partly filled entry and its STOP mark. -/
theorem acqFinish_stream {s : State} {u : Nat} (hl : s.acqTailLost u = none) (hm : s.flag .acqCfgMode u = true)
    (cause : Nat) : s.acqFinish u cause =
      ((forEach (packFlush (s.acqSource u) (s.acqOf u).pack)
        (fun e t => t.acqWithMarks u (s.acqNext u - 1) e) s).acqEndMark u 12 (s.acqNext u) cause).acqHalt u cause := by
  simp only [acqFinish, hl, hm, if_true]

theorem acqFinish_lost {s : State} {u c : Nat} {b : Bool} (hl : s.acqTailLost u = some (c, b)) (cause : Nat) :
    s.acqFinish u cause = s.acqOverflow u c b := by
  simp only [acqFinish, hl]

end State

/-- Settles O25, row by row. That a stream's last entry without room is an overflow is the model's choice (log entry 12). -/
theorem acqRowsAct : Obligations.AcqRowsAct :=
  ⟨fun _ _ h => perform_act (when_of h),
    fun _ _ _ h hu hv hp => run_to ((when_of (by rw [h, hu]; rfl)).trans (acqRdPtr_within hv hp)) rfl rfl,
    fun _ _ _ h hu hv => run_to ((when_of (by rw [h, hu]; rfl)).trans (acqRdPtr_beyond hv)) rfl rfl,
    fun _ _ _ hn hr hf hw => perform_act (acqRecordCommit_last hn hf hw hr),
    fun _ _ _ _ _ hn hr hf hw => perform_act (acqRecordCommit_oldest hn hf hw hr),
    fun _ _ _ _ hn hl => perform_act (acqOverflowRow_lost hn hl),
    fun _ _ b hl => perform_act (acqOverflowRow_kept hl b),
    fun _ _ hn hd => perform_act (acqLengthDone_done hn hd),
    fun _ _ cause hl hm => acqFinish_stream hl hm cause,
    fun _ _ cause _ _ hl => acqFinish_lost hl cause,
    fun _ _ hd => perform_act (acqLengthDone_early hd)⟩

end Sys2Proof.Machine
end

section
/-!
PROOFS. The journal: its configuration, the moves of its packets, the drain to the host ring and the host's read pointer.
-/

namespace Sys2Proof.Machine
open State

namespace State

section
variable {s : State} {p : Packet} {rest : List Packet}

/-! ## Moving packets (R347) -/

theorem jrnSpill_head (hh : s.jrn.head = p :: rest) (hs : s.headToSpill = true) :
    s.jrnSpill = s.setJrn { s.jrn with head := rest, spill := s.jrn.spill ++ [p] } := by
  simp only [jrnSpill, hh, hs, if_true]

section
variable (ht : s.jrn.tail.length < 64)
include ht

theorem jrnRefill_spill (hs : s.jrn.spill = p :: rest) :
    s.jrnRefill = s.setJrn { s.jrn with spill := rest, tail := s.jrn.tail ++ [p] } := by
  simp only [jrnRefill, hs, Nat.not_le.mpr ht, if_false]

theorem jrnRefill_head (hs : s.jrn.spill = []) (hh : s.jrn.head = p :: rest) :
    s.jrnRefill = s.setJrn { s.jrn with head := rest, tail := s.jrn.tail ++ [p] } := by
  simp only [jrnRefill, hs, hh, Nat.not_le.mpr ht, if_false]

end

/-! ## Draining (R347, R348) -/

theorem jrnDrain_empty (ht : s.jrn.tail = []) : s.jrnDrain = s := by
  simp only [jrnDrain, ht]

/-- A packet that fits before the ring's end needs no padding. -/
theorem jrnPad_fits (hp : p.blocks ≤ s.hostBlocks - s.fld .jrnHostWrBlk) : s.jrnPad p = 0 := by
  simp only [jrnPad, Nat.not_lt.mpr hp, if_false]

theorem jrnMayDrain_fits (hp : p.blocks ≤ s.hostBlocks - s.fld .jrnHostWrBlk) (hb : s.hostBlocks ≠ 0)
    (hf : p.blocks ≤ s.hostFree) (hl : s.pcie.linkUp = true) : s.jrnMayDrain p = true := by
  simp only [jrnMayDrain, jrnPad_fits hp, Nat.add_zero, hf, hl, bne_iff_ne.mpr hb, decide_true, Bool.and_self]

/-- The oldest packet of the tail buffer goes to the host ring, and the write-pointer word after it. -/
theorem jrnDrain_fits (ht : s.jrn.tail = p :: rest) (hp : p.blocks ≤ s.hostBlocks - s.fld .jrnHostWrBlk)
    (hm : s.jrnMayDrain p = true) : s.jrnDrain =
      let q := { p with gap := s.jrn.gap }
      let s := s.hostRing q.bytes q.blocks
      let s := s.emit (.hostWrite (BitVec.ofNat 64 (s.rd .jrnWpAddr)) (leBytes 8 (s.fld .jrnHostWrBlk + 2 ^ 32 * q.seq)))
      let s := (s.setJrn { s.jrn with tail := rest, gap := false }).jrnCount 0 0 0 1 0
      if s.jrnAtMark then s.irq 1 else s := by
  simp only [jrnDrain, ht, hm, jrnPad_fits hp, when, Bool.not_true, Bool.false_eq_true, if_false, if_true]

end

/-! ## The host's read pointer (R348, R354) -/

section
variable {s : State} {v : Nat} (hv : v < max 1 s.hostBlocks)
  (hh : (v + max 1 s.hostBlocks - s.fld .jrnHostRdBlk) % max 1 s.hostBlocks ≤ s.hostHeld)
include hv hh

/-- The first write of a cycle keeps the old pointer, by which this cycle's drain still goes. -/
theorem jrnHostRd_first (hc : s.jrn.rdAt ≠ s.cyc + 1) : s.jrnHostRd v =
    (s.setJrn { s.jrn with rdOld := s.fld .jrnHostRdBlk, rdAt := s.cyc + 1 }).setF .jrnHostRdBlk 0 v := by
  simp only [jrnHostRd, hv, hh, hc, decide_true, Bool.and_self, if_true, if_false]

theorem jrnHostRd_again (hc : s.jrn.rdAt = s.cyc + 1) : s.jrnHostRd v = s.setF .jrnHostRdBlk 0 v := by
  simp only [jrnHostRd, hv, hh, hc, decide_true, Bool.and_self, if_true]

end

theorem jrnHostRd_beyond {s : State} {v : Nat} (hv : max 1 s.hostBlocks ≤ v) :
    s.jrnHostRd v = s.setB .jrnStatusPtrErr 0 true := by
  simp only [jrnHostRd, Nat.not_lt.mpr hv, decide_false, Bool.false_and, Bool.false_eq_true, if_false]

end State

/-- Settles O33, each row by the lemma of its case. -/
theorem journalCommandsApply : Obligations.JournalCommandsApply := by
  refine ⟨fun s c h => command_done h rfl rfl,
    fun s p rest hh hs => perform_act (jrnSpill_head hh hs),
    fun s hs => perform_act (if_pos (by rw [hs]; rfl)),
    fun s p rest ht hs => perform_act ((if_pos (by simp [ht, hs])).trans ?_),
    fun s p rest ht hs => perform_act (jrnRefill_spill ht hs),
    fun s p rest ht hs hh => perform_act (jrnRefill_head ht hs hh),
    fun s p rest ht hp hb hf hl => perform_act (jrnDrain_fits ht hp (jrnMayDrain_fits hp hb hf hl)),
    fun s b ht => perform_act ?_,
    fun s v h hv hh hc => run_act ((if_pos h).trans (jrnHostRd_first hv hh hc)),
    fun s v h hv hh hc => run_to ((if_pos h).trans (jrnHostRd_again hv hh hc)) rfl rfl,
    fun s v h hv => run_to ((if_pos h).trans (jrnHostRd_beyond hv)) rfl rfl⟩
  · simp only [jrnDropBad, hs, List.isEmpty_cons, Bool.not_false, Bool.false_eq_true, if_false, List.drop_succ_cons,
      List.drop_zero]
  · cases b with
    | false => exact jrnDrain_empty ht
    | true => simp [ht]

end Sys2Proof.Machine
end

section
/-!
PROOFS. The DMA engine: its registers, descriptors, requests, replies and retirement, and D3hot.
-/

namespace Sys2Proof.Machine
open State

/-- The second of two writes to one key decides, where the first left the key listed. -/
theorem SMap.put_put {α : Type} [DecidableEq α] (d : α) (m : SMap α) (k : Nat) {v : α} (w : α) (hv : v ≠ d) :
    SMap.put d (SMap.put d m k v) k w = SMap.put d m k w := by
  induction m with
  | nil => simp [SMap.put, hv, SMap.dropTo]
  | cons p t ih =>
    obtain ⟨j, x⟩ := p
    rcases Nat.lt_trichotomy k j with h | rfl | h
    · simp [SMap.put, hv, h, SMap.dropTo, Nat.not_le.mpr h]
    · simp [SMap.put, hv]
    · simp [SMap.put, Nat.lt_asymm h, Nat.ne_of_gt h, ih]

/-- A row's outcome, from the state that its effect leaves when the queue and the variant stay. -/
theorem run_of_outside {f : State → State} {s t : State} (h : f s = t) (ho : t.outside = s.outside) : run f s = .next t :=
  run_to h (congrArg Prod.fst ho) (congrArg Prod.snd ho)

namespace State

/-! ## What the operations of a channel leave alone -/

theorem updDma_updDma (s : State) (i : Nat) {f : DmaChan → DmaChan} (g : DmaChan → DmaChan)
    (h : f (s.dmaOf i) ≠ DmaChan.init) : (s.updDma i f).updDma i g = s.updDma i fun x => g (f x) := by
  simp only [updDma, dmaOf_setDma]
  simp only [setDma, SMap.put_put _ _ _ _ h]

theorem dmaHalt_outside (s : State) (i : Nat) : (s.dmaHalt i).outside = s.outside := irq_outside _ _

theorem aerNote_outside (s : State) (b : Nat) : (s.aerNote b).outside = s.outside := by
  unfold aerNote
  split
  · rfl
  · rfl

theorem setDma_outside (s : State) (i : Nat) (x : DmaChan) : (s.setDma i x).outside = s.outside := rfl

theorem wr_outside (s : State) (r : Reg) (i v : Nat) : (s.wr r i v).outside = s.outside := rfl

theorem setF_outside (s : State) (f : Fld) (i v : Nat) : (s.setF f i v).outside = s.outside := rfl

theorem setB_outside (s : State) (f : Fld) (i : Nat) (b : Bool) : (s.setB f i b).outside = s.outside := rfl

theorem updDma_outside (s : State) (i : Nat) (f : DmaChan → DmaChan) : (s.updDma i f).outside = s.outside := rfl

/-! ## The registers of a channel (R368, R379) -/

theorem bucketRate_outside (s : State) (i v : Nat) : (s.bucketRate i v).outside = s.outside := rfl

theorem dmaTail_below {s : State} {i v : Nat} (h : v % 65536 < s.ringLen i) : s.dmaTail i v =
    (when (decide (s.dmaAhead i (v % 65536) < s.dmaAhead i (s.fld .dmaTailIndex i)))
      (fun s => s.updDma i fun x => { x with copies := [] }) s).setF .dmaTailIndex i (v % 65536) := by
  simp only [dmaTail, h, if_true]

theorem dmaTail_beyond {s : State} {i v : Nat} (h : s.ringLen i ≤ v % 65536) :
    s.dmaTail i v = s.setB .dmaStatusPtrErr i true := by
  simp only [dmaTail, Nat.not_lt.mpr h, if_false]

/-- During Dawn and while an error stands, a write with RUN = 1 is ignored. -/
theorem dmaRunSet_ignored {s : State} {i : Nat} (v : Nat) (h : s.dev ≤ 1 ∨ s.flag .dmaStatusErr i = true ∨
    s.flag .dmaStatusGroupHalt i = true ∨ s.flag .grpPfStatusPfErr (i / 8) = true) : s.dmaRunSet i v = s := by
  refine if_pos ?_
  simpa only [Bool.or_eq_true, decide_eq_true_eq, or_assoc] using h

section
variable {s : State} {i : Nat} (hd : 1 < s.dev) (he : s.flag .dmaStatusErr i = false)
  (hg : s.flag .dmaStatusGroupHalt i = false) (hp : s.flag .grpPfStatusPfErr (i / 8) = false)
include hd he hg hp

theorem dmaRunSet_again (v : Nat) (hr : s.flag .dmaCtrlRun i = true) : s.dmaRunSet i v = s.bucketRate i v := by
  simp only [dmaRunSet, Nat.not_le.mpr hd, he, hg, hp, hr, decide_false, Bool.or_self, Bool.false_eq_true, if_false, if_true]

theorem dmaRunSet_starts (v : Nat) (hr : s.flag .dmaCtrlRun i = false) (hl : 2 ≤ s.ringLen i) : s.dmaRunSet i v =
    let s := ((s.bucketRate i v).setB .dmaCtrlRun i true).setF .dmaStatusState i 1
    s.updDma i fun x => { x with bucket := bucketUnit * (64 * 2 ^ s.fld .dmaCtrlBurst i), bucketAt := s.cyc } := by
  simp only [dmaRunSet, bucketCap, Nat.not_le.mpr hd, he, hg, hp, hr, Nat.not_lt.mpr hl, decide_false, Bool.or_self, Bool.false_eq_true,
    if_false]

theorem dmaRunSet_short (v : Nat) (hr : s.flag .dmaCtrlRun i = false) (hl : s.ringLen i < 2) :
    s.dmaRunSet i v = s.setB .dmaStatusPtrErr i true := by
  simp only [dmaRunSet, Nat.not_le.mpr hd, he, hg, hp, hr, hl, decide_false, Bool.or_self, Bool.false_eq_true, if_false,
    if_true]

end

section
variable {s : State} {i : Nat} (hr : s.flag .dmaCtrlRun i = true)
include hr

/-- A running channel between descriptors stops at once. -/
theorem dmaStop_idle (hd : (s.dmaOf i).desc = none) : s.dmaStop i =
    ((s.setB .dmaCtrlRun i false).updDma i fun x => { x with copies := [] }).setF .dmaStatusState i 0 := by
  have hn : (((s.setB .dmaCtrlRun i false).updDma i fun x => { x with copies := [] }).dmaOf i).desc = none := by
    rw [updDma, dmaOf_setDma]; exact hd
  simp only [dmaStop, hr, hn, if_true, Option.isSome_none, Bool.false_eq_true, if_false]

/-- One with a descriptor aborts after it, unless a request of it has failed. -/
theorem dmaStop_busy (hd : (s.dmaOf i).desc ≠ none) : s.dmaStop i =
    (s.setB .dmaCtrlRun i false).updDma i fun x => { x with
      copies := []
      aborting := !(x.err.isSome || x.pend.any (fun r => r.kind != 0)) } := by
  have hs : (((s.setB .dmaCtrlRun i false).updDma i fun x => { x with copies := [] }).dmaOf i).desc.isSome = true := by
    rw [updDma, dmaOf_setDma]; exact Option.isSome_iff_ne_none.mpr hd
  simp only [dmaStop, hr, hs, if_true]
  exact updDma_updDma _ i _ fun h => hd (congrArg DmaChan.desc h)

end

/-! ## A descriptor starts (R368, R380) -/

theorem dmaStart_at_head {s : State} {i : Nat} {w : List Word} {d : List Word} {ds : List (List Word)}
    (hl : s.pcie.linkUp = true) (h3 : s.pcie.d3hot = false) (hr : s.flag .dmaCtrlRun i = true)
    (hst : s.fld .dmaStatusState i = 1) (hn : (s.dmaOf i).desc = none)
    (hh : s.fld .dmaHeadIndex i ≠ s.fld .dmaTailIndex i) (hg : s.flag .dmaStatusGroupHalt i = false)
    (hc : (s.dmaOf i).copies ++ descWords w = d :: ds) : s.dmaStart i w =
      (s.wr .dmaRemain i (dmaDecode d).len).setDma i { s.dmaOf i with
        desc := some (dmaDecode d)
        issued := 0
        done := 0
        pend := []
        aborting := false
        mism := none
        err := if (dmaDecode d).bad then some (9, false, false, s.rd .dmaRingBase i + 32 * s.fld .dmaHeadIndex i) else none
        req := (s.dmaOf i).req + BitVec.ofNat 48 (dmaDecode d).len
        copies := ds.take (min 4 ((s.wr .dmaRemain i (dmaDecode d).len).dmaAhead i
          ((s.wr .dmaRemain i (dmaDecode d).len).fld .dmaTailIndex i) - 1)) } := by
  simp only [dmaStart, dmaState, hl, h3, hr, hst, hn, hg, hc, bne_iff_ne.mpr hh, Option.isNone_none, Bool.not_false,
    List.isEmpty_cons, List.headD_cons, List.drop_succ_cons, List.drop_zero, Bool.and_self, beq_self_eq_true, if_true]

/-! ## Requests (R371 to R373) -/

theorem readsHost_eq_false_of_copy {d : DmaDesc} (ho : d.op = 0) (hd : d.dir = 1) : readsHost d = false := by
  simp [readsHost, ho, hd]

theorem readsHost_eq_false_of_fill {d : DmaDesc} (ho : d.op = 1) : readsHost d = false := by
  simp [readsHost, ho]

theorem dmaLen_reads (s : State) (i : Nat) {d : DmaDesc} (off : Nat) (h : readsHost d = true) :
    s.dmaLen i d off ≤ s.pcie.maxRead ∧
      s.dmaLen i d off ≤ 0x1000 - ((if d.op = 2 && d.dir = 1 then d.dst else d.src) + off) % 0x1000 := by
  have hside : (if d.op = 2 && d.dir = 1 then d.dst + off else d.src + off) =
      (if d.op = 2 && d.dir = 1 then d.dst else d.src) + off := (apply_ite (· + off) _ _ _).symm
  simp only [dmaLen, h, if_true, to4k, hside]
  omega

theorem dmaLen_writes (s : State) (i : Nat) {d : DmaDesc} (off : Nat) (h : readsHost d = false) (hw : writesHost d = true) :
    s.dmaLen i d off ≤ s.pcie.maxPayload ∧ s.dmaLen i d off ≤ 0x1000 - (d.dst + off) % 0x1000 := by
  simp only [dmaLen, h, hw, Bool.false_eq_true, if_false, if_true, to4k]
  omega

section
variable {s : State} {i : Nat} {d : DmaDesc} (hd : (s.dmaOf i).desc = some d) (hr : s.dmaReady i = true)
include hd hr

theorem dmaIssue_read (e : Ecc) (hh : readsHost d = true) (ht : s.dmaTurn i = true) : s.dmaIssue i e =
    let off := (s.dmaOf i).issued
    let n := s.dmaLen i d off
    let s : State := { s with pcie := { s.pcie with served := i } }
    ((((s.bucketTake i n).wr .dmaRemain i (d.len - off - n)).updDma i fun x => { x with issued := off + n }).updDma i
      fun x => { x with pend := x.pend ++ [⟨off, n, none, 0⟩] }).emit
        (.hostRead i (BitVec.ofNat 64 ((if d.op = 2 && d.dir = 1 then d.dst else d.src) + off)) n) := by
  simp only [dmaIssue, hd, hr, ht, hh, Bool.true_or, Bool.not_true, Bool.and_false, Bool.or_self, Bool.false_eq_true, if_false,
    when_true, if_true]

theorem dmaIssue_fillHost (e : Ecc) (ho : d.op = 1) (hdir : d.dir = 1) (ht : s.dmaTurn i = true) : s.dmaIssue i e =
    let off := (s.dmaOf i).issued
    let n := s.dmaLen i d off
    let s : State := { s with pcie := { s.pcie with served := i } }
    (((((s.bucketTake i n).wr .dmaRemain i (d.len - off - n)).updDma i
      fun x => { x with issued := off + n }).eccSeen e).emit
        (.hostWrite (BitVec.ofNat 64 (d.dst + off)) (fillBytes d off n))).dmaGain i n := by
  have hw : writesHost d = true := by simp [writesHost, ho, hdir]
  simp only [dmaIssue, hd, hr, ht, readsHost_eq_false_of_fill ho, hw, Bool.false_or, Bool.not_true, Bool.and_false,
    Bool.or_self, Bool.false_eq_true, if_false, when_true, ho, hdir]

theorem dmaIssue_fillDevice (e : Ecc) (ho : d.op = 1) (hdir : d.dir ≠ 1) : s.dmaIssue i e =
    let off := (s.dmaOf i).issued
    let n := s.dmaLen i d off
    (((s.wr .dmaRemain i (d.len - off - n)).updDma i fun x => { x with issued := off + n }).eccSeen e).dmaWrite i
      (d.dst + off) (fillBytes d off n) 2 := by
  have hw : writesHost d = false := by simp [writesHost, hdir]
  simp only [dmaIssue, hd, hr, readsHost_eq_false_of_fill ho, hw, Bool.or_self, Bool.not_true, Bool.false_and,
    Bool.false_eq_true, if_false, when_false, ho]

/-- A copy to the host, away from the start of a device burst. -/
theorem dmaIssue_copyOut {t : State} {e : Ecc} {b : List Byte} (ho : d.op = 0) (hdir : d.dir = 1) (ht : s.dmaTurn i = true)
    (hi : 0 < (s.dmaOf i).issued) (hb : (d.src + (s.dmaOf i).issued) % 0x1000 ≠ 0)
    (hs : t = ((((State.bucketTake { s with pcie := { s.pcie with served := i } } i (s.dmaLen i d (s.dmaOf i).issued)).wr
      .dmaRemain i (d.len - (s.dmaOf i).issued - s.dmaLen i d (s.dmaOf i).issued)).updDma i fun x =>
        { x with issued := (s.dmaOf i).issued + s.dmaLen i d (s.dmaOf i).issued }).eccSeen e))
    (hread : t.dmaRead (d.src + (s.dmaOf i).issued) (s.dmaLen i d (s.dmaOf i).issued) = .inr b) :
    s.dmaIssue i e = (t.emit (.hostWrite (BitVec.ofNat 64 (d.dst + (s.dmaOf i).issued))
      (swapBytes d.swap (b.take (s.dmaLen i d (s.dmaOf i).issued))))).dmaGain i (s.dmaLen i d (s.dmaOf i).issued) := by
  have hw : writesHost d = true := by simp [writesHost, ho, hdir]
  subst hs
  simp only [dmaIssue, hd, hr, ht, readsHost_eq_false_of_copy ho hdir, hw, Bool.false_or, Bool.not_true, Bool.and_false,
    Bool.or_self, Bool.false_eq_true, if_false, when_true, ho, hdir, Nat.ne_of_gt hi, decide_false, beq_eq_false_iff_ne.mpr hb,
    hread]

end

/-! ## Replies (R374, R375) -/

theorem writeRefused_dma (s : State) (n index target path : Nat) : (s.writeRefused n index target path).dma = s.dma := rfl

theorem dmaOf_congr {s t : State} (h : t.dma = s.dma) (i : Nat) : t.dmaOf i = s.dmaOf i := by simp only [dmaOf, h]

theorem dmaGain_pend (s : State) (i n : Nat) : ((s.dmaGain i n).dmaOf i).pend = (s.dmaOf i).pend := by
  simp only [dmaGain, updDma, dmaOf_setDma]

theorem dmaErr_pend (s : State) (i kind : Nat) (write dev : Bool) (addr : Nat) :
    ((s.dmaErr i kind write dev addr).dmaOf i).pend = (s.dmaOf i).pend := by
  simp only [dmaErr, updDma, dmaOf_setDma]
  split
  · rfl
  · rfl

theorem dmaCompare_pend (s : State) (i off : Nat) (p q : List Byte) :
    ((s.dmaCompare i off p q).dmaOf i).pend = (s.dmaOf i).pend := by
  rw [dmaCompare, dmaGain_pend]
  simp only [updDma, dmaOf_setDma]

theorem dmaWrite_pend (s : State) (i a : Nat) (b : List Byte) (k : Nat) :
    ((s.dmaWrite i a b k).dmaOf i).pend = (s.dmaOf i).pend := by
  induction k generalizing s a b with
  | zero => rfl
  | succ k ih =>
    simp only [dmaWrite]
    split
    · rfl
    · split
      · rw [ih, dmaGain_pend]; rfl
      · rw [dmaErr_pend]
        split
        · rw [dmaOf_congr (writeRefused_dma ..)]
        · rfl

theorem dmaMatch_pend (s : State) (i : Nat) (d : DmaDesc) (off a : Nat) (b : List Byte) (k : Nat) :
    ((s.dmaMatch i d off a b k).dmaOf i).pend = (s.dmaOf i).pend := by
  induction k generalizing s off a b with
  | zero => rfl
  | succ k ih =>
    simp only [dmaMatch]
    split
    · rfl
    · split
      · rw [dmaErr_pend]
      · rw [ih]
        split
        · rw [dmaCompare_pend]
        · rw [dmaCompare_pend]

theorem dmaArrive_pend (s : State) (i : Nat) (d : DmaDesc) (r : DmaReq) (b : List Byte) :
    ((s.dmaArrive i d r b).dmaOf i).pend = (s.dmaOf i).pend := by
  simp only [dmaArrive]
  split
  · rw [dmaWrite_pend]
  · rw [dmaMatch_pend]

theorem dmaDrain_done {s : State} {i : Nat} (h : (s.dmaOf i).pend = []) (k : Nat) : s.dmaDrain i k = s := by
  cases k with
  | zero => rfl
  | succ k => cases hd : (s.dmaOf i).desc <;> simp only [dmaDrain, hd, h]

/-- A reply that nothing waits for changes nothing of the channel. -/
theorem dmaReply_unasked {s : State} {i off : Nat} (h : ∀ r ∈ (s.dmaOf i).pend, r.off ≠ off) (kind : Nat)
    (data : Option (List Byte)) : s.dmaReply i off kind data = s := by
  refine if_neg ?_
  simpa only [List.any_eq_true, beq_iff_eq, not_exists, not_and] using h

section
variable {s : State} {i : Nat} {d : DmaDesc} {r : DmaReq} (hd : (s.dmaOf i).desc = some d)
  (hp : (s.dmaOf i).pend = [r]) (he : (s.dmaOf i).err = none)
include hd hp he

/-- Data for the one request that waits are taken. -/
theorem dmaReply_data (b : List Byte) : s.dmaReply i r.off 0 (some b) =
    ((s.setDma i { s.dmaOf i with pend := [{ r with data := some b, kind := 0 }] }).setDma i
      { s.dmaOf i with pend := [] }).dmaArrive i d { r with data := some b, kind := 0 } b := by
  simp only [dmaReply, hp, List.any_cons, beq_self_eq_true, Bool.true_or, if_true, List.map_cons, List.map_nil,
    List.length_cons, List.length_nil, dmaDrain, dmaOf_setDma, hd, he, ne_eq, not_true_eq_false, if_false,
    Option.isSome_none, Bool.false_eq_true]
  exact dmaDrain_done (by rw [dmaArrive_pend, dmaOf_setDma]) 1

/-- An error for it is kept with its kind and its address, as a read of the host. -/
theorem dmaReply_error {kind : Nat} (hk : kind ≠ 0) : s.dmaReply i r.off kind none =
    ((s.setDma i { s.dmaOf i with pend := [{ r with data := none, kind := kind }] }).setDma i
      { s.dmaOf i with pend := [] }).updDma i fun x => { x with
        err := some (kind, false, false, (if d.op = 2 && d.dir = 1 then d.dst else d.src) + r.off) } := by
  simp only [dmaReply, hp, List.any_cons, beq_self_eq_true, Bool.true_or, if_true, List.map_cons, List.map_nil,
    List.length_cons, List.length_nil, dmaDrain, dmaOf_setDma, hd, ne_eq, hk, not_false_eq_true]
  refine (dmaDrain_done (by rw [dmaErr_pend, dmaOf_setDma]) 1).trans ?_
  simp only [dmaErr, updDma, dmaOf_setDma, he, Option.isSome_none, Bool.false_eq_true, if_false]

end

theorem dmaOf_aerNote (s : State) (b i : Nat) : (s.aerNote b).dmaOf i = s.dmaOf i := by
  unfold aerNote
  split
  · rfl
  · rfl

theorem dmaCompletion_asked {s : State} {i : Nat} {r : DmaReq} (hp : (s.dmaOf i).pend = [r]) (hk : r.kind = 0)
    (hr : r.data = none) (kind : Nat) (data : Option (List Byte)) :
    s.dmaCompletion i r.off kind data = (s.aerNote (aerBit kind)).dmaReply i r.off kind data := by
  refine if_pos ?_
  simp [hp, hk, hr]

/-- A completion that nothing waits for is noted as unexpected. -/
theorem dmaCompletion_unasked {s : State} {i off kind : Nat} (hl : s.pcie.linkUp = true) (hk : kind ≠ 3)
    (h : ∀ r ∈ (s.dmaOf i).pend, ¬ (r.off = off ∧ r.kind = 0 ∧ r.data = none)) (data : Option (List Byte)) :
    s.dmaCompletion i off kind data = s.aerNote 16 := by
  refine (if_neg ?_).trans (if_pos (by rw [hl, bne_iff_ne.mpr hk]; rfl))
  simpa [List.any_eq_true, and_assoc] using h

/-! ## Retirement (R372, R375, R379) -/

/-- The completion word of the descriptor at HEAD, HEAD behind it, and its count and interrupt. -/
def dmaAnswer (s : State) (i : Nat) (d : DmaDesc) (status result : Nat) : State :=
  when d.irq (fun s => s.irq (8 + i)) (((s.emit
    (.hostWrite (BitVec.ofNat 64 (s.rd .dmaRingBase i + 32 * s.fld .dmaHeadIndex i + 24))
      (leBytes 4 status ++ leBytes 4 result))).setF .dmaHeadIndex i
        ((s.fld .dmaHeadIndex i + 1) % max 1 (s.ringLen i))).bump .dmaDescDone i)

theorem dmaAnswer_outside (s : State) (i : Nat) (d : DmaDesc) (status result : Nat) :
    (s.dmaAnswer i d status result).outside = s.outside :=
  when_keeps outside _ (fun t => t.irq_outside _) _ _

/-- An answer leaves the channel's control register alone. -/
theorem dmaAnswer_run (s : State) (i : Nat) (d : DmaDesc) (status result : Nat) :
    (s.dmaAnswer i d status result).flag .dmaCtrlRun i = s.flag .dmaCtrlRun i := by
  refine (when_keeps (State.flag · .dmaCtrlRun i) _ (fun t => (t.irq_regsKept _).flag (by decide) i) _ _).trans ?_
  simp only [flag, fld, rd_bump_reg, rd_setF_reg, ne_eq, reduceCtorEq, not_false_eq_true]
  rfl

section
variable {s : State} {i : Nat} {d : DmaDesc} (hd : (s.dmaOf i).desc = some d) (hp : (s.dmaOf i).pend = [])
include hd hp

section
variable (he : (s.dmaOf i).err = none) (ha : (s.dmaOf i).aborting = false) (hl : d.len ≤ (s.dmaOf i).issued)
  (hh : (s.dmaOf i).haltDue = false)
include he ha hl hh

/-- A descriptor with neither an error nor a mismatch. -/
theorem dmaRetire_ok (hm : (s.dmaOf i).mism = none) :
    s.dmaRetire i = (s.dmaAnswer i d 1 0).setDma i { s.dmaOf i with desc := none } := by
  simp only [dmaRetire, hd, hp, he, ha, hm, hh, hl, decide_true, List.isEmpty_nil, Option.isSome_none, Bool.not_true,
    Bool.or_true, Bool.or_self, Bool.false_and, Bool.false_eq_true, if_false, Option.getD_none]
  simp only [← he, ← ha]
  rfl

/-- A comparison that differs, which is not to halt the channel. -/
theorem dmaRetire_mismatch {m : Nat} (hm : (s.dmaOf i).mism = some m) (hn : d.haltMism = false) :
    s.dmaRetire i = (s.dmaAnswer i d 3 m).setDma i { s.dmaOf i with desc := none } := by
  simp only [dmaRetire, hd, hp, he, ha, hm, hn, hh, hl, decide_true, List.isEmpty_nil, Option.isSome_none, Option.isSome_some,
    Bool.not_true, Bool.or_true, Bool.or_self, Bool.and_false, Bool.false_eq_true, if_false, if_true, Option.getD_some]
  simp only [← he, ← ha]
  rfl

end

/-- A descriptor whose channel was stopped. -/
theorem dmaRetire_aborted (ha : (s.dmaOf i).aborting = true) (hh : (s.dmaOf i).haltDue = false)
    (hr : s.flag .dmaCtrlRun i = false) : s.dmaRetire i =
      ((((s.dmaAnswer i d 90 (d.len - (s.dmaOf i).done)).setDma i { s.dmaOf i with
        desc := none
        err := none
        aborting := false
        fail := (s.dmaOf i).fail + BitVec.ofNat 48 (d.len - (s.dmaOf i).done) })).wr .dmaErrInfo i 11).setF
          .dmaStatusState i 0 := by
  have hrun (x : DmaChan) : (((s.dmaAnswer i d 90 (d.len - (s.dmaOf i).done)).setDma i x).wr .dmaErrInfo i 11).flag
      .dmaCtrlRun i = false := by
    refine Eq.trans ?_ ((s.dmaAnswer_run i d 90 (d.len - (s.dmaOf i).done)).trans hr)
    simp only [flag, fld, rd_wr_reg, ne_eq, reduceCtorEq, not_false_eq_true]
    rfl
  have hidle (x : DmaChan) : (((s.dmaAnswer i d 90 (d.len - (s.dmaOf i).done)).setDma i x).wr .dmaErrInfo i 11).setF
      .dmaStatusState i (ofBool ((((s.dmaAnswer i d 90 (d.len - (s.dmaOf i).done)).setDma i x).wr .dmaErrInfo i 11).flag
        .dmaCtrlRun i)) =
      (((s.dmaAnswer i d 90 (d.len - (s.dmaOf i).done)).setDma i x).wr .dmaErrInfo i 11).setF .dmaStatusState i 0 := by
    rw [hrun x]; rfl
  simp only [dmaRetire, hd, hp, ha, hh, List.isEmpty_nil, Bool.not_true, Bool.or_true, Bool.true_or, Bool.or_self,
    Bool.false_eq_true, if_false, if_true]
  exact hidle _

/-- A descriptor one of whose requests failed: the error is shown, and the channel halts. -/
theorem dmaRetire_failed {k a : Nat} {w dv : Bool} (he : (s.dmaOf i).err = some (k, w, dv, a))
    (ha : (s.dmaOf i).aborting = false) : s.dmaRetire i =
      (((((s.dmaAnswer i d (2 + 8 * k) (d.len - (s.dmaOf i).done)).setDma i { s.dmaOf i with
        desc := none
        err := none
        fail := (s.dmaOf i).fail + BitVec.ofNat 48 (d.len - (s.dmaOf i).done) }).wr .dmaErrInfo i
          (k + 32 * ofBool w + 64 * ofBool dv)).wr .dmaErrAddr i a).setB .dmaStatusErr i true).dmaHalt i := by
  simp only [dmaRetire, hd, hp, he, ha, List.isEmpty_nil, Option.isSome_some, Bool.not_true, Bool.true_or,
    Bool.or_self, Bool.or_false, Bool.false_eq_true, if_false, if_true]
  simp only [← ha]
  rfl

end

/-! ## A descriptor fetch fails (R377) -/

theorem dmaFetchFail_outside (s : State) (g kind : Nat) : (s.dmaFetchFail g kind).outside = s.outside := by
  refine forEach_keeps outside _ (fun k t => ?_) _ _
  dsimp only
  split
  · rfl
  · exact dmaHalt_outside _ _

end State

/-- Settles O49, row by row. What is asked before RUN acts, and that no request exceeds the limiter's bucket, is the model's
choice (log entry 10). -/
theorem dmaRowsAct : Obligations.DmaRowsAct := by
  refine ⟨fun s i v h hv => run_of_outside ((if_pos h).trans (dmaTail_below hv))
      (when_keeps outside (fun s : State => s.updDma i fun x => { x with copies := [] }) (fun _ => rfl) _ s),
    fun s i v h hv => run_to ((if_pos h).trans (dmaTail_beyond hv)) rfl rfl,
    fun s t i v h ht hd he hg hp => ⟨fun hr => ?_, fun hr hl => ?_, fun hr hl => ?_⟩,
    fun s i v h => run_to ?_ rfl rfl,
    fun s t i v h ht hr => ⟨fun hd => ?_, fun hd => ?_⟩,
    fun s i w d ds hl h3 hr hst hn hh hg hc => run_to (dmaStart_at_head hl h3 hr hst hn hh hg hc) rfl rfl,
    fun s d i e hd hh hr ht => perform_act (dmaIssue_read hd hr e hh ht),
    fun s d i e hd ho hdir hr ht => perform_act (dmaIssue_fillHost hd hr e ho hdir ht),
    fun s d i e hd ho hdir hr => perform_act (dmaIssue_fillDevice hd hr e ho hdir),
    fun s t d i e b hd ho hdir hr ht hi hb hs hread =>
      run_act (congrArg settle (dmaIssue_copyOut hd hr ho hdir ht hi hb hs hread)),
    fun s i d off h => dmaLen_reads s i off h, fun s i d off h hw => dmaLen_writes s i off h hw,
    fun s i off kind data h => dmaReply_unasked h kind data,
    fun s d r i b e hc hd hp hk hr he => perform_act ?_,
    fun s d r i hd hp hk hr he => run_of_outside ((dmaCompletion_asked hp hk hr _ _).trans ?_)
      ((updDma_outside ..).trans ((setDma_outside ..).trans ((setDma_outside ..).trans (aerNote_outside s 14)))),
    fun s i off e hc hl h => perform_act ?_,
    fun s d i hd hp he ha hl hm hh => run_of_outside (dmaRetire_ok hd hp he ha hl hh hm) (dmaAnswer_outside s i d 1 0),
    fun s d m i hd hp he ha hl hm hn hh =>
      run_of_outside (dmaRetire_mismatch hd hp he ha hl hh hm hn) (dmaAnswer_outside s i d 3 m),
    fun s d i hd hp ha hh hr => run_of_outside (dmaRetire_aborted hd hp ha hh hr) (dmaAnswer_outside s i d 90 _),
    fun s d k w dv a i hd hp he ha => run_of_outside (dmaRetire_failed hd hp he ha)
      ((dmaHalt_outside _ _).trans ((setB_outside ..).trans ((wr_outside ..).trans ((wr_outside ..).trans
        ((setDma_outside ..).trans (dmaAnswer_outside s i d (2 + 8 * k) _)))))),
    fun s g kind h => run_of_outside (if_pos (List.contains_iff_mem.mpr h))
      ((dmaFetchFail_outside _ _ _).trans (aerNote_outside _ _)), fun s i => rfl⟩
  · obtain rfl : t = s.bucketRate i v.toNat := ht
    exact run_of_outside ((if_pos h).trans (dmaRunSet_again hd he hg hp _ hr)) (bucketRate_outside s i v.toNat)
  · obtain rfl : t = s.bucketRate i v.toNat := ht
    exact run_of_outside ((if_pos h).trans (dmaRunSet_starts hd he hg hp _ hr hl))
      ((updDma_outside ..).trans ((setF_outside ..).trans ((setB_outside ..).trans (bucketRate_outside s i v.toNat))))
  · exact run_to ((if_pos h).trans (dmaRunSet_short hd he hg hp _ hr hl)) rfl rfl
  · rw [dmaRunSet_ignored _ h, ite_self]
  · obtain rfl : t = s.bucketRate i v.toNat := ht
    exact run_of_outside ((if_pos h).trans (dmaStop_idle hr hd))
      ((setF_outside ..).trans ((updDma_outside ..).trans ((setB_outside ..).trans (bucketRate_outside s i v.toNat))))
  · obtain rfl : t = s.bucketRate i v.toNat := ht
    exact run_of_outside ((if_pos h).trans (dmaStop_busy hr hd))
      ((updDma_outside ..).trans ((setB_outside ..).trans (bucketRate_outside s i v.toNat)))
  · subst hc
    refine (dmaCompletion_asked hp hk hr 0 (some b)).trans ((dmaReply_data hd hp he b).trans ?_)
    rw [← hk]
  · have hd' : ((s.aerNote 14).dmaOf i).desc = some d := by rw [dmaOf_aerNote, hd]
    have hp' : ((s.aerNote 14).dmaOf i).pend = [r] := by rw [dmaOf_aerNote, hp]
    have he' : ((s.aerNote 14).dmaOf i).err = none := by rw [dmaOf_aerNote, he]
    have hrep := dmaReply_error hd' hp' he' (kind := 3) (by decide)
    rw [dmaOf_aerNote] at hrep
    exact hrep
  · subst hc
    exact dmaCompletion_unasked hl (by decide) h none

/-- Settles O50: the state by R359, and what it leaves to a descriptor that has failed by R379 (log entry 10). -/
theorem d3hotStopsTheEngine : Obligations.D3hotStopsTheEngine :=
  ⟨fun _ h => run_act (if_pos h), fun _ _ => rfl, fun _ _ _ h => run_act (if_pos h), fun _ => run_to rfl rfl rfl⟩

end Sys2Proof.Machine
end

section
/-!
PROOFS. Calibration and housekeeping: CAL_RUN, saves to NVM, slices, and the HKADC.
-/

namespace Sys2Proof.Machine
open State

namespace State

/-! ## CAL_RUN and the saves (R466, R469) -/

theorem calRunEnd_done {s : State} {l : LongCmd} (hl : s.findLong 0x700 = some l) (hw : s.calWaits = 0) :
    s.calRunEnd = s.completeAs l 0 0 0 0 := by
  simp only [calRunEnd, hl, hw, if_true]

theorem calRunEnd_timeout {s : State} {l : LongCmd} (hl : s.findLong 0x700 = some l) (hw : s.calWaits ≠ 0)
    (ht : l.accCyc + 62500000 * s.fld .calStaleStale + 62500000 ≤ s.cyc) :
    s.calRunEnd = s.completeAs l 0 (2 ^ 31) s.calWaits 0 := by
  simp only [calRunEnd, hl, hw, if_false, cyc100ms, ht, if_true]

/-- Both copies of the record are written, and CAL_SAVE completes. -/
theorem saveEnd_stored {s : State} {l : LongCmd} {r : SMap CalUnit} {a b : Nat} (hs : s.nvm.saving = some r)
    (ha : s.nvm.auto = false) (hp : s.nvmPair = some (a, b)) (hl : s.findLong 0x701 = some l) : s.saveEnd =
      let seq := s.nvm.seq + 1
      let w := SMap.put 0 s.nvm.wear a (SMap.get 0 s.nvm.wear a + 1)
      let m := SMap.put none s.nvm.sectors a (some ⟨0x4351, 1, seq, Config.recordSize.toNat, 0, r, true⟩)
      ((({ s with
        nvm := { s.nvm with
          sectors := SMap.put none m b (some ⟨0x4351, 1, seq, Config.recordSize.toNat, 1, r, true⟩)
          wear := SMap.put 0 w b (SMap.get 0 w b + 1)
          saving := none
          auto := false
          lastSave := s.cyc } } : State).wr .calNvmSeq 0 seq).completeAs l 0 0 0 0) := by
  simp only [saveEnd, nvmEnd, nvmStore, hs, ha, hp, hl, Option.isNone_some, Bool.false_eq_true, if_false, if_true]

/-- With no two usable sectors nothing is written, and CAL_SAVE fails. -/
theorem saveEnd_worn {s : State} {l : LongCmd} {r : SMap CalUnit} (hs : s.nvm.saving = some r)
    (ha : s.nvm.auto = false) (hp : s.nvmPair = none) (hl : s.findLong 0x701 = some l) : s.saveEnd =
      (({ s with
        nvm := { s.nvm with
          saving := none
          auto := false
          changed := true } } : State).setB .calNvmStatusWorn 0 true).completeAs l 0 (2 ^ 31) 0 0 := by
  simp only [saveEnd, nvmEnd, hs, ha, hp, hl, Option.isNone_some, Bool.false_eq_true, if_false]

theorem foldl_leastWorn_mem (s : State) (a : Nat) (l : List Nat) :
    l.foldl (fun b k => if SMap.get 0 s.nvm.wear k < SMap.get 0 s.nvm.wear b then k else b) a ∈ a :: l := by
  induction l generalizing a with
  | nil => exact List.mem_singleton_self a
  | cons k l ih =>
    rw [List.foldl_cons]
    split
    · exact List.mem_cons_of_mem _ (ih k)
    · rcases List.mem_cons.mp (ih a) with h | h
      · rw [h]; exact List.mem_cons_self
      · exact List.mem_cons_of_mem _ (List.mem_cons_of_mem _ h)

theorem leastWorn_mem {s : State} {l : List Nat} {a : Nat} (h : s.leastWorn l = some a) : a ∈ l := by
  cases l with
  | nil => cases h
  | cons b l => exact Option.some.inj h ▸ foldl_leastWorn_mem s b l

theorem nvmFree_nodup (s : State) : s.nvmFree.Nodup := List.Nodup.filter _ List.nodup_range

/-- A save takes two different free sectors. -/
theorem nvmPair_free {s : State} {a b : Nat} (h : s.nvmPair = some (a, b)) : a ∈ s.nvmFree ∧ b ∈ s.nvmFree ∧ a ≠ b := by
  unfold nvmPair at h
  cases hx : s.leastWorn s.nvmFree with
  | none => simp only [hx, reduceCtorEq] at h
  | some x =>
    simp only [hx, Option.map_eq_some_iff, Prod.mk.injEq] at h
    obtain ⟨y, hy, rfl, rfl⟩ := h
    obtain ⟨hne, hmem⟩ := (nvmFree_nodup s).mem_erase_iff.mp (leastWorn_mem hy)
    exact ⟨leastWorn_mem hx, hmem, hne.symm⟩

/-- The sectors of the record in force are not free. -/
theorem not_mem_nvmFree {s : State} {k : Nat} {c : NvmCopy} (h : SMap.get none s.nvm.sectors k = some c)
    (hv : c.valid = true) (hs : c.seq = s.nvm.seq) : k ∉ s.nvmFree := by
  simp [nvmFree, h, hv, hs]

theorem autosave_due {s : State} (he : s.flag .calCfgAutosave = true) (hc : s.nvm.changed = true)
    (ht : s.nvm.lastSave + 86400 * 625000000 ≤ s.cyc) (hs : s.nvm.saving = none) (hl : ∀ l ∈ s.ce.longs, l.cls ≠ .nvm)
    (hd : s.served = true) : s.autosave = s.nvmBegin true := by
  have hlongs : s.ce.longs.any (fun l => l.cls == .nvm) = false := by simpa using hl
  simp only [autosave, cycDay, cycS, he, hc, ht, hs, hlongs, hd, decide_true, Option.isNone_none, Bool.not_false, Bool.and_self,
    if_true]

/-! ## Slices (R459, R460, R462, R463) -/

theorem calStart_due {s : State} {k i : Nat} (hr : s.calReady k i = true) (ht : s.calTurn k i = true) : s.calStart k i =
    let live := decide (k ≤ 1) && s.outState i == 2
    let t := s.setCalUnit k i { s.calUnit k i with
      slice := some s.cyc
      restore := (s.calUnit k i).restore || live }
    if live then t.outStop i false else t := by
  simp only [calStart, hr, ht, Bool.and_self, if_true]
  rfl

/-- A slice of a unit that does not use the HKADC ends with its trims. -/
theorem calEnd_done {s : State} {k i c : Nat} (m : List Word) (h3 : k ≠ 3) (h5 : k ≠ 5)
    (hs : (s.calUnit k i).slice = some c) (hc : c + sliceLen k ≤ s.cyc) (hv : s.hk.vrefBad = false) :
    s.calEnd k i m = (s.calDone k i m).calReturn k i := by
  simp only [calEnd, hs, hc, hv, beq_eq_false_iff_ne.mpr h3, beq_eq_false_iff_ne.mpr h5, Bool.or_self, Bool.false_and,
    when_false, Bool.false_eq_true, if_false, if_true]

/-- A slice of a kind that needs VREFIN fails while that is out of tolerance. -/
theorem calEnd_failed {s : State} {k i c : Nat} (m : List Word) (hk : k = 0 ∨ k = 2)
    (hs : (s.calUnit k i).slice = some c) (hc : c + sliceLen k ≤ s.cyc) (hv : s.hk.vrefBad = true) :
    s.calEnd k i m = ((s.setCalUnit k i { s.calUnit k i with lastFail := true }).sliceAbandon k i).calReturn k i := by
  rcases hk with rfl | rfl
  · simp only [calEnd, hs, hc, if_true]
    simp [hv, calGiveUp]
  · simp only [calEnd, hs, hc, if_true]
    simp [hv, calGiveUp]

theorem calLate_due {s : State} {k i : Nat} (hp : i < s.calCount k) (hd : (s.calUnit k i).due = true)
    (ho : (s.calUnit k i).overdue = false) (ht : (s.calUnit k i).dueAt + 62500000 * s.fld .calStaleStale ≤ s.cyc) :
    s.calLate k i =
      ((s.setCalUnit k i { s.calUnit k i with overdue := true }).setB .calStatusOverdueSeen 0 true).bump .calOverdueCnt := by
  simp only [calLate, calPresent, cyc100ms, hp, hd, ho, ht, decide_true, Bool.not_false, Bool.and_self, if_true]

end State

/-! ## HK_CONFIG (R471, R472) -/

namespace State

theorem inSlice_passHead (s : State) (q k : Nat) : (s.passHead q).inSlice k = s.inSlice k := by
  funext i
  simp only [inSlice, calUnit, passHead_fields]

theorem hkScans_passHead (s : State) (q : Nat) : (s.passHead q).hkScans = s.hkScans := by
  simp only [hkScans, hkSlice, inSlice_passHead, passHead_fields]

end State

/-- The reference stays as it is, and no conversion of the scan runs. -/
theorem hkConfig_idle {s : State} {c : HostCmd} (ha : pNum c 24 8 = 0) (hr : bit (pByte c 17) 0 = s.flag .hkCfgRefEn)
    (hs : s.hkScans = false) : hkConfigSpec.app s c =
      (let t := s.wr .hkCfg 0 (ofBool (bit (pByte c 17) 0) + 256 * pBits c 16 0 6)
      { t with hk := { t.hk with pos := if pBits c 16 0 6 < t.hk.pos then 0 else t.hk.pos } }, {}) := by
  have hs' : (s.wr .hkCfg 0 (ofBool (s.flag .hkCfgRefEn) + 256 * pBits c 16 0 6)).hkScans = false := hs
  simp only [hkConfigSpec, justDo, ha, hr, hs, hs', Bool.and_not_self, Bool.false_and, when_false, if_true, Bool.not_false,
    Bool.true_and, decide_eq_true_eq]

/-- A conversion of the scan that runs keeps its input and its place. -/
theorem hkConfig_scanning {s : State} {c : HostCmd} (ha : pNum c 24 8 = 0)
    (hr : bit (pByte c 17) 0 = s.flag .hkCfgRefEn) (hs : s.hkScans = true) (hn : s.hk.now = none) : hkConfigSpec.app s c =
      (({ s with hk := { s.hk with now := some (s.hkScanAt s.hk.pos) } } : State).wr .hkCfg 0
        (ofBool (bit (pByte c 17) 0) + 256 * pBits c 16 0 6), {}) := by
  have hs' : (({ s with hk := { s.hk with now := some (s.hkScanAt s.hk.pos) } } : State).wr .hkCfg 0
      (ofBool (s.flag .hkCfgRefEn) + 256 * pBits c 16 0 6)).hkScans = true := hs
  simp only [hkConfigSpec, justDo, ha, hr, hs, hs', hn, Bool.and_not_self, Option.isNone_none, Bool.and_self, when_false,
    when_true, if_true, Bool.not_true, Bool.false_and, Bool.false_eq_true, if_false]

/-- A new scan list, with the reference turned on. -/
theorem hkConfig_list {s : State} {c : HostCmd} (ha : pNum c 24 8 ≠ 0) (hb : bit (pByte c 17) 0 = true)
    (hr : s.flag .hkCfgRefEn = false) (hs : s.hkScans = false) : hkConfigSpec.app s c =
      (let t := forEach (List.range 16) (fun j s => s.wr .hkScan j (bufNat (bufOf c) (4 * j) 4))
        (({ s with hk := { s.hk with refAt := s.cyc } } : State).wr .hkCfg 0 (1 + 256 * pBits c 16 0 6))
      { t with hk := { t.hk with pos := if pBits c 16 0 6 < t.hk.pos then 0 else t.hk.pos } }, {}) := by
  have hon : ({ s with hk := { s.hk with refAt := s.cyc } } : State).hkScans = false := hs
  have hloop : (forEach (List.range 16) (fun j s => s.wr .hkScan j (bufNat (bufOf c) (4 * j) 4))
      (({ s with hk := { s.hk with refAt := s.cyc } } : State).wr .hkCfg 0 (1 + 256 * pBits c 16 0 6))).hkScans = false :=
    (forEach_keeps hkScans (fun j s => s.wr .hkScan j (bufNat (bufOf c) (4 * j) 4)) (fun _ _ => rfl) _ _).trans hon
  simp only [hkConfigSpec, justDo, ha, hb, hr, hon, Bool.not_false, Bool.and_self, Bool.false_and, when_false, when_true,
    if_false, ofBool, if_true, hloop, Bool.true_and, decide_eq_true_eq]

/-! ## Conversions (R471 to R473) -/

namespace State

section
variable {s : State} (hst : 7 ≤ s.fld .glbDawnStatusStage) (hd : s.dev ≠ 0) (hn : s.hkSlice = false)
  (hc : s.hk.slotAt + 500 ≤ s.cyc)
include hst hd hn hc

/-- The converter works, outside every slice, and its slot is over. -/
theorem hkEnd_open : (decide (s.fld .glbDawnStatusStage < 7) || s.dev == 0 || s.hkSlice ||
    decide (s.cyc < s.hk.slotAt + 500)) = false := by
  simp only [Nat.not_lt.mpr hst, beq_eq_false_iff_ne.mpr hd, hn, Nat.not_lt.mpr hc, decide_false, Bool.or_self]

/-- An injected conversion, of another input than VREFIN, with the reference ready. -/
theorem hkEnd_injected (x : BitVec 16) {i : Nat} (hi : s.hk.inj = some i) (h56 : i ≠ 56) (hr : s.flag .hkCfgRefEn = true)
    (ht : s.hk.refAt + 3125000 ≤ s.hk.slotAt) : s.hkEnd x =
      let t := s.wr .hkInjResult 0 (x.toNat + i <<< 16 + 2 ^ 24)
      { t with hk := { t.hk with inj := none, slotAt := t.cyc + 125 } } := by
  simp only [hkEnd, hkEnd_open hst hd hn hc, hi, hr, ht, cycUs, Nat.reduceMul, Option.getD_some, beq_eq_false_iff_ne.mpr h56,
    Bool.false_and, when_false, decide_true, Bool.and_self, Bool.not_true, ofBool, Bool.false_eq_true, if_false,
    Nat.zero_shiftLeft, Nat.add_zero]

/-- A conversion of the scan, with the reference ready. -/
theorem hkEnd_scan (x : BitVec 16) (hi : s.hk.inj = none) (hr : s.flag .hkCfgRefEn = true)
    (ht : s.hk.refAt + 3125000 ≤ s.hk.slotAt) : s.hkEnd x =
      let i := slice (s.rd .hkScan (s.hk.pos / 4)) (8 * (s.hk.pos % 4)) 6
      let i := s.hk.now.getD i
      let u := if i = 56 then s.setB .hkStatusVrefBad 0 (!vrefOk x) else s
      let u : State := if i = 56 then { u with hk := { u.hk with vrefBad := !vrefOk x } } else u
      let t := u.wr .hkResult i (x.toNat + 2 ^ 16)
      { t with
        hk := { t.hk with
          pos := if t.fld .hkCfgScanLen ≤ t.hk.pos then 0 else t.hk.pos + 1
          slotAt := t.cyc + 125
          now := none } } := by
  by_cases h : s.hk.now.getD (slice (s.rd .hkScan (s.hk.pos / 4)) (8 * (s.hk.pos % 4)) 6) = 56
  · have hinj' : (s.setB .hkStatusVrefBad 0 (!vrefOk x)).hk.inj = none := hi
    simp only [hkEnd, hkEnd_open hst hd hn hc, hi, hinj', hr, ht, hkScanAt, cycUs, Nat.reduceMul, Option.getD_none, h,
      beq_self_eq_true, when_true, decide_true, Bool.and_self, Bool.not_true, Bool.not_false, ofBool, Bool.false_eq_true,
      if_false, if_true, Nat.zero_shiftLeft, Nat.add_zero]
  · simp only [hkEnd, hkEnd_open hst hd hn hc, hi, hr, ht, hkScanAt, cycUs, Nat.reduceMul, Option.getD_none, h,
      beq_eq_false_iff_ne.mpr h, Bool.false_and, when_false, decide_true, Bool.and_self, Bool.not_true, ofBool,
      Bool.false_eq_true, if_false, Nat.zero_shiftLeft, Nat.add_zero]

/-- A conversion of VREFIN with the reference off sets the flag that the host sees, and decides no slice. -/
theorem hkEnd_vref_off (x : BitVec 16) (hi : s.hk.inj = none) (hw : s.hk.now = none) (h56 : s.hkScanAt s.hk.pos = 56)
    (hr : s.flag .hkCfgRefEn = false) : s.hkEnd x =
      let t := (s.setB .hkStatusVrefBad 0 (!vrefOk x)).wr .hkResult 56 (x.toNat + 2 ^ 16 + 1 <<< 17)
      { t with
        hk := { t.hk with
          pos := if t.fld .hkCfgScanLen ≤ t.hk.pos then 0 else t.hk.pos + 1
          slotAt := t.cyc + 125
          now := none } } := by
  have hinj' : (s.setB .hkStatusVrefBad 0 (!vrefOk x)).hk.inj = none := hi
  simp only [hkEnd, hkEnd_open hst hd hn hc, hi, hw, hinj', h56, hr, Option.getD_none, beq_self_eq_true, Bool.false_and,
    Bool.not_false, Bool.not_true, Bool.and_false, when_true, when_false, ofBool, Bool.false_eq_true, if_false, if_true]

end

theorem hkRequest_slice {s : State} (h : s.hkSlice = true) (i : Nat) : s.hkRequest i = s.hkDrop 3 := by
  simp only [hkRequest, h, if_true]

section
variable {s : State} (h : s.hkSlice = false)
include h

theorem hkRequest_running (hc : s.hk.slotAt ≤ s.cyc) (i : Nat) : s.hkRequest i = s.hkDrop 1 := by
  simp only [hkRequest, h, hc, Bool.false_eq_true, if_false, if_true]

theorem hkRequest_second (hc : s.cyc < s.hk.slotAt) (hi : s.hk.inj.isSome = true) (i : Nat) :
    s.hkRequest i = s.hkDrop 2 := by
  simp only [hkRequest, h, hi, Nat.not_le.mpr hc, Bool.false_eq_true, if_false, if_true]

theorem hkRequest_taken (hc : s.cyc < s.hk.slotAt) (hi : s.hk.inj = none) (i : Nat) :
    s.hkRequest i = { s with hk := { s.hk with inj := some i } } := by
  simp only [hkRequest, h, hi, Nat.not_le.mpr hc, Option.isSome_none, Bool.false_eq_true, if_false]

end

end State

/-- Settles O52, row by row. The scan's place after HK_CONFIG (log entry 14, DESIGN CHOICE), the slot of 125 cycles, the
input that a running conversion keeps and VREF before the reference is ready (DEDUCED) are the model's readings. -/
theorem calibrationAct : Obligations.CalibrationAct := by
  refine ⟨fun s c h => command_begun h rfl rfl,
    fun s l hl hw => run_completeAs (calRunEnd_done hl hw) rfl,
    fun s l hl hw ht => run_completeAs (calRunEnd_timeout hl hw ht) rfl,
    fun s c h => command_begun h rfl rfl,
    fun s l r a b hs ha hp hl => run_act (saveEnd_stored hs ha hp hl),
    fun s a b h => nvmPair_free h, fun s k c h hv hs => not_mem_nvmFree h hv hs,
    fun s l r hs ha hp hl => run_act (saveEnd_worn hs ha hp hl),
    fun s he hc ht hs hl hd => run_to (autosave_due he hc ht hs hl hd) rfl rfl,
    fun s c h => command_done h rfl rfl,
    fun s k i hr ht => run_act (calStart_due hr ht),
    fun s k i m c h3 h5 hs hc hv => run_act (calEnd_done m h3 h5 hs hc hv),
    fun s k i m c hk hs hc hv => run_act (calEnd_failed m hk hs hc hv),
    fun s k i hp hd ho ht => run_to (calLate_due hp hd ho ht) rfl rfl,
    fun s c h ha hr hs => command_done h rfl (hkConfig_idle ha (by rwa [flag_passHead]) (by rwa [hkScans_passHead])),
    fun s c h ha hr hs hn => command_done h rfl (hkConfig_scanning ha (by rwa [flag_passHead]) (by rwa [hkScans_passHead])
      (by simpa only [passHead_fields] using hn)),
    fun s c h ha hb hr hs => command_done h rfl
      (hkConfig_list ha hb (by rwa [flag_passHead]) (by rwa [hkScans_passHead])),
    fun s x i hst hd hn hc hi h56 hr ht => run_act (hkEnd_injected hst hd hn hc x hi h56 hr ht),
    fun s x hst hd hn hc hi hr ht => run_act (hkEnd_scan hst hd hn hc x hi hr ht),
    fun s x hst hd hn hc hi hw h56 hr => ⟨_, run_to (hkEnd_vref_off hst hd hn hc x hi hw h56 hr) rfl rfl, rfl, ?_⟩,
    fun s v h => ⟨fun hs => run_to ((when_of h).trans (hkRequest_slice hs _)) rfl rfl,
      fun hs hc => run_to ((when_of h).trans (hkRequest_running hs hc _)) rfl rfl,
      fun hs hc hi => run_to ((when_of h).trans (hkRequest_second hs hc hi _)) rfl rfl,
      fun hs hc hi => run_to ((when_of h).trans (hkRequest_taken hs hc hi _)) rfl rfl⟩⟩
  have hreg (f : Fld) (v : Nat) (hf : f.reg ≠ .hkResult) :
      ((s.setB .hkStatusVrefBad 0 (!vrefOk x)).wr .hkResult 56 v).flag f = (s.setB .hkStatusVrefBad 0 (!vrefOk x)).flag f := by
    simp only [flag, fld_wr_reg _ _ f _ _ _ hf]
  exact (hreg .hkStatusVrefBad _ (by decide)).trans (flag_setB_same s .hkStatusVrefBad 0 _ (by decide) rfl)

end Sys2Proof.Machine
end

section
/-!
PROOFS. Power: rails, the stages of Dawn, what Dawn resets, TRIP and PGOOD loss, and the steps of Dusk.
-/

namespace Sys2Proof.Machine
open State

/-- An accepted command that writes no reply. -/
theorem command_silent {sp : CmdSpec} {c : HostCmd} {s : State} (h : Accepted sp c s) (hs : sp.silent = true) :
    command sp c s = .next (s.act fun s => (sp.app (s.passHead c.qp) c).1) := by
  obtain ⟨h1, h2, h3⟩ := h
  simp [command, run, State.act, hostCmd, h1, h2, h3, hs, State.fenceWaits_of_canStart h1]

namespace State

/-! ## What a cut of the writes to NVM leaves alone (R401, R488) -/

theorem saveCut_frame (s : State) : s.saveCut = { s with nvm := s.saveCut.nvm, fresh := s.saveCut.fresh } := by
  unfold saveCut
  split
  · rfl
  · dsimp only
    split
    · rfl
    · split
      all_goals rfl

theorem keyCut_frame (s : State) : s.keyCut = { s with nvm := s.keyCut.nvm, fresh := s.keyCut.fresh } := by
  unfold keyCut
  split
  · split
    · dsimp only
      split
      · rfl
      · rfl
    · rfl
  · rfl

theorem patchCut_frame (s : State) : s.patchCut = { s with nvm := s.patchCut.nvm, fresh := s.patchCut.fresh } := by
  unfold patchCut
  split
  · split
    · rfl
    · dsimp only
      split
      all_goals rfl
  · rfl

theorem nvmStop_frame (s : State) : s.nvmStop = { s with nvm := s.nvmStop.nvm, fresh := s.nvmStop.fresh } := by
  have h1 := s.saveCut_frame
  have h2 := s.saveCut.keyCut_frame
  have h3 := s.saveCut.keyCut.patchCut_frame
  rw [nvmStop]
  generalize s.saveCut.keyCut.patchCut = u at h3 ⊢
  generalize s.saveCut.keyCut = t at h2 h3
  generalize s.saveCut = r at h1 h2
  rw [h1] at h2
  rw [h2] at h3
  exact h3

theorem saveCut_idle {s : State} (h : s.nvm.saving = none) : s.saveCut = s := by
  simp only [saveCut, h]

theorem nvmStop_idle {s : State} (hs : s.nvm.saving = none) (hk : s.findLong 0x803 = none) (hp : s.findLong 0x804 = none) :
    s.nvmStop = s := by
  simp only [nvmStop, saveCut_idle hs, keyCut, patchCut, hk, hp]

/-! ## Dawn's reset (R484) -/

theorem setDev_frame (s : State) (d : Nat) : s.setDev d = s.withAnswerOf (s.setDev d) := by
  unfold setDev
  split
  · rfl
  · exact withAnswerOf_trans (t := s.setF .glbDevStateState 0 d) rfl (irq_withAnswerOf _ 2)

theorem setDev_regsKept (s : State) (d : Nat) :
    RegsKept [.glbDevState, .glbIrqPend0, .glbIrqPend1] s (s.setDev d) := by
  unfold setDev
  split
  · exact fun _ _ _ => rfl
  · have hset : RegsKept [.glbDevState, .glbIrqPend0, .glbIrqPend1] s (s.setF .glbDevStateState 0 d) :=
      fun r i hr => rd_setF_reg s .glbDevStateState r 0 i d fun e => hr (e ▸ List.mem_cons_self)
    exact hset.trans ((irq_regsKept _ 2).mono (by simp))

/-- The state that Dawn resets: the writes to NVM are cut, and the device is in DAWN. -/
def dawning (s : State) : State := s.nvmStop.setDev 1

theorem dawning_frame (s : State) : s.dawning.variant = s.variant ∧ s.dawning.cyc = s.cyc ∧
    s.dawning.nvm = s.nvmStop.nvm := by
  have h : s.dawning = s.nvmStop.withAnswerOf s.dawning := setDev_frame _ 1
  have hn := s.nvmStop_frame
  refine ⟨?_, ?_, ?_⟩
  · rw [h, hn]; rfl
  · rw [h, hn]; rfl
  · rw [h]; rfl

theorem dawning_rd (s : State) {r : Reg} (h : r ∉ [Reg.glbDevState, .glbIrqPend0, .glbIrqPend1]) (i : Nat) :
    s.dawning.rd r i = s.rd r i := by
  refine (setDev_regsKept _ 1 r i h).trans ?_
  rw [nvmStop_frame]
  rfl

theorem domainReset_regsKept (s : State) :
    RegsKept [.thermVauxLog, .scbTamperCause, .glbResetCause] (State.resetOf s.variant) s.domainReset := fun r i hr => by
  simp only [List.mem_cons, List.not_mem_nil, or_false, not_or] at hr
  obtain ⟨h1, h2, h3⟩ := hr
  simp only [domainReset, rd_wr_reg, ne_eq, h1, h2, h3, not_false_eq_true]
  rfl

theorem domainReset_vauxLog (s : State) : s.domainReset.rd .thermVauxLog = s.rd .thermVauxLog % 2 ^ 32 := by
  simp only [domainReset, rd_wr_reg, ne_eq, reduceCtorEq, not_false_eq_true]
  exact rd_wr_same ..

theorem domainReset_tamperCause (s : State) : s.domainReset.rd .scbTamperCause = s.rd .scbTamperCause % 2 ^ 32 := by
  simp only [domainReset, rd_wr_reg, ne_eq, reduceCtorEq, not_false_eq_true]
  exact rd_wr_same ..

/-- Dawn at a stage from which the host's link starts over as well. -/
theorem dawn_resets (s : State) {n : Nat} (c : Nat) (h : n ≠ 2) :
    s.dawn n c = (s.dawning.domainReset.setF .glbResetCauseSource 0 c).setF .glbDawnStatusStage 0 n := by
  simp only [dawn, h, if_false]
  rfl

theorem dawn_regsKept (s : State) {n : Nat} (c : Nat) (h : n ≠ 2) :
    RegsKept [.glbDevState, .glbDawnStatus, .glbResetCause, .thermVauxLog, .scbTamperCause] (State.resetOf s.variant)
      (s.dawn n c) := fun r i hr => by
  simp only [List.mem_cons, List.not_mem_nil, or_false, not_or] at hr
  obtain ⟨-, hst, hcause, hlog, htamper⟩ := hr
  rw [dawn_resets s c h, rd_setF_reg _ _ _ _ _ _ hst, rd_setF_reg _ _ _ _ _ _ hcause,
    domainReset_regsKept _ r i (by simp [hlog, htamper, hcause]), s.dawning_frame.1]

theorem resetOf_dev (v : Variant) : (State.resetOf v).dev = 1 := by
  cases v
  all_goals decide

theorem dawn_dev (s : State) {n : Nat} (c : Nat) (h : n ≠ 2) : (s.dawn n c).dev = 1 := by
  rw [dawn_resets s c h]
  refine Eq.trans ?_ (resetOf_dev s.dawning.variant)
  simp only [dev, fld, rd_setF_reg, ne_eq, reduceCtorEq, not_false_eq_true,
    domainReset_regsKept s.dawning .glbDevState 0 (by decide)]

theorem dawn_stage (s : State) {n : Nat} (c : Nat) (h : n ≠ 2) (hn : n < 10) :
    (s.dawn n c).fld .glbDawnStatusStage = n := by
  rw [dawn_resets s c h, fld_setF_same _ _ _ _ (by decide)]
  exact Nat.mod_eq_of_lt (show n < 16 by omega)

theorem dawn_source (s : State) {n c : Nat} (h : n ≠ 2) (hc : c < 8) : (s.dawn n c).fld .glbResetCauseSource = c := by
  rw [dawn_resets s c h, fld_setF_reg _ _ _ _ _ _ (by decide), fld_setF_same _ _ _ _ (by decide)]
  exact Nat.mod_eq_of_lt hc

theorem domainReset_rest (s : State) : s.domainReset.pcie = (State.resetOf s.variant).pcie ∧ s.domainReset.cyc = s.cyc ∧
    s.domainReset.nvm = { s.nvm with saving := none, auto := false } := ⟨rfl, rfl, rfl⟩

theorem dawn_rest (s : State) {n : Nat} (c : Nat) (h : n ≠ 2) : (s.dawn n c).pcie = (State.resetOf s.variant).pcie ∧
    (s.dawn n c).cyc = s.cyc ∧ (s.dawn n c).nvm = { s.nvmStop.nvm with saving := none, auto := false } := by
  obtain ⟨hv, hc, hn⟩ := s.dawning_frame
  obtain ⟨hpcie, hcyc, hnvm⟩ := s.dawning.domainReset_rest
  rw [dawn_resets s c h]
  simp only [setF_fields]
  exact ⟨hpcie.trans (by rw [hv]), hcyc.trans hc, hnvm.trans (by rw [hn])⟩

/-- What the VAUX domain holds outlasts Dawn (R484, R488). -/
theorem dawn_vaux (s : State) {n : Nat} (c : Nat) (h : n ≠ 2) :
    (s.dawn n c).rd .thermVauxLog = s.rd .thermVauxLog % 2 ^ 32 ∧
    (s.dawn n c).rd .scbTamperCause = s.rd .scbTamperCause % 2 ^ 32 := by
  rw [dawn_resets s c h, rd_setF_reg _ _ _ _ _ _ (by decide), rd_setF_reg _ _ _ _ _ _ (by decide), domainReset_vauxLog,
    dawning_rd s (by decide), rd_setF_reg _ _ _ _ _ _ (by decide), rd_setF_reg _ _ _ _ _ _ (by decide),
    domainReset_tamperCause, dawning_rd s (by decide)]
  exact ⟨rfl, rfl⟩

/-! ## Rails (R480, R482, R487) -/

theorem vauxUp_off {s : State} (hv : s.power.vaux = false) (hd : s.dev = 0) : s.vauxUp =
    { ((s.wr .thermVauxLog 0 0).wr .scbTamperCause 0 0).wr .glbResetCause 0 1 with
      power := ⟨true, s.power.perst, 1, 0, false, some (0, s.cyc), false, none, false, 1, 0, 0, 0, false⟩ } := by
  simp only [vauxUp, hv, hd, bne_self_eq_false, Bool.or_self, Bool.false_eq_true, if_false]
  rfl

/-- With all rails good and PERST# released, a device in OFF enters Dawn (R481). -/
theorem dawnFromOff_ready {s : State} (hd : s.dev = 0) (hg : s.power.pgood = 15) (hp : s.power.perst = false)
    (hw : s.power.down = false) : s.dawnFromOff = s.dawn 1 s.power.why :=
  if_pos (by rw [hd, hg, hp, hw]; rfl)

section
variable {s : State} {k : Nat} (he : bit s.power.pwren k = true)
include he

/-- A group's PGOOD rises in the sequence, with another group after it. -/
theorem pgoodRise_next {c : Nat} (hk : k < 3) (hg : bit s.power.pgood k = false) (hs : s.power.seq = some (k, c)) :
    s.pgoodRise k = ({ s with power := { s.power with
      pgood := setBit s.power.pgood k true
      seq := none } } : State).after (s.cyc + 625000) (.railNext k) := by
  simp only [pgoodRise, he, hg, hs, hk, Bool.not_false, Bool.and_self, Option.map_some, if_true]
  rfl

/-- The last PGOOD lets a device in OFF enter Dawn, in the sequence or after a loss outside it. -/
theorem pgoodRise_last (hk : k = 3) (hg : s.power.pgood = 7) (hs : s.power.seq = none ∨ ∃ c, s.power.seq = some (3, c))
    (hd : s.dev = 0) (hp : s.power.perst = false) (hw : s.power.down = false) :
    s.pgoodRise k = ({ s with power := { s.power with pgood := 15, seq := none } } : State).dawn 1 s.power.why := by
  subst hk
  have hbit : bit 7 3 = false := by decide
  have hset : setBit 7 3 true = 15 := by decide
  have hdawn : ({ s with power := { s.power with pgood := 15, seq := none } } : State).dawnFromOff =
      ({ s with power := { s.power with pgood := 15, seq := none } } : State).dawn 1 s.power.why :=
    dawnFromOff_ready hd rfl hp hw
  rcases hs with hs | ⟨c, hs⟩
  · simp only [pgoodRise, he, hg, hs, hbit, hset, Bool.not_false, Bool.and_self, Option.map_none, if_true, reduceCtorEq,
      if_false, setPower]
    rw [← hdawn, ← hs]
  · simp only [pgoodRise, he, hg, hs, hbit, hset, Bool.not_false, Bool.and_self, Option.map_some, if_true, setPower,
      Nat.lt_irrefl, if_false]
    exact hdawn

theorem pgoodLoss_on (hg : bit s.power.pgood k = true) (hw : s.power.down = false) : s.pgoodLoss k =
    let t := ({ s with power := { s.power with pgood := setBit s.power.pgood k false } } : State).protect
    let u := (t.setF .thermVauxLogCause 0 2).setF .thermVauxLogIndex 0 k
    (u.saveCut.after (u.cyc + 50 * 625) .pwrFail).railsDown (u.cyc + 50 * 625) := by
  simp only [pgoodLoss, he, hg, hw, Bool.not_false, Bool.and_self, if_true]
  rfl

end

theorem railTimeout_due {s : State} {k c : Nat} (hs : s.power.seq = some (k, c)) (hc : c + 20 * 625000 ≤ s.cyc) :
    s.railTimeout = ((s.setF .thermVauxLogCause 0 3).setF .thermVauxLogIndex 0 k).railsDown s.cyc := by
  simp only [railTimeout, hs, cycMs, hc, if_true]
  rfl

theorem trip_armed {s : State} (hg : s.power.pgood = 15) (hw : s.power.down = false) (k x : Nat) : s.trip k x =
    let u := ((s.protect.setF .thermVauxLogCause 0 1).setF .thermVauxLogIndex 0 k).setF .thermVauxLogTemp 0 x
    (u.saveCut.after (u.cyc + 50 * 625) .pwrFail).railsDown (u.cyc + 50 * 625) := by
  simp only [trip, hg, hw, beq_self_eq_true, Bool.not_false, Bool.and_self, if_true]
  rfl

/-- The cool-down has ended, and sequencing waits for PERST# or starts. -/
theorem coolEnd_due {s : State} {c : Nat} (hs : s.power.coolEnd = some c) (hc : c ≤ s.cyc) : s.coolEnd =
    let t := ({ s with power := { s.power with coolEnd := none } } : State).setB .thermVauxLogCooling 0 false
    if s.power.perst then { t with power := { t.power with waits := true } } else t.seqStart := by
  simp only [coolEnd, hs, hc, if_true]
  rfl

/-! ## PERST# (R481, R484) -/

theorem perstAssert_dawn {s : State} (hd : s.dev = 1) :
    s.perstAssert = ({ s with power := { s.power with perst := true } } : State).dawn 1 2 := by
  have h : (s.setPower { s.power with perst := true }).dev = 1 := hd
  simp only [perstAssert, h, Nat.one_ne_zero, if_false, if_true]
  rfl

theorem perstAssert_on {s : State} (hd : 2 ≤ s.dev) :
    s.perstAssert = ({ s with power := { s.power with perst := true } } : State).pcieDown := by
  have h : (s.setPower { s.power with perst := true }).dev = s.dev := rfl
  have h0 : s.dev ≠ 0 := by omega
  have h1 : s.dev ≠ 1 := by omega
  simp only [perstAssert, h, h0, h1, if_false]
  rfl

section
variable {s : State} (hp : s.power.perst = true) (hw : s.power.down = false) (hc : s.power.coolEnd = none)
include hp hw hc

/-- PERST# is released with no power-down in progress. -/
theorem perstRelease_up : s.perstRelease =
    let t : State := { s with power := { s.power with perst := false } }
    if s.dev = 0 then if s.power.waits then t.seqStart else t.dawnFromOff else t.dawn 1 2 := by
  simp only [perstRelease, setPower, hp, hw, hc, Bool.not_true, Bool.false_and, Option.isSome_none, Bool.or_self,
    Bool.false_eq_true, if_false]
  rfl

theorem perstRelease_off (hd : s.dev = 0) (ha : s.power.waits = false) (hg : s.power.pgood = 15) :
    s.perstRelease = ({ s with power := { s.power with perst := false } } : State).dawn 1 s.power.why := by
  rw [perstRelease_up hp hw hc]
  simp only [hd, ha, if_true, Bool.false_eq_true, if_false]
  exact dawnFromOff_ready hd hg rfl hw

end

/-! ## The stages of Dawn (R483) -/

theorem regionOut_congr {s t : State} (h : t.rd .thermSensorFail = s.rd .thermSensorFail) (r : Nat) :
    t.regionOut r = s.regionOut r := by
  simp only [regionOut, sensorOut, h]

/-- A memory that fails its test is marked, where it is a power group that the variant has. -/
def memoriesFailed (s : State) (l : List (Fin 165)) : State :=
  forEach l (fun (g : Fin 165) (s : State) => if g.val < 158 ∧ s.unitPresent 12 g = true
    then s.wr .glbMemFail (g / 32) (setBit (s.rd .glbMemFail (g / 32)) (g % 32) true) else s) s

section
variable {s : State} (hst : s.fld .glbDawnStatusStage = 4)
include hst

theorem stageEnd_memories (l : List (Fin 165)) : s.stageEnd (.memories l) =
    if l.any (fun g => fatalBank g) then ((s.memoriesFailed l).setF .glbDawnStatusReason 0 3).toFault
    else (s.memoriesFailed l).setF .glbDawnStatusStage 0 5 := by
  have hstep : (fun (g : Fin 165) (u : State) => when (decide (g.val < 158) && u.unitPresent 12 g) (fun s : State =>
      s.wr .glbMemFail (g / 32) (setBit (s.rd .glbMemFail (g / 32)) (g % 32) true)) u) = fun g u =>
        if g.val < 158 ∧ u.unitPresent 12 g = true then
          u.wr .glbMemFail (g / 32) (setBit (u.rd .glbMemFail (g / 32)) (g % 32) true) else u := by
    funext g u
    simp [when]
  simp only [stageEnd, stage, hst, hstep]
  rfl

end

theorem fatalBank_iff (g : Nat) : fatalBank g = true ↔ g ∈ [160, 161, 162, 164] := by
  simp [fatalBank, or_assoc]

section
variable {s : State} (hst : s.fld .glbDawnStatusStage = 5) (b : Bool)
include hst

theorem stageEnd_retired (hl : s.fuse.lc = 4) :
    s.stageEnd (.scarab true b) = (s.setF .glbDawnStatusReason 0 4).toFault := by
  simp only [stageEnd, stage, hst, hl, Bool.not_true, beq_self_eq_true, Bool.or_true, if_true]
  rfl

/-- Scarab has its nonces, and its key unless it was tampered with. -/
theorem stageEnd_scarab (hl : s.fuse.lc ≠ 4) : s.stageEnd (.scarab true b) =
    let t := (s.wr .guardNonce 0 s.nvm.guardNonce.toNat).wr .scbLcNonce 0 s.nvm.lcNonce.toNat
    let t : State := if s.flag .scbStatusTamper then t else { t with scarab := ⟨s.keyBank, false⟩ }
    (t.loadPatch b).setF .glbDawnStatusStage 0 6 := by
  have ht : ((s.wr .guardNonce 0 s.nvm.guardNonce.toNat).wr .scbLcNonce 0 s.nvm.lcNonce.toNat).tampered =
      s.flag .scbStatusTamper := by
    simp only [tampered, flag, fld_wr_reg, ne_eq, reduceCtorEq, not_false_eq_true]
  simp only [stageEnd, stage, hst, ht, Bool.not_true, beq_eq_false_iff_ne.mpr hl, Bool.or_self, Bool.false_eq_true, if_false]
  cases s.flag .scbStatusTamper
  · rfl
  · rfl

end

section
variable {s : State} (hst : s.fld .glbDawnStatusStage = 8)
include hst

theorem stageEnd_calibrated (hc : s.calDawnOver = true) (hr : ∀ r < 8, (s.regionOut r).length < 2) :
    s.stageEnd .calibration =
      (({ s with therm := { s.therm with evalAt := s.cyc + 6250000 } } : State).setF .glbDawnStatusStage 0 9).setDev 2 := by
  have hkept : RegsKept [.glbDawnStatus, .glbDevState, .glbIrqPend0, .glbIrqPend1] s
      ((({ s with therm := { s.therm with evalAt := s.cyc + 10 * cycMs } } : State).toStage 9).setDev 2) := by
    refine RegsKept.trans (t := ({ s with therm := { s.therm with evalAt := s.cyc + 10 * cycMs } } : State).toStage 9)
      (fun r i hn => ?_) ((setDev_regsKept _ 2).mono (by simp))
    exact rd_setF_reg _ .glbDawnStatusStage r 0 i 9 fun e => hn (e ▸ List.mem_cons_self)
  have hregions : ((List.range 8).any fun r => decide (2 ≤ (((({ s with
      therm := { s.therm with evalAt := s.cyc + 10 * cycMs } } : State).toStage 9).setDev 2).regionOut r).length)) = false := by
    rw [List.any_eq_false]
    intro r hmem
    rw [regionOut_congr (hkept .thermSensorFail 0 (by decide))]
    simpa using hr r (List.mem_range.mp hmem)
  simp only [stageEnd, stage, hst, hc, if_true, dawnEnd, hregions, when_false]
  rfl

theorem stageEnd_calibrating (hc : s.calDawnOver = false) : s.stageEnd .calibration = s := by
  simp only [stageEnd, stage, hst, hc, Bool.false_eq_true, if_false]

end

/-- Dawn's calibration is over when no unit is in a slice, and none is due but for a slice that failed. -/
theorem calDawnOver_iff (s : State) : s.calDawnOver = true ↔ ∀ k < 6, ∀ i < s.calCount k,
    (s.calUnit k i).slice = none ∧ ((s.calUnit k i).due = false ∨ (s.calUnit k i).lastFail = true) := by
  have hkinds : setBits 0x3F 6 = List.range 6 := by decide
  simp only [calDawnOver, calUnits, hkinds, List.all_flatMap, List.all_map, List.all_eq_true, List.mem_range,
    Function.comp_apply, Bool.and_eq_true, Bool.or_eq_true, Bool.not_eq_true', Option.isNone_iff_eq_none]

/-! ## Cuts (R468, R488) -/

/-- What a cut leaves of the two copies, by how far the save had come. -/
theorem saveCut_sectors {s : State} {r : SMap CalUnit} {a b : Nat} (hs : s.nvm.saving = some r)
    (hp : s.nvmPair = some (a, b)) : s.saveCut.nvm.sectors =
      let m := s.nvm.sectors
      let x : NvmCopy := ⟨0x4351, 1, s.nvm.seq + 1, Config.recordSize.toNat, 0, r, true⟩
      match (Config.nvmCut s.fresh).toNat with
      | 0 => m
      | 1 => SMap.put none m a (some { x with whole := false })
      | 2 => SMap.put none m a (some x)
      | 3 => SMap.put none (SMap.put none m a (some x)) b (some { x with copy := 1, whole := false })
      | _ => SMap.put none (SMap.put none m a (some x)) b (some { x with copy := 1 }) := by
  have hpair : s.draw.2.nvmPair = some (a, b) := hp
  simp only [saveCut, hs, hpair]
  generalize hn : (Config.nvmCut s.draw.1).toNat = n
  have hn' : (Config.nvmCut s.fresh).toNat = n := hn
  rw [hn']
  match n with
  | 0 => rfl
  | 1 => rfl
  | 2 => rfl
  | 3 => rfl
  | _ + 4 => rfl

/-! ## Dusk (R493) -/

theorem duskDone_iff (s : State) : s.duskDone = true ↔ (s.power.dusk = 1 ∧ s.shotOn = false) ∨
    (s.power.dusk = 2 ∧ ∀ n < s.variant.ochCount, s.outState n = 0) ∨
    (s.power.dusk = 3 ∧ ∀ k < 48, s.flag .bdacStatusParked k = true) ∨ (s.power.dusk = 4 ∧ s.jrnResident = 0) := by
  unfold duskDone
  split
  next h => simp [h]
  next h => simp [h]
  next h => simp [h]
  next h => simp [h]
  next h1 h2 h3 h4 =>
    simp only [eq_false h1, eq_false h2, eq_false h3, eq_false h4, false_and, or_self, Bool.false_eq_true]

theorem duskBegin_command {s : State} (h2 : 2 ≤ s.dev) (h4 : s.dev ≤ 4) : s.duskBegin 3 =
    ((s.setF .thermStatusStopCause 0 3).setPower { s.power with dusk := 1, duskAt := s.cyc, stepAt := s.cyc }).leaveRun 5 :=
  if_pos ⟨h2, h4⟩

theorem flushOver_due {s : State} (hd : s.power.dusk = 4) (ht : s.power.stepAt + 625000 * s.fld .jrnCfgFlushMax ≤ s.cyc) :
    s.flushOver = s.after (s.cyc + 1) (.duskStep 5) := if_pos ⟨hd, ht⟩

/-- The bound of the first step of Dusk aborts the shot. -/
theorem duskMax_running {s : State} (hd : s.power.dusk = 1) (ht : s.power.duskAt + 625 * s.fld .thermDuskMaxUs ≤ s.cyc)
    (hr : s.shot.running = true) (ha : s.shot.abort = none) : s.duskMax =
      (forEach s.shotChans (fun n (u : State) => u.updChan n fun o => { o with stopping := true })
        { s with shot := { s.shot with abort := some (3, s.cyc) } }).after s.cyc .closeWindows := by
  refine (if_pos ⟨hd, ht⟩).trans ((if_pos hr).trans ?_)
  have hcyc : (forEach s.shotChans (fun n (u : State) => u.updChan n fun o => { o with stopping := true })
      { s with shot := { s.shot with abort := some (3, s.cyc) } }).cyc = s.cyc :=
    forEach_keeps State.cyc (fun n (u : State) => u.updChan n fun o => { o with stopping := true }) (fun _ _ => rfl) _ _
  rw [abortShot, if_pos (by rw [hr, ha]; rfl)]
  exact congrArg (fun c => State.after _ c .closeWindows) hcyc

end State

/-- Settles O55, row by row. When the cool-down starts, and what PERST# does while it is asserted, are the model's readings
(log entry 13). -/
theorem powerAct : Obligations.PowerAct := by
  have hdawn {s : State} (hd : s.dev = 1) (hp : s.power.perst = false) : (s.dev == 1 && !s.power.perst) = true := by
    rw [hd, hp]; rfl
  refine ⟨?dusk, fun s c h => command_done h rfl rfl, fun s c h => command_silent h rfl,
    fun s hv hd => run_act (vauxUp_off hv hd), fun s k c hk he hg hs => run_act (pgoodRise_next he hk hg hs),
    fun s k hk he hg hs hd hp hw => run_act (pgoodRise_last he hk hg hs hd hp hw),
    fun s k c hs hc => run_act (railTimeout_due hs hc), fun s c => rfl,
    fun s k hg hd => run_to (when_of (by rw [hg, bne_iff_ne.mpr hd]; rfl)) rfl rfl,
    fun s k he hg hw => run_act (pgoodLoss_on he hg hw), fun s k x hg hw => run_act (trip_armed hg hw k x.toNat),
    fun s => rfl, fun s c hs hc hp => run_act ((coolEnd_due hs hc).trans (if_pos hp)),
    fun s c hs hc hp => run_act ((coolEnd_due hs hc).trans (if_neg (by rw [hp]; decide))), fun s => rfl,
    fun s hd => run_act (if_neg hd), fun s hd => run_act (perstAssert_dawn hd), fun s hd => run_act (perstAssert_on hd),
    fun s hp hw hc hd => run_act ((perstRelease_up hp hw hc).trans (if_neg hd)),
    fun s hp hw hc hd ha => run_act ((perstRelease_up hp hw hc).trans ((if_pos hd).trans (if_pos ha))),
    fun s hp hw hc hd ha hg => run_act (perstRelease_off hp hw hc hd ha hg), ?stages, ?scarab, ?memories,
    fun s hd hp hst hc hr => run_act ((if_pos (hdawn hd hp)).trans (stageEnd_calibrated hst hc hr)),
    fun s hd hp hst hc => run_to ((if_pos (hdawn hd hp)).trans (stageEnd_calibrating hst hc)) rfl rfl,
    calDawnOver_iff, ?resets, fun s => rfl, fun s hs hk hp => nvmStop_idle hs hk hp,
    fun s r a b hs hp => saveCut_sectors hs hp, fun s h => run_act (if_pos h),
    fun s hd ht => run_act (flushOver_due hd ht), duskDone_iff, ?steps,
    fun s hd ht hr ha => run_act (duskMax_running hd ht hr ha)⟩
  case dusk =>
    intro s c h h2 h4
    have hdev : (s.passHead c.qp).dev = s.dev := dev_passHead ..
    have happ := duskBegin_command (s := s.passHead c.qp) (by rw [hdev]; exact h2) (by rw [hdev]; exact h4)
    refine command_done h rfl ?_
    rw [← happ]
    rfl
  case stages =>
    intro s e t hd hp h
    refine run_act ((if_pos (hdawn hd hp)).trans ?_)
    simp only [List.mem_cons, Prod.mk.injEq, List.not_mem_nil, or_false] at h
    rcases h with ⟨rfl, hst, rfl⟩ | ⟨rfl, hst, rfl⟩ | ⟨rfl, hst, rfl⟩ | ⟨rfl, hst, rfl⟩ | ⟨rfl, hst, rfl⟩ | ⟨rfl, hst, rfl⟩ |
      ⟨rfl, hst, rfl⟩ | ⟨rfl, hst, rfl⟩ | ⟨rfl, hst, rfl⟩ | ⟨rfl, hst, rfl⟩ | ⟨rfl, hst, rfl⟩ | ⟨rfl, hst, rfl⟩ |
      ⟨rfl, hst, rfl⟩
    all_goals
      simp only [stageEnd, stage, hst]
      rfl
  case scarab =>
    refine fun s b hd hp hst => ⟨fun hl => run_act ((if_pos (hdawn hd hp)).trans (stageEnd_retired hst b hl)),
      fun hl ht => run_act ((if_pos (hdawn hd hp)).trans ((stageEnd_scarab hst b hl).trans ?_)),
      fun hl ht => run_act ((if_pos (hdawn hd hp)).trans ((stageEnd_scarab hst b hl).trans ?_))⟩
    · simp only [ht, Bool.false_eq_true, if_false]
    · simp only [ht, if_true]
  case memories =>
    rintro s t l hd hp hst rfl
    have hend := stageEnd_memories hst l
    refine ⟨fun hg => run_act ((if_pos (hdawn hd hp)).trans (hend.trans (if_neg ?_))),
      fun ⟨g, hmem, hg⟩ => run_act ((if_pos (hdawn hd hp)).trans (hend.trans (if_pos ?_)))⟩
    · simpa only [List.any_eq_true, fatalBank_iff, not_exists, not_and] using hg
    · exact List.any_eq_true.mpr ⟨g, hmem, (fatalBank_iff g).mpr hg⟩
  case resets =>
    intro s n c hn hc h2
    obtain ⟨hpcie, hcyc, hnvm⟩ := s.dawn_rest c h2
    obtain ⟨hlog, htamper⟩ := s.dawn_vaux c h2
    exact ⟨s.dawn_dev c h2, s.dawn_stage c h2 hn, s.dawn_source h2 hc, hpcie, (s.dawn_keeps n c), hcyc, hnvm, hlog, htamper,
      s.dawn_regsKept c h2⟩
  case steps =>
    intro s n t h
    simp only [List.mem_cons, Prod.mk.injEq, List.not_mem_nil, or_false] at h
    rcases h with ⟨hd, rfl, rfl⟩ | ⟨hd, rfl, rfl⟩ | ⟨hd, rfl, rfl⟩ | ⟨hd, rfl, rfl⟩
    all_goals
      simp only [laterOne, duskEnter, hd]
      rfl

end Sys2Proof.Machine
end

section
/-!
PROOFS. The receiver of a link port: windows, credits, replay, lane reports and audits.
-/

namespace Sys2Proof.Machine
open State

/-! ## Windows (R432) -/

/-- While a window holds a protected block, the number it should carry is the receiver's own. -/
theorem seqWanted_protected {x : Port} {l : List Dword} (h : l.any blkProtected = true) :
    seqWanted x l = if x.stall then x.rxNext else x.rxSeq := by
  simp only [seqWanted, h]

/-- Without a START, a window's blocks act in their order. -/
theorem recvWindow_in_order {x : Port} {l : List Dword} (h : l.any blkStart = false) :
    recvWindow x l = l.foldl recvBlock x := by
  have hnone : ∀ b ∈ l, blkStart b = false := by simpa using h
  have hall : l.filter (fun b => !blkStart b) = l := List.filter_eq_self.mpr fun b hb => by rw [hnone b hb]; rfl
  have hstart : l.filter blkStart = [] := List.filter_eq_nil_iff.mpr fun b hb => by simp [hnone b hb]
  rw [recvWindow, hall, hstart, List.append_nil]

theorem when_bne (a b : Nat) (f : State → State) (s : State) : when (a != b) f s = if a ≠ b then f s else s := by
  simp [when]

namespace State

/-- The lane that a window is charged to for one of its blocks. -/
def windowBad (window : List (Nat × Dword)) (badLane : Option Nat) : Option Nat :=
  badLane <|> (window.find? (fun b => !blkKnown b.2)).map (·.1)

/-- A window agrees with its CHECK. -/
def windowPasses (x : Port) (window : List (Nat × Dword)) (badLane : Option Nat) (seq : Nat) (crc : Option Nat) : Bool :=
  (windowBad window badLane).isNone && crc == some (linkCrc (window.map (·.2))) && seqWanted x (window.map (·.2)) == seq

/-- The port that has seen traffic in this cycle, where a window has protected copies. -/
def windowSeen (x : Port) (cyc : Nat) (window : List (Nat × Dword)) : Port :=
  if ((window.map (·.2)).filter blkProtected).length = 0 then x else { x with busyAt := cyc, audited := false }

section
variable {s : State} {p : Nat} (hu : s.portUp p = true) {window : List (Nat × Dword)} {badLane : Option Nat} {seq : Nat}
  {crc : Option Nat}
include hu

theorem checkWindow_passes (lane : Nat) (h : windowPasses (s.port p) window badLane seq crc = true) :
    s.checkWindow p lane window badLane seq crc =
      s.setPort p (recvWindow (windowSeen (s.port p) s.cyc window) (window.map (·.2))) :=
  (if_neg (by rw [hu]; decide)).trans (if_pos h)

theorem checkWindow_fails (lane : Nat) (h : windowPasses (s.port p) window badLane seq crc = false) :
    s.checkWindow p lane window badLane seq crc =
      (s.bump .bllCheckFail (4 * p + (windowBad window badLane).getD lane)).setPort p
        { windowSeen (s.port p) s.cyc window with
          cnt := { (windowSeen (s.port p) s.cyc window).cnt with
            rxCopies := (windowSeen (s.port p) s.cyc window).cnt.rxCopies +
              BitVec.ofNat 48 ((window.map (·.2)).filter blkProtected).length
            discarded := (windowSeen (s.port p) s.cyc window).cnt.discarded +
              BitVec.ofNat 48 ((window.map (·.2)).filter blkProtected).length }
          reqDue := true
          stall := true } :=
  (if_neg (by rw [hu]; decide)).trans (if_neg (ne_true_of_eq_false h))

end

theorem windowBad_of_known {bs : List (Fin 4 × Dword)} (h : (bs.map (·.2)).all blkKnown = true) :
    windowBad (bs.map fun b => (b.1.val, b.2)) none = none := by
  have hk : ∀ b ∈ bs, blkKnown b.2 = true := by simpa using h
  have hn : bs.find? ((fun b : Nat × Dword => !blkKnown b.2) ∘ fun b : Fin 4 × Dword => (b.1.val, b.2)) = none :=
    List.find?_eq_none.mpr fun b hb => by simp [hk b hb]
  simp only [windowBad, List.find?_map, hn]
  rfl

theorem windowBad_of_unknown {bs : List (Fin 4 × Dword)} {k : Fin 4} {b : Dword}
    (h : bs.find? (fun b => !blkKnown b.2) = some (k, b)) :
    windowBad (bs.map fun b => (b.1.val, b.2)) none = some k.val := by
  have hf : bs.find? ((fun b : Nat × Dword => !blkKnown b.2) ∘ fun b : Fin 4 × Dword => (b.1.val, b.2)) = some (k, b) := h
  simp only [windowBad, List.find?_map, hf]
  rfl

theorem map_snd_window (bs : List (Fin 4 × Dword)) :
    (bs.map fun b => (b.1.val, b.2)).map (·.2) = bs.map (·.2) := by
  rw [List.map_map]
  rfl

theorem windowSeen_copies {bs : List (Fin 4 × Dword)} (x : Port) (cyc : Nat)
    (h : ((bs.map (·.2)).filter blkProtected).length ≠ 0) :
    windowSeen x cyc (bs.map fun b => (b.1.val, b.2)) = { x with busyAt := cyc, audited := false } := by
  rw [windowSeen, map_snd_window, if_neg h]

/-! ## Control blocks (R434 to R436, R444, R451) -/

section
variable {s : State} {p : Nat} {want : Dword → Bool} {f : Dword → State → State}

theorem takeCtl_found {b : Dword} (hu : s.portUp p = true) (h : (s.port p).ctl.find? want = some b) :
    s.takeCtl p want f = f b (s.setPort p { s.port p with ctl := (s.port p).ctl.erase b }) := by
  simp only [takeCtl, h, hu, Bool.true_or, if_true]

theorem takeCtl_none (h : (s.port p).ctl.find? want = none) : s.takeCtl p want f = s := by
  simp only [takeCtl, h]

end

section
variable {s : State} {p : Nat} {b : Dword} (hu : s.portUp p = true)
include hu

/-- CREDIT with INIT sets both counts. -/
theorem creditRx_init (h : (s.port p).ctl.find? (fun b => blkType b == 4) = some b) (hi : bit b.toNat 15 = true) :
    s.creditRx p =
      let s := s.setPort p { s.port p with ctl := (s.port p).ctl.erase b }
      s.setPort p { s.port p with gotDec := blkField b 28 12, gotBulk := blkField b 16 12 } := by
  rw [creditRx, takeCtl_found hu h]
  simp only [hi, if_true]

theorem replayRequestRx_good (h : (s.port p).ctl.find? (fun b => blkType b == 5 && blkField b 52 4 == 0) = some b) :
    s.replayRequestRx p false =
      (s.setPort p { s.port p with ctl := (s.port p).ctl.erase b }).replayFromSeq p (blkField b 36 16) := by
  rw [replayRequestRx, takeCtl_found hu h]
  simp only [Bool.false_and, Bool.false_eq_true, if_false]

section
variable {q : Nat} {u : Dword} {rest : List (Nat × Dword)} (hq : (s.port p).unacked = (q, u) :: rest)
  (ht : (s.port p).ackAt + 256 ≤ s.cyc)
include hq ht

theorem replayTimeout_again (hn : (s.port p).tries < 16) : s.replayTimeout p false =
    (s.setPort p { s.port p with tries := (s.port p).tries + 1, ackAt := s.cyc }).replayFromSeq p q := by
  simp only [replayTimeout, hq, hu, ht, Nat.not_le.mpr hn, decide_true, decide_false, Bool.and_self, Bool.or_self, if_true,
    Bool.false_eq_true, if_false]

theorem replayTimeout_last (hn : 16 ≤ (s.port p).tries) :
    s.replayTimeout p false = (s.setB .blpStatusReplayFail p true).portDown p := by
  simp only [replayTimeout, hq, hu, ht, hn, decide_true, Bool.and_self, Bool.or_true, if_true]
  rfl

end

section
variable (h : (s.port p).ctl.find? (fun b => blkType b == 6 && blkField b 52 4 == 3) = some b)
include h

/-- The port after a lane report: the live lanes that the peer receives. -/
theorem laneStatusRx_taken (bad : Bool) : s.laneStatusRx p bad =
    let t := (s.setPort p { s.port p with ctl := (s.port p).ctl.erase b }).updPort p fun x =>
      { x with peerOk := blkField b 48 4 &&& x.txLive }
    if s.txMap p &&& blkField b 48 4 = 0 then t.portDown p
    else if s.txMap p &&& (15 - blkField b 48 4) = 0 then t.planMap p
    else if bad && !(t.port p).unacked.isEmpty then t.replayFail p
    else
      let x := t.port p
      let seq := match x.unacked with | (q, _) :: _ => q | [] => x.txSeq
      let u := when (s.portState p != 3) (fun s => (s.setF .blpStatusState p 3).irq 6) t
      u.setPort p { x with txStripe := true, startDue := some (some seq, s.txMap p &&& blkField b 48 4) } := by
  rw [laneStatusRx, takeCtl_found hu h]
  rfl

theorem laneStatusRx_none_left (bad : Bool) (h0 : s.txMap p &&& blkField b 48 4 = 0) : s.laneStatusRx p bad =
    let s := s.setPort p { s.port p with ctl := (s.port p).ctl.erase b }
    (s.updPort p fun x => { x with peerOk := blkField b 48 4 &&& x.txLive }).portDown p := by
  rw [laneStatusRx_taken hu h]
  exact if_pos h0

section
variable (h0 : s.txMap p &&& blkField b 48 4 ≠ 0)
include h0

theorem laneStatusRx_none_lost (bad : Bool) (h1 : s.txMap p &&& (15 - blkField b 48 4) = 0) : s.laneStatusRx p bad =
    let s := s.setPort p { s.port p with ctl := (s.port p).ctl.erase b }
    (s.updPort p fun x => { x with peerOk := blkField b 48 4 &&& x.txLive }).planMap p := by
  rw [laneStatusRx_taken hu h]
  exact (if_neg h0).trans (if_pos h1)

section
variable (h1 : s.txMap p &&& (15 - blkField b 48 4) ≠ 0)
include h1

omit hu h h0 h1 in
theorem unacked_after_report : (((s.setPort p { s.port p with ctl := (s.port p).ctl.erase b }).updPort p fun x =>
    { x with peerOk := blkField b 48 4 &&& x.txLive }).port p).unacked = (s.port p).unacked := by
  simp only [updPort, port_setPort]

/-- Lanes are lost and others left: a re-stripe from the oldest block to send again. -/
theorem laneStatusRx_restripe {bad : Bool} (hb : bad = false ∨ (s.port p).unacked = []) : s.laneStatusRx p bad =
    let s := s.setPort p { s.port p with ctl := (s.port p).ctl.erase b }
    let s := s.updPort p fun x => { x with peerOk := blkField b 48 4 &&& x.txLive }
    let q := match (s.port p).unacked with
      | (q, _) :: _ => q
      | [] => (s.port p).txSeq
    let t := if s.portState p ≠ 3 then (s.setF .blpStatusState p 3).irq 6 else s
    t.setPort p { s.port p with
      txStripe := true
      startDue := some (some q, s.txMap p &&& blkField b 48 4) } := by
  have hgood : ¬ (bad && !(((s.setPort p { s.port p with ctl := (s.port p).ctl.erase b }).updPort p fun x =>
      { x with peerOk := blkField b 48 4 &&& x.txLive }).port p).unacked.isEmpty) = true := by
    rw [unacked_after_report]
    rcases hb with rfl | hb
    · simp
    · simp [hb]
  rw [laneStatusRx_taken hu h]
  refine (if_neg h0).trans ((if_neg h1).trans ((if_neg hgood).trans ?_))
  exact congrArg (fun u : State => u.setPort p _) (when_bne (s.portState p) 3 _ _)

theorem laneStatusRx_unreadable (hq : (s.port p).unacked ≠ []) : s.laneStatusRx p true =
    let s := s.setPort p { s.port p with ctl := (s.port p).ctl.erase b }
    (s.updPort p fun x => { x with peerOk := blkField b 48 4 &&& x.txLive }).replayFail p := by
  rw [laneStatusRx_taken hu h]
  refine (if_neg h0).trans ((if_neg h1).trans (if_pos ?_))
  rw [unacked_after_report, Bool.true_and, Bool.not_eq_true', List.isEmpty_eq_false_iff]
  exact hq

end

end

end

/-- An AUDIT that agrees changes nothing more. -/
theorem auditRx_agrees (h : (s.port p).ctl.find? (fun b => blkType b == 6 && blkField b 52 4 == 4) = some b)
    (hc : BitVec.ofNat 48 (blkField b 0 48) = (s.port p).cnt.acked) :
    s.auditRx p = s.setPort p { s.port p with ctl := (s.port p).ctl.erase b } := by
  rw [auditRx, takeCtl_found hu h]
  exact if_pos (by rw [port_setPort]; exact hc)

/-- An idle port without credits out sends one AUDIT. -/
theorem portIdle_audits (hq : (s.port p).unacked = []) (ha : (s.port p).audited = false) (ht : (s.port p).busyAt + 64 ≤ s.cyc)
    (hd : (s.port p).cnt.outDec = 0) (hb : (s.port p).cnt.outBulk = 0) :
    s.portIdle p = (s.setPort p { s.port p with audited := true, auditDue := true }).bump .blpAuditCnt p := by
  simp only [portIdle, hu, hq, ha, ht, hd, hb, List.isEmpty_nil, Bool.not_false, decide_true, Bool.and_self, if_true]

end

/-! ## The receive map that a START brings (R432, R444 to R446) -/

theorem laneJoin_regsKept (s : State) (n : Nat) : RegsKept [.bllStatus] s (s.laneJoin n) := by
  unfold laneJoin
  split
  · exact fun _ _ _ => rfl
  · exact fun r i hr => rd_setF_reg s .bllStatusState r n i 2 fun e => hr (e ▸ List.mem_cons_self)

/-- A lane's part in a START: it joins, goes to sleep as it was to, or is left by the peer. -/
def startLane (s : State) (p map old l : Nat) : State :=
  if bit map l then s.laneJoin (4 * p + l)
  else if s.flag .bllStatusRxSleepPend (4 * p + l) then
    ((s.setB .bllStatusRxSleepPend (4 * p + l) false).setF .bllStatusState (4 * p + l) 4).updPort p fun x =>
      { x with rxOk := setBit x.rxOk l false }
  else if bit old l && !(s.port p).rxStripe then s.updPort p fun x => { x with rxOk := setBit x.rxOk l false }
  else s

theorem startLane_regsKept (s : State) (p map old l : Nat) : RegsKept [.bllStatus] s (s.startLane p map old l) := by
  unfold startLane
  split
  · exact laneJoin_regsKept s _
  · split
    · intro r i hr
      have hne : r ≠ .bllStatus := fun e => hr (e ▸ List.mem_cons_self)
      exact (rd_setF_reg _ .bllStatusState r _ i 4 hne).trans (rd_setB_reg s .bllStatusRxSleepPend r _ i false hne)
    · split
      all_goals exact fun _ _ _ => rfl

/-- The receiver's re-stripe ends with a START on lanes that are all received. -/
def restripeEnd (s : State) (p map : Nat) : State :=
  when ((s.port p).rxStripe && map &&& (15 - (s.port p).rxOk) == 0) (fun s =>
    let s := s.bump .blpRestripeCnt p
    when (!(s.port p).txStripe) (fun s => (s.setF .blpStatusState p 2).irq 6)
      (s.updPort p fun x => { x with rxStripe := false })) s

theorem restripeEnd_rxMap (s : State) (p map : Nat) :
    (s.restripeEnd p map).fld .blpStatusRxMap p = s.fld .blpStatusRxMap p := by
  have hact (t : State) : ((t.setF .blpStatusState p 2).irq 6).fld .blpStatusRxMap p = t.fld .blpStatusRxMap p :=
    ((irq_regsKept _ 6).fld (by decide) p).trans
      (fld_setF_apart t .blpStatusState .blpStatusRxMap p 2 rfl (by decide) (by decide))
  refine when_keeps (State.fld · .blpStatusRxMap p) _ (fun t => ?_) _ s
  refine (when_keeps (State.fld · .blpStatusRxMap p) _ hact _ _).trans ?_
  simp only [fld]
  exact congrArg (slice · _ _) (rd_bump_reg t .blpRestripeCnt .blpStatus p p (by decide))

theorem laneChange_regsKept (s : State) (p old new : Nat) : RegsKept [.timePdelay] s (s.laneChange p old new) := by
  unfold laneChange
  split
  · exact fun _ _ _ => rfl
  · exact fun r i hr => rd_setB_reg _ .timePdelayValid r p i false fun e => hr (e ▸ List.mem_cons_self)

theorem replayStartRx_rxMap {s : State} {p : Nat} {b : Dword} (hu : s.portUp p = true)
    (h : (s.port p).ctl.find? (fun b => blkType b == 5 && blkField b 52 4 == 1) = some b) :
    (s.replayStartRx p).fld .blpStatusRxMap p = blkField b 32 4 := by
  have hmap : blkField b 32 4 < 16 := Nat.mod_lt _ (by decide)
  rw [replayStartRx, takeCtl_found hu h]
  refine (laneChange_regsKept _ p _ _).fld (by decide) p |>.trans ((restripeEnd_rxMap _ p _).trans ?_)
  refine (forEach_keeps (State.fld · .blpStatusRxMap p) (fun l t => t.startLane p (blkField b 32 4) (State.rxLive _ p) l)
    (fun l t => (startLane_regsKept t p _ _ l).fld (by decide) p) _ _).trans ?_
  rw [fld_setF_same _ _ _ _ (by decide)]
  exact Nat.mod_eq_of_lt hmap

end State

/-- Settles O39, row by row; the readings of a replay, of a START and of an AUDIT are the model's (log entry 7). -/
theorem linkReceiverRows : Obligations.LinkReceiverRows := by
  refine ⟨?passes, fun x l h => seqWanted_protected h, fun x l h => recvWindow_in_order h, ?bad, ?lost,
    fun s p b hu h hi => run_act (creditRx_init hu h hi), fun s p b hu h => run_act (replayRequestRx_good hu h),
    fun s p b hu h => ⟨_, rfl, replayStartRx_rxMap hu h⟩,
    fun s p q u rest hq hu ht hn => run_act (replayTimeout_again hu hq ht hn),
    fun s p q u rest hq hu ht hn => run_act (replayTimeout_last hu hq ht hn),
    fun s p bad b hu h h0 => run_act (laneStatusRx_none_left hu h bad h0),
    fun s p bad b hu h h0 h1 => run_act (laneStatusRx_none_lost hu h h0 bad h1),
    fun s p bad b hu h h0 h1 hb => run_act (laneStatusRx_restripe hu h h0 h1 hb),
    fun s p b hu h h0 h1 hq => run_act (laneStatusRx_unreadable hu h h0 h1 hq),
    fun s p bad h => run_to (takeCtl_none h) rfl rfl,
    fun s p b hu h hc => run_act (auditRx_agrees hu h hc),
    fun s p hu hq ha ht hd hb => run_act (portIdle_audits hu hq ha ht hd hb)⟩
  case passes =>
    intro s p lane bs q crc hu hk hcrc hn hq
    have hseen := windowSeen_copies (s.port p) s.cyc hn
    refine run_act ((checkWindow_passes hu lane ?_).trans ?_)
    · have hwant : seqWanted (s.port p) (bs.map (·.2)) = q.toNat := hq
      simp only [windowPasses, map_snd_window, windowBad_of_known hk, hwant, hcrc, Option.map_none, Option.map_some,
        Option.isNone_none, beq_self_eq_true, Bool.and_self]
    · rw [hseen, map_snd_window]
  case bad =>
    intro s p lane bs k b q crc hu hb
    refine ⟨_, run_to (checkWindow_fails hu lane ?_) rfl rfl, ?_, ?_, ?_⟩
    · simp only [windowPasses, Option.map_none, windowBad_of_unknown hb, Option.isNone_some, Bool.false_and]
    · rw [Option.map_none, windowBad_of_unknown hb]
      exact rd_bump_same s .bllCheckFail _ rfl
    · exact congrArg Port.reqDue (port_setPort ..)
    · exact congrArg Port.stall (port_setPort ..)
  case lost =>
    intro s p lane bs q hu hk hn
    have hseen := windowSeen_copies (s.port p) s.cyc hn
    refine run_act ((checkWindow_fails hu lane ?_).trans ?_)
    · simp only [windowPasses, Option.map_none, Bool.and_eq_false_iff]
      exact .inl (.inr rfl)
    · rw [Option.map_none, hseen, map_snd_window, windowBad_of_known hk]
      rfl

end Sys2Proof.Machine
end

section
/-!
PROOFS. The lanes of a link port: training, loss, sleep, KEEPALIVE, adaptation and eye scans.
-/

namespace Sys2Proof.Machine
open State

namespace State

/-! ## Training (R441) -/

section
variable {s : State} {n : Nat} (ht : bit (s.port (n / 4)).train (n % 4) = true)
  (h0 : SMap.get 0 (s.port (n / 4)).stage (n % 4) = 0)
include ht h0

theorem trainStageEnd_locked (info : Nat) : s.trainStageEnd n 1 info true =
    ((s.setB .bllStatusCdrLock n true).updPort (n / 4) fun x =>
      { x with stage := SMap.put 0 x.stage (n % 4) 1 }).stageShown (n / 4) := by
  simp only [trainStageEnd, ht, h0, Bool.not_true, Nat.zero_add, ne_eq, not_true_eq_false, decide_false, Bool.or_self,
    Bool.false_eq_true, if_false]

theorem trainStageEnd_failed (info : Nat) : s.trainStageEnd n 1 info false =
    (s.updPort (n / 4) fun x => { x with stage := SMap.put 0 x.stage (n % 4) 8 }).stageShown (n / 4) := by
  simp only [trainStageEnd, ht, h0, Bool.not_true, Nat.zero_add, ne_eq, not_true_eq_false, decide_false, Bool.or_self,
    Bool.false_eq_true, if_false, Bool.not_false, if_true, OfNat.one_ne_ofNat, Bool.false_and]

end

/-! ## A port goes DOWN (R442) -/

/-- The end of a port's way DOWN: its lanes are DOWN, and both invariants are re-based. -/
def lanesDown (s : State) (p : Nat) : State :=
  ((((forEach (List.range 4) (fun l s =>
    let s := (s.setF .bllStatusState (4 * p + l) 0).setB .bllStatusRxSleepPend (4 * p + l) false
    (s.setB .bllStatusCdrLock (4 * p + l) false).setB .bllStatusHdrOk (4 * p + l) false) s).blRebase p).credRebase p).irq 6)

theorem blRebase_regsKept (s : State) (p : Nat) : RegsKept [.blpBlRebase] s (s.blRebase p) := fun r i hr =>
  rd_bump_reg (s.setPort p _) .blpBlRebase r p i fun e => hr (e ▸ List.mem_cons_self)

theorem credRebase_regsKept (s : State) (p : Nat) : RegsKept [.blpCredRebase] s (s.credRebase p) := fun r i hr =>
  rd_bump_reg (s.setPort p _) .blpCredRebase r p i fun e => hr (e ▸ List.mem_cons_self)

theorem laneDown_regsKept (s : State) (n : Nat) : RegsKept [.bllStatus] s
    ((((s.setF .bllStatusState n 0).setB .bllStatusRxSleepPend n false).setB .bllStatusCdrLock n false).setB .bllStatusHdrOk n
      false) := fun r i hr => by
  have hne : r ≠ .bllStatus := fun e => hr (e ▸ List.mem_cons_self)
  simp only [rd_setB_reg, rd_setF_reg, ne_eq, hne, not_false_eq_true]

theorem lanesDown_regsKept (s : State) (p : Nat) :
    RegsKept [.bllStatus, .blpBlRebase, .blpCredRebase, .glbIrqPend0, .glbIrqPend1] s (s.lanesDown p) := by
  refine RegsKept.trans ?_ ((irq_regsKept _ 6).mono (by simp))
  refine RegsKept.trans ?_ ((credRebase_regsKept _ p).mono (by simp))
  refine RegsKept.trans ?_ ((blRebase_regsKept _ p).mono (by simp))
  exact RegsKept.mono (l := [.bllStatus]) (fun r i hr => forEach_keeps (State.rd · r i) _
    (fun l t => laneDown_regsKept t (4 * p + l) r i hr) _ _) (by simp)

/-- What the port held is discarded, and it shows DOWN. -/
def portEmptied (s : State) (p : Nat) : State :=
  let x := s.port p
  (((((s.bumpBy .blpTxDownDrop p (x.decQ.length + x.bulkQ.length)).setPort p { Port.init with
    cnt := { x.cnt with outDec := 0, outBulk := 0 }, slip := x.slip, eye := x.eye, line := x.line }).setF .blpStatusState p
      0).setF .blpStatusStage p 0).setF .blpStatusTxMap p 0).setF .blpStatusRxMap p 0

theorem portDown_eq {s : State} {p : Nat} (h : s.portState p ≠ 0) : s.portDown p = (s.portEmptied p).lanesDown p := if_neg h

theorem portDown_state (s : State) (p : Nat) : (s.portDown p).portState p = 0 := by
  by_cases h : s.portState p = 0
  · rw [portDown, if_pos h]
    exact h
  · rw [portDown_eq h, portState, (lanesDown_regsKept _ p).fld (by decide), portEmptied,
      fld_setF_apart _ .blpStatusRxMap .blpStatusState p _ rfl (by decide) (by decide),
      fld_setF_apart _ .blpStatusTxMap .blpStatusState p _ rfl (by decide) (by decide),
      fld_setF_apart _ .blpStatusStage .blpStatusState p _ rfl (by decide) (by decide), fld_setF_same _ _ _ _ (by decide)]
    rfl

theorem portDown_lostCnt (s : State) (p n : Nat) : (s.portDown p).rd .bllLostCnt n = s.rd .bllLostCnt n := by
  by_cases h : s.portState p = 0
  · rw [portDown, if_pos h]
  · rw [portDown_eq h, lanesDown_regsKept _ p .bllLostCnt n (by decide), portEmptied]
    simp only [rd_setF_reg, ne_eq, reduceCtorEq, not_false_eq_true]
    exact rd_bumpBy_reg s .blpTxDownDrop .bllLostCnt p n _ (by decide)

theorem portUp_of_down {s : State} {p : Nat} (h : s.portState p = 0) : s.portUp p = false := by
  simp [portUp, h]

/-! ## Lost lanes (R443, R444) -/

theorem bit_eq_testBit (n b : Nat) : bit n b = n.testBit b := by
  rw [bit, Nat.testBit_eq_decide_div_mod_eq, Nat.shiftRight_eq_div_pow]
  rfl

theorem bit_land (a b i : Nat) : bit (a &&& b) i = (bit a i && bit b i) := by
  simp only [bit_eq_testBit, Nat.testBit_land]

/-- A lane that is lost, as its registers and its port show it. -/
def laneMarked (s : State) (n : Nat) : State :=
  (((s.setF .bllStatusState n 3).bump .bllLostCnt n).setB .bllStatusHdrOk n false).updPort (n / 4) fun x =>
    { x with rxOk := setBit x.rxOk (n % 4) false, statusDue := true }

theorem laneMarked_regsKept (s : State) (n : Nat) : RegsKept [.bllStatus, .bllLostCnt] s (s.laneMarked n) := by
  intro r i hr
  simp only [List.mem_cons, List.not_mem_nil, or_false, not_or] at hr
  exact (rd_setB_reg _ .bllStatusHdrOk r n i false hr.1).trans ((rd_bump_reg _ .bllLostCnt r n i hr.2).trans
    (rd_setF_reg s .bllStatusState r n i 3 hr.1))

theorem laneMarked_lostCnt (s : State) (n : Nat) : (s.laneMarked n).rd .bllLostCnt n = satAdd32 (s.rd .bllLostCnt n) 1 := by
  refine (rd_setB_reg _ .bllStatusHdrOk .bllLostCnt n n false (by decide)).trans ((rd_bump_same _ .bllLostCnt n rfl).trans ?_)
  rw [rd_setF_reg _ _ _ _ _ _ (by decide)]

theorem laneMarked_rxLive (s : State) (n : Nat) :
    (s.laneMarked n).rxLive (n / 4) = s.rxMap (n / 4) &&& setBit (s.port (n / 4)).rxOk (n % 4) false := by
  have hmap : (s.laneMarked n).rxMap (n / 4) = s.rxMap (n / 4) := (laneMarked_regsKept s n).fld (by decide) _
  rw [rxLive, hmap, laneMarked, updPort, port_setPort]
  rfl

theorem laneMarked_portDecisions (s : State) (n : Nat) : (s.laneMarked n).portDecisions (n / 4) = s.portDecisions (n / 4) := by
  have hroute : (s.laneMarked n).routeTo = s.routeTo := by
    funext d
    simp only [routeTo, laneMarked_regsKept s n .glbRoute _ (by decide)]
  have hcarried : ((s.laneMarked n).port (n / 4)).carried = (s.port (n / 4)).carried := by
    rw [laneMarked, updPort, port_setPort]
    rfl
  simp only [portDecisions, hroute, hcarried]
  rfl

section
variable {s : State} {n : Nat} (hu : s.portUp (n / 4) = true) (ha : s.rxAsleep n = false)
include hu ha

section
variable (hl : bit (s.rxLive (n / 4)) (n % 4) = true)
include hl

/-- A lane of the map is lost: the port goes DOWN or re-stripes. -/
theorem laneLost_live : s.laneLost n =
    let t := s.laneMarked n
    if t.rxLive (n / 4) = 0 then t.portDown (n / 4)
    else
      let t := when (t.portDecisions (n / 4)) (fun s => s.setB .glbFbStatusLatencyExcursion 0 true) t
      let t := when (t.portState (n / 4) != 3) (fun s => (s.setF .blpStatusState (n / 4) 3).irq 6) t
      let t := t.updPort (n / 4) fun x => { x with rxStripe := true }
      t.laneChange (n / 4) (s.rxLive (n / 4)) (t.rxLive (n / 4)) := by
  have hok : bit (s.port (n / 4)).rxOk (n % 4) = true := by
    rw [rxLive, bit_land, Bool.and_eq_true] at hl
    exact hl.2
  simp only [laneLost, hu, ha, hok, hl, Bool.not_false, Bool.and_self, if_true, Bool.not_true, Bool.false_eq_true, if_false]
  rfl

theorem laneLost_restripes (h : s.rxMap (n / 4) &&& setBit (s.port (n / 4)).rxOk (n % 4) false ≠ 0) : s.laneLost n =
    let t := s.laneMarked n
    let t := if s.portDecisions (n / 4) then t.setB .glbFbStatusLatencyExcursion 0 true else t
    let t := if s.portState (n / 4) ≠ 3 then (t.setF .blpStatusState (n / 4) 3).irq 6 else t
    let t := t.updPort (n / 4) fun x => { x with rxStripe := true }
    t.laneChange (n / 4) (s.rxLive (n / 4)) (t.rxLive (n / 4)) := by
  have hlive : (s.laneMarked n).rxLive (n / 4) ≠ 0 := by rw [laneMarked_rxLive]; exact h
  have hstate (b : Bool) : (when b (fun s => s.setB .glbFbStatusLatencyExcursion 0 true) (s.laneMarked n)).portState (n / 4) =
      s.portState (n / 4) :=
    (when_keeps (State.portState · (n / 4)) _ (fun t => fld_setB_reg t _ .blpStatusState 0 _ true (by decide)) b _).trans
      ((laneMarked_regsKept s n).fld (by decide) _)
  refine (laneLost_live hu ha hl).trans ((if_neg hlive).trans ?_)
  simp only [laneMarked_portDecisions, hstate, when_bne]
  rfl

/-- The last lane of the map takes the port DOWN. -/
theorem laneLost_last (h : s.rxMap (n / 4) = 2 ^ (n % 4)) : s.laneLost n = (s.laneMarked n).portDown (n / 4) := by
  refine (laneLost_live hu ha hl).trans (if_pos ?_)
  rw [laneMarked_rxLive, h]
  refine Nat.eq_of_testBit_eq fun i => ?_
  rw [Nat.testBit_land, Nat.testBit_two_pow, Nat.zero_testBit]
  by_cases hi : n % 4 = i
  · rw [← hi, ← bit_eq_testBit, bit_setBit, Bool.and_false]
  · rw [decide_eq_false hi, Bool.false_and]

end

/-- A lane that the map does not hold is lost without a re-stripe. -/
theorem laneLost_outside (hok : bit (s.port (n / 4)).rxOk (n % 4) = true) (hm : bit (s.rxMap (n / 4)) (n % 4) = false) :
    s.laneLost n = s.laneMarked n := by
  have hl : bit (s.rxLive (n / 4)) (n % 4) = false := by rw [rxLive, bit_land, hm, Bool.false_and]
  simp only [laneLost, hu, ha, hok, hl, Bool.not_false, Bool.and_self, if_true]
  rfl

end

theorem laneLost_not {s : State} {n : Nat} (h : s.portUp (n / 4) = false ∨ s.rxAsleep n = true ∨
    bit (s.port (n / 4)).rxOk (n % 4) = false) : s.laneLost n = s := by
  refine if_neg fun hc => ?_
  simp only [Bool.and_eq_true, Bool.not_eq_true'] at hc
  obtain ⟨⟨hu, hok⟩, ha⟩ := hc
  rcases h with h | h | h
  · rw [h] at hu; cases hu
  · rw [h] at ha; cases ha
  · rw [h] at hok; cases hok

/-! ## Sleep (R445, R446) -/

theorem planMap_planned {s : State} {p : Nat} (hu : s.portUp p = true) (hw : s.wantedMap p ≠ 0)
    (hd : (s.port p).startDue = none) : s.planMap p =
      s.setPort p { s.port p with startDue := if s.wantedMap p = s.txMap p then none else some (none, s.wantedMap p) } := by
  simp only [planMap, hu, hw, hd, Bool.not_true, decide_false, Bool.or_self, Bool.false_eq_true, if_false]

theorem portUp_setB {s : State} {f : Fld} (p n : Nat) (b : Bool) (h : f.reg ≠ .blpStatus) :
    (s.setB f n b).portUp p = s.portUp p := by
  simp only [portUp, portState, fld_setB_reg s f .blpStatusState n p b (Ne.symm h)]
  rfl

theorem txMap_setB {s : State} {f : Fld} (p n : Nat) (b : Bool) (h : f.reg ≠ .blpStatus) :
    (s.setB f n b).txMap p = s.txMap p := fld_setB_reg s f .blpStatusTxMap n p b (Ne.symm h)

section
variable {s : State} {n : Nat} (hh : s.hostLane n = true)
include hh

section
variable (hu : s.portUp (n / 4) = true)
include hu

/-- A lane of the map that others can replace leaves it by a planned re-map. -/
theorem txSleepSet_planned (hm : s.txMap (n / 4) ≠ 2 ^ (n % 4)) (hb : bit (s.txMap (n / 4)) (n % 4) = true)
    (hw : (s.setB .bllSleepTxSleep n true).wantedMap (n / 4) ≠ 0) :
    s.txSleepSet n = (s.setB .bllSleepTxSleep n true).planMap (n / 4) := by
  have hu' : (s.setB .bllSleepTxSleep n true).portUp (n / 4) = true := (portUp_setB _ n true (by decide)).trans hu
  have hb' : bit ((s.setB .bllSleepTxSleep n true).txMap (n / 4)) (n % 4) = true := by
    rw [txMap_setB _ n true (by decide)]; exact hb
  simp only [txSleepSet, hh, hu, hm, hu', hb', hw, Bool.not_true, decide_false, Bool.and_false, Bool.false_and,
    Bool.false_eq_true, if_false, when_false]

theorem txSleepSet_last (hm : s.txMap (n / 4) = 2 ^ (n % 4)) : s.txSleepSet n = s.setB .blpStatusSleepErr (n / 4) true := by
  simp only [txSleepSet, hh, hu, hm, Bool.not_true, decide_true, Bool.and_self, Bool.false_eq_true, if_false, if_true]

/-- A receiver in the map sleeps only once the map has changed. -/
theorem rxSleepSet_pending (hb : bit (s.rxMap (n / 4)) (n % 4) = true) :
    s.rxSleepSet n = (s.setB .bllSleepRxSleep n true).setB .bllStatusRxSleepPend n true := by
  have hu' : (s.setB .bllSleepRxSleep n true).portUp (n / 4) = true := (portUp_setB _ n true (by decide)).trans hu
  have hb' : bit ((s.setB .bllSleepRxSleep n true).rxMap (n / 4)) (n % 4) = true := by
    rw [rxMap, fld_setB_reg _ _ _ _ _ _ (by decide)]; exact hb
  simp only [rxSleepSet, hh, hu', hb', Bool.not_true, Bool.false_eq_true, if_false, if_true]

end

theorem txSleepSet_down (hu : s.portUp (n / 4) = false) :
    s.txSleepSet n = (s.setB .bllSleepTxSleep n true).planMap (n / 4) := by
  have hu' : (s.setB .bllSleepTxSleep n true).portUp (n / 4) = false := (portUp_setB _ n true (by decide)).trans hu
  simp only [txSleepSet, hh, hu, hu', Bool.not_true, Bool.false_and, Bool.false_eq_true, if_false, when_false]

/-! ## Eye scans (R448) -/

/-- A scan of an ACTIVE lane starts. -/
theorem eyeStart_active (v : Nat) (hst : s.fld .bllStatusState n = 2) : s.eyeStart n v =
    (((s.wr .bllEyeCtrl n (v &&& 0x003FFF3F)).setB .bllEyeStatusDone n false).setB .bllEyeStatusValid n false).updPort (n / 4)
      fun x => { x with eye := SMap.put 0 x.eye (n % 4) (s.cyc + 1) } := by
  have hst' : (((s.wr .bllEyeCtrl n (v &&& 0x003FFF3F)).setB .bllEyeStatusDone n false).setB .bllEyeStatusValid n
      false).fld .bllStatusState n = 2 := by
    rw [fld_setB_reg _ _ _ _ _ _ (by decide), fld_setB_reg _ _ _ _ _ _ (by decide), fld_wr_reg _ _ _ _ _ _ (by decide)]
    exact hst
  simp only [eyeStart, hh, hst', Bool.not_true, Bool.false_eq_true, if_false, if_true]
  rfl

end

/-- A scan of an ACTIVE lane ends with its errors. -/
theorem eyeDone_active {s : State} {n : Nat} (e : Nat) (ha : SMap.get 0 (s.port (n / 4)).eye (n % 4) ≠ 0)
    (hst : s.fld .bllStatusState n = 2)
    (ht : 2 ^ s.fld .bllEyeCtrlDwell n ≤ 66 * (s.cyc + 1 - SMap.get 0 (s.port (n / 4)).eye (n % 4))) : s.eyeDone n e =
      (((s.setB .bllEyeStatusDone n true).setB .bllEyeStatusValid n true).wr .bllEyeErrors n
        (min e (2 ^ s.fld .bllEyeCtrlDwell n))).updPort (n / 4) fun x => { x with eye := SMap.put 0 x.eye (n % 4) 0 } := by
  have hd : ((s.setB .bllEyeStatusDone n true).setB .bllEyeStatusValid n true).fld .bllEyeCtrlDwell n =
      s.fld .bllEyeCtrlDwell n := by
    rw [fld_setB_reg _ _ _ _ _ _ (by decide), fld_setB_reg _ _ _ _ _ _ (by decide)]
  simp only [eyeDone, eyeEnd, ha, hst, ht, hd, decide_true, Bool.or_true, ne_eq, not_false_eq_true, Bool.and_self, if_true,
    beq_self_eq_true, when_true]

/-- Two flags of one register do not disturb each other. -/
theorem flag_setB_apart (s : State) (f g : Fld) (i : Nat) (b : Bool) (hr : g.reg = f.reg) (hg : g.lo + g.width ≤ f.reg.bits)
    (h : g.lo + g.width ≤ f.lo ∨ f.lo + f.width ≤ g.lo) : (s.setB f i b).flag g i = s.flag g i := by
  simp only [flag, setB, fld_setF_apart s f g i _ hr hg h]

theorem eyeErrors_flag (s : State) (f : Fld) (n v : Nat) (h : f.reg ≠ .bllEyeErrors) :
    (s.wr .bllEyeErrors n v).flag f n = s.flag f n := by
  simp only [flag, fld_wr_reg s _ f n n v h]

theorem updPort_outside (s : State) (p : Nat) (f : Port → Port) : (s.updPort p f).outside = s.outside := rfl

/-! ## Waking, KEEPALIVE and adaptation (R446, R447) -/

section
variable {s : State} {n : Nat} (hu : s.portUp (n / 4) = true)
include hu

theorem laneWake_receiver (hst : s.fld .bllStatusState n = 4) (hr : s.flag .bllSleepRxSleep n = false)
    (hb : bit (s.port (n / 4)).rxOk (n % 4) = false) (ht : s.flag .bllSleepTxSleep n = true) : s.laneWake n true =
      s.updPort (n / 4) fun x => { x with rxOk := setBit x.rxOk (n % 4) true, statusDue := true } := by
  have hc : [2, 4].contains 4 = true := rfl
  simp only [laneWake, hu, hst, hr, hb, ht, hc, Bool.not_true, Bool.or_self, Bool.false_eq_true, if_false, if_true, when_false]

theorem keepalive_due (hl : bit (s.port (n / 4)).txLive (n % 4) = true)
    (h0 : SMap.get 0 (s.port (n / 4)).laneBusy (n % 4) < s.cyc)
    (hm : (s.cyc - SMap.get 0 (s.port (n / 4)).laneBusy (n % 4)) % 1024 = 0) :
    s.keepalive n = s.updPort (n / 4) fun x => { x with keep := setBit x.keep (n % 4) true } := by
  simp only [keepalive, hu, hl, hm, Nat.sub_pos_of_lt h0, decide_true, beq_self_eq_true, Bool.and_self, if_true]

section
variable (hb : bit (s.port (n / 4)).rxOk (n % 4) = true)
include hb

theorem adaptFreeze_freezes {tr i : Nat} (k : Nat) (hf : s.flag .bllStatusAdaptFrozen n = false)
    (h : tr < 64 * s.fld .bllAdaptTdMin n ∨ 4096 ≤ i) :
    s.adaptFreeze n tr i k = (s.setB .bllStatusAdaptFrozen n true).bump .bllAdaptFreeze n := by
  have hc : (decide (tr < 64 * s.fld .bllAdaptTdMin n) || decide (4096 ≤ i)) = true := by simpa using h
  simp only [adaptFreeze, hu, hb, hf, hc, Bool.not_true, Bool.or_self, Bool.false_eq_true, if_false, if_true]

theorem adaptFreeze_resumes {k : Nat} (tr i : Nat) (hf : s.flag .bllStatusAdaptFrozen n = true) (h : 256 ≤ k) :
    s.adaptFreeze n tr i k = s.setB .bllStatusAdaptFrozen n false := by
  simp only [adaptFreeze, hu, hb, hf, h, Bool.not_true, Bool.or_self, Bool.false_eq_true, if_false, if_true]

end

end

end State

/-- Settles O40, row by row. The polynomial and the bit order of PRBS31 are the model's reading (log entry 7, PRESUMED
from ITU-T O.150). -/
theorem linkLaneRows : Obligations.LinkLaneRows := by
  refine ⟨fun s n i ht h0 => run_act (trainStageEnd_locked ht h0 i.toNat),
    fun s n i ht h0 => run_act (trainStageEnd_failed ht h0 i.toNat),
    fun s n hu hl ha hm => ⟨_, rfl,
      portUp_of_down ((congrArg (State.portState · (n / 4)) (laneLost_last hu ha hl hm)).trans (portDown_state _ _)),
      (congrArg (State.rd · .bllLostCnt n) (laneLost_last hu ha hl hm)).trans
        ((portDown_lostCnt _ _ _).trans (laneMarked_lostCnt s n))⟩,
    fun s n hu hl ha h => run_act (laneLost_restripes hu ha hl h),
    fun s n hu hok ha hm => run_act (laneLost_outside hu ha hok hm),
    fun s n h => run_to (laneLost_not h) rfl rfl,
    fun s n hh hu hm hb hw => run_act (txSleepSet_planned hh hu hm hb hw),
    fun s p hu hw hd => planMap_planned hu hw hd,
    fun s n hh hu hm => run_to (txSleepSet_last hh hu hm) rfl rfl,
    fun s n hh hu => run_act (txSleepSet_down hh hu), fun s n hh => run_act (if_pos hh),
    fun s n hh hu hb => run_to (rxSleepSet_pending hh hu hb) rfl rfl, fun s n hh => run_to (if_pos hh) rfl rfl,
    fun s n hu hst hr hb ht => run_act (laneWake_receiver hu hst hr hb ht),
    fun s n hu hl h0 hm => run_act (keepalive_due hu hl h0 hm),
    fun s p l h => if_neg (ne_true_of_eq_false h), fun s p l h => if_pos h, fun s p => rfl,
    fun s n tr i k hu hb hf h => run_act (adaptFreeze_freezes hu hb k.toNat hf h),
    fun s n tr i k hu hb hf h => run_act (adaptFreeze_resumes hu hb tr.toNat i.toNat hf h),
    fun s n hh => run_act (if_pos hh), ?eyeStart, ?eyeDone⟩
  case eyeStart =>
    intro s n v hh hst
    refine ⟨_, run_of_outside (eyeStart_active hh v.toNat hst) ((updPort_outside ..).trans ((setB_outside ..).trans
      ((setB_outside ..).trans (wr_outside ..)))), ?_, ?_, ?_, ?_⟩
    · simp only [updPort, port_setPort, SMap.get_put_same]
    · exact (flag_setB_apart _ .bllEyeStatusValid .bllEyeStatusDone n false rfl (by decide) (by decide)).trans
        (flag_setB_same _ .bllEyeStatusDone n false (by decide) rfl)
    · exact flag_setB_same _ .bllEyeStatusValid n false (by decide) rfl
    · refine (rd_setB_reg _ .bllEyeStatusValid .bllEyeCtrl n n false (by decide)).trans
        ((rd_setB_reg _ .bllEyeStatusDone .bllEyeCtrl n n false (by decide)).trans ((rd_wr_same ..).trans ?_))
      exact Nat.mod_eq_of_lt (Nat.lt_of_le_of_lt Nat.and_le_right (by decide))
  case eyeDone =>
    intro s n e ha hst ht
    refine ⟨_, run_of_outside (eyeDone_active e.toNat ha hst ht) ((updPort_outside ..).trans ((wr_outside ..).trans
      ((setB_outside ..).trans (setB_outside ..)))), ?_, ?_, ?_, ?_⟩
    · simp only [updPort, port_setPort, SMap.get_put_same]
    · exact (eyeErrors_flag _ .bllEyeStatusDone n _ (by decide)).trans
        ((flag_setB_apart _ .bllEyeStatusValid .bllEyeStatusDone n true rfl (by decide) (by decide)).trans
          (flag_setB_same s .bllEyeStatusDone n true (by decide) rfl))
    · exact (eyeErrors_flag _ .bllEyeStatusValid n _ (by decide)).trans
        (flag_setB_same _ .bllEyeStatusValid n true (by decide) rfl)
    · exact (rd_wr_same ..).trans (Nat.mod_eq_of_lt (Nat.lt_of_le_of_lt (Nat.min_le_left ..) e.isLt))

end Sys2Proof.Machine
end
